-- ==== Sys2Proof/Word.lean ====
section
/-! DEFINITION. The word types of the RFH-8T and their plainest arithmetic: bytes, 32-bit registers, bit fields of
numbers, two's complement, saturation (00 R1, R4). -/

namespace Sys2Proof

/-- An 8-bit byte. -/
abbrev Byte := BitVec 8

/-- A 32-bit word: a Control-die or Stack-die register, an Assal `s` register. -/
abbrev Word := BitVec 32

/-- A 40-bit device address, as an Assal `ad` register holds it. -/
abbrev DevAddr := BitVec 40

/-- Bits `hi:lo` of a number. -/
def bits (x hi lo : Nat) : Nat := x / 2 ^ lo % 2 ^ (hi + 1 - lo)

/-- Bit `i` of a number. -/
def bitOf (x i : Nat) : Bool := x / 2 ^ i % 2 == 1

/-- A number with bits `hi:lo` replaced. -/
def putBits (x hi lo v : Nat) : Nat :=
  x % 2 ^ lo + (v % 2 ^ (hi + 1 - lo)) * 2 ^ lo + x / 2 ^ (hi + 1) * 2 ^ (hi + 1)

/-- A number with bit `i` set or cleared. -/
def putBit (x i : Nat) (b : Bool) : Nat := putBits x i i (if b then 1 else 0)

/-- 1 for true, 0 for false. -/
def b2n (b : Bool) : Nat := if b then 1 else 0

/-- The two's-complement reading of the low `w` bits. -/
def sext (w x : Nat) : Int :=
  let y := x % 2 ^ w
  if y < 2 ^ (w - 1) then (y : Int) else (y : Int) - (2 ^ w : Nat)

/-- The low `w` bits of an integer. -/
def wrapTo (w : Nat) (x : Int) : Nat := (x % ((2 ^ w : Nat) : Int)).toNat

/-- An integer limited to the signed range of `w` bits. -/
def clampS (w : Nat) (x : Int) : Int :=
  max (-(2 ^ (w - 1) : Nat)) (min x ((2 ^ (w - 1) : Nat) - 1))

/-- A count that stops at its maximum. -/
def satAdd (x d m : Nat) : Nat := min (x + d) m

/-- An integer divided by a power of two, rounded to nearest, ties to even. -/
def rneShift (x : Int) (k : Nat) : Int :=
  let m : Int := ((2 ^ k : Nat) : Int)
  let q := x / m
  let r := x % m
  if 2 * r < m then q else if 2 * r > m then q + 1 else if q % 2 == 0 then q else q + 1

/-- The number of set bits among the low `n`. -/
def popcount (n x : Nat) : Nat := ((List.range n).filter (fun i => bitOf x i)).length

/-- The lowest set bit among the low `n`, `n` where there is none. -/
def ctz (n x : Nat) : Nat := ((List.range n).find? (fun i => bitOf x i)).getD n

/-- A little-endian number from bytes (R1). -/
def fromBytes : List Byte → Nat
  | [] => 0
  | b :: bs => b.toNat + 256 * fromBytes bs

/-- The `n` little-endian bytes of a number (R1). -/
def toBytes : Nat → Nat → List Byte
  | 0, _ => []
  | n + 1, x => BitVec.ofNat 8 x :: toBytes n (x / 256)

end Sys2Proof
end

