-- ==== Sys2Proof/Syntax.lean ====
section
/-! DEFINITION. The commands of the RFH-8T: one constructor per row of the table of operations and events, with the
operands a row needs. A die, wing, channel or agent is named by its number; a value that comes from outside the
device (an analogue measurement, a verdict of a signature check, the content of a frame) is an operand. -/

namespace Sys2Proof

/-- The fields of an Assal instruction word beside its opcode (R281): X, PRED, the register fields A, B and C, the
format fields 36:0, and the extension word, 0 where X is 0. -/
structure Ins where
  x : Bool
  pred : Fin 8
  a : Fin 32
  b : Fin 32
  c : Fin 32
  low : BitVec 37
  ext : BitVec 64
  deriving DecidableEq, Repr

/-- What the microphones give in one frame (R569 to R583): the eight microphones' 160 samples after decimation and gain,
the samples that saturated, the level code of the stage-0 frame after the speech-band filter, the level codes of the 40
feature bands, those of the frames in the stage-0 history (newest first), the eight beams' samples, and the cells of the
pocket stack (leaf, row, column) that have changed by themselves. -/
structure AudioIn where
  mics : List (List Nat)
  clipped : Nat
  es : Nat
  bands : List Nat
  history : List (List Nat)
  beams : List (List Nat)
  upset : List (Nat × Nat × Nat)
  deriving DecidableEq, Repr

/-- What happens around an access on the bus beside its data: a host-memory failure (R730); the bytes a DMA channel had
moved by the time of an ABORT (R675); the level codes of the stage-0 history for FORCE2, newest first (R574); the cause
bits that the hardware sets in the cycle of the write (R11); and the stored bits that have changed by themselves: word
and codeword bit of Commons (R452), or for a wing the 32-bit words of the line read (R187). -/
structure BusIn where
  hostErr : Bool
  moved : Nat
  hist : List (List Nat)
  same : Nat
  upset : List (Nat × Nat)
  deriving DecidableEq, Repr

/-- A command to the block: one row of the table of operations and events. An Assal instruction names the agent that
issues it: sequencers 8n + k of Control die `n`, then wing controllers 16 + 8d + w of Stack die `d`. -/
inductive Instr where
  /-- REGISTER_WRITE (R9): A write to a register that has no row of its own updates its fields according to their access codes. -/
  | registerWrite (n : Fin 2) (host : Bool) (addr : DevAddr) (size : Fin 65) (v : Nat) (x : BusIn)
  /-- VBAT_RISE (R64): VBAT rises through 9.0 V and power-up from OFF begins: the Load dies go to their limp states, VAON comes up and the always-on islands start. -/
  | vbatRise (testmode lpclk : Bool)
  /-- VAON_LOSS (R60): Loss of VAON takes the device to OFF. -/
  | vaonLoss
  /-- BOOT_DOMAIN_CLOCKED (R64): The crystals run and the boot domain is clocked, and SFDP discovery and the vault load follow. -/
  | bootDomainClocked (n : Fin 2) (flash0 flash1 : Bool)
  /-- SHELF_LIST_ADOPT (R75): Each die verifies both shelf-list copies and adopts one of them, or the defaults. -/
  | shelfListAdopt (n : Fin 2)
  /-- ACTIVE_CLAIM (R68): CD0 claims the active role on the pair line and sets the epoch to 1; the main islands then power up with their memories cleared. -/
  | activeClaim (n : Fin 2)
  /-- CD1_CLAIM_TIMEOUT (R68): CD1 claims the active role if CD0 has not claimed by t0 + 60 ms. -/
  | cd1ClaimTimeout
  /-- FIRMWARE_LOAD_DONE (R77): A firmware copy has been loaded and checked; boot completes, or the die enters BOOTFAIL. -/
  | firmwareLoadDone (n : Fin 2)
  /-- BOOTFAIL_YIELD (R81): An active die in BOOTFAIL sends YIELD so that its booted partner takes over. -/
  | bootfailYield (n : Fin 2)
  /-- HOSTFW_VERIFY (R80): BOOT_CTRL.HOSTFW makes the die verify a firmware image that the host placed in Commons. -/
  | hostfwVerify (n : Fin 2)
  /-- FALLBACK_REQUEST (R88): BOOT_CTRL.FALLBACK starts a load of the fallback model from serial NOR. -/
  | fallbackRequest (n : Fin 2)
  /-- HOST_WAIT_EXPIRY (R88): HOST_WAIT seconds pass after link up with no START, and the fallback model load starts. -/
  | hostWaitExpiry (n : Fin 2)
  /-- FALLBACK_LOAD_DONE (R88): The fallback load completes and PHASE reads FALLBACK_SERVE. -/
  | fallbackLoadDone (n : Fin 2)
  /-- PERST_N_RISE (R65): PERST_N rises and PCIe link training starts. -/
  | perstNRise
  /-- PERST_N_LOW (R716): A recognised low on PERST_N puts both endpoints into fundamental reset, and host-bound traffic fails. -/
  | perstNLow
  /-- PCIE_LINK_UP (R64): The host link reaches L0 and T_HOSTLINK is recorded. -/
  | pcieLinkUp (n : Fin 2)
  /-- STACK_POWER_START (R699): Once its base level is granted, the PMBus master programs and enables the Stack-die rails in record order. -/
  | stackPowerStart (n : Fin 2) (modes : List (Option Nat))
  /-- PMBUS_STATUS_POLL (R699): Every 100 us the master reads STATUS_WORD of each enabled rail to find power-good. -/
  | pmbusStatusPoll (n : Fin 2) (words : List (Option Nat))
  /-- RAIL_FAIL_TIMEOUT (R700): A rail that is not good within 20 ms fails, and the Stack die on it stays unpowered. -/
  | railFailTimeout (n : Fin 2) (k : Fin 16)
  /-- READING_ROOM_SWEEP_DONE (R208): The wake sweep of the reading room ends and the wing state is reset to its defaults. -/
  | readingRoomSweepDone (d : Fin 4)
  /-- WIMG_START (R86): A write of WIMG_CTRL.START requests a weight-image load. -/
  | wimgStart (n : Fin 2) (hostErr : Bool)
  /-- WIMG_ABORT (R87): WIMG_CTRL.ABORT stops the running load. -/
  | wimgAbort (n : Fin 2)
  /-- WIMG_LOAD_BEGIN (R86): A held START begins when step 13 completes, after the colophon and section checks. -/
  | wimgLoadBegin (n : Fin 2) (hostErr : Bool)
  /-- WIMG_CHUNK_DONE (R84): An image chunk arrives, is authenticated and decrypted, and its rows are written with check and tally columns. -/
  | wimgChunkDone (n : Fin 2) (hostErr : Bool)
  /-- WIMG_LOAD_END (R85): The digest is confirmed, WING_LOADED is set and the device enters SERVE. -/
  | wimgLoadEnd (n : Fin 2)
  /-- PWR_REQ_DOZE (R62): PWR_REQ with TARGET DOZE enters DOZE in the order of R62, or is refused. -/
  | pwrReqDoze (n : Fin 2)
  /-- PWR_REQ_STANDBY (R61): PWR_REQ with TARGET STANDBY releases the Stack power, freezes the ledger and turns off the rails, or is refused. -/
  | pwrReqStandby (n : Fin 2)
  /-- PWR_REQ_LISTEN (R61): PWR_REQ with TARGET LISTEN moves the device to LISTEN, or is refused. -/
  | pwrReqListen (n : Fin 2)
  /-- PWR_REQ_SERVE (R62): PWR_REQ with TARGET SERVE wakes the device from DOZE. -/
  | pwrReqServe (n : Fin 2)
  /-- WAKE_N_LOW (R60): WAKE_N is driven low and an enabled wake begins. -/
  | wakeNLow
  /-- ALARM_EXPIRY (R60): The ALARM expires in STANDBY or LISTEN and wakes the device, or takes it to LISTEN. -/
  | alarmExpiry
  /-- LOAD_DIE_WAKE_EVENT (R60): A channel fault or VBAT restored on a Load die wakes the device. -/
  | loadDieWakeEvent (d : Fin 2)
  /-- FL_READ (R76): FL_CMD OP read copies bytes from flash into FL_BUF. -/
  | flRead (n cs : Fin 2) (len : Fin 512)
  /-- FL_PROGRAM (R76): FL_CMD OP program writes a page from FL_BUF, unless the range is protected. -/
  | flProgram (n cs : Fin 2) (len : Fin 512)
  /-- FL_ERASE_SECTOR (R76): FL_CMD OP erases a 4 KiB sector, unless the range is protected. -/
  | flEraseSector (n cs : Fin 2) (len : Fin 512)
  /-- FL_ERASE_BLOCK (R76): FL_CMD OP erases a 64 KiB block, unless the range is protected. -/
  | flEraseBlock (n cs : Fin 2) (len : Fin 512)
  /-- FLASH_OP_DONE (R76): A flash operation completes and BUSY clears. -/
  | flashOpDone (n : Fin 2) (ok : Bool)
  /-- ADD (R340): Adds s or ad registers, or an immediate. -/
  | add (a : Fin 48) (imm : Bool) (ins : Ins)
  /-- SUB (R340): Subtracts s or ad registers, or an immediate. -/
  | sub (a : Fin 48) (imm : Bool) (ins : Ins)
  /-- MUL (R339): Multiplies and keeps the low or high 32 bits. -/
  | mul (a : Fin 48) (imm : Bool) (ins : Ins)
  /-- AND (R340): Bitwise AND. -/
  | and (a : Fin 48) (imm : Bool) (ins : Ins)
  /-- OR (R340): Bitwise OR. -/
  | or (a : Fin 48) (imm : Bool) (ins : Ins)
  /-- XOR (R340): Bitwise XOR. -/
  | xor (a : Fin 48) (imm : Bool) (ins : Ins)
  /-- SHL (R340): Shifts left by the operand modulo 32. -/
  | shl (a : Fin 48) (imm : Bool) (ins : Ins)
  /-- SHR (R340): Shifts right, logically or arithmetically. -/
  | shr (a : Fin 48) (imm : Bool) (ins : Ins)
  /-- CMP (R340): Compares two values and writes a predicate. -/
  | cmp (a : Fin 48) (imm : Bool) (ins : Ins)
  /-- LI (R341): Loads an immediate into an s or ad register. -/
  | li (a : Fin 48) (ins : Ins)
  /-- LD (R342): Loads from memory or a register. -/
  | ld (a : Fin 48) (ins : Ins) (x : BusIn)
  /-- ST (R342): Stores to memory or a register, posted or stalling. -/
  | st (a : Fin 48) (ins : Ins) (x : BusIn)
  /-- B (R347): Unconditional branch. -/
  | b (a : Fin 48) (ins : Ins)
  /-- BC (R347): Conditional branch on an s register. -/
  | bc (a : Fin 48) (ins : Ins)
  /-- CALL (R348): Local call that pushes the return stack. -/
  | call (a : Fin 48) (ins : Ins)
  /-- CALL_REMOTE (R273): The remote form of CALL issues a START work order to a wing. -/
  | callRemote (a : Fin 48) (ins : Ins)
  /-- RET (R348): Returns by popping the return stack. -/
  | ret (a : Fin 48) (ins : Ins)
  /-- LOOP (R349): Sets up a counted loop. -/
  | loop (a : Fin 48) (ins : Ins)
  /-- YIELD (R267): Provides a stop point. -/
  | yield (a : Fin 48) (ins : Ins)
  /-- HALT (R266): Waits for the engines, then ends the program with DONE OK or frees the sequencer. -/
  | halt (a : Fin 48) (ins : Ins)
  /-- TRAP (R351): Takes the TRAP fault with a code. -/
  | trap (a : Fin 48) (ins : Ins)
  /-- MVM (R105): Matrix-vector multiply on the masked folios into an accumulator set. -/
  | mvm (a : Fin 48) (ins : Ins) (upset : List (Nat × Nat))
  /-- ACCRD (R303): Reads accumulator entries into the reading room. -/
  | accrd (a : Fin 48) (ins : Ins)
  /-- ACCCLR (R306): Clears accumulator sets. -/
  | accclr (a : Fin 48) (ins : Ins)
  /-- SCALEGET (R307): Returns a set's KIND and SHIFT. -/
  | scaleget (a : Fin 48) (ins : Ins)
  /-- VLD (R310): Loads lines into a vector register. -/
  | vld (a : Fin 48) (ins : Ins)
  /-- VLD_WIDEN (R310): Loads one line, sign-extending its bytes to I16. -/
  | vldWiden (a : Fin 48) (ins : Ins)
  /-- VST (R310): Stores vector halves as lines. -/
  | vst (a : Fin 48) (ins : Ins)
  /-- VADD (R312): Vector add. -/
  | vadd (a : Fin 48) (ins : Ins)
  /-- VMUL (R312): Vector multiply. -/
  | vmul (a : Fin 48) (ins : Ins)
  /-- VFMA (R312): Vector fused multiply-add. -/
  | vfma (a : Fin 48) (ins : Ins)
  /-- VMAX (R312): Vector maximum. -/
  | vmax (a : Fin 48) (ins : Ins)
  /-- VSUM (R313): Reduces lanes to a sum. -/
  | vsum (a : Fin 48) (ins : Ins)
  /-- VEXP (R314): Vector exponential. -/
  | vexp (a : Fin 48) (ins : Ins)
  /-- VRSQ (R314): Vector reciprocal square root. -/
  | vrsq (a : Fin 48) (ins : Ins)
  /-- VRCP (R314): Vector reciprocal. -/
  | vrcp (a : Fin 48) (ins : Ins)
  /-- VCVT_BF16_TO_I16 (R315): Converts BF16 lanes to I16. -/
  | vcvtBf16ToI16 (a : Fin 48) (ins : Ins)
  /-- VCVT_I16_TO_BF16 (R315): Converts I16 lanes to BF16. -/
  | vcvtI16ToBf16 (a : Fin 48) (ins : Ins)
  /-- VCVT_FP32_TO_BF16 (R315): Converts FP32 pairs to BF16. -/
  | vcvtFp32ToBf16 (a : Fin 48) (ins : Ins)
  /-- VCVT_BF16_TO_FP32 (R315): Converts BF16 lanes to FP32 pairs. -/
  | vcvtBf16ToFp32 (a : Fin 48) (ins : Ins)
  /-- VQNT (R316): Quantises BF16 lanes to INT8. -/
  | vqnt (a : Fin 48) (ins : Ins)
  /-- VTBL (R317): Table lookup across lanes. -/
  | vtbl (a : Fin 48) (ins : Ins)
  /-- MOV (R319): Copies strided lines between banks, stacks, windows and memory. -/
  | mov (a : Fin 48) (ins : Ins)
  /-- MOVT (R323): Moves lines through the transposer. -/
  | movt (a : Fin 48) (ins : Ins)
  /-- RESHARD (R238): Runs the entries of a plan table. -/
  | reshard (a : Fin 48) (ins : Ins)
  /-- PARK (R243): Seals a carrel's KV blocks to host memory. -/
  | park (a : Fin 48) (ins : Ins)
  /-- PARK_COMPLETE (R243): The last host write of a PARK completes and the latest-park record is set. -/
  | parkComplete (n : Fin 2) (hostErr : Bool)
  /-- UNPARK (R245): Checks a park segment header and brings the KV back. -/
  | unpark (a : Fin 48) (ins : Ins)
  /-- UNPARK_CHUNK_VERIFIED (R246): A segment chunk passes its tag and is written into the reservation. -/
  | unparkChunkVerified (n : Fin 2) (hostErr : Bool)
  /-- SEMSIG (R352): Signals a local semaphore. -/
  | semsig (a : Fin 48) (ins : Ins)
  /-- SEMSIG_REMOTE (R353): Sends a SEMSIG message to a semaphore on another wing or die. -/
  | semsigRemote (a : Fin 48) (ins : Ins)
  /-- SEMWAIT (R354): Waits for a count on a semaphore. -/
  | semwait (a : Fin 48) (ins : Ins)
  /-- SEMWT (R354): Timed semaphore wait that reports its outcome in a predicate. -/
  | semwt (a : Fin 48) (ins : Ins)
  /-- SEMWT_TIMEOUT (R354): A SEMWT timeout expires and leaves the counter unchanged. -/
  | semwtTimeout (a : Fin 48)
  /-- SEMAPHORE_WAIT_DONE (R200): A waiting agent or head slip is served once the counter covers its count. -/
  | semaphoreWaitDone (k : Fin 32768)
  /-- FENCE (R262): Waits for the named engines to complete. -/
  | fence (a : Fin 48) (ins : Ins)
  /-- CREDREQ (R356): Sends a CREDIT_REQ. -/
  | credreq (a : Fin 48) (ins : Ins)
  /-- CREDGRANT (R192): Opens or tops up a credit window and sends CREDIT_GRANT. -/
  | credgrant (a : Fin 48) (ins : Ins)
  /-- CREDRECL (R196): Starts a two-phase reclaim of a window. -/
  | credrecl (a : Fin 48) (ins : Ins)
  /-- WRREM (R359): Sends bytes as credited WRITEs into a remote window. -/
  | wrrem (a : Fin 48) (ins : Ins)
  /-- ENQ (R362): Copies a call slip into a device-owned queue. -/
  | enq (a : Fin 48) (ins : Ins)
  /-- CANCEL (R364): Cancels a ready slip or stops a running one. -/
  | cancel (a : Fin 48) (ins : Ins)
  /-- CMPL (R365): Writes the completion record of the running slip. -/
  | cmpl (a : Fin 48) (ins : Ins)
  /-- LDSET_ON (R368): Presents a channel switch-on to the ledger. -/
  | ldsetOn (a : Fin 48) (ins : Ins)
  /-- LDSET_OFF (R370): Switches a channel off, or withdraws its deferred request. -/
  | ldsetOff (a : Fin 48) (ins : Ins)
  /-- LDSET_RELIMIT (R371): Changes a channel's limit according to its ledger entry state. -/
  | ldsetRelimit (a : Fin 48) (ins : Ins)
  /-- LDGET_STATE (R372): Returns the channel state word. -/
  | ldgetState (a : Fin 48) (ins : Ins)
  /-- LDGET_CURRENT (R372): Returns the channel's cached current. -/
  | ldgetCurrent (a : Fin 48) (ins : Ins)
  /-- LDGET_GRANT (R372): Returns the units held for the channel. -/
  | ldgetGrant (a : Fin 48) (ins : Ins)
  /-- BUDREQ (R373): Requests a Stack-die power level as a claim. -/
  | budreq (a : Fin 48) (ins : Ins)
  /-- BUDREL (R374): Releases or withdraws a claim. -/
  | budrel (a : Fin 48) (ins : Ins)
  /-- RAND (R376): Returns 32 bits from the TRNG, with a status. -/
  | rand (a : Fin 48) (ins : Ins)
  /-- SEAL (R378): Encrypts a blob under a session-seal slot. -/
  | seal (a : Fin 48) (ins : Ins)
  /-- UNSEAL (R381): Authenticates and decrypts a sealed blob. -/
  | unseal (a : Fin 48) (ins : Ins)
  /-- KDEC (R616): Checks and applies an accession record. -/
  | kdec (a : Fin 48) (ins : Ins)
  /-- ENGINE_INSTR_COMPLETE (R263): An engine instruction completes, signals its CSEM and reports any fault. -/
  | engineInstrComplete (a : Fin 48) (e : Fin 6)
  /-- TRAP_DRAIN_DONE (R269): After a trap drains the engines, DONE FAULTED is sent or the slip completes FAULTED. -/
  | trapDrainDone (a : Fin 48)
  /-- STOP_TIMEOUT (R267): No stop point comes within 50 us, so the agent stops issuing at the next boundary. -/
  | stopTimeout (a : Fin 48)
  /-- WORK_START (R276): A START work order arrives, is checked and is queued in a wing. -/
  | workStart (d : Fin 4)
  /-- WORK_LOADPROG (R275): A LOADPROG work order writes words into the wing program store. -/
  | workLoadprog (d : Fin 4)
  /-- WORK_STOP (R276): A STOP work order removes or stops the matching order. -/
  | workStop (d : Fin 4)
  /-- WORK_CLAIM (R277): A CLAIM work order sets SD_EPOCH and answers the old-epoch orders. -/
  | workClaim (d : Fin 4)
  /-- WING_PROGRAM_START (R276): The wing starts the next queued START order. -/
  | wingProgramStart (d : Fin 4) (w : Fin 8)
  /-- DONE_RECEIVE (R278): A DONE arrives; the return record is written and SEM is signalled. -/
  | doneReceive (n : Fin 2)
  /-- STOP_NOROUTE_TIMEOUT (R280): No DONE arrives within 50 us of a STOP, so the order is handled as NOROUTE. -/
  | stopNorouteTimeout (a : Fin 16) (num : Fin 65536)
  /-- FOLIO_TAKEOVER_START (R126): A SUSPECT position with a spare available starts a takeover, and the spare becomes LOADING. -/
  | folioTakeoverStart (d : Fin 4) (w : Fin 8)
  /-- FOLIO_RELOAD_DONE (R123): A folio reload has written its target's rows and starts the row sweep. -/
  | folioReloadDone (d : Fin 4) (w : Fin 8) (hostErr : Bool)
  /-- ROW_SWEEP_DONE (R124): The row sweep of the target position ends, passing or failing. -/
  | rowSweepDone (d : Fin 4) (w : Fin 8) (upset : List (Nat × Nat))
  /-- FOLIO_CUTOVER (R127): At an operation boundary the accumulators are copied and the folio map switches. -/
  | folioCutover (d : Fin 4) (w : Fin 8)
  /-- FOLIO_READMIT (R128): FOLIO_CTRL.READMIT starts re-admission of an AWAIT position. -/
  | folioReadmit (d : Fin 4) (w : Fin 8)
  /-- SHADOW_SWITCH (R128): After 1,024 compared MVMs, the shadow position takes its folio at a boundary. -/
  | shadowSwitch (d : Fin 4) (w : Fin 8)
  /-- FOLIO_RETRY (R131): FOLIO_CTRL.RETRY retries a stopped reload. -/
  | folioRetry (d : Fin 4) (w : Fin 8)
  /-- SCRUB_READ (R121): The scrubber reads the next row and acts on what it finds. -/
  | scrubRead (d : Fin 4) (upset : List (Nat × Nat × Nat))
  /-- LEAF_PREC_WRITE (R99): Sets the leaf precisions of a folio; the code 0b11 is not stored. -/
  | leafPrecWrite (d : Fin 4) (w : Fin 8) (f : Fin 14) (v : Word)
  /-- SHIST_CLEAR_ALL (R151): SHIST_WR ALL clears every scale-history entry. -/
  | shistClearAll (d : Fin 4) (w : Fin 8)
  /-- SHIST_SET (R169): SHIST_WR SET makes one history entry valid with a shift. -/
  | shistSet (d : Fin 4) (w : Fin 8) (tag : Fin 256) (shift : Fin 16)
  /-- SHIST_CLEAR (R151): SHIST_WR with SET 0 clears one history entry. -/
  | shistClear (d : Fin 4) (w : Fin 8) (tag : Fin 256)
  /-- SLOT_PLAN_LOAD (R179): SLOT_CTRL.LOAD checks a staged slot plan. -/
  | slotPlanLoad (d : Fin 4) (w : Fin 8)
  /-- SLOT_PLAN_APPLY (R179): An accepted plan is applied at a frame with no conflicting pending request. -/
  | slotPlanApply (d : Fin 4) (w : Fin 8)
  /-- SLOT_PLAN_STUCK (R179): After 4,096 cycles without a usable frame, the plan is rejected with STUCK. -/
  | slotPlanStuck (d : Fin 4) (w : Fin 8)
  /-- NOSLOT_TIMEOUT (R176): A request that has waited 4,096 cycles for a slot sets NOSLOT. -/
  | noslotTimeout (d : Fin 4) (w : Fin 8)
  /-- PATROL_SCRUB_READ (R190): In each SCRUB slot the patrol checks the next line and poisons it on a parity failure. -/
  | patrolScrubRead (d : Fin 4) (w : Fin 8) (b : Fin 4) (upset : Nat)
  /-- CREDIT_GRANT_RECEIVE (R193): The sender's link engine records the credits of a CREDIT_GRANT. -/
  | creditGrantReceive (node unit : Fin 16)
  /-- WRITE_RECEIVE (R194): The inbound port checks a WRITE and accepts it or drops it. -/
  | writeReceive (d : Fin 4) (w : Fin 8)
  /-- WRITE_LANDED (R194): The last line of an accepted WRITE takes effect and SIG signals SEM. -/
  | writeLanded (d : Fin 4) (w : Fin 8)
  /-- CREDIT_REQ_RECEIVE (R195): A CREDIT_REQ is queued in the request FIFO, or dropped. -/
  | creditReqReceive (d : Fin 4) (w : Fin 8)
  /-- CREQ_POP_READ (R195): A read of CREQ_POP removes the oldest credit request. -/
  | creqPopRead (d : Fin 4) (w : Fin 8)
  /-- RECLAIM_REQ_RECEIVE (R196): The sender stops its WRITEs, discards its credits and sends RECLAIM_ACK. -/
  | reclaimReqReceive (node unit : Fin 16)
  /-- RECLAIM_ACK_RECEIVE (R196): The receiver gets the RECLAIM_ACK of a reclaim. -/
  | reclaimAckReceive (d : Fin 4) (w : Fin 8)
  /-- RECLAIM_COMPLETE (R196): The window becomes FREE with EPOCH incremented, and the reclaim semaphore is signalled. -/
  | reclaimComplete (d : Fin 4) (w : Fin 8) (c : Fin 16)
  /-- RECLAIM_TIMEOUT (R197): No RECLAIM_ACK arrives in 100,000 cycles, so the reclaim completes anyway. -/
  | reclaimTimeout (d : Fin 4) (w : Fin 8) (c : Fin 16)
  /-- KV_SETPOOL (R203): KV_CMD SETPOOL sets a wing's KV pool. -/
  | kvSetpool (n : Fin 2) (unit : Fin 16) (d : Fin 4)
  /-- KV_RESERVE (R203): KV_CMD RESERVE gives a carrel a block range. -/
  | kvReserve (n : Fin 2) (unit : Fin 16) (d : Fin 4) (c : Fin 256)
  /-- KV_RELEASE (R203): KV_CMD RELEASE clears a carrel's reservation. -/
  | kvRelease (n : Fin 2) (unit : Fin 16) (d : Fin 4) (c : Fin 256)
  /-- LANE_FAIL (R219): A lane fails, and the spare is mapped in by short training or the link goes down. -/
  | laneFail (l : Fin 13) (lane : Nat)
  /-- SHORT_TRAINING_DONE (R218): A short training completes and held packets are sent. -/
  | shortTrainingDone (l : Fin 13) (ok : Bool)
  /-- LINK_FULL_TRAINING_DONE (R218): A full training completes. -/
  | linkFullTrainingDone (l : Fin 13) (ok : Bool)
  /-- PACKET_RECEIVE (R226): A port accepts an in-sequence packet with a good CRC, or discards it. -/
  | packetReceive (k : Fin 26) (hdr : List Nat) (payload : List Byte) (crc : Nat)
  /-- ACK_RECEIVE (R225): ACK frees acknowledged packets from the replay buffer. -/
  | ackReceive (k : Fin 26) (seq : Nat) (crcOk : Bool)
  /-- NAK_RECEIVE (R226): NAK makes the sender resend from the named SEQ. -/
  | nakReceive (k : Fin 26) (seq : Nat) (crcOk : Bool)
  /-- TOKEN_RECEIVE (R228): TOKEN returns buffer tokens to the sender. -/
  | tokenReceive (k : Fin 26) (vc : Fin 4) (count : Nat) (crcOk : Bool)
  /-- RETRAIN_RECEIVE (R225): A RETRAIN control word starts a training. -/
  | retrainReceive (k : Fin 26) (crcOk : Bool)
  /-- ACK_SEND_TIMER (R226): The receiver sends ACK at least every 256 ns while it accepts packets. -/
  | ackSendTimer (k : Fin 26)
  /-- REPLAY_TIMEOUT (R226): With no ACK for 2 us, the sender resends from the oldest unacknowledged packet. -/
  | replayTimeout (k : Fin 26)
  /-- ROUTE_RECEIVE (R232): A ROUTE message reroutes ring traffic and discards packets for the failed link. -/
  | routeReceive (d : Fin 4)
  /-- FETCH_RECEIVE (R233): The Control die reads host memory for a FETCH and answers with FETCH_DATA. -/
  | fetchReceive (n : Fin 2) (hostErr : Bool)
  /-- FETCH_DATA_RECEIVE (R319): Fetched source lines arrive at the move engine. -/
  | fetchDataReceive (d : Fin 4) (w : Fin 8)
  /-- MEMWR_RECEIVE (R320): A MEMWR writes lines into Commons or host memory. -/
  | memwrReceive (n : Fin 2) (hostErr : Bool)
  /-- KVCHK_RECEIVE (R240): The destination die checks KV lines against the reservation and answers KVACK. -/
  | kvchkReceive (d : Fin 4) (w : Fin 8)
  /-- KVACK_RECEIVE (R240): A KVACK lets a remote KV entry proceed, or fails it with KVRANGE. -/
  | kvackReceive (d : Fin 4) (w : Fin 8)
  /-- PARKDATA_RECEIVE (R243): The seal engine encrypts PARKDATA into chunks and writes the segment. -/
  | parkdataReceive (n : Fin 2) (hostErr : Bool)
  /-- UNPARKREQ_RECEIVE (R245): The seal engine reads and checks a segment header. -/
  | unparkreqReceive (n : Fin 2) (hostErr : Bool)
  /-- TELEM_SEND (R223): Every 10 us a Stack die sends TELEM to both Control dies. -/
  | telemSend (d : Fin 4) (temp droop : Nat)
  /-- Q_CMD_READ (R395): Q_CMD READ copies a queue record into Q_DATA. -/
  | qCmdRead (n : Fin 2)
  /-- Q_CMD_WRITE (R395): Q_CMD WRITE configures a queue, or refuses it. -/
  | qCmdWrite (n : Fin 2)
  /-- DOORBELL_WRITE (R401): A doorbell write advances a queue's PROD or CONS, or is refused. -/
  | doorbellWrite (n : Fin 2) (q : Fin 131072) (v : Word)
  /-- QUEUE_SELECT (R403): The arbiter selects an eligible queue and reads its head slip. -/
  | queueSelect (n : Fin 2)
  /-- HEAD_SLIP_ARRIVE (R404): The head slip arrives and is checked, blocked, retired or readied for dispatch. -/
  | headSlipArrive (n : Fin 2) (err : Bool) (words : List Nat)
  /-- SLIP_DISPATCH (R405): After the mirror ack, a slip is loaded into the lowest idle sequencer. -/
  | slipDispatch (n : Fin 2)
  /-- CANCEL_POS_WRITE (R410): A host cancel of a queue position. -/
  | cancelPosWrite (n : Fin 2) (pos : Fin 65536)
  /-- CARREL_CREATE (R412): CARREL_CMD CREATE reserves KV on every Stack die and admits a carrel. -/
  | carrelCreate (n : Fin 2) (c : Fin 256) (w : Fin 8)
  /-- CARREL_RELEASE (R413): CARREL_CMD RELEASE frees a carrel. -/
  | carrelRelease (n : Fin 2) (c : Fin 256)
  /-- MIRROR_ACK_RECEIVE (R420): The standby acknowledges a mirrored change and the waiting action proceeds. -/
  | mirrorAckReceive (n : Fin 2)
  /-- PAIR_HEARTBEAT_SEND (R428): Every 100 us each die beats on the pair line and the cross link. -/
  | pairHeartbeatSend (n : Fin 2) (line cross : Bool)
  /-- PAIR_HEARTBEAT_LOSS (R428): Neither path delivers a beat for 1 ms, and the partner is declared lost. -/
  | pairHeartbeatLoss (n : Fin 2)
  /-- WDT_IN_PULSE (R436): A low pulse of at least 2 us on WDT_IN triggers a takeover or a seizure. -/
  | wdtInPulse (n : Fin 2)
  /-- PEER_RESET_SIGNAL (R436): The partner's main islands enter reset, triggering a takeover. -/
  | peerResetSignal (n : Fin 2)
  /-- TAKEOVER_COMPLETE (R438): A takeover ends: PAIR_T is recorded and the TAKEOVER cause sets. -/
  | takeoverComplete (n : Fin 2)
  /-- SEIZE_RECEIVE (R437): A seized die holds its main islands in reset and confirms. -/
  | seizeReceive (n : Fin 2)
  /-- SEIZE_CONFIRM_RECEIVE (R437): The seizing die receives confirmation of the seizure. -/
  | seizeConfirmReceive (n : Fin 2)
  /-- SEIZE_CONFIRM_TIMEOUT (R437): With no confirmation in 100 us, the seizing die sets SEIZE_UNCONF and goes on. -/
  | seizeConfirmTimeout (n : Fin 2)
  /-- PAIR_HANDOVER (R439): PAIR_CTRL.HANDOVER stops dispatch and yields the active role. -/
  | pairHandover (n : Fin 2)
  /-- PAIR_SEIZE (R437): PAIR_CTRL.SEIZE on the active die seizes a standby partner. -/
  | pairSeize (n : Fin 2)
  /-- YIELD_RECEIVE (R439): A YIELD on the pair line makes the standby take over without a seizure. -/
  | yieldReceive (n : Fin 2)
  /-- DIE_RESTART (R442): A die restarts its main islands, keeping bank 7, and reruns boot steps 8 to 9. -/
  | dieRestart (n : Fin 2)
  /-- SEIZE_RELEASE_TIMER (R442): The seized die is released 1 ms after the takeover completes. -/
  | seizeReleaseTimer (n : Fin 2)
  /-- REJOIN_RECEIVE (R443): A restarted die's REJOIN is accepted at once, or held. -/
  | rejoinReceive (n : Fin 2)
  /-- PAIR_REJOIN (R443): PAIR_CTRL.REJOIN accepts a held REJOIN. -/
  | pairRejoin (n : Fin 2)
  /-- FULL_COPY_DONE (R432): The last part of a full mirror copy is acknowledged; VALID sets and the die becomes standby. -/
  | fullCopyDone (n : Fin 2)
  /-- SLEEP_HEARTBEAT_SEND (R446): In STANDBY and LISTEN the always-on island sends a sleep beat every 512 aclk cycles. -/
  | sleepHeartbeatSend (n : Fin 2)
  /-- SLEEP_BEAT_MISS (R447): A beat missing from its guard window opens the receiver for two periods. -/
  | sleepBeatMiss (n : Fin 2)
  /-- SLEEP_PARTNER_LOST (R447): With no beat for two periods the partner is declared lost and its always-on side is seized. -/
  | sleepPartnerLost (n : Fin 2)
  /-- SLEEP_SEIZE_RECEIVE (R448): A seized always-on island stops its beats, heartbeats and stage 0, and confirms. -/
  | sleepSeizeReceive (n : Fin 2)
  /-- WDT_KICK (R456): A write of WDT_KICK reloads the watchdog, or expires it on a wrong value. -/
  | wdtKick (a : Fin 16) (v : Word)
  /-- WDT_EXPIRY_HANDOVER (R460): In HANDOVER mode expiry pulses WDT_OUT low. -/
  | wdtExpiryHandover (n : Fin 2)
  /-- WDT_PULSE_END (R460): With no partner present, the die restarts 10 us after its pulse ends. -/
  | wdtPulseEnd (n : Fin 2)
  /-- WDT_EXPIRY_TRAP (R461): In TRAP mode expiry raises the NMI on SQ0 and starts the 1 ms hard timer. -/
  | wdtExpiryTrap (n : Fin 2)
  /-- WDT_HARD_TIMER_END (R461): The hard timer ends and the die restarts. -/
  | wdtHardTimerEnd (n : Fin 2)
  /-- CH_CMD_ON (R476): A channel ON command is accepted or refused, and a switch-on starts. -/
  | chCmdOn (d : Fin 2) (ch : Fin 24) (slow : Bool)
  /-- CH_CMD_OFF (R478): A channel OFF command switches the channel off and ends its retries. -/
  | chCmdOff (d : Fin 2) (ch : Fin 24)
  /-- CH_CMD_RELIMIT (R476): A channel RELIMIT command changes the steady limit. -/
  | chCmdRelimit (d : Fin 2) (ch : Fin 24)
  /-- INRUSH_WINDOW_END (R480): The effective inrush window ends and INRUSH_END sets. -/
  | inrushWindowEnd (d : Fin 2) (ch : Fin 24)
  /-- INRUSH_LEARN_DONE (R481): The inrush duration D becomes known and is stored. -/
  | inrushLearnDone (d : Fin 2) (ch : Fin 24) (ms : Nat)
  /-- SHORT_TRIP (R484): An over-current or excess VDS at the limit switches the channel off. -/
  | shortTrip (d : Fin 2) (ch : Fin 24) (also : Nat)
  /-- OT_TRIP (R485): Over-temperature switches the channel off. -/
  | otTrip (d : Fin 2) (ch : Fin 24) (temp : Nat) (also : Nat)
  /-- I2T_PERIOD_END (R487): The I2t integrator updates at the end of each period and may trip the channel. -/
  | i2tPeriodEnd (d : Fin 2) (ch : Fin 24) (meanSq : Nat) (cur : Nat) (atLimit : Bool)
  /-- RETRY_WAIT_END (R489): The retry wait ends and, once the channel is cool and within budget, it switches on again. -/
  | retryWaitEnd (d : Fin 2) (ch : Fin 24)
  /-- GOOD_TIME_EXPIRY (R491): After GOOD time on without a fault, the retry count returns to 0. -/
  | goodTimeExpiry (d : Fin 2) (ch : Fin 24)
  /-- UV_DETECT (R495): VBAT below the threshold for 50 us switches off the non-safety channels. -/
  | uvDetect (d : Fin 2)
  /-- UV_RESTART_QUALIFY (R496): VBAT recovered for 10 ms starts the staggered restart. -/
  | uvRestartQualify (d : Fin 2)
  /-- UV_RESTART_NEXT (R496): Every 2 ms the next pending channel switches on. -/
  | uvRestartNext (d : Fin 2)
  /-- LD_LOW_VBAT_RESET (R497): Below 5.5 V the Load die resets, and at recovery its channels restart from limp states. -/
  | ldLowVbatReset (d : Fin 2)
  /-- OPEN_LOAD_ON_DETECT (R498): Current below the open-load threshold for 10 ms records OL_ON. -/
  | openLoadOnDetect (d : Fin 2) (ch : Fin 24)
  /-- OFFSTATE_DIAG_TEST (R498): Every 100 ms the off-state open-load and short-to-battery tests run. -/
  | offstateDiagTest (d : Fin 2) (openLoad : Nat) (shortBat : Nat)
  /-- STUCK_ON_DETECT (R499): A stuck-on switch asserts FEEDCUT and commands its group off. -/
  | stuckOnDetect (d : Fin 2) (ch : Fin 24)
  /-- FEEDCUT_CLEAR (R499): FEEDCUT_CTRL.CLR releases a group's FEEDCUT. -/
  | feedcutClear (d : Fin 2) (groups : Nat)
  /-- AGG_OVER_DETECT (R506): The die's total current above 48 A for 100 ms sets AGG_OVER. -/
  | aggOverDetect (d : Fin 2)
  /-- LIMP_HB_TIMEOUT (R508): AGE reaches 30 ms and the Load die enters limp-home. -/
  | limpHbTimeout (d : Fin 2)
  /-- LIMP_N_ASSERT (R508): LIMP_N low for 10 us enters limp-home. -/
  | limpNAssert
  /-- LIMP_EXIT (R511): LIMP_CTRL.EXIT from the owner leaves limp-home. -/
  | limpExit (d : Fin 2) (n : Fin 2)
  /-- ADC_TRIG (R505): ADC_CTRL.TRIG triggers a sequence, or holds or discards the trigger. -/
  | adcTrig (d : Fin 2)
  /-- ADC_PERIODIC_TIMER (R505): The periodic timer triggers a sequence. -/
  | adcPeriodicTimer (d : Fin 2)
  /-- ADC_CONVERSION_DONE (R504): A conversion writes ADC_RES and ADC_LAST; the sequence ends after its last entry. -/
  | adcConversionDone (d : Fin 2) (code : Nat)
  /-- ADC_STAT_READ (R521): A read of ADC_STAT returns OVERRUN and clears it. -/
  | adcStatRead (d : Fin 2)
  /-- OTP_PROG (R474): OTP_CMD.PROG programs bits into an OTP word. -/
  | otpProg (d : Fin 2)
  /-- OTP_PROG_DONE (R474): OTP programming completes or fails verification. -/
  | otpProgDone (d : Fin 2) (mask : Nat)
  /-- LBUS_BRIDGE_WRITE (R528): A fabric write to a Load die is sent as WRITE frames, or refused. -/
  | lbusBridgeWrite (n d : Fin 2) (unit off : Nat) (words : List Nat)
  /-- LBUS_BRIDGE_READ (R530): A fabric read of a Load die is staged and answered RETRY, or returns staged data. -/
  | lbusBridgeRead (n d : Fin 2) (unit off : Nat)
  /-- LBUS_WRITE_FRAME (R527): A Load die carries out a WRITE frame from its owner port and answers. -/
  | lbusWriteFrame (d n : Fin 2) (frame : List Nat) (crc : Nat)
  /-- LBUS_READ_FRAME (R526): A Load die answers a READ frame with DATA. -/
  | lbusReadFrame (d n : Fin 2) (frame : List Nat) (crc : Nat)
  /-- LBUS_HB_FRAME (R534): A Load die accepts an HB, resetting AGE and owner, or answers STALE. -/
  | lbusHbFrame (d n : Fin 2) (frame : List Nat) (crc : Nat)
  /-- LBUS_ACK_RECEIVE (R528): The bridge receives the answer to a WRITE. -/
  | lbusAckReceive (n d : Fin 2) (frame : List Nat) (crc : Nat)
  /-- LBUS_DATA_RECEIVE (R530): The bridge receives DATA for a staged, poll, detail or telemetry read. -/
  | lbusDataReceive (n d : Fin 2) (frame : List Nat) (crc : Nat)
  /-- LBUS_RESEND_TIMEOUT (R526): With no answer in 2 us, the frame is resent, or fails NO_RESPONSE. -/
  | lbusResendTimeout (n d : Fin 2)
  /-- STAGED_DATA_EXPIRY (R530): Staged read data unclaimed for 100 us is dropped. -/
  | stagedDataExpiry (n : Fin 2) (e : Fin 8)
  /-- LB_LOCK_REQ (R532): LB_LOCK REQ asks for the Load-die lock. -/
  | lbLockReq (n d : Fin 2) (unit : Fin 16)
  /-- LB_LOCK_REL (R532): LB_LOCK REL releases the lock. -/
  | lbLockRel (n d : Fin 2) (unit : Fin 16)
  /-- LB_LOCK_EXPIRY (R532): A lock held for 100 us expires. -/
  | lbLockExpiry (n d : Fin 2)
  /-- LBUS_HB_TIMER (R533): Every 1 ms the active die sends HB under the watchdog licence. -/
  | lbusHbTimer (n : Fin 2) (fresh : Bool)
  /-- LBUS_POLL (R536): Every POLL_US the bridge reads each Load die's summary. -/
  | lbusPoll (n d : Fin 2)
  /-- TELEMETRY_READ (R538): Every TEL_PER the bridge reads ADC_LAST of each Load die. -/
  | telemetryRead (n : Fin 2)
  /-- SAG_LOOP_ADJUST (R542): Once per telemetry period the ledger lowers or raises its capacity. -/
  | sagLoopAdjust (n : Fin 2) (tenMs : Bool)
  /-- SHED_RELEASE_DONE (R550): The shed holders' releases complete and the APPLYING grant is applied or decided again. -/
  | shedReleaseDone (n : Fin 2) (e : Fin 96)
  /-- LEVEL_WRITE (R547): A write of a Stack die's LEVEL changes cclk within 5 us. -/
  | levelWrite (n : Fin 2) (d : Fin 4) (level : Fin 16) (ok : Bool)
  /-- LEVEL_LOWER_RELEASE (R547): Current for a lowered level is released 10 us after the write, once it succeeds. -/
  | levelLowerRelease (n : Fin 2) (d : Fin 4)
  /-- LG_SOFT_WRITE (R558): A write of LG_SOFT sets the soft ceiling, clamped to LEDGER_MAX. -/
  | lgSoftWrite (n : Fin 2) (v : Nat)
  /-- LG_SAG_WRITE (R558): A write of LG_SAG sets the sag steps and VMIN, with VMIN clamped. -/
  | lgSagWrite (n : Fin 2) (v : Nat)
  /-- AUDIO_FRAME_END (R572): Each 10 ms frame is judged for voice, and the stage logic, features and network run. -/
  | audioFrameEnd (n : Fin 2) (x : AudioIn)
  /-- KW_HOLD_EXPIRY (R573): No voice frame for KW_HOLD returns the stage to 0. -/
  | kwHoldExpiry (n : Fin 2)
  /-- FORCE2 (R573): LS_CTRL.FORCE2 enters stage 2. -/
  | force2 (n : Fin 2) (history : List (List Nat))
  /-- CAPTURE_BLOCK_MOVE (R588): A block is moved into the capture ring and the semaphores are signalled. -/
  | captureBlockMove (n : Fin 2)
  /-- CAP_CONS_WRITE (R588): A write of CAP_CONS frees ring entries, or is ignored. -/
  | capConsWrite (n : Fin 2) (v : Word)
  /-- POCKET_LOAD (R578): POCKET_LD_CMD.GO starts a load of pocket-stack rows, or is refused. -/
  | pocketLoad (n leaf : Fin 2) (first : Fin 1024) (count : Fin 2048)
  /-- POCKET_LOAD_DONE (R578): The pocket load completes, setting LOADED. -/
  | pocketLoadDone (n : Fin 2) (history : List (List Nat))
  /-- KW_POP_READ (R581): A read of KW_POP removes the oldest detection. -/
  | kwPopRead (n : Fin 2)
  /-- MUTE_N_LOW (R593): MUTE_N falls: the PDM clocks stop, audio is cleared, MICPWR opens and the lamp lights. -/
  | muteNLow
  /-- MUTE_N_RISE (R594): MUTE_N rises and the 50 ms release count starts. -/
  | muteNRise
  /-- MUTE_RELEASE (R594): After 50 ms high, the mute is released. -/
  | muteRelease
  /-- PB_CTRL_WRITE (R590): A write of PB_CTRL starts or configures the I2S/TDM output, or refuses it. -/
  | pbCtrlWrite (n : Fin 2) (v : Word)
  /-- PB_PROD_WRITE (R591): A write of PB_PROD queues playback samples, or is ignored. -/
  | pbProdWrite (n : Fin 2) (v : Word)
  /-- PB_SAMPLE_CONSUME (R591): Each output frame consumes a sample, or counts an underrun. -/
  | pbSampleConsume (n : Fin 2)
  /-- TAMPER_N_LOW (R619): TAMPER_N low zeroises every slot, blows VGEN and erases the vault. -/
  | tamperNLow
  /-- LC_TRANSITION (R622): LC_CMD moves the life-cycle state and zeroises. -/
  | lcTransition (n : Fin 2) (key : Fin 65536) (target : Fin 8)
  /-- LC_BLOW_PUBHASH (R622): LC_CMD TARGET 0x7 blows PUB_HASH in both dies. -/
  | lcBlowPubhash (n : Fin 2) (key : Fin 65536)
  /-- DBG_GO (R624): DBG_CTRL.GO checks a debug response and opens debug, or counts a failure. -/
  | dbgGo (n : Fin 2)
  /-- MAC_GO (R625): MAC_CTRL.GO computes an HMAC under a SIGN slot. -/
  | macGo (n : Fin 2)
  /-- TRNG_READY (R626): The TRNG passes its start-up tests and becomes READY. -/
  | trngReady (n : Fin 2) (us : Fin 65536)
  /-- TRNG_HEALTH_FAIL (R626): A health test fails and the TRNG restarts its start-up count or becomes FAILED. -/
  | trngHealthFail (n : Fin 2) (apt : Bool)
  /-- MONITOR_RESET (R641): A clock or supply fault lasting 64 us resets the Load die with its gates off. -/
  | monitorReset (d : Fin 2) (supply : Bool)
  /-- MONITOR_RELEASE (R641): After 1 ms within limits the monitor reset is released and limp states follow. -/
  | monitorRelease (d : Fin 2)
  /-- HBTEST_HOLD (R644): LB_HBTEST.HOLD withholds heartbeats from a Load die in limp-home. -/
  | hbtestHold (n d : Fin 2)
  /-- HBTEST_TIMEOUT (R644): With no HB source seen in 40 ms, the test fails. -/
  | hbtestTimeout (n d : Fin 2)
  /-- FEEDCUT_TEST_ASSERT (R645): FEEDCUT_TEST.ASSERT asserts a group's FEEDCUT as a test. -/
  | feedcutTestAssert (d : Fin 2) (groups : Nat)
  /-- SD_SUM_POLL (R667): Every SD_POLL us the active die copies each Stack die's SD_SUM into SD_GRP. -/
  | sdSumPoll (n : Fin 2) (d : Fin 4) (ok : Bool)
  /-- INT_EOI_WRITE (R671): In edge mode, INT_EOI releases INT_N for 2 us. -/
  | intEoiWrite (n : Fin 2)
  /-- EOI_WINDOW_END (R671): The release window ends and INT_N falls again if work is pending. -/
  | eoiWindowEnd (n : Fin 2)
  /-- DMA_GO (R674): DMA_CTRL.GO starts a channel copy after its operand checks. -/
  | dmaGo (n : Fin 2) (c : Fin 8) (abort : Bool)
  /-- DMA_ABORT (R675): DMA_CTRL.ABORT ends a copy with ABORTED. -/
  | dmaAbort (n : Fin 2) (c : Fin 8) (moved : Fin (2 ^ 27))
  /-- DMA_COMPLETE (R674): The last write of a DMA copy completes, DONE sets and SEM is signalled. -/
  | dmaComplete (n : Fin 2) (c : Fin 8) (failAt : Option Nat)
  /-- DBG_HALT (R676): DBG_RUN HALT halts a sequencer at the next boundary. -/
  | dbgHalt (n : Fin 2) (mask : BitVec 8)
  /-- DBG_RESUME (R676): DBG_RUN RESUME restarts a halted sequencer. -/
  | dbgResume (n : Fin 2) (mask : BitVec 8)
  /-- DBG_STEP (R676): DBG_RUN STEP issues one instruction on a halted sequencer. -/
  | dbgStep (n : Fin 2) (mask : BitVec 8)
  /-- PMB_ALERT_SCAN (R702): While PMB_ALERT_N is low, rails are read every 1 ms and a lost rail takes its die out. -/
  | pmbAlertScan (n : Fin 2) (words : List (Option Nat))
  /-- THERMAL_SHUTDOWN (R721): A die above 125 C for 1 ms holds its main islands in reset. -/
  | thermalShutdown (k : Fin 6)
  /-- THERMAL_COOLED (R721): A Control die below 110 C restarts. -/
  | thermalCooled (n : Fin 2)
  /-- LPCLK_LOSS (R719): No LPCLK_IN edge for 250 us moves aclk to the RC oscillator. -/
  | lpclkLoss (n : Fin 2)
  /-- LPCLK_RETURN (R719): 1,024 good periods move aclk back to LPCLK_IN. -/
  | lpclkReturn (n : Fin 2)
  /-- HEARTBEAT_PATH_SILENCE (R429): One pair heartbeat path falls silent while the other still beats, so PAIR_STAT.XLINK or PAIRLINE reads 0 and XLINK_DOWN or PAIRLINE_FAULT sets, with no takeover. -/
  | heartbeatPathSilence (n : Fin 2) (cross : Bool)
  /-- NO_RESPONSE_TIMEOUT (R49): An access to a die whose path is up completes with NO_RESPONSE, or a Completer Abort for the host, 50 us after issue when the target does not answer. -/
  | noResponseTimeout (n : Fin 2)
  /-- CHANNEL_COOL (R490): A channel's junction temperature falls to the trip less the restart margin, so HOT can clear and a waiting retry or held restart can proceed. -/
  | channelCool (d : Fin 2) (ch : Fin 24) (temp : Nat)
  /-- LEDGER_WINDOW_TIMER (R552): WINDOW ms after the Load die's OK to an ON, the ledger releases the channel's EXCESS if INRUSH_END has not already done so. -/
  | ledgerWindowTimer (n : Fin 2) (e : Fin 48)
  /-- ZEROISATION_DONE (R619): The VGEN fuse has been blown and the vault records erased; ZEROISING clears, ZEROISED sets, and in STANDBY CDn_PWREN falls again. -/
  | zeroisationDone
  /-- TAMPER_N_RELEASE (R619): TAMPER_N returns high, TAMPER_IN clears and accession records may be applied again. -/
  | tamperNRelease
  /-- LIMP_N_RELEASE (R95): LIMP_N returns high, LD_STAT.LIMP_N clears and the Load die may again accept LIMP_CTRL.EXIT. -/
  | limpNRelease
  /-- MAC_DONE (R625): The HMAC of a MAC command completes: the result is written to MAC_OUT, the status is set and BUSY clears. -/
  | macDone (n : Fin 2)
  deriving DecidableEq, Repr

end Sys2Proof
end

