-- ==== Sys2Proof/Decode.lean ====
section
/-! DEFINITION. The command that a word spells. The table of operations and events gives no row any bits: every row is a
bus command or an event of the block, so no word spells one. -/

namespace Sys2Proof

/-- The command of a word of `nbits` bits: none, for any word. -/
def decodeTableWord (nbits w : Nat) : Option Instr :=
  match nbits, w with
  | _, _ => none

end Sys2Proof
end

