-- ==== Sys2Proof/Config.lean ====
section
/-! DEFINITION. The free values: results the spec leaves open. Each is a constant without a body, applied to the
number of a draw (State.fresh) or to the operands it depends on, so that nothing can be proved of its value. -/

namespace Sys2Proof

/-- A free value of up to 64 bits, by the number of the draw (notes/assumptions/4.md). -/
opaque Config.freeBits : Nat → BitVec 64

/-- The root secret fused into both Control dies (R606): no initiator reads it, and nothing in the spec gives it. -/
opaque Config.rootSecret : BitVec 256

end Sys2Proof
end

