-- ==== Sys2Proof/Machine/RegMap.lean ====
section
/-! DEFINITION. The registers of the spec, field by field: every register table of chapters 01 to 19 as a
named field (offset in its block, bit range, reset value, distance between the members of an array), and the lists
by which a software access finds the fields of an offset and their access codes (R4 to R10). A register is the
fields of its table; a bit no table names is reserved and reads 0 (R5). The reset value is the table's; where the
table gives none ("fuse", "pin", "OTP", "shelf list", "—") it is the value notes/assumptions/2.md names. -/

namespace Sys2Proof.Machine

/-- One field of one register: offset in the block, bits hi:lo, reset value, and for an array of registers the
distance between two members. -/
structure Fld where
  off : Nat
  hi : Nat
  lo : Nat
  rst : Nat
  stride : Nat
  deriving DecidableEq, Repr

/-- Member `i` of an array of registers. -/
def Fld.at (f : Fld) (i : Nat) : Fld := { f with off := f.off + f.stride * i }

/-- The access codes of R9. -/
inductive Acc where
  | ro | rw | rwl | w1c | w1s | wo | rc
  deriving DecidableEq, Repr

/-- One register (or array of registers) of a block: first offset, distance, number of members, and its fields. -/
structure RegDesc where
  off : Nat
  stride : Nat
  count : Nat
  fields : List (Fld × Acc)
  deriving DecidableEq, Repr

namespace R

-- IDENT (Control-die, 01)
abbrev IDENT_PART : Fld := ⟨0x0, 31, 16, 0x8b07, 0⟩
abbrev IDENT_CD_COUNT : Fld := ⟨0x0, 15, 12, 2, 0⟩
abbrev IDENT_SD_COUNT : Fld := ⟨0x0, 11, 8, 4, 0⟩
abbrev IDENT_LD_COUNT : Fld := ⟨0x0, 7, 4, 2, 0⟩
-- STEP (Control-die, 01)
abbrev STEP_MAJOR : Fld := ⟨0x4, 7, 4, 0, 0⟩
abbrev STEP_MINOR : Fld := ⟨0x4, 3, 0, 0, 0⟩
-- DIES (Control-die, 01)
abbrev DIES_LD1 : Fld := ⟨0x8, 15, 14, 0, 0⟩
abbrev DIES_LD0 : Fld := ⟨0x8, 13, 12, 0, 0⟩
abbrev DIES_SD3 : Fld := ⟨0x8, 11, 10, 0, 0⟩
abbrev DIES_SD2 : Fld := ⟨0x8, 9, 8, 0, 0⟩
abbrev DIES_SD1 : Fld := ⟨0x8, 7, 6, 0, 0⟩
abbrev DIES_SD0 : Fld := ⟨0x8, 5, 4, 0, 0⟩
abbrev DIES_CD1 : Fld := ⟨0x8, 3, 2, 0, 0⟩
abbrev DIES_CD0 : Fld := ⟨0x8, 1, 0, 0, 0⟩
-- LINK_UP (Control-die, 01)
abbrev LINK_UP_LBUS : Fld := ⟨0xC, 16, 13, 0, 0⟩
abbrev LINK_UP_CROSS : Fld := ⟨0xC, 12, 12, 0, 0⟩
abbrev LINK_UP_CTL_CD1 : Fld := ⟨0xC, 11, 8, 0, 0⟩
abbrev LINK_UP_CTL_CD0 : Fld := ⟨0xC, 7, 4, 0, 0⟩
abbrev LINK_UP_RING : Fld := ⟨0xC, 3, 0, 0, 0⟩
-- LINK_SPARE (Control-die, 01)
abbrev LINK_SPARE_CROSS : Fld := ⟨0x10, 12, 12, 0, 0⟩
abbrev LINK_SPARE_CTL_CD1 : Fld := ⟨0x10, 11, 8, 0, 0⟩
abbrev LINK_SPARE_CTL_CD0 : Fld := ⟨0x10, 7, 4, 0, 0⟩
abbrev LINK_SPARE_RING : Fld := ⟨0x10, 3, 0, 0, 0⟩
-- CLK_SRC (Control-die, 01)
abbrev CLK_SRC_CD1_LP : Fld := ⟨0x14, 3, 3, 0, 0⟩
abbrev CLK_SRC_CD1_XT : Fld := ⟨0x14, 2, 2, 0, 0⟩
abbrev CLK_SRC_CD0_LP : Fld := ⟨0x14, 1, 1, 0, 0⟩
abbrev CLK_SRC_CD0_XT : Fld := ⟨0x14, 0, 0, 0, 0⟩
-- ADDR_ERR_LO (Control-die, 02)
abbrev ADDR_ERR_LO_ADDR_LO : Fld := ⟨0x18, 31, 0, 0, 0⟩
-- ADDR_ERR_HI (Control-die, 02)
abbrev ADDR_ERR_HI_VALID : Fld := ⟨0x1C, 31, 31, 0, 0⟩
abbrev ADDR_ERR_HI_OVER : Fld := ⟨0x1C, 30, 30, 0, 0⟩
abbrev ADDR_ERR_HI_KIND : Fld := ⟨0x1C, 26, 24, 0, 0⟩
abbrev ADDR_ERR_HI_INIT : Fld := ⟨0x1C, 23, 16, 0, 0⟩
abbrev ADDR_ERR_HI_WRITE : Fld := ⟨0x1C, 8, 8, 0, 0⟩
abbrev ADDR_ERR_HI_ADDR_HI : Fld := ⟨0x1C, 7, 0, 0, 0⟩
-- HOST_AP_LO (Control-die, 02)
abbrev HOST_AP_LO_EN : Fld := ⟨0x20, 0, 0, 0, 8⟩
-- HOST_AP_HI (Control-die, 02)
abbrev HOST_AP_HI_BASE : Fld := ⟨0x24, 31, 0, 0, 8⟩
-- PWR_STATE (Control-die, 03)
abbrev PWR_STATE_LAST_WAKE : Fld := ⟨0x40, 11, 8, 0, 0⟩
abbrev PWR_STATE_IN_TRANS : Fld := ⟨0x40, 7, 7, 0, 0⟩
abbrev PWR_STATE_PREV : Fld := ⟨0x40, 6, 4, 0, 0⟩
abbrev PWR_STATE_CUR : Fld := ⟨0x40, 2, 0, 0, 0⟩
-- PWR_REQ (Control-die, 03)
abbrev PWR_REQ_STATUS : Fld := ⟨0x44, 23, 16, 0, 0⟩
abbrev PWR_REQ_GO : Fld := ⟨0x44, 8, 8, 0, 0⟩
abbrev PWR_REQ_TARGET : Fld := ⟨0x44, 2, 0, 4, 0⟩
-- WAKE_EN (Control-die, 03)
abbrev WAKE_EN_ALARM_LISTEN : Fld := ⟨0x48, 4, 4, 0, 0⟩
abbrev WAKE_EN_LDEV : Fld := ⟨0x48, 3, 3, 1, 0⟩
abbrev WAKE_EN_KEYWORD : Fld := ⟨0x48, 2, 2, 1, 0⟩
abbrev WAKE_EN_ALARM : Fld := ⟨0x48, 1, 1, 1, 0⟩
abbrev WAKE_EN_WAKEPIN : Fld := ⟨0x48, 0, 0, 1, 0⟩
-- ALARM (Control-die, 03)
abbrev ALARM_TICKS : Fld := ⟨0x4C, 31, 0, 0, 0⟩
-- CLEAR_STAT (Control-die, 03)
abbrev CLEAR_STAT_SEQMEM : Fld := ⟨0x50, 6, 6, 0, 0⟩
abbrev CLEAR_STAT_CATALOGUE : Fld := ⟨0x50, 5, 5, 0, 0⟩
abbrev CLEAR_STAT_COMMONS : Fld := ⟨0x50, 4, 4, 0, 0⟩
abbrev CLEAR_STAT_RROOM : Fld := ⟨0x50, 3, 0, 0, 0⟩
-- BOOT_STAT (Control-die, 03)
abbrev BOOT_STAT_PHASE : Fld := ⟨0x4000, 31, 28, 0, 0⟩
abbrev BOOT_STAT_ROLE : Fld := ⟨0x4000, 25, 25, 0, 0⟩
abbrev BOOT_STAT_DIE : Fld := ⟨0x4000, 24, 24, 0, 0⟩
abbrev BOOT_STAT_SL_SEL : Fld := ⟨0x4000, 23, 22, 0, 0⟩
abbrev BOOT_STAT_FW_SEL : Fld := ⟨0x4000, 21, 20, 0, 0⟩
abbrev BOOT_STAT_RETIRE_IGN : Fld := ⟨0x4000, 19, 19, 0, 0⟩
abbrev BOOT_STAT_SL_A_BAD : Fld := ⟨0x4000, 18, 18, 0, 0⟩
abbrev BOOT_STAT_SL_B_BAD : Fld := ⟨0x4000, 17, 17, 0, 0⟩
abbrev BOOT_STAT_FW_A_BAD : Fld := ⟨0x4000, 16, 16, 0, 0⟩
abbrev BOOT_STAT_FW_B_BAD : Fld := ⟨0x4000, 15, 15, 0, 0⟩
abbrev BOOT_STAT_FLASH1_PRESENT : Fld := ⟨0x4000, 14, 14, 0, 0⟩
abbrev BOOT_STAT_ERR : Fld := ⟨0x4000, 7, 0, 0, 0⟩
-- SL_VER_A (Control-die, 03)
abbrev SL_VER_A_VERSION : Fld := ⟨0x4004, 31, 0, 0, 0⟩
-- SL_VER_B (Control-die, 03)
abbrev SL_VER_B_VERSION : Fld := ⟨0x4008, 31, 0, 0, 0⟩
-- FW_VER (Control-die, 03)
abbrev FW_VER_VERSION : Fld := ⟨0x400C, 31, 0, 0, 0⟩
-- T_HOSTLINK (Control-die, 03)
abbrev T_HOSTLINK_US : Fld := ⟨0x4010, 31, 0, 0, 0⟩
-- T_SERVE (Control-die, 03)
abbrev T_SERVE_US : Fld := ⟨0x4014, 31, 0, 0, 0⟩
-- BOOT_CTRL (Control-die, 03)
abbrev BOOT_CTRL_HOSTFW : Fld := ⟨0x4018, 1, 1, 0, 0⟩
abbrev BOOT_CTRL_FALLBACK : Fld := ⟨0x4018, 0, 0, 0, 0⟩
-- WIMG_BASE_LO (Control-die, 03)
abbrev WIMG_BASE_LO_ADDR : Fld := ⟨0x4020, 31, 6, 0, 0⟩
-- WIMG_BASE_HI (Control-die, 03)
abbrev WIMG_BASE_HI_ADDR : Fld := ⟨0x4024, 7, 0, 0, 0⟩
-- WIMG_LEN (Control-die, 03)
abbrev WIMG_LEN_LEN : Fld := ⟨0x4028, 31, 0, 0, 0⟩
-- WIMG_CTRL (Control-die, 03)
abbrev WIMG_CTRL_ABORT : Fld := ⟨0x402C, 1, 1, 0, 0⟩
abbrev WIMG_CTRL_START : Fld := ⟨0x402C, 0, 0, 0, 0⟩
-- WIMG_STAT (Control-die, 03)
abbrev WIMG_STAT_KEY_SLOT : Fld := ⟨0x4030, 20, 16, 0, 0⟩
abbrev WIMG_STAT_ERR : Fld := ⟨0x4030, 15, 8, 0, 0⟩
abbrev WIMG_STAT_STATE : Fld := ⟨0x4030, 3, 0, 0, 0⟩
-- WIMG_DONE (Control-die, 03)
abbrev WIMG_DONE_BYTES : Fld := ⟨0x4034, 31, 0, 0, 0⟩
-- WING_LOADED (Control-die, 03)
abbrev WING_LOADED_LOADED : Fld := ⟨0x4038, 31, 0, 0, 0⟩
-- FL_ADDR (Control-die, 03)
abbrev FL_ADDR_ADDR : Fld := ⟨0x4040, 31, 0, 0, 0⟩
-- FL_CMD (Control-die, 03)
abbrev FL_CMD_BUSY : Fld := ⟨0x4044, 31, 31, 0, 0⟩
abbrev FL_CMD_ERR : Fld := ⟨0x4044, 27, 24, 0, 0⟩
abbrev FL_CMD_CS : Fld := ⟨0x4044, 17, 17, 0, 0⟩
abbrev FL_CMD_LEN : Fld := ⟨0x4044, 16, 8, 0, 0⟩
abbrev FL_CMD_OP : Fld := ⟨0x4044, 3, 0, 0, 0⟩
-- FL_BUF (Control-die, 03)
abbrev FL_BUF_DATA : Fld := ⟨0x4100, 31, 0, 0, 4⟩
-- FMAP_LO (wing, 04)
abbrev FMAP_LO_POS : Fld := ⟨0x0, 31, 0, 0x76543210, 0⟩
-- FMAP_HI (wing, 04)
abbrev FMAP_HI_SPARE : Fld := ⟨0x4, 27, 24, 0xe, 0⟩
abbrev FMAP_HI_POS : Fld := ⟨0x4, 23, 0, 0xdcba98, 0⟩
-- FPOS_LO (wing, 04)
abbrev FPOS_LO_F : Fld := ⟨0x8, 29, 0, 0, 0⟩
-- FPOS_HI (wing, 04)
abbrev FPOS_HI_F : Fld := ⟨0xC, 14, 0, 0x1000, 0⟩
-- FOLIO_CTRL (wing, 04)
abbrev FOLIO_CTRL_RETRY : Fld := ⟨0x10, 9, 9, 0, 0⟩
abbrev FOLIO_CTRL_READMIT : Fld := ⟨0x10, 8, 8, 0, 0⟩
abbrev FOLIO_CTRL_SCRUB_CE_ACT : Fld := ⟨0x10, 2, 2, 1, 0⟩
abbrev FOLIO_CTRL_AUTO_READMIT : Fld := ⟨0x10, 1, 1, 1, 0⟩
abbrev FOLIO_CTRL_AUTO_TAKEOVER : Fld := ⟨0x10, 0, 0, 1, 0⟩
-- FOLIO_STAT (wing, 04)
abbrev FOLIO_STAT_OP : Fld := ⟨0x14, 31, 28, 0, 0⟩
abbrev FOLIO_STAT_TARGET : Fld := ⟨0x14, 27, 24, 0xf, 0⟩
abbrev FOLIO_STAT_FOLIO : Fld := ⟨0x14, 23, 20, 0, 0⟩
abbrev FOLIO_STAT_PHASE : Fld := ⟨0x14, 19, 16, 0, 0⟩
abbrev FOLIO_STAT_ERR : Fld := ⟨0x14, 15, 8, 0, 0⟩
abbrev FOLIO_STAT_BLOCKED : Fld := ⟨0x14, 0, 0, 0, 0⟩
-- SHADOW_CNT (wing, 04)
abbrev SHADOW_CNT_COUNT : Fld := ⟨0x18, 10, 0, 0, 0⟩
-- TALLY_LOG0 (wing, 04)
abbrev TALLY_LOG0_VALID : Fld := ⟨0x20, 31, 31, 0, 0⟩
abbrev TALLY_LOG0_OVER : Fld := ⟨0x20, 30, 30, 0, 0⟩
abbrev TALLY_LOG0_FOLIO : Fld := ⟨0x20, 29, 26, 0, 0⟩
abbrev TALLY_LOG0_POS : Fld := ⟨0x20, 25, 22, 0, 0⟩
abbrev TALLY_LOG0_LEAF : Fld := ⟨0x20, 21, 19, 0, 0⟩
abbrev TALLY_LOG0_RG : Fld := ⟨0x20, 18, 14, 0, 0⟩
abbrev TALLY_LOG0_SEG : Fld := ⟨0x20, 13, 11, 0, 0⟩
abbrev TALLY_LOG0_PLANE : Fld := ⟨0x20, 10, 8, 0, 0⟩
abbrev TALLY_LOG0_SYND : Fld := ⟨0x20, 7, 0, 0, 0⟩
-- TALLY_LOG1 (wing, 04)
abbrev TALLY_LOG1_TAG : Fld := ⟨0x24, 15, 8, 0, 0⟩
abbrev TALLY_LOG1_SWEEP : Fld := ⟨0x24, 0, 0, 0, 0⟩
-- TALLY_CNT (wing, 04)
abbrev TALLY_CNT_COUNT : Fld := ⟨0x28, 15, 0, 0, 0⟩
-- SCRUB_LOG0 (wing, 04)
abbrev SCRUB_LOG0_VALID : Fld := ⟨0x30, 31, 31, 0, 0⟩
abbrev SCRUB_LOG0_OVER : Fld := ⟨0x30, 30, 30, 0, 0⟩
abbrev SCRUB_LOG0_KIND : Fld := ⟨0x30, 29, 28, 0, 0⟩
abbrev SCRUB_LOG0_SRC : Fld := ⟨0x30, 27, 27, 0, 0⟩
abbrev SCRUB_LOG0_POS : Fld := ⟨0x30, 26, 23, 0, 0⟩
abbrev SCRUB_LOG0_LEAF : Fld := ⟨0x30, 22, 20, 0, 0⟩
abbrev SCRUB_LOG0_ROW : Fld := ⟨0x30, 19, 10, 0, 0⟩
abbrev SCRUB_LOG0_WORD : Fld := ⟨0x30, 9, 5, 0, 0⟩
-- SCRUB_LOG1 (wing, 04)
abbrev SCRUB_LOG1_BIT : Fld := ⟨0x34, 6, 0, 0, 0⟩
-- SCRUB_CNT (wing, 04)
abbrev SCRUB_CNT_CE : Fld := ⟨0x38, 31, 16, 0, 0⟩
abbrev SCRUB_CNT_UE : Fld := ⟨0x38, 15, 8, 0, 0⟩
abbrev SCRUB_CNT_TALLY : Fld := ⟨0x38, 7, 0, 0, 0⟩
-- LEAF_PREC (wing, 04)
abbrev LEAF_PREC_L : Fld := ⟨0x40, 15, 0, 0x5555, 4⟩
-- WING_CAUSE (wing, 04)
abbrev WING_CAUSE_COUNT : Fld := ⟨0x80, 31, 24, 0, 0⟩
abbrev WING_CAUSE_BLOCKED : Fld := ⟨0x80, 8, 8, 0, 0⟩
abbrev WING_CAUSE_RETIRED : Fld := ⟨0x80, 7, 7, 0, 0⟩
abbrev WING_CAUSE_RELOAD_FAIL : Fld := ⟨0x80, 6, 6, 0, 0⟩
abbrev WING_CAUSE_READMIT_DONE : Fld := ⟨0x80, 5, 5, 0, 0⟩
abbrev WING_CAUSE_TAKEOVER_DONE : Fld := ⟨0x80, 4, 4, 0, 0⟩
abbrev WING_CAUSE_SCRUB_TALLY : Fld := ⟨0x80, 3, 3, 0, 0⟩
abbrev WING_CAUSE_SCRUB_UE : Fld := ⟨0x80, 2, 2, 0, 0⟩
abbrev WING_CAUSE_SCRUB_CE : Fld := ⟨0x80, 1, 1, 0, 0⟩
abbrev WING_CAUSE_TALLY : Fld := ⟨0x80, 0, 0, 0, 0⟩
-- WING_CAUSE_EN (wing, 04)
abbrev WING_CAUSE_EN_EN : Fld := ⟨0x84, 8, 0, 0x1ff, 0⟩
-- SD_ID (Stack-die, 04)
abbrev SD_ID_DIE : Fld := ⟨0x0, 1, 0, 0, 0⟩
-- SCRUB_PERIOD (Stack-die, 04)
abbrev SCRUB_PERIOD_SECONDS : Fld := ⟨0x100, 31, 0, 0x15180, 0⟩
-- SCRUB_PASS (Stack-die, 04)
abbrev SCRUB_PASS_PASSES : Fld := ⟨0x104, 15, 0, 0, 0⟩
-- SCRUB_WHERE (Stack-die, 04)
abbrev SCRUB_WHERE_WING : Fld := ⟨0x108, 22, 20, 0, 0⟩
abbrev SCRUB_WHERE_POS : Fld := ⟨0x108, 19, 16, 0, 0⟩
abbrev SCRUB_WHERE_LEAF : Fld := ⟨0x108, 15, 13, 0, 0⟩
abbrev SCRUB_WHERE_ROW : Fld := ⟨0x108, 9, 0, 0, 0⟩
-- SPARECOL (Stack-die, 04)
abbrev SPARECOL_USED : Fld := ⟨0x110, 15, 0, 0, 0⟩
-- FUSED_OUT (Stack-die, 04)
abbrev FUSED_OUT_W : Fld := ⟨0x114, 31, 0, 0xffffffff, 0⟩
-- DEGRADED (Stack-die, 04)
abbrev DEGRADED_WING : Fld := ⟨0x118, 7, 0, 0, 0⟩
-- SCALE (wing, 05)
abbrev SCALE_KIND3 : Fld := ⟨0xC0, 29, 28, 0, 4⟩
abbrev SCALE_SHIFT3 : Fld := ⟨0xC0, 27, 24, 0, 4⟩
abbrev SCALE_KIND2 : Fld := ⟨0xC0, 21, 20, 0, 4⟩
abbrev SCALE_SHIFT2 : Fld := ⟨0xC0, 19, 16, 0, 4⟩
abbrev SCALE_KIND1 : Fld := ⟨0xC0, 13, 12, 0, 4⟩
abbrev SCALE_SHIFT1 : Fld := ⟨0xC0, 11, 8, 0, 4⟩
abbrev SCALE_KIND0 : Fld := ⟨0xC0, 5, 4, 0, 4⟩
abbrev SCALE_SHIFT0 : Fld := ⟨0xC0, 3, 0, 0, 4⟩
-- SHIST_WR (wing, 05)
abbrev SHIST_WR_ALL : Fld := ⟨0x100, 16, 16, 0, 0⟩
abbrev SHIST_WR_SET : Fld := ⟨0x100, 15, 15, 0, 0⟩
abbrev SHIST_WR_SHIFT : Fld := ⟨0x100, 11, 8, 0, 0⟩
abbrev SHIST_WR_TAG : Fld := ⟨0x100, 7, 0, 0, 0⟩
-- REPLAY_CNT (wing, 05)
abbrev REPLAY_CNT_I : Fld := ⟨0x104, 31, 16, 0, 0⟩
abbrev REPLAY_CNT_C : Fld := ⟨0x104, 15, 0, 0, 0⟩
-- OVF_LOG0 (wing, 05)
abbrev OVF_LOG0_VALID : Fld := ⟨0x108, 31, 31, 0, 0⟩
abbrev OVF_LOG0_OVER : Fld := ⟨0x108, 30, 30, 0, 0⟩
abbrev OVF_LOG0_FOLIO : Fld := ⟨0x108, 29, 26, 0, 0⟩
abbrev OVF_LOG0_SET : Fld := ⟨0x108, 25, 24, 0, 0⟩
abbrev OVF_LOG0_ENTRY : Fld := ⟨0x108, 23, 14, 0, 0⟩
abbrev OVF_LOG0_SHIFT : Fld := ⟨0x108, 11, 8, 0, 0⟩
abbrev OVF_LOG0_TAG : Fld := ⟨0x108, 7, 0, 0, 0⟩
-- OVF_CNT (wing, 05)
abbrev OVF_CNT_COUNT : Fld := ⟨0x10C, 15, 0, 0, 0⟩
-- SHIST (wing, 05)
abbrev SHIST_VALID : Fld := ⟨0x400, 4, 4, 0, 4⟩
abbrev SHIST_SHIFT : Fld := ⟨0x400, 3, 0, 0, 4⟩
-- RR_CAUSE (wing, 06)
abbrev RR_CAUSE_COUNT : Fld := ⟨0x110, 31, 24, 0, 0⟩
abbrev RR_CAUSE_NOSLOT : Fld := ⟨0x110, 7, 7, 0, 0⟩
abbrev RR_CAUSE_SLOT_REJ : Fld := ⟨0x110, 6, 6, 0, 0⟩
abbrev RR_CAUSE_CREQ_DROP : Fld := ⟨0x110, 5, 5, 0, 0⟩
abbrev RR_CAUSE_SEM_SAT : Fld := ⟨0x110, 4, 4, 0, 0⟩
abbrev RR_CAUSE_RECL_TMO : Fld := ⟨0x110, 3, 3, 0, 0⟩
abbrev RR_CAUSE_CRED_DROP : Fld := ⟨0x110, 2, 2, 0, 0⟩
abbrev RR_CAUSE_PATROL : Fld := ⟨0x110, 1, 1, 0, 0⟩
abbrev RR_CAUSE_PARITY : Fld := ⟨0x110, 0, 0, 0, 0⟩
-- RR_CAUSE_EN (wing, 06)
abbrev RR_CAUSE_EN_EN : Fld := ⟨0x114, 7, 0, 0xff, 0⟩
-- RR_PAR_LOG (wing, 06)
abbrev RR_PAR_LOG_VALID : Fld := ⟨0x118, 31, 31, 0, 0⟩
abbrev RR_PAR_LOG_OVER : Fld := ⟨0x118, 30, 30, 0, 0⟩
abbrev RR_PAR_LOG_SRC : Fld := ⟨0x118, 29, 29, 0, 0⟩
abbrev RR_PAR_LOG_ENGINE : Fld := ⟨0x118, 28, 26, 0, 0⟩
abbrev RR_PAR_LOG_BANK : Fld := ⟨0x118, 24, 23, 0, 0⟩
abbrev RR_PAR_LOG_LINE : Fld := ⟨0x118, 22, 8, 0, 0⟩
abbrev RR_PAR_LOG_WORD : Fld := ⟨0x118, 7, 4, 0, 0⟩
-- CRED_LOG (wing, 06)
abbrev CRED_LOG_VALID : Fld := ⟨0x11C, 31, 31, 0, 0⟩
abbrev CRED_LOG_OVER : Fld := ⟨0x11C, 30, 30, 0, 0⟩
abbrev CRED_LOG_KIND : Fld := ⟨0x11C, 29, 27, 0, 0⟩
abbrev CRED_LOG_WIN : Fld := ⟨0x11C, 26, 23, 0, 0⟩
abbrev CRED_LOG_EPOCH : Fld := ⟨0x11C, 22, 15, 0, 0⟩
abbrev CRED_LOG_SRC : Fld := ⟨0x11C, 7, 0, 0, 0⟩
-- KV_POOL (wing, 06)
abbrev KV_POOL_COUNT : Fld := ⟨0x120, 27, 16, 0, 0⟩
abbrev KV_POOL_BASE : Fld := ⟨0x120, 10, 0, 0, 0⟩
-- KV_USED (wing, 06)
abbrev KV_USED_BLOCKS : Fld := ⟨0x124, 11, 0, 0, 0⟩
-- SEM_SEL (wing, 06)
abbrev SEM_SEL_SAT : Fld := ⟨0x128, 24, 16, 0, 0⟩
abbrev SEM_SEL_SEM : Fld := ⟨0x128, 8, 0, 0, 0⟩
-- SEM_VAL (wing, 06)
abbrev SEM_VAL_VALUE : Fld := ⟨0x12C, 15, 0, 0, 0⟩
-- RR_CNT (wing, 06)
abbrev RR_CNT_PARITY : Fld := ⟨0x130, 31, 16, 0, 0⟩
abbrev RR_CNT_CRED_DROP : Fld := ⟨0x130, 15, 0, 0, 0⟩
-- CREQ_SEM (wing, 06)
abbrev CREQ_SEM_EN : Fld := ⟨0x134, 9, 9, 0, 0⟩
abbrev CREQ_SEM_SEM : Fld := ⟨0x134, 8, 0, 0, 0⟩
-- CREQ_POP (wing, 06)
abbrev CREQ_POP_VALID : Fld := ⟨0x138, 31, 31, 0, 0⟩
abbrev CREQ_POP_WIN : Fld := ⟨0x138, 30, 27, 0, 0⟩
abbrev CREQ_POP_SRC : Fld := ⟨0x138, 26, 19, 0, 0⟩
abbrev CREQ_POP_LINES : Fld := ⟨0x138, 17, 0, 0, 0⟩
-- CREQ_CNT (wing, 06)
abbrev CREQ_CNT_DEPTH : Fld := ⟨0x13C, 15, 8, 0, 0⟩
abbrev CREQ_CNT_DROPS : Fld := ⟨0x13C, 7, 0, 0, 0⟩
-- SLOT_CUR_LO0 (wing, 06)
abbrev SLOT_CUR_LO0_S : Fld := ⟨0x140, 31, 0, 0x42421111, 0⟩
-- SLOT_CUR_LO1 (wing, 06)
abbrev SLOT_CUR_LO1_S : Fld := ⟨0x148, 31, 0, 0x53334242, 0⟩
-- SLOT_CUR_LO2 (wing, 06)
abbrev SLOT_CUR_LO2_S : Fld := ⟨0x150, 31, 0, 0x76555333, 0⟩
-- SLOT_CUR_LO3 (wing, 06)
abbrev SLOT_CUR_LO3_S : Fld := ⟨0x158, 31, 0, 0x11117655, 0⟩
-- SLOT_CUR_HI0 (wing, 06)
abbrev SLOT_CUR_HI0_S : Fld := ⟨0x144, 31, 0, 0x76555333, 0⟩
-- SLOT_CUR_HI1 (wing, 06)
abbrev SLOT_CUR_HI1_S : Fld := ⟨0x14C, 31, 0, 0x11117655, 0⟩
-- SLOT_CUR_HI2 (wing, 06)
abbrev SLOT_CUR_HI2_S : Fld := ⟨0x154, 31, 0, 0x42421111, 0⟩
-- SLOT_CUR_HI3 (wing, 06)
abbrev SLOT_CUR_HI3_S : Fld := ⟨0x15C, 31, 0, 0x53334242, 0⟩
-- SLOT_NEXT_LO (wing, 06)
abbrev SLOT_NEXT_LO_S : Fld := ⟨0x160, 31, 0, 0, 8⟩
-- SLOT_NEXT_HI (wing, 06)
abbrev SLOT_NEXT_HI_S : Fld := ⟨0x164, 31, 0, 0, 8⟩
-- SLOT_CTRL (wing, 06)
abbrev SLOT_CTRL_LOAD : Fld := ⟨0x180, 0, 0, 0, 0⟩
-- SLOT_STAT (wing, 06)
abbrev SLOT_STAT_PEND : Fld := ⟨0x184, 31, 31, 0, 0⟩
abbrev SLOT_STAT_STATUS : Fld := ⟨0x184, 19, 16, 0, 0⟩
abbrev SLOT_STAT_ENGINE : Fld := ⟨0x184, 15, 12, 0, 0⟩
abbrev SLOT_STAT_BANK : Fld := ⟨0x184, 11, 10, 0, 0⟩
abbrev SLOT_STAT_WIN : Fld := ⟨0x184, 7, 4, 0, 0⟩
abbrev SLOT_STAT_SLOT : Fld := ⟨0x184, 3, 0, 0, 0⟩
-- CW_SRC (wing, 06)
abbrev CW_SRC_STATE : Fld := ⟨0x200, 31, 30, 0, 16⟩
abbrev CW_SRC_EPOCH : Fld := ⟨0x200, 29, 22, 0, 16⟩
abbrev CW_SRC_SEM : Fld := ⟨0x200, 20, 12, 0, 16⟩
abbrev CW_SRC_SRC_NODE : Fld := ⟨0x200, 7, 4, 0, 16⟩
abbrev CW_SRC_SRC_UNIT : Fld := ⟨0x200, 3, 0, 0, 16⟩
-- CW_BASE (wing, 06)
abbrev CW_BASE_BASE : Fld := ⟨0x204, 16, 0, 0, 16⟩
-- CW_LEN (wing, 06)
abbrev CW_LEN_LEN : Fld := ⟨0x208, 17, 0, 0, 16⟩
-- CW_CRED (wing, 06)
abbrev CW_CRED_CRED : Fld := ⟨0x20C, 17, 0, 0, 16⟩
-- KV_ARG (Stack-die, 06)
abbrev KV_ARG_COUNT : Fld := ⟨0x400, 27, 16, 0, 0⟩
abbrev KV_ARG_WING : Fld := ⟨0x400, 14, 12, 0, 0⟩
abbrev KV_ARG_BASE : Fld := ⟨0x400, 10, 0, 0, 0⟩
-- KV_CMD (Stack-die, 06)
abbrev KV_CMD_OP : Fld := ⟨0x404, 11, 10, 0, 0⟩
abbrev KV_CMD_CARREL : Fld := ⟨0x404, 7, 0, 0, 0⟩
-- KV_STAT (Stack-die, 06)
abbrev KV_STAT_CARREL : Fld := ⟨0x408, 15, 8, 0, 0⟩
abbrev KV_STAT_RESULT : Fld := ⟨0x408, 7, 0, 0, 0⟩
-- KV_TAB (Stack-die, 06)
abbrev KV_TAB_VALID : Fld := ⟨0x800, 31, 31, 0, 4⟩
abbrev KV_TAB_WING : Fld := ⟨0x800, 26, 24, 0, 4⟩
abbrev KV_TAB_COUNT : Fld := ⟨0x800, 23, 12, 0, 4⟩
abbrev KV_TAB_BASE : Fld := ⟨0x800, 10, 0, 0, 4⟩
-- LNK_STAT (Stack-die, 07)
abbrev LNK_STAT_UP : Fld := ⟨0x200, 31, 31, 0, 16⟩
abbrev LNK_STAT_SPARE : Fld := ⟨0x200, 30, 30, 0, 16⟩
abbrev LNK_STAT_TRAIN : Fld := ⟨0x200, 29, 28, 0, 16⟩
abbrev LNK_STAT_LANE : Fld := ⟨0x200, 27, 24, 0xf, 16⟩
-- LNK_CNT (Stack-die, 07)
abbrev LNK_CNT_REPLAY : Fld := ⟨0x204, 31, 16, 0, 16⟩
abbrev LNK_CNT_CRC : Fld := ⟨0x204, 15, 0, 0, 16⟩
-- LNK_TRN (Stack-die, 07)
abbrev LNK_TRN_FULL : Fld := ⟨0x208, 15, 8, 0, 16⟩
abbrev LNK_TRN_SHORT : Fld := ⟨0x208, 7, 0, 0, 16⟩
-- LNK_ERR (Stack-die, 07)
abbrev LNK_ERR_VALID : Fld := ⟨0x240, 31, 31, 0, 0⟩
abbrev LNK_ERR_OVER : Fld := ⟨0x240, 30, 30, 0, 0⟩
abbrev LNK_ERR_PORT : Fld := ⟨0x240, 25, 24, 0, 0⟩
abbrev LNK_ERR_TYPE : Fld := ⟨0x240, 23, 16, 0, 0⟩
abbrev LNK_ERR_VC : Fld := ⟨0x240, 15, 14, 0, 0⟩
-- ROUTE (Stack-die, 07)
abbrev ROUTE_SD : Fld := ⟨0x244, 7, 0, 0, 0⟩
-- LNK_CAUSE (Stack-die, 07)
abbrev LNK_CAUSE_COUNT : Fld := ⟨0x250, 31, 24, 0, 0⟩
abbrev LNK_CAUSE_BADPKT : Fld := ⟨0x250, 3, 3, 0, 0⟩
abbrev LNK_CAUSE_ROUTE_CHG : Fld := ⟨0x250, 2, 2, 0, 0⟩
abbrev LNK_CAUSE_LINK_DOWN : Fld := ⟨0x250, 1, 1, 0, 0⟩
abbrev LNK_CAUSE_LANE_SPARE : Fld := ⟨0x250, 0, 0, 0, 0⟩
-- LNK_CAUSE_EN (Stack-die, 07)
abbrev LNK_CAUSE_EN_EN : Fld := ⟨0x254, 3, 0, 0xf, 0⟩
-- TELEM_LAST0 (Stack-die, 07)
abbrev TELEM_LAST0_TEMP : Fld := ⟨0x260, 15, 0, 0, 0⟩
-- TELEM_LAST1 (Stack-die, 07)
abbrev TELEM_LAST1_DROOP : Fld := ⟨0x264, 31, 16, 0, 0⟩
abbrev TELEM_LAST1_LEVEL : Fld := ⟨0x264, 3, 0, 0, 0⟩
-- TELEM_LAST2 (Stack-die, 07)
-- TELEM_LAST3 (Stack-die, 07)
-- CD_LNK_STAT (Control-die, 07)
abbrev CD_LNK_STAT_UP : Fld := ⟨0x100, 31, 31, 0, 16⟩
abbrev CD_LNK_STAT_SPARE : Fld := ⟨0x100, 30, 30, 0, 16⟩
abbrev CD_LNK_STAT_TRAIN : Fld := ⟨0x100, 29, 28, 0, 16⟩
abbrev CD_LNK_STAT_LANE : Fld := ⟨0x100, 27, 24, 0xf, 16⟩
-- CD_LNK_CNT (Control-die, 07)
abbrev CD_LNK_CNT_REPLAY : Fld := ⟨0x104, 31, 16, 0, 16⟩
abbrev CD_LNK_CNT_CRC : Fld := ⟨0x104, 15, 0, 0, 16⟩
-- PARK_CFG (Control-die, 07)
abbrev PARK_CFG_SLOT : Fld := ⟨0x180, 4, 0, 0, 0⟩
-- PARK_NEXT (Control-die, 07)
abbrev PARK_NEXT_NO : Fld := ⟨0x184, 31, 0, 1, 0⟩
-- PARK_SEL (Control-die, 07)
abbrev PARK_SEL_DIE : Fld := ⟨0x188, 9, 8, 0, 0⟩
abbrev PARK_SEL_CARREL : Fld := ⟨0x188, 7, 0, 0, 0⟩
-- PARK_VAL (Control-die, 07)
abbrev PARK_VAL_PARK_NO : Fld := ⟨0x18C, 31, 0, 0, 0⟩
-- PARK_ERR (Control-die, 07)
abbrev PARK_ERR_VALID : Fld := ⟨0x190, 31, 31, 0, 0⟩
abbrev PARK_ERR_OVER : Fld := ⟨0x190, 30, 30, 0, 0⟩
abbrev PARK_ERR_UNPARK : Fld := ⟨0x190, 29, 29, 0, 0⟩
abbrev PARK_ERR_KIND : Fld := ⟨0x190, 19, 16, 0, 0⟩
abbrev PARK_ERR_DIE : Fld := ⟨0x190, 13, 12, 0, 0⟩
abbrev PARK_ERR_CARREL : Fld := ⟨0x190, 7, 0, 0, 0⟩
-- SQ_STAT (Control-die, 08)
abbrev SQ_STAT_STATE : Fld := ⟨0x200, 31, 29, 0, 4⟩
abbrev SQ_STAT_STOPREQ : Fld := ⟨0x200, 28, 28, 0, 4⟩
abbrev SQ_STAT_OUT : Fld := ⟨0x200, 22, 16, 0, 4⟩
abbrev SQ_STAT_PC : Fld := ⟨0x200, 12, 0, 0, 4⟩
-- SQ_RET (Control-die, 08)
abbrev SQ_RET_BASE : Fld := ⟨0x220, 23, 13, 0, 4⟩
-- SQ_FLT (Control-die, 08)
abbrev SQ_FLT_VALID : Fld := ⟨0x240, 31, 31, 0, 4⟩
abbrev SQ_FLT_OVER : Fld := ⟨0x240, 30, 30, 0, 4⟩
abbrev SQ_FLT_ENGINE : Fld := ⟨0x240, 29, 27, 0, 4⟩
abbrev SQ_FLT_CODE : Fld := ⟨0x240, 23, 16, 0, 4⟩
abbrev SQ_FLT_PC : Fld := ⟨0x240, 12, 0, 0, 4⟩
-- SQ_ORDER (Control-die, 08)
abbrev SQ_ORDER_NEXT : Fld := ⟨0x260, 15, 0, 0, 4⟩
-- SEQ_CAUSE (Control-die, 08)
abbrev SEQ_CAUSE_COUNT : Fld := ⟨0x280, 31, 24, 0, 0⟩
abbrev SEQ_CAUSE_FAULT : Fld := ⟨0x280, 7, 0, 0, 0⟩
-- SEQ_CAUSE_EN (Control-die, 08)
abbrev SEQ_CAUSE_EN_EN : Fld := ⟨0x284, 7, 0, 0xff, 0⟩
-- SD_EPOCH (Stack-die, 08)
abbrev SD_EPOCH_NODE : Fld := ⟨0x500, 19, 16, 0, 0⟩
abbrev SD_EPOCH_EPOCH : Fld := ⟨0x500, 15, 0, 0, 0⟩
-- WO_LOG0 (Stack-die, 08)
abbrev WO_LOG0_VALID : Fld := ⟨0x504, 31, 31, 0, 0⟩
abbrev WO_LOG0_OVER : Fld := ⟨0x504, 30, 30, 0, 0⟩
abbrev WO_LOG0_STATUS : Fld := ⟨0x504, 23, 16, 0, 0⟩
abbrev WO_LOG0_SRC_NODE : Fld := ⟨0x504, 15, 12, 0, 0⟩
abbrev WO_LOG0_SRC_UNIT : Fld := ⟨0x504, 11, 8, 0, 0⟩
abbrev WO_LOG0_KIND : Fld := ⟨0x504, 7, 4, 0, 0⟩
abbrev WO_LOG0_DST_UNIT : Fld := ⟨0x504, 3, 0, 0, 0⟩
-- WO_LOG1 (Stack-die, 08)
abbrev WO_LOG1_ORDER : Fld := ⟨0x508, 31, 16, 0, 0⟩
abbrev WO_LOG1_EPOCH : Fld := ⟨0x508, 15, 0, 0, 0⟩
-- WO_CNT (Stack-die, 08)
abbrev WO_CNT_COUNT : Fld := ⟨0x50C, 15, 0, 0, 0⟩
-- WC_STAT (wing, 08)
abbrev WC_STAT_STATE : Fld := ⟨0x190, 31, 29, 0, 0⟩
abbrev WC_STAT_STOPREQ : Fld := ⟨0x190, 28, 28, 0, 0⟩
abbrev WC_STAT_QDEPTH : Fld := ⟨0x190, 27, 25, 0, 0⟩
abbrev WC_STAT_PC : Fld := ⟨0x190, 11, 0, 0, 0⟩
-- WC_ORDER (wing, 08)
abbrev WC_ORDER_ORDER : Fld := ⟨0x194, 31, 16, 0, 0⟩
abbrev WC_ORDER_EPOCH : Fld := ⟨0x194, 15, 0, 0, 0⟩
-- WC_FLT (wing, 08)
abbrev WC_FLT_VALID : Fld := ⟨0x198, 31, 31, 0, 0⟩
abbrev WC_FLT_OVER : Fld := ⟨0x198, 30, 30, 0, 0⟩
abbrev WC_FLT_ENGINE : Fld := ⟨0x198, 29, 27, 0, 0⟩
abbrev WC_FLT_CODE : Fld := ⟨0x198, 23, 16, 0, 0⟩
abbrev WC_FLT_PC : Fld := ⟨0x198, 11, 0, 0, 0⟩
-- WC_ESTAT (wing, 08)
abbrev WC_ESTAT_ESTAT : Fld := ⟨0x19C, 3, 0, 0, 0⟩
-- WC_QFILL (wing, 08)
abbrev WC_QFILL_LINK : Fld := ⟨0x1A0, 15, 12, 0, 0⟩
abbrev WC_QFILL_MOVE : Fld := ⟨0x1A0, 11, 8, 0, 0⟩
abbrev WC_QFILL_VEC : Fld := ⟨0x1A0, 7, 4, 0, 0⟩
abbrev WC_QFILL_CIM : Fld := ⟨0x1A0, 3, 0, 0, 0⟩
-- MV_STAT (wing, 09)
abbrev MV_STAT_OP : Fld := ⟨0x1B0, 31, 29, 0, 0⟩
abbrev MV_STAT_CREDWAIT : Fld := ⟨0x1B0, 28, 28, 0, 0⟩
abbrev MV_STAT_FETCHES : Fld := ⟨0x1B0, 27, 24, 0, 0⟩
abbrev MV_STAT_LEFT : Fld := ⟨0x1B0, 17, 0, 0, 0⟩
-- MV_CNT (wing, 09)
abbrev MV_CNT_LINES : Fld := ⟨0x1B4, 31, 0, 0, 0⟩
-- VEC_CNT (wing, 09)
abbrev VEC_CNT_NONFIN : Fld := ⟨0x1B8, 31, 16, 0, 0⟩
abbrev VEC_CNT_POISONED : Fld := ⟨0x1B8, 15, 0, 0, 0⟩
-- SEAL_NEXT_LO (Control-die, 10)
abbrev SEAL_NEXT_LO_NO_LO : Fld := ⟨0x194, 31, 0, 1, 0⟩
-- SEAL_NEXT_HI (Control-die, 10)
abbrev SEAL_NEXT_HI_NO_HI : Fld := ⟨0x198, 31, 0, 0, 0⟩
-- SQ_ESTAT (Control-die, 10)
abbrev SQ_ESTAT_ESTAT : Fld := ⟨0x2A0, 3, 0, 0, 4⟩
-- SQ_DEPTH (Control-die, 10)
abbrev SQ_DEPTH_LOOPS : Fld := ⟨0x2C0, 6, 4, 0, 4⟩
-- SQ_CALLS (Control-die, 10)
abbrev SQ_CALLS_CALLS : Fld := ⟨0x2E0, 4, 0, 0, 4⟩
-- CAT_CTRL (Control-die, 11)
abbrev CAT_CTRL_SQ_EN : Fld := ⟨0x10000, 15, 8, 0xfe, 0⟩
abbrev CAT_CTRL_DISPATCH_EN : Fld := ⟨0x10000, 0, 0, 1, 0⟩
-- CAT_STAT (Control-die, 11)
abbrev CAT_STAT_ELIGIBLE : Fld := ⟨0x10004, 23, 16, 0, 0⟩
abbrev CAT_STAT_RUNNING : Fld := ⟨0x10004, 15, 8, 0, 0⟩
abbrev CAT_STAT_HELD : Fld := ⟨0x10004, 7, 0, 0, 0⟩
-- Q_SEL (Control-die, 11)
abbrev Q_SEL_QUEUE : Fld := ⟨0x10010, 16, 0, 0, 0⟩
-- Q_CMD (Control-die, 11)
abbrev Q_CMD_OP : Fld := ⟨0x10014, 1, 0, 0, 0⟩
-- Q_RES (Control-die, 11)
abbrev Q_RES_BUSY : Fld := ⟨0x10018, 31, 31, 0, 0⟩
abbrev Q_RES_RESULT : Fld := ⟨0x10018, 7, 0, 0, 0⟩
-- Q_DATA (Control-die, 11)
abbrev Q_DATA_WORD : Fld := ⟨0x10020, 31, 0, 0, 4⟩
-- CANCEL_Q (Control-die, 11)
abbrev CANCEL_Q_QUEUE : Fld := ⟨0x10040, 16, 0, 0, 0⟩
-- CANCEL_POS (Control-die, 11)
abbrev CANCEL_POS_POS : Fld := ⟨0x10044, 15, 0, 0, 0⟩
-- CANCEL_STAT (Control-die, 11)
abbrev CANCEL_STAT_BUSY : Fld := ⟨0x10048, 31, 31, 0, 0⟩
abbrev CANCEL_STAT_RESULT : Fld := ⟨0x10048, 7, 0, 0, 0⟩
-- CARREL_CMD (Control-die, 11)
abbrev CARREL_CMD_WING : Fld := ⟨0x10060, 14, 12, 0, 0⟩
abbrev CARREL_CMD_OP : Fld := ⟨0x10060, 9, 8, 0, 0⟩
abbrev CARREL_CMD_CARREL : Fld := ⟨0x10060, 7, 0, 0, 0⟩
-- CARREL_STAT (Control-die, 11)
abbrev CARREL_STAT_BUSY : Fld := ⟨0x10064, 31, 31, 0, 0⟩
abbrev CARREL_STAT_DIE : Fld := ⟨0x10064, 25, 24, 0, 0⟩
abbrev CARREL_STAT_CARREL : Fld := ⟨0x10064, 23, 16, 0, 0⟩
abbrev CARREL_STAT_KVRES : Fld := ⟨0x10064, 15, 8, 0, 0⟩
abbrev CARREL_STAT_RESULT : Fld := ⟨0x10064, 7, 0, 0, 0⟩
-- CARREL_ARG (Control-die, 11)
abbrev CARREL_ARG_COUNT : Fld := ⟨0x10070, 27, 16, 0, 4⟩
abbrev CARREL_ARG_BASE : Fld := ⟨0x10070, 10, 0, 0, 4⟩
-- SQ_RUNQ (Control-die, 11)
abbrev SQ_RUNQ_VALID : Fld := ⟨0x10100, 31, 31, 0, 8⟩
abbrev SQ_RUNQ_QUEUE : Fld := ⟨0x10100, 16, 0, 0, 8⟩
-- SQ_RUNP (Control-die, 11)
abbrev SQ_RUNP_GEN : Fld := ⟨0x10104, 31, 16, 0, 8⟩
abbrev SQ_RUNP_POS : Fld := ⟨0x10104, 15, 0, 0, 8⟩
-- CAT_CAUSE (Control-die, 11)
abbrev CAT_CAUSE_COUNT : Fld := ⟨0x10180, 31, 24, 0, 0⟩
abbrev CAT_CAUSE_SLIP : Fld := ⟨0x10180, 3, 3, 0, 0⟩
abbrev CAT_CAUSE_RECWRITE : Fld := ⟨0x10180, 2, 2, 0, 0⟩
abbrev CAT_CAUSE_FETCH : Fld := ⟨0x10180, 1, 1, 0, 0⟩
abbrev CAT_CAUSE_DOORBELL : Fld := ⟨0x10180, 0, 0, 0, 0⟩
-- CAT_CAUSE_EN (Control-die, 11)
abbrev CAT_CAUSE_EN_EN : Fld := ⟨0x10184, 3, 0, 0xf, 0⟩
-- CAT_ERR_LOG (Control-die, 11)
abbrev CAT_ERR_LOG_VALID : Fld := ⟨0x10188, 31, 31, 0, 0⟩
abbrev CAT_ERR_LOG_OVER : Fld := ⟨0x10188, 30, 30, 0, 0⟩
abbrev CAT_ERR_LOG_KIND : Fld := ⟨0x10188, 23, 17, 0, 0⟩
abbrev CAT_ERR_LOG_QUEUE : Fld := ⟨0x10188, 16, 0, 0, 0⟩
-- CQ_CAUSE (Control-die, 11)
abbrev CQ_CAUSE_COUNT : Fld := ⟨0x10190, 31, 24, 0, 0⟩
abbrev CQ_CAUSE_CQ : Fld := ⟨0x10190, 23, 0, 0, 0⟩
-- CQ_CAUSE_EN (Control-die, 11)
abbrev CQ_CAUSE_EN_EN : Fld := ⟨0x10194, 23, 0, 0xffffff, 0⟩
-- MIRROR_STAT (Control-die, 11)
abbrev MIRROR_STAT_VALID : Fld := ⟨0x101A0, 31, 31, 0, 0⟩
abbrev MIRROR_STAT_LAG : Fld := ⟨0x101A0, 15, 0, 0, 0⟩
-- CARREL_TAB (Control-die, 11)
abbrev CARREL_TAB_ADMITTED : Fld := ⟨0x10400, 31, 31, 0, 4⟩
abbrev CARREL_TAB_RUNNING : Fld := ⟨0x10400, 23, 16, 0, 4⟩
abbrev CARREL_TAB_WING : Fld := ⟨0x10400, 10, 8, 0, 4⟩
-- WDT_CFG (Control-die, 12)
abbrev WDT_CFG_MODE : Fld := ⟨0x2000, 31, 31, 0, 0⟩
abbrev WDT_CFG_TIMEOUT : Fld := ⟨0x2000, 13, 0, 0x14, 0⟩
-- WDT_KICK (Control-die, 12)
abbrev WDT_KICK_KEY : Fld := ⟨0x2004, 31, 0, 0, 0⟩
-- WDT_STAT (Control-die, 12)
abbrev WDT_STAT_RUNNING : Fld := ⟨0x2008, 31, 31, 0, 0⟩
abbrev WDT_STAT_FROZEN : Fld := ⟨0x2008, 30, 30, 0, 0⟩
abbrev WDT_STAT_EXPIRED : Fld := ⟨0x2008, 29, 29, 0, 0⟩
abbrev WDT_STAT_TRAPPING : Fld := ⟨0x2008, 28, 28, 0, 0⟩
abbrev WDT_STAT_LEFT : Fld := ⟨0x2008, 23, 0, 0, 0⟩
-- WDT_CNT (Control-die, 12)
abbrev WDT_CNT_EXPIRIES : Fld := ⟨0x200C, 31, 16, 0, 0⟩
abbrev WDT_CNT_BADKICK : Fld := ⟨0x200C, 15, 0, 0, 0⟩
-- TRAP_SAVE (Control-die, 12)
abbrev TRAP_SAVE_VALID : Fld := ⟨0x2010, 31, 31, 0, 0⟩
abbrev TRAP_SAVE_PC : Fld := ⟨0x2010, 12, 0, 0, 0⟩
-- PAIR_STAT (Control-die, 12)
abbrev PAIR_STAT_EPOCH : Fld := ⟨0x3000, 31, 16, 0, 0⟩
abbrev PAIR_STAT_ROLE : Fld := ⟨0x3000, 15, 15, 0, 0⟩
abbrev PAIR_STAT_DIE : Fld := ⟨0x3000, 14, 14, 0, 0⟩
abbrev PAIR_STAT_PARTNER : Fld := ⟨0x3000, 13, 12, 0, 0⟩
abbrev PAIR_STAT_XLINK : Fld := ⟨0x3000, 11, 11, 0, 0⟩
abbrev PAIR_STAT_PAIRLINE : Fld := ⟨0x3000, 10, 10, 0, 0⟩
abbrev PAIR_STAT_SEIZE_UNCONF : Fld := ⟨0x3000, 9, 9, 0, 0⟩
abbrev PAIR_STAT_EPOCH_END : Fld := ⟨0x3000, 8, 8, 0, 0⟩
abbrev PAIR_STAT_LAST_CAUSE : Fld := ⟨0x3000, 7, 4, 0, 0⟩
abbrev PAIR_STAT_STALE : Fld := ⟨0x3000, 3, 3, 0, 0⟩
abbrev PAIR_STAT_SEIZED : Fld := ⟨0x3000, 1, 0, 0, 0⟩
-- PAIR_CTRL (Control-die, 12)
abbrev PAIR_CTRL_HANDOVER : Fld := ⟨0x3004, 3, 3, 0, 0⟩
abbrev PAIR_CTRL_SEIZE : Fld := ⟨0x3004, 2, 2, 0, 0⟩
abbrev PAIR_CTRL_REJOIN_AUTO : Fld := ⟨0x3004, 1, 1, 1, 0⟩
abbrev PAIR_CTRL_REJOIN : Fld := ⟨0x3004, 0, 0, 0, 0⟩
-- PAIR_T (Control-die, 12)
abbrev PAIR_T_US : Fld := ⟨0x3008, 31, 0, 0, 0⟩
-- PAIR_CNT (Control-die, 12)
abbrev PAIR_CNT_TAKEOVERS : Fld := ⟨0x300C, 31, 24, 0, 0⟩
abbrev PAIR_CNT_SEIZURES : Fld := ⟨0x300C, 23, 16, 0, 0⟩
abbrev PAIR_CNT_ORPHAN : Fld := ⟨0x300C, 15, 8, 0, 0⟩
abbrev PAIR_CNT_HB_MISS : Fld := ⟨0x300C, 7, 0, 0, 0⟩
-- PAIR_CAUSE (Control-die, 12)
abbrev PAIR_CAUSE_COUNT : Fld := ⟨0x3010, 31, 24, 0, 0⟩
abbrev PAIR_CAUSE_SLEEP_DRIFT : Fld := ⟨0x3010, 6, 6, 0, 0⟩
abbrev PAIR_CAUSE_STALE_MIRROR : Fld := ⟨0x3010, 5, 5, 0, 0⟩
abbrev PAIR_CAUSE_PAIRLINE_FAULT : Fld := ⟨0x3010, 4, 4, 0, 0⟩
abbrev PAIR_CAUSE_XLINK_DOWN : Fld := ⟨0x3010, 3, 3, 0, 0⟩
abbrev PAIR_CAUSE_REJOINED : Fld := ⟨0x3010, 2, 2, 0, 0⟩
abbrev PAIR_CAUSE_SEIZED_PARTNER : Fld := ⟨0x3010, 1, 1, 0, 0⟩
abbrev PAIR_CAUSE_TAKEOVER : Fld := ⟨0x3010, 0, 0, 0, 0⟩
-- PAIR_CAUSE_EN (Control-die, 12)
abbrev PAIR_CAUSE_EN_EN : Fld := ⟨0x3014, 6, 0, 0x7f, 0⟩
-- COM_ERR_LOG (Control-die, 12)
abbrev COM_ERR_LOG_VALID : Fld := ⟨0x60000, 31, 31, 0, 0⟩
abbrev COM_ERR_LOG_OVER : Fld := ⟨0x60000, 30, 30, 0, 0⟩
abbrev COM_ERR_LOG_KIND : Fld := ⟨0x60000, 29, 28, 0, 0⟩
abbrev COM_ERR_LOG_MASTER : Fld := ⟨0x60000, 27, 24, 0, 0⟩
abbrev COM_ERR_LOG_WORD : Fld := ⟨0x60000, 23, 3, 0, 0⟩
-- COM_ERR_BIT (Control-die, 12)
abbrev COM_ERR_BIT_BIT : Fld := ⟨0x60004, 6, 0, 0, 0⟩
-- COM_CNT (Control-die, 12)
abbrev COM_CNT_CE : Fld := ⟨0x60008, 31, 16, 0, 0⟩
abbrev COM_CNT_UE : Fld := ⟨0x60008, 15, 0, 0, 0⟩
-- COM_SPARE (Control-die, 12)
abbrev COM_SPARE_USED : Fld := ⟨0x6000C, 15, 0, 0, 0⟩
-- COM_CAUSE (Control-die, 12)
abbrev COM_CAUSE_COUNT : Fld := ⟨0x60010, 31, 24, 0, 0⟩
abbrev COM_CAUSE_UE : Fld := ⟨0x60010, 1, 1, 0, 0⟩
abbrev COM_CAUSE_CE : Fld := ⟨0x60010, 0, 0, 0, 0⟩
-- COM_CAUSE_EN (Control-die, 12)
abbrev COM_CAUSE_EN_EN : Fld := ⟨0x60014, 1, 0, 3, 0⟩
-- LD_ID (Load-die, 13)
abbrev LD_ID_PART : Fld := ⟨0x0, 15, 8, 0xb7, 0⟩
abbrev LD_ID_STEP : Fld := ⟨0x0, 7, 4, 0, 0⟩
abbrev LD_ID_DIE : Fld := ⟨0x0, 0, 0, 0, 0⟩
-- LD_STAT (Load-die, 13)
abbrev LD_STAT_LIMP : Fld := ⟨0x2, 15, 15, 1, 0⟩
abbrev LD_STAT_SRC : Fld := ⟨0x2, 14, 12, 1, 0⟩
abbrev LD_STAT_UV : Fld := ⟨0x2, 11, 11, 0, 0⟩
abbrev LD_STAT_RESTARTING : Fld := ⟨0x2, 10, 10, 0, 0⟩
abbrev LD_STAT_MUTE : Fld := ⟨0x2, 9, 9, 0, 0⟩
abbrev LD_STAT_MICPWR_ON : Fld := ⟨0x2, 8, 8, 0, 0⟩
abbrev LD_STAT_LIMP_N : Fld := ⟨0x2, 7, 7, 0, 0⟩
abbrev LD_STAT_AGG_OVER : Fld := ⟨0x2, 3, 3, 0, 0⟩
abbrev LD_STAT_FEEDCUT : Fld := ⟨0x2, 2, 0, 0, 0⟩
-- LD_CAUSE (Load-die, 13)
abbrev LD_CAUSE_COUNT : Fld := ⟨0x4, 15, 8, 0, 0⟩
abbrev LD_CAUSE_AGG_OVER : Fld := ⟨0x4, 6, 6, 0, 0⟩
abbrev LD_CAUSE_OVERRUN : Fld := ⟨0x4, 5, 5, 0, 0⟩
abbrev LD_CAUSE_FEEDCUT : Fld := ⟨0x4, 4, 4, 0, 0⟩
abbrev LD_CAUSE_UV_RESTORED : Fld := ⟨0x4, 3, 3, 0, 0⟩
abbrev LD_CAUSE_UV : Fld := ⟨0x4, 2, 2, 0, 0⟩
abbrev LD_CAUSE_LIMP_EXIT : Fld := ⟨0x4, 1, 1, 0, 0⟩
abbrev LD_CAUSE_LIMP_ENTRY : Fld := ⟨0x4, 0, 0, 0, 0⟩
-- LD_CAUSE_EN (Load-die, 13)
abbrev LD_CAUSE_EN_EN : Fld := ⟨0x6, 6, 0, 0x7f, 0⟩
-- CH_SUM_LO (Load-die, 13)
abbrev CH_SUM_LO_CH : Fld := ⟨0x8, 15, 0, 0, 0⟩
-- CH_SUM_HI (Load-die, 13)
abbrev CH_SUM_HI_CH : Fld := ⟨0xA, 7, 0, 0, 0⟩
-- UV_CFG (Load-die, 13)
abbrev UV_CFG_TH : Fld := ⟨0xC, 7, 0, 0x14, 0⟩
-- UV_CNT (Load-die, 13)
abbrev UV_CNT_SHUTDOWNS : Fld := ⟨0xE, 15, 0, 0, 0⟩
-- FEEDCUT_CTRL (Load-die, 13)
abbrev FEEDCUT_CTRL_CLR : Fld := ⟨0x10, 2, 0, 0, 0⟩
-- FEEDCUT_CNT (Load-die, 13)
abbrev FEEDCUT_CNT_G : Fld := ⟨0x12, 5, 0, 0, 0⟩
-- LIMP_CTRL (Load-die, 13)
abbrev LIMP_CTRL_EXIT : Fld := ⟨0x14, 0, 0, 0, 0⟩
-- HB_STAT (Load-die, 13)
abbrev HB_STAT_AGE : Fld := ⟨0x16, 7, 0, 0xff, 0⟩
-- MICPWR_CTRL (Load-die, 13)
abbrev MICPWR_CTRL_EN : Fld := ⟨0x18, 0, 0, 1, 0⟩
-- AGG_CUR (Load-die, 13)
abbrev AGG_CUR_SUM : Fld := ⟨0x1A, 11, 0, 0, 0⟩
-- CH_ILIM (Load-die, 13)
abbrev CH_ILIM_ILIM : Fld := ⟨0x40, 7, 0, 0, 64⟩
-- CH_INRUSH (Load-die, 13)
abbrev CH_INRUSH_MULT : Fld := ⟨0x42, 13, 12, 0, 64⟩
abbrev CH_INRUSH_WINDOW : Fld := ⟨0x42, 9, 0, 0, 64⟩
-- CH_CMD (Load-die, 13)
abbrev CH_CMD_SLOW : Fld := ⟨0x44, 2, 2, 0, 64⟩
abbrev CH_CMD_OP : Fld := ⟨0x44, 1, 0, 0, 64⟩
-- CH_RETRY (Load-die, 13)
abbrev CH_RETRY_STRAT : Fld := ⟨0x46, 15, 14, 0, 64⟩
abbrev CH_RETRY_COUNT : Fld := ⟨0x46, 13, 10, 0, 64⟩
abbrev CH_RETRY_INTERVAL : Fld := ⟨0x46, 9, 0, 0, 64⟩
-- CH_RETRY2 (Load-die, 13)
abbrev CH_RETRY2_CAP : Fld := ⟨0x48, 15, 8, 0, 64⟩
abbrev CH_RETRY2_GOOD : Fld := ⟨0x48, 7, 0, 0, 64⟩
-- CH_WIRE (Load-die, 13)
abbrev CH_WIRE_WIRE_I : Fld := ⟨0x4A, 7, 0, 0, 64⟩
-- CH_BUDGET (Load-die, 13)
abbrev CH_BUDGET_BUDGET : Fld := ⟨0x4C, 15, 0, 0, 64⟩
-- CH_I2T_PER (Load-die, 13)
abbrev CH_I2T_PER_PER : Fld := ⟨0x4E, 3, 0, 1, 64⟩
-- CH_RPRIO (Load-die, 13)
abbrev CH_RPRIO_PRIO : Fld := ⟨0x50, 2, 0, 0, 64⟩
-- CH_OFFDIAG (Load-die, 13)
abbrev CH_OFFDIAG_EN : Fld := ⟨0x52, 0, 0, 0, 64⟩
-- CH_STAT (Load-die, 13)
abbrev CH_STAT_ON : Fld := ⟨0x54, 15, 15, 0, 64⟩
abbrev CH_STAT_OUT : Fld := ⟨0x54, 14, 14, 0, 64⟩
abbrev CH_STAT_INRUSH : Fld := ⟨0x54, 13, 13, 0, 64⟩
abbrev CH_STAT_AT_LIMIT : Fld := ⟨0x54, 12, 12, 0, 64⟩
abbrev CH_STAT_LIMP : Fld := ⟨0x54, 11, 11, 0, 64⟩
abbrev CH_STAT_LATCHED : Fld := ⟨0x54, 10, 10, 0, 64⟩
abbrev CH_STAT_RETRY_WAIT : Fld := ⟨0x54, 9, 9, 0, 64⟩
abbrev CH_STAT_RESTART_PEND : Fld := ⟨0x54, 8, 8, 0, 64⟩
abbrev CH_STAT_CLAMPED : Fld := ⟨0x54, 7, 7, 0, 64⟩
abbrev CH_STAT_HOT : Fld := ⟨0x54, 6, 6, 0, 64⟩
abbrev CH_STAT_FEEDCUT : Fld := ⟨0x54, 5, 5, 0, 64⟩
-- CH_FAULT (Load-die, 13)
abbrev CH_FAULT_CODE : Fld := ⟨0x56, 15, 8, 0, 64⟩
abbrev CH_FAULT_RETRIES : Fld := ⟨0x56, 3, 0, 0, 64⟩
-- CH_CAUSE (Load-die, 13)
abbrev CH_CAUSE_COUNT : Fld := ⟨0x58, 15, 8, 0, 64⟩
abbrev CH_CAUSE_INRUSH_END : Fld := ⟨0x58, 7, 7, 0, 64⟩
abbrev CH_CAUSE_STUCK_ON : Fld := ⟨0x58, 6, 6, 0, 64⟩
abbrev CH_CAUSE_STB : Fld := ⟨0x58, 5, 5, 0, 64⟩
abbrev CH_CAUSE_OL_OFF : Fld := ⟨0x58, 4, 4, 0, 64⟩
abbrev CH_CAUSE_OL_ON : Fld := ⟨0x58, 3, 3, 0, 64⟩
abbrev CH_CAUSE_I2T : Fld := ⟨0x58, 2, 2, 0, 64⟩
abbrev CH_CAUSE_OT : Fld := ⟨0x58, 1, 1, 0, 64⟩
abbrev CH_CAUSE_SHORT : Fld := ⟨0x58, 0, 0, 0, 64⟩
-- CH_CAUSE_EN (Load-die, 13)
abbrev CH_CAUSE_EN_EN : Fld := ⟨0x5A, 7, 0, 0x7f, 64⟩
-- CH_CUR (Load-die, 13)
abbrev CH_CUR_I : Fld := ⟨0x5C, 11, 0, 0, 64⟩
-- CH_TEMP (Load-die, 13)
abbrev CH_TEMP_T : Fld := ⟨0x5E, 11, 0, 0, 64⟩
-- CH_I2T_Q (Load-die, 13)
abbrev CH_I2T_Q_Q : Fld := ⟨0x60, 15, 0, 0, 64⟩
-- CH_LEARN (Load-die, 13)
abbrev CH_LEARN_VALID : Fld := ⟨0x62, 15, 15, 0, 64⟩
abbrev CH_LEARN_LMAX : Fld := ⟨0x62, 9, 0, 0, 64⟩
-- CH_CNT (Load-die, 13)
abbrev CH_CNT_TRIPS : Fld := ⟨0x64, 15, 8, 0, 64⟩
abbrev CH_CNT_CLAMPS : Fld := ⟨0x64, 7, 0, 0, 64⟩
-- CH_OTP_A (Load-die, 13)
abbrev CH_OTP_A_VAL : Fld := ⟨0x66, 15, 0, 0, 64⟩
-- CH_OTP_B (Load-die, 13)
abbrev CH_OTP_B_VAL : Fld := ⟨0x68, 15, 0, 0, 64⟩
-- CH_OTP_C (Load-die, 13)
abbrev CH_OTP_C_VAL : Fld := ⟨0x6A, 15, 0, 0, 64⟩
-- ADC_CTRL (Load-die, 13)
abbrev ADC_CTRL_LEN : Fld := ⟨0x640, 13, 8, 0, 0⟩
abbrev ADC_CTRL_PER_EN : Fld := ⟨0x640, 1, 1, 0, 0⟩
abbrev ADC_CTRL_TRIG : Fld := ⟨0x640, 0, 0, 0, 0⟩
-- ADC_PER (Load-die, 13)
abbrev ADC_PER_PERIOD : Fld := ⟨0x642, 15, 0, 0, 0⟩
-- ADC_STAT (Load-die, 13)
abbrev ADC_STAT_RUN : Fld := ⟨0x644, 15, 15, 0, 0⟩
abbrev ADC_STAT_PEND : Fld := ⟨0x644, 14, 14, 0, 0⟩
abbrev ADC_STAT_OVERRUN : Fld := ⟨0x644, 7, 0, 0, 0⟩
-- ADC_SEQNO (Load-die, 13)
abbrev ADC_SEQNO_N : Fld := ⟨0x646, 15, 0, 0, 0⟩
-- ADC_SEQ (Load-die, 13)
abbrev ADC_SEQ_SRC : Fld := ⟨0x680, 4, 0, 0, 2⟩
-- ADC_RES (Load-die, 13)
abbrev ADC_RES_CODE : Fld := ⟨0x6C0, 11, 0, 0, 2⟩
-- ADC_LAST (Load-die, 13)
abbrev ADC_LAST_CODE : Fld := ⟨0x700, 11, 0, 0, 2⟩
-- OTP_ADDR (Load-die, 13)
abbrev OTP_ADDR_WORD : Fld := ⟨0x740, 6, 0, 0, 0⟩
-- OTP_DATA (Load-die, 13)
abbrev OTP_DATA_DATA : Fld := ⟨0x742, 15, 0, 0, 0⟩
-- OTP_CMD (Load-die, 13)
abbrev OTP_CMD_PROG : Fld := ⟨0x744, 0, 0, 0, 0⟩
-- OTP_STAT (Load-die, 13)
abbrev OTP_STAT_BUSY : Fld := ⟨0x746, 15, 15, 0, 0⟩
abbrev OTP_STAT_ERR : Fld := ⟨0x746, 7, 0, 0, 0⟩
-- LG_CAP (Control-die, 14)
abbrev LG_CAP_CEIL : Fld := ⟨0x7000, 31, 16, 0x1f4, 0⟩
abbrev LG_CAP_CAP : Fld := ⟨0x7000, 15, 0, 0x1f4, 0⟩
-- LG_SOFT (Control-die, 14)
abbrev LG_SOFT_SOFT : Fld := ⟨0x7004, 15, 0, 0x1f4, 0⟩
-- LG_SAG (Control-die, 14)
abbrev LG_SAG_UP : Fld := ⟨0x7008, 31, 24, 4, 0⟩
abbrev LG_SAG_DN : Fld := ⟨0x7008, 23, 16, 8, 0⟩
abbrev LG_SAG_VMIN : Fld := ⟨0x7008, 8, 0, 0x69, 0⟩
-- LG_HELD (Control-die, 14)
abbrev LG_HELD_GUAR : Fld := ⟨0x700C, 31, 16, 0, 0⟩
abbrev LG_HELD_HELD : Fld := ⟨0x700C, 15, 0, 0, 0⟩
-- LG_FLOOR (Control-die, 14)
abbrev LG_FLOOR_FLOOR : Fld := ⟨0x7010, 15, 0, 0, 0⟩
-- LG_VBAT (Control-die, 14)
abbrev LG_VBAT_CODE : Fld := ⟨0x7014, 11, 0, 0, 0⟩
-- LG_CAUSE (Control-die, 14)
abbrev LG_CAUSE_COUNT : Fld := ⟨0x7018, 31, 24, 0, 0⟩
abbrev LG_CAUSE_PMIS : Fld := ⟨0x7018, 5, 5, 0, 0⟩
abbrev LG_CAUSE_CLAMP : Fld := ⟨0x7018, 4, 4, 0, 0⟩
abbrev LG_CAUSE_SAG : Fld := ⟨0x7018, 3, 3, 0, 0⟩
abbrev LG_CAUSE_REFUSE : Fld := ⟨0x7018, 2, 2, 0, 0⟩
abbrev LG_CAUSE_SHED : Fld := ⟨0x7018, 1, 1, 0, 0⟩
abbrev LG_CAUSE_DEMOTE : Fld := ⟨0x7018, 0, 0, 0, 0⟩
-- LG_CAUSE_EN (Control-die, 14)
abbrev LG_CAUSE_EN_EN : Fld := ⟨0x701C, 5, 0, 0x3f, 0⟩
-- LG_LOG (Control-die, 14)
abbrev LG_LOG_VALID : Fld := ⟨0x7020, 31, 31, 0, 0⟩
abbrev LG_LOG_OVER : Fld := ⟨0x7020, 30, 30, 0, 0⟩
abbrev LG_LOG_KIND : Fld := ⟨0x7020, 29, 27, 0, 0⟩
abbrev LG_LOG_ENTRY : Fld := ⟨0x7020, 22, 16, 0, 0⟩
abbrev LG_LOG_CAP : Fld := ⟨0x7020, 15, 0, 0, 0⟩
-- LG_CNT (Control-die, 14)
abbrev LG_CNT_DEMOTES : Fld := ⟨0x7024, 31, 24, 0, 0⟩
abbrev LG_CNT_SHEDS : Fld := ⟨0x7024, 23, 16, 0, 0⟩
abbrev LG_CNT_REFUSALS : Fld := ⟨0x7024, 15, 8, 0, 0⟩
abbrev LG_CNT_CLAMPS : Fld := ⟨0x7024, 7, 0, 0, 0⟩
-- LG_BASE (Control-die, 14)
abbrev LG_BASE_LVLMAX : Fld := ⟨0x7030, 31, 16, 0xffff, 0⟩
abbrev LG_BASE_BASE : Fld := ⟨0x7030, 15, 0, 0x1111, 0⟩
-- LG_LEVEL (Control-die, 14)
abbrev LG_LEVEL_LEVEL : Fld := ⟨0x7034, 15, 0, 0, 0⟩
-- LG_PTAB (Control-die, 14)
abbrev LG_PTAB_UNITS : Fld := ⟨0x7040, 15, 0, 0, 4⟩
-- LG_PMIS (Control-die, 14)
abbrev LG_PMIS_CH : Fld := ⟨0x7090, 23, 0, 0, 0⟩
-- GNT_A (Control-die, 14)
abbrev GNT_A_EXCESS : Fld := ⟨0x7200, 31, 16, 0, 8⟩
abbrev GNT_A_AMOUNT : Fld := ⟨0x7200, 15, 0, 0, 8⟩
-- GNT_B (Control-die, 14)
abbrev GNT_B_STATE : Fld := ⟨0x7204, 31, 30, 0, 8⟩
abbrev GNT_B_GUAR : Fld := ⟨0x7204, 29, 29, 0, 8⟩
abbrev GNT_B_ASKED_G : Fld := ⟨0x7204, 28, 28, 0, 8⟩
abbrev GNT_B_SAFETY : Fld := ⟨0x7204, 27, 27, 0, 8⟩
abbrev GNT_B_FIXED : Fld := ⟨0x7204, 26, 26, 0, 8⟩
abbrev GNT_B_PARTNER : Fld := ⟨0x7204, 25, 25, 0, 8⟩
abbrev GNT_B_DEMOTED : Fld := ⟨0x7204, 24, 24, 0, 8⟩
abbrev GNT_B_PRIO : Fld := ⟨0x7204, 23, 21, 0, 8⟩
abbrev GNT_B_DIE : Fld := ⟨0x7204, 20, 19, 0, 8⟩
abbrev GNT_B_LEVEL : Fld := ⟨0x7204, 18, 15, 0, 8⟩
-- LB_CTRL (Control-die, 14)
abbrev LB_CTRL_TEL_PER : Fld := ⟨0x8000, 23, 16, 0xa, 0⟩
abbrev LB_CTRL_POLL_US : Fld := ⟨0x8000, 7, 0, 2, 0⟩
-- LB_STAT (Control-die, 14)
abbrev LB_STAT_LD1 : Fld := ⟨0x8004, 15, 8, 0, 0⟩
abbrev LB_STAT_LD0 : Fld := ⟨0x8004, 7, 0, 0, 0⟩
-- LB_CNT (Control-die, 14)
abbrev LB_CNT_RESENDS : Fld := ⟨0x8008, 31, 16, 0, 4⟩
abbrev LB_CNT_STALE_HB : Fld := ⟨0x8008, 15, 8, 0, 4⟩
abbrev LB_CNT_DROPS : Fld := ⟨0x8008, 7, 0, 0, 4⟩
-- LB_ERR (Control-die, 14)
abbrev LB_ERR_VALID : Fld := ⟨0x8010, 31, 31, 0, 0⟩
abbrev LB_ERR_OVER : Fld := ⟨0x8010, 30, 30, 0, 0⟩
abbrev LB_ERR_DIE : Fld := ⟨0x8010, 28, 28, 0, 0⟩
abbrev LB_ERR_KIND : Fld := ⟨0x8010, 27, 24, 0, 0⟩
abbrev LB_ERR_INIT : Fld := ⟨0x8010, 23, 16, 0, 0⟩
abbrev LB_ERR_REG : Fld := ⟨0x8010, 13, 0, 0, 0⟩
-- LB_CAUSE (Control-die, 14)
abbrev LB_CAUSE_COUNT : Fld := ⟨0x8014, 31, 24, 0, 0⟩
abbrev LB_CAUSE_LOCK_EXP : Fld := ⟨0x8014, 4, 4, 0, 0⟩
abbrev LB_CAUSE_ERR : Fld := ⟨0x8014, 3, 3, 0, 0⟩
abbrev LB_CAUSE_STALE_HB : Fld := ⟨0x8014, 2, 2, 0, 0⟩
abbrev LB_CAUSE_LD1_EVENT : Fld := ⟨0x8014, 1, 1, 0, 0⟩
abbrev LB_CAUSE_LD0_EVENT : Fld := ⟨0x8014, 0, 0, 0, 0⟩
-- LB_CAUSE_EN (Control-die, 14)
abbrev LB_CAUSE_EN_EN : Fld := ⟨0x8018, 4, 0, 0x1f, 0⟩
-- LB_LOCK (Control-die, 14)
abbrev LB_LOCK_HELD : Fld := ⟨0x8020, 31, 31, 0, 4⟩
abbrev LB_LOCK_HOLDER : Fld := ⟨0x8020, 23, 16, 0, 4⟩
abbrev LB_LOCK_REL : Fld := ⟨0x8020, 1, 1, 0, 4⟩
abbrev LB_LOCK_REQ : Fld := ⟨0x8020, 0, 0, 0, 4⟩
-- LB_STAGE (Control-die, 14)
abbrev LB_STAGE_IN_USE : Fld := ⟨0x8028, 3, 0, 0, 0⟩
-- LEVEL (Stack-die, 14)
abbrev LEVEL_IN_FORCE : Fld := ⟨0x600, 7, 4, 0, 0⟩
abbrev LEVEL_LEVEL : Fld := ⟨0x600, 3, 0, 0, 0⟩
-- LS_CTRL (Control-die, 15)
abbrev LS_CTRL_FORCE2 : Fld := ⟨0x6000, 8, 8, 0, 0⟩
abbrev LS_CTRL_CAPTURE : Fld := ⟨0x6000, 4, 4, 0, 0⟩
abbrev LS_CTRL_KW_TO2 : Fld := ⟨0x6000, 2, 2, 1, 0⟩
abbrev LS_CTRL_STAGE1_EN : Fld := ⟨0x6000, 1, 1, 1, 0⟩
abbrev LS_CTRL_LISTEN_EN : Fld := ⟨0x6000, 0, 0, 1, 0⟩
-- LS_STAT (Control-die, 15)
abbrev LS_STAT_MUTED : Fld := ⟨0x6004, 31, 31, 0, 0⟩
abbrev LS_STAT_SETTLE : Fld := ⟨0x6004, 30, 30, 0, 0⟩
abbrev LS_STAT_STAGE : Fld := ⟨0x6004, 29, 28, 0, 0⟩
abbrev LS_STAT_POCKET_OK : Fld := ⟨0x6004, 27, 27, 0, 0⟩
abbrev LS_STAT_FLOOR_DEF : Fld := ⟨0x6004, 26, 26, 1, 0⟩
abbrev LS_STAT_TH0_DEF : Fld := ⟨0x6004, 25, 25, 1, 0⟩
abbrev LS_STAT_SEG_OPEN : Fld := ⟨0x6004, 24, 24, 0, 0⟩
abbrev LS_STAT_BEAM : Fld := ⟨0x6004, 23, 21, 0, 0⟩
abbrev LS_STAT_SEG : Fld := ⟨0x6004, 15, 0, 0, 0⟩
-- LS_MIC (Control-die, 15)
abbrev LS_MIC_PDM_RATE : Fld := ⟨0x6008, 21, 20, 1, 0⟩
abbrev LS_MIC_KW_MIC1 : Fld := ⟨0x6008, 18, 16, 1, 0⟩
abbrev LS_MIC_KW_MIC0 : Fld := ⟨0x6008, 14, 12, 0, 0⟩
abbrev LS_MIC_STAGE0_MIC : Fld := ⟨0x6008, 9, 8, 0, 0⟩
abbrev LS_MIC_MIC_EN : Fld := ⟨0x6008, 7, 0, 0xf, 0⟩
-- LS_FLOOR (Control-die, 15)
abbrev LS_FLOOR_FLOOR0 : Fld := ⟨0x600C, 31, 24, 0x78, 0⟩
abbrev LS_FLOOR_TH0 : Fld := ⟨0x600C, 23, 16, 0x18, 0⟩
abbrev LS_FLOOR_N0 : Fld := ⟨0x600C, 7, 0, 0, 0⟩
-- LS_TIME0 (Control-die, 15)
abbrev LS_TIME0_END_MS : Fld := ⟨0x6010, 31, 16, 0x1f4, 0⟩
abbrev LS_TIME0_KW_HOLD : Fld := ⟨0x6010, 15, 0, 0x5dc, 0⟩
-- LS_TIME1 (Control-die, 15)
abbrev LS_TIME1_ATTACK : Fld := ⟨0x6014, 23, 16, 3, 0⟩
abbrev LS_TIME1_MAXSEG : Fld := ⟨0x6014, 15, 8, 0x96, 0⟩
abbrev LS_TIME1_PREROLL : Fld := ⟨0x6014, 7, 0, 0x32, 0⟩
-- LS_YIELD (Control-die, 15)
abbrev LS_YIELD_YIELD_DB : Fld := ⟨0x6018, 15, 8, 0xc, 0⟩
abbrev LS_YIELD_YIELD_T : Fld := ⟨0x6018, 7, 0, 0xc, 0⟩
-- LS_FRAME (Control-die, 15)
abbrev LS_FRAME_FRAME : Fld := ⟨0x601C, 31, 0, 0, 0⟩
-- LS_GAIN (Control-die, 15)
abbrev LS_GAIN_GAIN : Fld := ⟨0x6020, 5, 0, 0, 4⟩
-- LS_LEVEL (Control-die, 15)
abbrev LS_LEVEL_NB : Fld := ⟨0x6040, 15, 8, 0, 4⟩
abbrev LS_LEVEL_L : Fld := ⟨0x6040, 7, 0, 0, 4⟩
-- LS_CAUSE (Control-die, 15)
abbrev LS_CAUSE_COUNT : Fld := ⟨0x6060, 31, 24, 0, 0⟩
abbrev LS_CAUSE_CLIP : Fld := ⟨0x6060, 8, 8, 0, 0⟩
abbrev LS_CAUSE_MUTE_CHANGE : Fld := ⟨0x6060, 7, 7, 0, 0⟩
abbrev LS_CAUSE_POCKET_TALLY : Fld := ⟨0x6060, 6, 6, 0, 0⟩
abbrev LS_CAUSE_PB_UNDERRUN : Fld := ⟨0x6060, 5, 5, 0, 0⟩
abbrev LS_CAUSE_CAP_DROP : Fld := ⟨0x6060, 4, 4, 0, 0⟩
abbrev LS_CAUSE_OVERLAP : Fld := ⟨0x6060, 3, 3, 0, 0⟩
abbrev LS_CAUSE_SEG_END : Fld := ⟨0x6060, 2, 2, 0, 0⟩
abbrev LS_CAUSE_SEG_START : Fld := ⟨0x6060, 1, 1, 0, 0⟩
abbrev LS_CAUSE_KEYWORD : Fld := ⟨0x6060, 0, 0, 0, 0⟩
-- LS_CAUSE_EN (Control-die, 15)
abbrev LS_CAUSE_EN_EN : Fld := ⟨0x6064, 8, 0, 0x1ff, 0⟩
-- LS_CLIP (Control-die, 15)
abbrev LS_CLIP_SAMPLES : Fld := ⟨0x6068, 15, 0, 0, 0⟩
-- BF_COEF (Control-die, 15)
abbrev BF_COEF_DELAY : Fld := ⟨0x6100, 25, 16, 0, 4⟩
abbrev BF_COEF_WEIGHT : Fld := ⟨0x6100, 15, 0, 0, 4⟩
-- BF_EN (Control-die, 15)
abbrev BF_EN_EN : Fld := ⟨0x6200, 7, 0, 1, 0⟩
-- KW_CFG (Control-die, 15)
abbrev KW_CFG_FEAT_OFS : Fld := ⟨0x6210, 31, 24, 0x80, 0⟩
abbrev KW_CFG_FEAT_FRAMES : Fld := ⟨0x6210, 20, 16, 0, 0⟩
abbrev KW_CFG_REFRACT : Fld := ⟨0x6210, 15, 8, 0xa, 0⟩
abbrev KW_CFG_KW_N : Fld := ⟨0x6210, 3, 0, 3, 0⟩
-- KW_POP (Control-die, 15)
abbrev KW_POP_VALID : Fld := ⟨0x6214, 31, 31, 0, 0⟩
abbrev KW_POP_CLASS : Fld := ⟨0x6214, 28, 24, 0, 0⟩
abbrev KW_POP_SCORE : Fld := ⟨0x6214, 23, 16, 0, 0⟩
abbrev KW_POP_FRAME : Fld := ⟨0x6214, 15, 0, 0, 0⟩
-- KW_CNT (Control-die, 15)
abbrev KW_CNT_LOST : Fld := ⟨0x6218, 31, 16, 0, 0⟩
abbrev KW_CNT_DETECT : Fld := ⟨0x6218, 15, 0, 0, 0⟩
-- KW_TH (Control-die, 15)
abbrev KW_TH_TH : Fld := ⟨0x6280, 7, 0, 0, 4⟩
-- NET_A (Control-die, 15)
abbrev NET_A_VALID : Fld := ⟨0x6300, 31, 31, 0, 8⟩
abbrev NET_A_LEAF : Fld := ⟨0x6300, 30, 30, 0, 8⟩
abbrev NET_A_SRC : Fld := ⟨0x6300, 29, 29, 0, 8⟩
abbrev NET_A_RG_FIRST : Fld := ⟨0x6300, 28, 24, 0, 8⟩
abbrev NET_A_RG_COUNT : Fld := ⟨0x6300, 21, 16, 0, 8⟩
abbrev NET_A_OUTS : Fld := ⟨0x6300, 9, 0, 0, 8⟩
-- NET_B (Control-die, 15)
abbrev NET_B_SHIFT : Fld := ⟨0x6304, 8, 4, 0, 8⟩
abbrev NET_B_RELU : Fld := ⟨0x6304, 1, 1, 0, 8⟩
abbrev NET_B_PREC : Fld := ⟨0x6304, 0, 0, 0, 8⟩
-- POCKET_LD_SRC (Control-die, 15)
abbrev POCKET_LD_SRC_OFF : Fld := ⟨0x6340, 23, 6, 0, 0⟩
-- POCKET_LD_CMD (Control-die, 15)
abbrev POCKET_LD_CMD_GO : Fld := ⟨0x6344, 31, 31, 0, 0⟩
abbrev POCKET_LD_CMD_LEAF : Fld := ⟨0x6344, 21, 21, 0, 0⟩
abbrev POCKET_LD_CMD_FIRST_ROW : Fld := ⟨0x6344, 20, 11, 0, 0⟩
abbrev POCKET_LD_CMD_COUNT : Fld := ⟨0x6344, 10, 0, 0, 0⟩
-- POCKET_STAT (Control-die, 15)
abbrev POCKET_STAT_BUSY : Fld := ⟨0x6348, 31, 31, 0, 0⟩
abbrev POCKET_STAT_LOADED : Fld := ⟨0x6348, 30, 30, 0, 0⟩
abbrev POCKET_STAT_BAD : Fld := ⟨0x6348, 29, 29, 0, 0⟩
abbrev POCKET_STAT_ERR : Fld := ⟨0x6348, 15, 8, 0, 0⟩
abbrev POCKET_STAT_TALLY : Fld := ⟨0x6348, 7, 0, 0, 0⟩
-- CAP_CTRL (Control-die, 15)
abbrev CAP_CTRL_SIZE_LOG : Fld := ⟨0x6400, 8, 4, 0, 0⟩
abbrev CAP_CTRL_EN : Fld := ⟨0x6400, 0, 0, 0, 0⟩
-- CAP_BASE (Control-die, 15)
abbrev CAP_BASE_OFF : Fld := ⟨0x6404, 23, 10, 0, 0⟩
-- CAP_SEM (Control-die, 15)
abbrev CAP_SEM_SEMEN : Fld := ⟨0x6408, 31, 31, 0, 0⟩
abbrev CAP_SEM_SEG_SEM : Fld := ⟨0x6408, 28, 16, 0, 0⟩
abbrev CAP_SEM_BLOCK_SEM : Fld := ⟨0x6408, 12, 0, 0, 0⟩
-- CAP_PROD (Control-die, 15)
abbrev CAP_PROD_IDX : Fld := ⟨0x640C, 31, 0, 0, 0⟩
-- CAP_CONS (Control-die, 15)
abbrev CAP_CONS_IDX : Fld := ⟨0x6410, 31, 0, 0, 0⟩
-- CAP_CNT (Control-die, 15)
abbrev CAP_CNT_DROPPED : Fld := ⟨0x6414, 31, 16, 0, 0⟩
abbrev CAP_CNT_SEGMENTS : Fld := ⟨0x6414, 15, 0, 0, 0⟩
-- PB_CTRL (Control-die, 15)
abbrev PB_CTRL_ERR : Fld := ⟨0x6500, 31, 31, 0, 0⟩
abbrev PB_CTRL_SLOT_MASK : Fld := ⟨0x6500, 23, 16, 3, 0⟩
abbrev PB_CTRL_PB_SIZE_LOG : Fld := ⟨0x6500, 12, 8, 0xc, 0⟩
abbrev PB_CTRL_PB_SEMEN : Fld := ⟨0x6500, 7, 7, 0, 0⟩
abbrev PB_CTRL_WIDTH : Fld := ⟨0x6500, 6, 6, 0, 0⟩
abbrev PB_CTRL_FMT : Fld := ⟨0x6500, 5, 4, 0, 0⟩
abbrev PB_CTRL_RATE : Fld := ⟨0x6500, 3, 2, 1, 0⟩
abbrev PB_CTRL_EN : Fld := ⟨0x6500, 0, 0, 0, 0⟩
-- PB_BASE (Control-die, 15)
abbrev PB_BASE_OFF : Fld := ⟨0x6504, 23, 12, 0, 0⟩
abbrev PB_BASE_PB_SEM : Fld := ⟨0x6504, 11, 0, 0, 0⟩
-- PB_PROD (Control-die, 15)
abbrev PB_PROD_IDX : Fld := ⟨0x6508, 31, 0, 0, 0⟩
-- PB_CONS (Control-die, 15)
abbrev PB_CONS_IDX : Fld := ⟨0x650C, 31, 0, 0, 0⟩
-- PB_CNT (Control-die, 15)
abbrev PB_CNT_UNDERRUN : Fld := ⟨0x6510, 15, 0, 0, 0⟩
-- SEC_STAT (Control-die, 16)
abbrev SEC_STAT_LC : Fld := ⟨0x5000, 31, 29, 0, 0⟩
abbrev SEC_STAT_DBG_OPEN : Fld := ⟨0x5000, 28, 28, 0, 0⟩
abbrev SEC_STAT_TAMPER_IN : Fld := ⟨0x5000, 27, 27, 0, 0⟩
abbrev SEC_STAT_ZEROISING : Fld := ⟨0x5000, 26, 26, 0, 0⟩
abbrev SEC_STAT_PUBHASH_SET : Fld := ⟨0x5000, 25, 25, 0, 0⟩
abbrev SEC_STAT_VGEN : Fld := ⟨0x5000, 24, 19, 0, 0⟩
abbrev SEC_STAT_ACC_CTR : Fld := ⟨0x5000, 10, 0, 0, 0⟩
-- SEC_BOOTNO (Control-die, 16)
abbrev SEC_BOOTNO_BOOTNO : Fld := ⟨0x5004, 31, 0, 0, 0⟩
-- TRNG_STAT (Control-die, 16)
abbrev TRNG_STAT_STATE : Fld := ⟨0x5008, 31, 30, 0, 0⟩
abbrev TRNG_STAT_T_READY : Fld := ⟨0x5008, 15, 0, 0, 0⟩
-- TRNG_CNT (Control-die, 16)
abbrev TRNG_CNT_RCT_FAIL : Fld := ⟨0x500C, 31, 16, 0, 0⟩
abbrev TRNG_CNT_APT_FAIL : Fld := ⟨0x500C, 15, 0, 0, 0⟩
-- VAULT_STAT (Control-die, 16)
abbrev VAULT_STAT_WEAR : Fld := ⟨0x5024, 16, 0, 0, 0⟩
-- LC_CMD (Control-die, 16)
abbrev LC_CMD_KEY : Fld := ⟨0x5010, 31, 16, 0, 0⟩
abbrev LC_CMD_TARGET : Fld := ⟨0x5010, 2, 0, 0, 0⟩
-- LC_RES (Control-die, 16)
abbrev LC_RES_RESULT : Fld := ⟨0x5014, 7, 0, 0, 0⟩
-- SEC_CAUSE (Control-die, 16)
abbrev SEC_CAUSE_COUNT : Fld := ⟨0x5018, 31, 24, 0, 0⟩
abbrev SEC_CAUSE_VAULT_ERR : Fld := ⟨0x5018, 7, 7, 0, 0⟩
abbrev SEC_CAUSE_DBG_FAIL : Fld := ⟨0x5018, 6, 6, 0, 0⟩
abbrev SEC_CAUSE_DBG_OPEN : Fld := ⟨0x5018, 5, 5, 0, 0⟩
abbrev SEC_CAUSE_KDEC_FAIL : Fld := ⟨0x5018, 4, 4, 0, 0⟩
abbrev SEC_CAUSE_TRNG_FAIL : Fld := ⟨0x5018, 3, 3, 0, 0⟩
abbrev SEC_CAUSE_LC_CHANGE : Fld := ⟨0x5018, 2, 2, 0, 0⟩
abbrev SEC_CAUSE_ZEROISED : Fld := ⟨0x5018, 1, 1, 0, 0⟩
abbrev SEC_CAUSE_TAMPER : Fld := ⟨0x5018, 0, 0, 0, 0⟩
-- SEC_CAUSE_EN (Control-die, 16)
abbrev SEC_CAUSE_EN_EN : Fld := ⟨0x501C, 7, 0, 0xff, 0⟩
-- KDEC_LOG (Control-die, 16)
abbrev KDEC_LOG_VALID : Fld := ⟨0x5020, 31, 31, 0, 0⟩
abbrev KDEC_LOG_OVER : Fld := ⟨0x5020, 30, 30, 0, 0⟩
abbrev KDEC_LOG_STATUS : Fld := ⟨0x5020, 18, 16, 0, 0⟩
abbrev KDEC_LOG_COUNTER : Fld := ⟨0x5020, 10, 0, 0, 0⟩
-- ID_PUB (Control-die, 16)
abbrev ID_PUB_BYTES : Fld := ⟨0x5040, 31, 0, 0, 4⟩
-- PUB_HASH (Control-die, 16)
abbrev PUB_HASH_BYTES : Fld := ⟨0x5080, 31, 0, 0, 4⟩
-- SLOT_ATTR (Control-die, 16)
abbrev SLOT_ATTR_VALID : Fld := ⟨0x5100, 31, 31, 0, 4⟩
abbrev SLOT_ATTR_KIND : Fld := ⟨0x5100, 30, 30, 0, 4⟩
abbrev SLOT_ATTR_FRESH : Fld := ⟨0x5100, 29, 29, 0, 4⟩
abbrev SLOT_ATTR_PURPOSE : Fld := ⟨0x5100, 23, 20, 0, 4⟩
abbrev SLOT_ATTR_USES : Fld := ⟨0x5100, 15, 0, 0, 4⟩
-- DBG_CHAL (Control-die, 16)
abbrev DBG_CHAL_BYTES : Fld := ⟨0x5200, 31, 0, 0, 4⟩
-- DBG_RESP (Control-die, 16)
abbrev DBG_RESP_BYTES : Fld := ⟨0x5220, 31, 0, 0, 4⟩
-- DBG_CTRL (Control-die, 16)
abbrev DBG_CTRL_GO : Fld := ⟨0x5240, 31, 31, 0, 0⟩
abbrev DBG_CTRL_SLOT : Fld := ⟨0x5240, 20, 16, 0, 0⟩
abbrev DBG_CTRL_RESULT : Fld := ⟨0x5240, 9, 8, 0, 0⟩
abbrev DBG_CTRL_FAILS : Fld := ⟨0x5240, 7, 0, 0, 0⟩
-- MAC_SRC (Control-die, 16)
abbrev MAC_SRC_OFF : Fld := ⟨0x5300, 23, 0, 0, 0⟩
-- MAC_LEN (Control-die, 16)
abbrev MAC_LEN_LEN : Fld := ⟨0x5304, 16, 0, 0, 0⟩
-- MAC_CTRL (Control-die, 16)
abbrev MAC_CTRL_GO : Fld := ⟨0x5308, 31, 31, 0, 0⟩
abbrev MAC_CTRL_BUSY : Fld := ⟨0x5308, 30, 30, 0, 0⟩
abbrev MAC_CTRL_SLOT : Fld := ⟨0x5308, 20, 16, 0, 0⟩
abbrev MAC_CTRL_STATUS : Fld := ⟨0x5308, 7, 0, 0, 0⟩
-- MAC_OUT (Control-die, 16)
abbrev MAC_OUT_BYTES : Fld := ⟨0x5320, 31, 0, 0, 4⟩
-- SAFE_SUM (Control-die, 17)
abbrev SAFE_SUM_LD1 : Fld := ⟨0x60, 15, 8, 0, 0⟩
abbrev SAFE_SUM_LD0 : Fld := ⟨0x60, 7, 0, 0, 0⟩
-- SAFE_CAUSE (Control-die, 17)
abbrev SAFE_CAUSE_COUNT : Fld := ⟨0x64, 31, 24, 0, 0⟩
abbrev SAFE_CAUSE_LD_RESET : Fld := ⟨0x64, 2, 2, 0, 0⟩
abbrev SAFE_CAUSE_HBTEST_FAIL : Fld := ⟨0x64, 1, 1, 0, 0⟩
abbrev SAFE_CAUSE_MISMATCH : Fld := ⟨0x64, 0, 0, 0, 0⟩
-- SAFE_CAUSE_EN (Control-die, 17)
abbrev SAFE_CAUSE_EN_EN : Fld := ⟨0x68, 2, 0, 7, 0⟩
-- SAFE_LOG (Control-die, 17)
abbrev SAFE_LOG_VALID : Fld := ⟨0x6C, 31, 31, 0, 0⟩
abbrev SAFE_LOG_OVER : Fld := ⟨0x6C, 30, 30, 0, 0⟩
abbrev SAFE_LOG_KIND : Fld := ⟨0x6C, 29, 27, 0, 0⟩
abbrev SAFE_LOG_DIE : Fld := ⟨0x6C, 6, 6, 0, 0⟩
abbrev SAFE_LOG_CH : Fld := ⟨0x6C, 5, 0, 0, 0⟩
-- LB_HBTEST (Control-die, 17)
abbrev LB_HBTEST_FAIL : Fld := ⟨0x8030, 17, 16, 0, 0⟩
abbrev LB_HBTEST_PASS : Fld := ⟨0x8030, 9, 8, 0, 0⟩
abbrev LB_HBTEST_HOLD : Fld := ⟨0x8030, 1, 0, 0, 0⟩
-- LD_RSTCAUSE (Load-die, 17)
abbrev LD_RSTCAUSE_VREG : Fld := ⟨0x1C, 2, 2, 0, 0⟩
abbrev LD_RSTCAUSE_CLKMON : Fld := ⟨0x1C, 1, 1, 0, 0⟩
abbrev LD_RSTCAUSE_POR : Fld := ⟨0x1C, 0, 0, 0, 0⟩
-- FEEDCUT_TEST (Load-die, 17)
abbrev FEEDCUT_TEST_TESTING : Fld := ⟨0x1E, 10, 8, 0, 0⟩
abbrev FEEDCUT_TEST_ASSERT : Fld := ⟨0x1E, 2, 0, 0, 0⟩
-- GSR (Control-die, 18)
abbrev GSR_GROUP : Fld := ⟨0x1000, 15, 0, 0, 0⟩
-- INT_EN (Control-die, 18)
abbrev INT_EN_EN : Fld := ⟨0x1004, 15, 0, 0xffff, 0⟩
-- INT_CTRL (Control-die, 18)
abbrev INT_CTRL_SD_POLL : Fld := ⟨0x1008, 15, 8, 4, 0⟩
abbrev INT_CTRL_EDGE : Fld := ⟨0x1008, 1, 1, 0, 0⟩
abbrev INT_CTRL_MASTER : Fld := ⟨0x1008, 0, 0, 0, 0⟩
-- INT_STAT (Control-die, 18)
abbrev INT_STAT_ASSERTED : Fld := ⟨0x100C, 31, 31, 0, 0⟩
abbrev INT_STAT_PIN : Fld := ⟨0x100C, 30, 30, 0, 0⟩
abbrev INT_STAT_EOI_WIN : Fld := ⟨0x100C, 29, 29, 0, 0⟩
abbrev INT_STAT_PENDING : Fld := ⟨0x100C, 15, 0, 0, 0⟩
-- INT_EOI (Control-die, 18)
abbrev INT_EOI_VAL : Fld := ⟨0x1010, 31, 0, 0, 0⟩
-- SYS_CAUSE (Control-die, 18)
abbrev SYS_CAUSE_COUNT : Fld := ⟨0x1014, 31, 24, 0, 0⟩
abbrev SYS_CAUSE_SD_POLL : Fld := ⟨0x1014, 6, 6, 0, 0⟩
abbrev SYS_CAUSE_DIES : Fld := ⟨0x1014, 5, 5, 0, 0⟩
abbrev SYS_CAUSE_CD_LINK : Fld := ⟨0x1014, 4, 4, 0, 0⟩
abbrev SYS_CAUSE_PWR_DONE : Fld := ⟨0x1014, 3, 3, 0, 0⟩
abbrev SYS_CAUSE_WIMG_END : Fld := ⟨0x1014, 2, 2, 0, 0⟩
abbrev SYS_CAUSE_PARK_ERR : Fld := ⟨0x1014, 1, 1, 0, 0⟩
abbrev SYS_CAUSE_ADDR_ERR : Fld := ⟨0x1014, 0, 0, 0, 0⟩
-- SYS_CAUSE_EN (Control-die, 18)
abbrev SYS_CAUSE_EN_EN : Fld := ⟨0x1018, 6, 0, 0x7f, 0⟩
-- INT_CNT (Control-die, 18)
abbrev INT_CNT_ASSERTS : Fld := ⟨0x101C, 15, 0, 0, 0⟩
-- SD_GRP (Control-die, 18)
abbrev SD_GRP_VALID : Fld := ⟨0x1020, 31, 31, 0, 4⟩
abbrev SD_GRP_SUM : Fld := ⟨0x1020, 9, 0, 0, 4⟩
-- SD_SUM (Stack-die, 18)
abbrev SD_SUM_WO : Fld := ⟨0x700, 9, 9, 0, 0⟩
abbrev SD_SUM_LNK : Fld := ⟨0x700, 8, 8, 0, 0⟩
abbrev SD_SUM_WING : Fld := ⟨0x700, 7, 0, 0, 0⟩
-- DMA_SRC_LO (Control-die, 18)
abbrev DMA_SRC_LO_ADDR : Fld := ⟨0x50000, 31, 0, 0, 32⟩
-- DMA_SRC_HI (Control-die, 18)
abbrev DMA_SRC_HI_ADDR : Fld := ⟨0x50004, 7, 0, 0, 32⟩
-- DMA_DST_LO (Control-die, 18)
abbrev DMA_DST_LO_ADDR : Fld := ⟨0x50008, 31, 0, 0, 32⟩
-- DMA_DST_HI (Control-die, 18)
abbrev DMA_DST_HI_ADDR : Fld := ⟨0x5000C, 7, 0, 0, 32⟩
-- DMA_LEN (Control-die, 18)
abbrev DMA_LEN_LEN : Fld := ⟨0x50010, 26, 0, 0, 32⟩
-- DMA_CTRL (Control-die, 18)
abbrev DMA_CTRL_GO : Fld := ⟨0x50014, 31, 31, 0, 32⟩
abbrev DMA_CTRL_ABORT : Fld := ⟨0x50014, 30, 30, 0, 32⟩
abbrev DMA_CTRL_SIG : Fld := ⟨0x50014, 29, 29, 0, 32⟩
abbrev DMA_CTRL_SEMEN : Fld := ⟨0x50014, 28, 28, 0, 32⟩
abbrev DMA_CTRL_WING : Fld := ⟨0x50014, 26, 24, 0, 32⟩
abbrev DMA_CTRL_WIN : Fld := ⟨0x50014, 23, 20, 0, 32⟩
abbrev DMA_CTRL_SEM : Fld := ⟨0x50014, 12, 0, 0, 32⟩
-- DMA_STAT (Control-die, 18)
abbrev DMA_STAT_BUSY : Fld := ⟨0x50018, 31, 31, 0, 32⟩
abbrev DMA_STAT_ERR : Fld := ⟨0x50018, 15, 8, 0, 32⟩
-- DMA_DONE (Control-die, 18)
abbrev DMA_DONE_BYTES : Fld := ⟨0x5001C, 31, 0, 0, 32⟩
-- DMA_CAUSE (Control-die, 18)
abbrev DMA_CAUSE_COUNT : Fld := ⟨0x50100, 31, 24, 0, 0⟩
abbrev DMA_CAUSE_ERR : Fld := ⟨0x50100, 15, 8, 0, 0⟩
abbrev DMA_CAUSE_DONE : Fld := ⟨0x50100, 7, 0, 0, 0⟩
-- DMA_CAUSE_EN (Control-die, 18)
abbrev DMA_CAUSE_EN_EN : Fld := ⟨0x50104, 15, 0, 0xffff, 0⟩
-- DBG_RUN (Control-die, 18)
abbrev DBG_RUN_STEP : Fld := ⟨0x70000, 23, 16, 0, 0⟩
abbrev DBG_RUN_RESUME : Fld := ⟨0x70000, 15, 8, 0, 0⟩
abbrev DBG_RUN_HALT : Fld := ⟨0x70000, 7, 0, 0, 0⟩
-- GPIO_OUT (Control-die, 19)
abbrev GPIO_OUT_OUT : Fld := ⟨0x300, 15, 0, 0, 0⟩
-- GPIO_OE (Control-die, 19)
abbrev GPIO_OE_OE : Fld := ⟨0x304, 15, 0, 0, 0⟩
-- GPIO_IN (Control-die, 19)
abbrev GPIO_IN_IN : Fld := ⟨0x308, 15, 0, 0, 0⟩
-- GPIO_PULL (Control-die, 19)
abbrev GPIO_PULL_P : Fld := ⟨0x30C, 31, 0, 0, 0⟩
-- GPIO_DRV (Control-die, 19)
abbrev GPIO_DRV_D : Fld := ⟨0x310, 31, 0, 0x55555555, 0⟩
-- PAD_STAT (Control-die, 19)
abbrev PAD_STAT_PERST : Fld := ⟨0x320, 7, 7, 0, 0⟩
abbrev PAD_STAT_WAKE : Fld := ⟨0x320, 6, 6, 0, 0⟩
abbrev PAD_STAT_TAMPER : Fld := ⟨0x320, 5, 5, 0, 0⟩
abbrev PAD_STAT_LIMP : Fld := ⟨0x320, 4, 4, 0, 0⟩
abbrev PAD_STAT_MUTE : Fld := ⟨0x320, 3, 3, 0, 0⟩
abbrev PAD_STAT_WDT_IN : Fld := ⟨0x320, 2, 2, 0, 0⟩
abbrev PAD_STAT_LPCLK : Fld := ⟨0x320, 1, 1, 0, 0⟩
abbrev PAD_STAT_TESTMODE : Fld := ⟨0x320, 0, 0, 0, 0⟩
-- CD_TEMP (Control-die, 19)
abbrev CD_TEMP_WARN : Fld := ⟨0x324, 31, 31, 0, 0⟩
abbrev CD_TEMP_TSD_CNT : Fld := ⟨0x324, 23, 16, 0, 0⟩
abbrev CD_TEMP_TEMP : Fld := ⟨0x324, 15, 0, 0, 0⟩
-- PMB_STAT (Control-die, 19)
abbrev PMB_STAT_STATUS : Fld := ⟨0x340, 31, 16, 0, 4⟩
abbrev PMB_STAT_ADDR : Fld := ⟨0x340, 14, 8, 0, 4⟩
abbrev PMB_STAT_DIE : Fld := ⟨0x340, 7, 6, 0, 4⟩
abbrev PMB_STAT_STATE : Fld := ⟨0x340, 3, 0, 0, 4⟩

end R

/-- Registers of the Control-die block, part 0. -/
def cdRegs0 : List RegDesc := [
  ⟨0x0, 0, 1, [(R.IDENT_PART, .ro), (R.IDENT_CD_COUNT, .ro), (R.IDENT_SD_COUNT, .ro), (R.IDENT_LD_COUNT, .ro)]⟩,
  ⟨0x4, 0, 1, [(R.STEP_MAJOR, .ro), (R.STEP_MINOR, .ro)]⟩,
  ⟨0x8, 0, 1, [(R.DIES_LD1, .ro), (R.DIES_LD0, .ro), (R.DIES_SD3, .ro), (R.DIES_SD2, .ro), (R.DIES_SD1, .ro), (R.DIES_SD0, .ro), (R.DIES_CD1, .ro), (R.DIES_CD0, .ro)]⟩,
  ⟨0xC, 0, 1, [(R.LINK_UP_LBUS, .ro), (R.LINK_UP_CROSS, .ro), (R.LINK_UP_CTL_CD1, .ro), (R.LINK_UP_CTL_CD0, .ro), (R.LINK_UP_RING, .ro)]⟩,
  ⟨0x10, 0, 1, [(R.LINK_SPARE_CROSS, .ro), (R.LINK_SPARE_CTL_CD1, .ro), (R.LINK_SPARE_CTL_CD0, .ro), (R.LINK_SPARE_RING, .ro)]⟩,
  ⟨0x14, 0, 1, [(R.CLK_SRC_CD1_LP, .ro), (R.CLK_SRC_CD1_XT, .ro), (R.CLK_SRC_CD0_LP, .ro), (R.CLK_SRC_CD0_XT, .ro)]⟩,
  ⟨0x18, 0, 1, [(R.ADDR_ERR_LO_ADDR_LO, .ro)]⟩,
  ⟨0x1C, 0, 1, [(R.ADDR_ERR_HI_VALID, .w1c), (R.ADDR_ERR_HI_OVER, .ro), (R.ADDR_ERR_HI_KIND, .ro), (R.ADDR_ERR_HI_INIT, .ro), (R.ADDR_ERR_HI_WRITE, .ro), (R.ADDR_ERR_HI_ADDR_HI, .ro)]⟩,
  ⟨0x20, 8, 4, [(R.HOST_AP_LO_EN, .rw)]⟩,
  ⟨0x24, 8, 4, [(R.HOST_AP_HI_BASE, .rw)]⟩,
  ⟨0x40, 0, 1, [(R.PWR_STATE_LAST_WAKE, .ro), (R.PWR_STATE_IN_TRANS, .ro), (R.PWR_STATE_PREV, .ro), (R.PWR_STATE_CUR, .ro)]⟩,
  ⟨0x44, 0, 1, [(R.PWR_REQ_STATUS, .ro), (R.PWR_REQ_GO, .w1s), (R.PWR_REQ_TARGET, .rw)]⟩]
/-- Registers of the Control-die block, part 1. -/
def cdRegs1 : List RegDesc := [
  ⟨0x48, 0, 1, [(R.WAKE_EN_ALARM_LISTEN, .rw), (R.WAKE_EN_LDEV, .rw), (R.WAKE_EN_KEYWORD, .rw), (R.WAKE_EN_ALARM, .rw), (R.WAKE_EN_WAKEPIN, .rw)]⟩,
  ⟨0x4C, 0, 1, [(R.ALARM_TICKS, .rw)]⟩,
  ⟨0x50, 0, 1, [(R.CLEAR_STAT_SEQMEM, .ro), (R.CLEAR_STAT_CATALOGUE, .ro), (R.CLEAR_STAT_COMMONS, .ro), (R.CLEAR_STAT_RROOM, .ro)]⟩,
  ⟨0x4000, 0, 1, [(R.BOOT_STAT_PHASE, .ro), (R.BOOT_STAT_ROLE, .ro), (R.BOOT_STAT_DIE, .ro), (R.BOOT_STAT_SL_SEL, .ro), (R.BOOT_STAT_FW_SEL, .ro), (R.BOOT_STAT_RETIRE_IGN, .ro), (R.BOOT_STAT_SL_A_BAD, .ro), (R.BOOT_STAT_SL_B_BAD, .ro), (R.BOOT_STAT_FW_A_BAD, .ro), (R.BOOT_STAT_FW_B_BAD, .ro), (R.BOOT_STAT_FLASH1_PRESENT, .ro), (R.BOOT_STAT_ERR, .ro)]⟩,
  ⟨0x4004, 0, 1, [(R.SL_VER_A_VERSION, .ro)]⟩,
  ⟨0x4008, 0, 1, [(R.SL_VER_B_VERSION, .ro)]⟩,
  ⟨0x400C, 0, 1, [(R.FW_VER_VERSION, .ro)]⟩,
  ⟨0x4010, 0, 1, [(R.T_HOSTLINK_US, .ro)]⟩,
  ⟨0x4014, 0, 1, [(R.T_SERVE_US, .ro)]⟩,
  ⟨0x4018, 0, 1, [(R.BOOT_CTRL_HOSTFW, .w1s), (R.BOOT_CTRL_FALLBACK, .w1s)]⟩,
  ⟨0x4020, 0, 1, [(R.WIMG_BASE_LO_ADDR, .rw)]⟩,
  ⟨0x4024, 0, 1, [(R.WIMG_BASE_HI_ADDR, .rw)]⟩]
/-- Registers of the Control-die block, part 2. -/
def cdRegs2 : List RegDesc := [
  ⟨0x4028, 0, 1, [(R.WIMG_LEN_LEN, .rw)]⟩,
  ⟨0x402C, 0, 1, [(R.WIMG_CTRL_ABORT, .w1s), (R.WIMG_CTRL_START, .w1s)]⟩,
  ⟨0x4030, 0, 1, [(R.WIMG_STAT_KEY_SLOT, .ro), (R.WIMG_STAT_ERR, .ro), (R.WIMG_STAT_STATE, .ro)]⟩,
  ⟨0x4034, 0, 1, [(R.WIMG_DONE_BYTES, .ro)]⟩,
  ⟨0x4038, 0, 1, [(R.WING_LOADED_LOADED, .ro)]⟩,
  ⟨0x4040, 0, 1, [(R.FL_ADDR_ADDR, .rw)]⟩,
  ⟨0x4044, 0, 1, [(R.FL_CMD_BUSY, .ro), (R.FL_CMD_ERR, .ro), (R.FL_CMD_CS, .rw), (R.FL_CMD_LEN, .rw), (R.FL_CMD_OP, .wo)]⟩,
  ⟨0x4100, 4, 64, [(R.FL_BUF_DATA, .rw)]⟩,
  ⟨0x100, 16, 5, [(R.CD_LNK_STAT_UP, .ro), (R.CD_LNK_STAT_SPARE, .ro), (R.CD_LNK_STAT_TRAIN, .ro), (R.CD_LNK_STAT_LANE, .ro)]⟩,
  ⟨0x104, 16, 5, [(R.CD_LNK_CNT_REPLAY, .ro), (R.CD_LNK_CNT_CRC, .ro)]⟩,
  ⟨0x180, 0, 1, [(R.PARK_CFG_SLOT, .rw)]⟩,
  ⟨0x184, 0, 1, [(R.PARK_NEXT_NO, .ro)]⟩]
/-- Registers of the Control-die block, part 3. -/
def cdRegs3 : List RegDesc := [
  ⟨0x188, 0, 1, [(R.PARK_SEL_DIE, .rw), (R.PARK_SEL_CARREL, .rw)]⟩,
  ⟨0x18C, 0, 1, [(R.PARK_VAL_PARK_NO, .ro)]⟩,
  ⟨0x190, 0, 1, [(R.PARK_ERR_VALID, .w1c), (R.PARK_ERR_OVER, .ro), (R.PARK_ERR_UNPARK, .ro), (R.PARK_ERR_KIND, .ro), (R.PARK_ERR_DIE, .ro), (R.PARK_ERR_CARREL, .ro)]⟩,
  ⟨0x200, 4, 8, [(R.SQ_STAT_STATE, .ro), (R.SQ_STAT_STOPREQ, .ro), (R.SQ_STAT_OUT, .ro), (R.SQ_STAT_PC, .ro)]⟩,
  ⟨0x220, 4, 8, [(R.SQ_RET_BASE, .rw)]⟩,
  ⟨0x240, 4, 8, [(R.SQ_FLT_VALID, .w1c), (R.SQ_FLT_OVER, .ro), (R.SQ_FLT_ENGINE, .ro), (R.SQ_FLT_CODE, .ro), (R.SQ_FLT_PC, .ro)]⟩,
  ⟨0x260, 4, 8, [(R.SQ_ORDER_NEXT, .ro)]⟩,
  ⟨0x280, 0, 1, [(R.SEQ_CAUSE_COUNT, .ro), (R.SEQ_CAUSE_FAULT, .w1c)]⟩,
  ⟨0x284, 0, 1, [(R.SEQ_CAUSE_EN_EN, .rw)]⟩,
  ⟨0x194, 0, 1, [(R.SEAL_NEXT_LO_NO_LO, .ro)]⟩,
  ⟨0x198, 0, 1, [(R.SEAL_NEXT_HI_NO_HI, .ro)]⟩,
  ⟨0x2A0, 4, 8, [(R.SQ_ESTAT_ESTAT, .w1c)]⟩]
/-- Registers of the Control-die block, part 4. -/
def cdRegs4 : List RegDesc := [
  ⟨0x2C0, 4, 8, [(R.SQ_DEPTH_LOOPS, .ro)]⟩,
  ⟨0x2E0, 4, 8, [(R.SQ_CALLS_CALLS, .ro)]⟩,
  ⟨0x10000, 0, 1, [(R.CAT_CTRL_SQ_EN, .rw), (R.CAT_CTRL_DISPATCH_EN, .rw)]⟩,
  ⟨0x10004, 0, 1, [(R.CAT_STAT_ELIGIBLE, .ro), (R.CAT_STAT_RUNNING, .ro), (R.CAT_STAT_HELD, .ro)]⟩,
  ⟨0x10010, 0, 1, [(R.Q_SEL_QUEUE, .rw)]⟩,
  ⟨0x10014, 0, 1, [(R.Q_CMD_OP, .wo)]⟩,
  ⟨0x10018, 0, 1, [(R.Q_RES_BUSY, .ro), (R.Q_RES_RESULT, .ro)]⟩,
  ⟨0x10020, 4, 8, [(R.Q_DATA_WORD, .rw)]⟩,
  ⟨0x10040, 0, 1, [(R.CANCEL_Q_QUEUE, .rw)]⟩,
  ⟨0x10044, 0, 1, [(R.CANCEL_POS_POS, .wo)]⟩,
  ⟨0x10048, 0, 1, [(R.CANCEL_STAT_BUSY, .ro), (R.CANCEL_STAT_RESULT, .ro)]⟩,
  ⟨0x10060, 0, 1, [(R.CARREL_CMD_WING, .wo), (R.CARREL_CMD_OP, .wo), (R.CARREL_CMD_CARREL, .wo)]⟩]
/-- Registers of the Control-die block, part 5. -/
def cdRegs5 : List RegDesc := [
  ⟨0x10064, 0, 1, [(R.CARREL_STAT_BUSY, .ro), (R.CARREL_STAT_DIE, .ro), (R.CARREL_STAT_CARREL, .ro), (R.CARREL_STAT_KVRES, .ro), (R.CARREL_STAT_RESULT, .ro)]⟩,
  ⟨0x10070, 4, 4, [(R.CARREL_ARG_COUNT, .rw), (R.CARREL_ARG_BASE, .rw)]⟩,
  ⟨0x10100, 8, 8, [(R.SQ_RUNQ_VALID, .ro), (R.SQ_RUNQ_QUEUE, .ro)]⟩,
  ⟨0x10104, 8, 8, [(R.SQ_RUNP_GEN, .ro), (R.SQ_RUNP_POS, .ro)]⟩,
  ⟨0x10180, 0, 1, [(R.CAT_CAUSE_COUNT, .ro), (R.CAT_CAUSE_SLIP, .w1c), (R.CAT_CAUSE_RECWRITE, .w1c), (R.CAT_CAUSE_FETCH, .w1c), (R.CAT_CAUSE_DOORBELL, .w1c)]⟩,
  ⟨0x10184, 0, 1, [(R.CAT_CAUSE_EN_EN, .rw)]⟩,
  ⟨0x10188, 0, 1, [(R.CAT_ERR_LOG_VALID, .w1c), (R.CAT_ERR_LOG_OVER, .ro), (R.CAT_ERR_LOG_KIND, .ro), (R.CAT_ERR_LOG_QUEUE, .ro)]⟩,
  ⟨0x10190, 0, 1, [(R.CQ_CAUSE_COUNT, .ro), (R.CQ_CAUSE_CQ, .w1c)]⟩,
  ⟨0x10194, 0, 1, [(R.CQ_CAUSE_EN_EN, .rw)]⟩,
  ⟨0x101A0, 0, 1, [(R.MIRROR_STAT_VALID, .ro), (R.MIRROR_STAT_LAG, .ro)]⟩,
  ⟨0x10400, 4, 256, [(R.CARREL_TAB_ADMITTED, .ro), (R.CARREL_TAB_RUNNING, .ro), (R.CARREL_TAB_WING, .ro)]⟩,
  ⟨0x2000, 0, 1, [(R.WDT_CFG_MODE, .rwl), (R.WDT_CFG_TIMEOUT, .rwl)]⟩]
/-- Registers of the Control-die block, part 6. -/
def cdRegs6 : List RegDesc := [
  ⟨0x2004, 0, 1, [(R.WDT_KICK_KEY, .wo)]⟩,
  ⟨0x2008, 0, 1, [(R.WDT_STAT_RUNNING, .ro), (R.WDT_STAT_FROZEN, .ro), (R.WDT_STAT_EXPIRED, .w1c), (R.WDT_STAT_TRAPPING, .ro), (R.WDT_STAT_LEFT, .ro)]⟩,
  ⟨0x200C, 0, 1, [(R.WDT_CNT_EXPIRIES, .ro), (R.WDT_CNT_BADKICK, .ro)]⟩,
  ⟨0x2010, 0, 1, [(R.TRAP_SAVE_VALID, .w1c), (R.TRAP_SAVE_PC, .ro)]⟩,
  ⟨0x3000, 0, 1, [(R.PAIR_STAT_EPOCH, .ro), (R.PAIR_STAT_ROLE, .ro), (R.PAIR_STAT_DIE, .ro), (R.PAIR_STAT_PARTNER, .ro), (R.PAIR_STAT_XLINK, .ro), (R.PAIR_STAT_PAIRLINE, .ro), (R.PAIR_STAT_SEIZE_UNCONF, .ro), (R.PAIR_STAT_EPOCH_END, .ro), (R.PAIR_STAT_LAST_CAUSE, .ro), (R.PAIR_STAT_STALE, .ro), (R.PAIR_STAT_SEIZED, .ro)]⟩,
  ⟨0x3004, 0, 1, [(R.PAIR_CTRL_HANDOVER, .w1s), (R.PAIR_CTRL_SEIZE, .w1s), (R.PAIR_CTRL_REJOIN_AUTO, .rw), (R.PAIR_CTRL_REJOIN, .w1s)]⟩,
  ⟨0x3008, 0, 1, [(R.PAIR_T_US, .ro)]⟩,
  ⟨0x300C, 0, 1, [(R.PAIR_CNT_TAKEOVERS, .ro), (R.PAIR_CNT_SEIZURES, .ro), (R.PAIR_CNT_ORPHAN, .ro), (R.PAIR_CNT_HB_MISS, .ro)]⟩,
  ⟨0x3010, 0, 1, [(R.PAIR_CAUSE_COUNT, .ro), (R.PAIR_CAUSE_SLEEP_DRIFT, .w1c), (R.PAIR_CAUSE_STALE_MIRROR, .w1c), (R.PAIR_CAUSE_PAIRLINE_FAULT, .w1c), (R.PAIR_CAUSE_XLINK_DOWN, .w1c), (R.PAIR_CAUSE_REJOINED, .w1c), (R.PAIR_CAUSE_SEIZED_PARTNER, .w1c), (R.PAIR_CAUSE_TAKEOVER, .w1c)]⟩,
  ⟨0x3014, 0, 1, [(R.PAIR_CAUSE_EN_EN, .rw)]⟩,
  ⟨0x60000, 0, 1, [(R.COM_ERR_LOG_VALID, .w1c), (R.COM_ERR_LOG_OVER, .ro), (R.COM_ERR_LOG_KIND, .ro), (R.COM_ERR_LOG_MASTER, .ro), (R.COM_ERR_LOG_WORD, .ro)]⟩,
  ⟨0x60004, 0, 1, [(R.COM_ERR_BIT_BIT, .ro)]⟩]
/-- Registers of the Control-die block, part 7. -/
def cdRegs7 : List RegDesc := [
  ⟨0x60008, 0, 1, [(R.COM_CNT_CE, .ro), (R.COM_CNT_UE, .ro)]⟩,
  ⟨0x6000C, 0, 1, [(R.COM_SPARE_USED, .ro)]⟩,
  ⟨0x60010, 0, 1, [(R.COM_CAUSE_COUNT, .ro), (R.COM_CAUSE_UE, .w1c), (R.COM_CAUSE_CE, .w1c)]⟩,
  ⟨0x60014, 0, 1, [(R.COM_CAUSE_EN_EN, .rw)]⟩,
  ⟨0x7000, 0, 1, [(R.LG_CAP_CEIL, .ro), (R.LG_CAP_CAP, .ro)]⟩,
  ⟨0x7004, 0, 1, [(R.LG_SOFT_SOFT, .rw)]⟩,
  ⟨0x7008, 0, 1, [(R.LG_SAG_UP, .rw), (R.LG_SAG_DN, .rw), (R.LG_SAG_VMIN, .rw)]⟩,
  ⟨0x700C, 0, 1, [(R.LG_HELD_GUAR, .ro), (R.LG_HELD_HELD, .ro)]⟩,
  ⟨0x7010, 0, 1, [(R.LG_FLOOR_FLOOR, .ro)]⟩,
  ⟨0x7014, 0, 1, [(R.LG_VBAT_CODE, .ro)]⟩,
  ⟨0x7018, 0, 1, [(R.LG_CAUSE_COUNT, .ro), (R.LG_CAUSE_PMIS, .w1c), (R.LG_CAUSE_CLAMP, .w1c), (R.LG_CAUSE_SAG, .w1c), (R.LG_CAUSE_REFUSE, .w1c), (R.LG_CAUSE_SHED, .w1c), (R.LG_CAUSE_DEMOTE, .w1c)]⟩,
  ⟨0x701C, 0, 1, [(R.LG_CAUSE_EN_EN, .rw)]⟩]
/-- Registers of the Control-die block, part 8. -/
def cdRegs8 : List RegDesc := [
  ⟨0x7020, 0, 1, [(R.LG_LOG_VALID, .w1c), (R.LG_LOG_OVER, .ro), (R.LG_LOG_KIND, .ro), (R.LG_LOG_ENTRY, .ro), (R.LG_LOG_CAP, .ro)]⟩,
  ⟨0x7024, 0, 1, [(R.LG_CNT_DEMOTES, .ro), (R.LG_CNT_SHEDS, .ro), (R.LG_CNT_REFUSALS, .ro), (R.LG_CNT_CLAMPS, .ro)]⟩,
  ⟨0x7030, 0, 1, [(R.LG_BASE_LVLMAX, .rw), (R.LG_BASE_BASE, .rw)]⟩,
  ⟨0x7034, 0, 1, [(R.LG_LEVEL_LEVEL, .ro)]⟩,
  ⟨0x7040, 4, 17, [(R.LG_PTAB_UNITS, .ro)]⟩,
  ⟨0x7090, 0, 1, [(R.LG_PMIS_CH, .ro)]⟩,
  ⟨0x7200, 8, 96, [(R.GNT_A_EXCESS, .ro), (R.GNT_A_AMOUNT, .ro)]⟩,
  ⟨0x7204, 8, 96, [(R.GNT_B_STATE, .ro), (R.GNT_B_GUAR, .ro), (R.GNT_B_ASKED_G, .ro), (R.GNT_B_SAFETY, .ro), (R.GNT_B_FIXED, .ro), (R.GNT_B_PARTNER, .ro), (R.GNT_B_DEMOTED, .ro), (R.GNT_B_PRIO, .ro), (R.GNT_B_DIE, .ro), (R.GNT_B_LEVEL, .ro)]⟩,
  ⟨0x8000, 0, 1, [(R.LB_CTRL_TEL_PER, .rw), (R.LB_CTRL_POLL_US, .rw)]⟩,
  ⟨0x8004, 0, 1, [(R.LB_STAT_LD1, .ro), (R.LB_STAT_LD0, .ro)]⟩,
  ⟨0x8008, 4, 2, [(R.LB_CNT_RESENDS, .ro), (R.LB_CNT_STALE_HB, .ro), (R.LB_CNT_DROPS, .ro)]⟩,
  ⟨0x8010, 0, 1, [(R.LB_ERR_VALID, .w1c), (R.LB_ERR_OVER, .ro), (R.LB_ERR_DIE, .ro), (R.LB_ERR_KIND, .ro), (R.LB_ERR_INIT, .ro), (R.LB_ERR_REG, .ro)]⟩]
/-- Registers of the Control-die block, part 9. -/
def cdRegs9 : List RegDesc := [
  ⟨0x8014, 0, 1, [(R.LB_CAUSE_COUNT, .ro), (R.LB_CAUSE_LOCK_EXP, .w1c), (R.LB_CAUSE_ERR, .w1c), (R.LB_CAUSE_STALE_HB, .w1c), (R.LB_CAUSE_LD1_EVENT, .w1c), (R.LB_CAUSE_LD0_EVENT, .w1c)]⟩,
  ⟨0x8018, 0, 1, [(R.LB_CAUSE_EN_EN, .rw)]⟩,
  ⟨0x8020, 4, 2, [(R.LB_LOCK_HELD, .ro), (R.LB_LOCK_HOLDER, .ro), (R.LB_LOCK_REL, .w1s), (R.LB_LOCK_REQ, .w1s)]⟩,
  ⟨0x8028, 0, 1, [(R.LB_STAGE_IN_USE, .ro)]⟩,
  ⟨0x6000, 0, 1, [(R.LS_CTRL_FORCE2, .w1s), (R.LS_CTRL_CAPTURE, .rw), (R.LS_CTRL_KW_TO2, .rw), (R.LS_CTRL_STAGE1_EN, .rw), (R.LS_CTRL_LISTEN_EN, .rw)]⟩,
  ⟨0x6004, 0, 1, [(R.LS_STAT_MUTED, .ro), (R.LS_STAT_SETTLE, .ro), (R.LS_STAT_STAGE, .ro), (R.LS_STAT_POCKET_OK, .ro), (R.LS_STAT_FLOOR_DEF, .ro), (R.LS_STAT_TH0_DEF, .ro), (R.LS_STAT_SEG_OPEN, .ro), (R.LS_STAT_BEAM, .ro), (R.LS_STAT_SEG, .ro)]⟩,
  ⟨0x6008, 0, 1, [(R.LS_MIC_PDM_RATE, .rw), (R.LS_MIC_KW_MIC1, .rw), (R.LS_MIC_KW_MIC0, .rw), (R.LS_MIC_STAGE0_MIC, .rw), (R.LS_MIC_MIC_EN, .rw)]⟩,
  ⟨0x600C, 0, 1, [(R.LS_FLOOR_FLOOR0, .rw), (R.LS_FLOOR_TH0, .rw), (R.LS_FLOOR_N0, .ro)]⟩,
  ⟨0x6010, 0, 1, [(R.LS_TIME0_END_MS, .rw), (R.LS_TIME0_KW_HOLD, .rw)]⟩,
  ⟨0x6014, 0, 1, [(R.LS_TIME1_ATTACK, .rw), (R.LS_TIME1_MAXSEG, .rw), (R.LS_TIME1_PREROLL, .rw)]⟩,
  ⟨0x6018, 0, 1, [(R.LS_YIELD_YIELD_DB, .rw), (R.LS_YIELD_YIELD_T, .rw)]⟩,
  ⟨0x601C, 0, 1, [(R.LS_FRAME_FRAME, .ro)]⟩]
/-- Registers of the Control-die block, part 10. -/
def cdRegs10 : List RegDesc := [
  ⟨0x6020, 4, 8, [(R.LS_GAIN_GAIN, .rw)]⟩,
  ⟨0x6040, 4, 8, [(R.LS_LEVEL_NB, .ro), (R.LS_LEVEL_L, .ro)]⟩,
  ⟨0x6060, 0, 1, [(R.LS_CAUSE_COUNT, .ro), (R.LS_CAUSE_CLIP, .w1c), (R.LS_CAUSE_MUTE_CHANGE, .w1c), (R.LS_CAUSE_POCKET_TALLY, .w1c), (R.LS_CAUSE_PB_UNDERRUN, .w1c), (R.LS_CAUSE_CAP_DROP, .w1c), (R.LS_CAUSE_OVERLAP, .w1c), (R.LS_CAUSE_SEG_END, .w1c), (R.LS_CAUSE_SEG_START, .w1c), (R.LS_CAUSE_KEYWORD, .w1c)]⟩,
  ⟨0x6064, 0, 1, [(R.LS_CAUSE_EN_EN, .rw)]⟩,
  ⟨0x6068, 0, 1, [(R.LS_CLIP_SAMPLES, .ro)]⟩,
  ⟨0x6100, 4, 64, [(R.BF_COEF_DELAY, .rw), (R.BF_COEF_WEIGHT, .rw)]⟩,
  ⟨0x6200, 0, 1, [(R.BF_EN_EN, .rw)]⟩,
  ⟨0x6210, 0, 1, [(R.KW_CFG_FEAT_OFS, .rw), (R.KW_CFG_FEAT_FRAMES, .rw), (R.KW_CFG_REFRACT, .rw), (R.KW_CFG_KW_N, .rw)]⟩,
  ⟨0x6214, 0, 1, [(R.KW_POP_VALID, .rc), (R.KW_POP_CLASS, .rc), (R.KW_POP_SCORE, .rc), (R.KW_POP_FRAME, .rc)]⟩,
  ⟨0x6218, 0, 1, [(R.KW_CNT_LOST, .ro), (R.KW_CNT_DETECT, .ro)]⟩,
  ⟨0x6280, 4, 32, [(R.KW_TH_TH, .rw)]⟩,
  ⟨0x6300, 8, 8, [(R.NET_A_VALID, .rw), (R.NET_A_LEAF, .rw), (R.NET_A_SRC, .rw), (R.NET_A_RG_FIRST, .rw), (R.NET_A_RG_COUNT, .rw), (R.NET_A_OUTS, .rw)]⟩]
/-- Registers of the Control-die block, part 11. -/
def cdRegs11 : List RegDesc := [
  ⟨0x6304, 8, 8, [(R.NET_B_SHIFT, .rw), (R.NET_B_RELU, .rw), (R.NET_B_PREC, .rw)]⟩,
  ⟨0x6340, 0, 1, [(R.POCKET_LD_SRC_OFF, .rw)]⟩,
  ⟨0x6344, 0, 1, [(R.POCKET_LD_CMD_GO, .w1s), (R.POCKET_LD_CMD_LEAF, .rw), (R.POCKET_LD_CMD_FIRST_ROW, .rw), (R.POCKET_LD_CMD_COUNT, .rw)]⟩,
  ⟨0x6348, 0, 1, [(R.POCKET_STAT_BUSY, .ro), (R.POCKET_STAT_LOADED, .ro), (R.POCKET_STAT_BAD, .ro), (R.POCKET_STAT_ERR, .ro), (R.POCKET_STAT_TALLY, .ro)]⟩,
  ⟨0x6400, 0, 1, [(R.CAP_CTRL_SIZE_LOG, .rw), (R.CAP_CTRL_EN, .rw)]⟩,
  ⟨0x6404, 0, 1, [(R.CAP_BASE_OFF, .rw)]⟩,
  ⟨0x6408, 0, 1, [(R.CAP_SEM_SEMEN, .rw), (R.CAP_SEM_SEG_SEM, .rw), (R.CAP_SEM_BLOCK_SEM, .rw)]⟩,
  ⟨0x640C, 0, 1, [(R.CAP_PROD_IDX, .ro)]⟩,
  ⟨0x6410, 0, 1, [(R.CAP_CONS_IDX, .rw)]⟩,
  ⟨0x6414, 0, 1, [(R.CAP_CNT_DROPPED, .ro), (R.CAP_CNT_SEGMENTS, .ro)]⟩,
  ⟨0x6500, 0, 1, [(R.PB_CTRL_ERR, .ro), (R.PB_CTRL_SLOT_MASK, .rw), (R.PB_CTRL_PB_SIZE_LOG, .rw), (R.PB_CTRL_PB_SEMEN, .rw), (R.PB_CTRL_WIDTH, .rw), (R.PB_CTRL_FMT, .rw), (R.PB_CTRL_RATE, .rw), (R.PB_CTRL_EN, .rw)]⟩,
  ⟨0x6504, 0, 1, [(R.PB_BASE_OFF, .rw), (R.PB_BASE_PB_SEM, .rw)]⟩]
/-- Registers of the Control-die block, part 12. -/
def cdRegs12 : List RegDesc := [
  ⟨0x6508, 0, 1, [(R.PB_PROD_IDX, .rw)]⟩,
  ⟨0x650C, 0, 1, [(R.PB_CONS_IDX, .ro)]⟩,
  ⟨0x6510, 0, 1, [(R.PB_CNT_UNDERRUN, .ro)]⟩,
  ⟨0x5000, 0, 1, [(R.SEC_STAT_LC, .ro), (R.SEC_STAT_DBG_OPEN, .ro), (R.SEC_STAT_TAMPER_IN, .ro), (R.SEC_STAT_ZEROISING, .ro), (R.SEC_STAT_PUBHASH_SET, .ro), (R.SEC_STAT_VGEN, .ro), (R.SEC_STAT_ACC_CTR, .ro)]⟩,
  ⟨0x5004, 0, 1, [(R.SEC_BOOTNO_BOOTNO, .ro)]⟩,
  ⟨0x5008, 0, 1, [(R.TRNG_STAT_STATE, .ro), (R.TRNG_STAT_T_READY, .ro)]⟩,
  ⟨0x500C, 0, 1, [(R.TRNG_CNT_RCT_FAIL, .ro), (R.TRNG_CNT_APT_FAIL, .ro)]⟩,
  ⟨0x5024, 0, 1, [(R.VAULT_STAT_WEAR, .ro)]⟩,
  ⟨0x5010, 0, 1, [(R.LC_CMD_KEY, .wo), (R.LC_CMD_TARGET, .wo)]⟩,
  ⟨0x5014, 0, 1, [(R.LC_RES_RESULT, .ro)]⟩,
  ⟨0x5018, 0, 1, [(R.SEC_CAUSE_COUNT, .ro), (R.SEC_CAUSE_VAULT_ERR, .w1c), (R.SEC_CAUSE_DBG_FAIL, .w1c), (R.SEC_CAUSE_DBG_OPEN, .w1c), (R.SEC_CAUSE_KDEC_FAIL, .w1c), (R.SEC_CAUSE_TRNG_FAIL, .w1c), (R.SEC_CAUSE_LC_CHANGE, .w1c), (R.SEC_CAUSE_ZEROISED, .w1c), (R.SEC_CAUSE_TAMPER, .w1c)]⟩,
  ⟨0x501C, 0, 1, [(R.SEC_CAUSE_EN_EN, .rw)]⟩]
/-- Registers of the Control-die block, part 13. -/
def cdRegs13 : List RegDesc := [
  ⟨0x5020, 0, 1, [(R.KDEC_LOG_VALID, .w1c), (R.KDEC_LOG_OVER, .ro), (R.KDEC_LOG_STATUS, .ro), (R.KDEC_LOG_COUNTER, .ro)]⟩,
  ⟨0x5040, 4, 16, [(R.ID_PUB_BYTES, .ro)]⟩,
  ⟨0x5080, 4, 12, [(R.PUB_HASH_BYTES, .rw)]⟩,
  ⟨0x5100, 4, 32, [(R.SLOT_ATTR_VALID, .ro), (R.SLOT_ATTR_KIND, .ro), (R.SLOT_ATTR_FRESH, .ro), (R.SLOT_ATTR_PURPOSE, .ro), (R.SLOT_ATTR_USES, .ro)]⟩,
  ⟨0x5200, 4, 8, [(R.DBG_CHAL_BYTES, .ro)]⟩,
  ⟨0x5220, 4, 8, [(R.DBG_RESP_BYTES, .wo)]⟩,
  ⟨0x5240, 0, 1, [(R.DBG_CTRL_GO, .w1s), (R.DBG_CTRL_SLOT, .rw), (R.DBG_CTRL_RESULT, .ro), (R.DBG_CTRL_FAILS, .ro)]⟩,
  ⟨0x5300, 0, 1, [(R.MAC_SRC_OFF, .rw)]⟩,
  ⟨0x5304, 0, 1, [(R.MAC_LEN_LEN, .rw)]⟩,
  ⟨0x5308, 0, 1, [(R.MAC_CTRL_GO, .w1s), (R.MAC_CTRL_BUSY, .ro), (R.MAC_CTRL_SLOT, .rw), (R.MAC_CTRL_STATUS, .ro)]⟩,
  ⟨0x5320, 4, 8, [(R.MAC_OUT_BYTES, .ro)]⟩,
  ⟨0x60, 0, 1, [(R.SAFE_SUM_LD1, .ro), (R.SAFE_SUM_LD0, .ro)]⟩]
/-- Registers of the Control-die block, part 14. -/
def cdRegs14 : List RegDesc := [
  ⟨0x64, 0, 1, [(R.SAFE_CAUSE_COUNT, .ro), (R.SAFE_CAUSE_LD_RESET, .w1c), (R.SAFE_CAUSE_HBTEST_FAIL, .w1c), (R.SAFE_CAUSE_MISMATCH, .w1c)]⟩,
  ⟨0x68, 0, 1, [(R.SAFE_CAUSE_EN_EN, .rw)]⟩,
  ⟨0x6C, 0, 1, [(R.SAFE_LOG_VALID, .w1c), (R.SAFE_LOG_OVER, .ro), (R.SAFE_LOG_KIND, .ro), (R.SAFE_LOG_DIE, .ro), (R.SAFE_LOG_CH, .ro)]⟩,
  ⟨0x8030, 0, 1, [(R.LB_HBTEST_FAIL, .ro), (R.LB_HBTEST_PASS, .ro), (R.LB_HBTEST_HOLD, .w1s)]⟩,
  ⟨0x1000, 0, 1, [(R.GSR_GROUP, .ro)]⟩,
  ⟨0x1004, 0, 1, [(R.INT_EN_EN, .rw)]⟩,
  ⟨0x1008, 0, 1, [(R.INT_CTRL_SD_POLL, .rw), (R.INT_CTRL_EDGE, .rw), (R.INT_CTRL_MASTER, .rw)]⟩,
  ⟨0x100C, 0, 1, [(R.INT_STAT_ASSERTED, .ro), (R.INT_STAT_PIN, .ro), (R.INT_STAT_EOI_WIN, .ro), (R.INT_STAT_PENDING, .ro)]⟩,
  ⟨0x1010, 0, 1, [(R.INT_EOI_VAL, .wo)]⟩,
  ⟨0x1014, 0, 1, [(R.SYS_CAUSE_COUNT, .ro), (R.SYS_CAUSE_SD_POLL, .w1c), (R.SYS_CAUSE_DIES, .w1c), (R.SYS_CAUSE_CD_LINK, .w1c), (R.SYS_CAUSE_PWR_DONE, .w1c), (R.SYS_CAUSE_WIMG_END, .w1c), (R.SYS_CAUSE_PARK_ERR, .w1c), (R.SYS_CAUSE_ADDR_ERR, .w1c)]⟩,
  ⟨0x1018, 0, 1, [(R.SYS_CAUSE_EN_EN, .rw)]⟩,
  ⟨0x101C, 0, 1, [(R.INT_CNT_ASSERTS, .ro)]⟩]
/-- Registers of the Control-die block, part 15. -/
def cdRegs15 : List RegDesc := [
  ⟨0x1020, 4, 4, [(R.SD_GRP_VALID, .ro), (R.SD_GRP_SUM, .ro)]⟩,
  ⟨0x50000, 32, 8, [(R.DMA_SRC_LO_ADDR, .rw)]⟩,
  ⟨0x50004, 32, 8, [(R.DMA_SRC_HI_ADDR, .rw)]⟩,
  ⟨0x50008, 32, 8, [(R.DMA_DST_LO_ADDR, .rw)]⟩,
  ⟨0x5000C, 32, 8, [(R.DMA_DST_HI_ADDR, .rw)]⟩,
  ⟨0x50010, 32, 8, [(R.DMA_LEN_LEN, .rw)]⟩,
  ⟨0x50014, 32, 8, [(R.DMA_CTRL_GO, .w1s), (R.DMA_CTRL_ABORT, .w1s), (R.DMA_CTRL_SIG, .rw), (R.DMA_CTRL_SEMEN, .rw), (R.DMA_CTRL_WING, .rw), (R.DMA_CTRL_WIN, .rw), (R.DMA_CTRL_SEM, .rw)]⟩,
  ⟨0x50018, 32, 8, [(R.DMA_STAT_BUSY, .ro), (R.DMA_STAT_ERR, .ro)]⟩,
  ⟨0x5001C, 32, 8, [(R.DMA_DONE_BYTES, .ro)]⟩,
  ⟨0x50100, 0, 1, [(R.DMA_CAUSE_COUNT, .ro), (R.DMA_CAUSE_ERR, .w1c), (R.DMA_CAUSE_DONE, .w1c)]⟩,
  ⟨0x50104, 0, 1, [(R.DMA_CAUSE_EN_EN, .rw)]⟩,
  ⟨0x70000, 0, 1, [(R.DBG_RUN_STEP, .w1s), (R.DBG_RUN_RESUME, .w1s), (R.DBG_RUN_HALT, .w1s)]⟩]
/-- Registers of the Control-die block, part 16. -/
def cdRegs16 : List RegDesc := [
  ⟨0x300, 0, 1, [(R.GPIO_OUT_OUT, .rw)]⟩,
  ⟨0x304, 0, 1, [(R.GPIO_OE_OE, .rw)]⟩,
  ⟨0x308, 0, 1, [(R.GPIO_IN_IN, .ro)]⟩,
  ⟨0x30C, 0, 1, [(R.GPIO_PULL_P, .rw)]⟩,
  ⟨0x310, 0, 1, [(R.GPIO_DRV_D, .rw)]⟩,
  ⟨0x320, 0, 1, [(R.PAD_STAT_PERST, .ro), (R.PAD_STAT_WAKE, .ro), (R.PAD_STAT_TAMPER, .ro), (R.PAD_STAT_LIMP, .ro), (R.PAD_STAT_MUTE, .ro), (R.PAD_STAT_WDT_IN, .ro), (R.PAD_STAT_LPCLK, .ro), (R.PAD_STAT_TESTMODE, .ro)]⟩,
  ⟨0x324, 0, 1, [(R.CD_TEMP_WARN, .ro), (R.CD_TEMP_TSD_CNT, .ro), (R.CD_TEMP_TEMP, .ro)]⟩,
  ⟨0x340, 4, 16, [(R.PMB_STAT_STATUS, .ro), (R.PMB_STAT_ADDR, .ro), (R.PMB_STAT_DIE, .ro), (R.PMB_STAT_STATE, .ro)]⟩]
/-- All registers of the Control-die block. -/
def cdRegs : List RegDesc :=
  cdRegs0 ++ cdRegs1 ++ cdRegs2 ++ cdRegs3 ++ cdRegs4 ++ cdRegs5 ++ cdRegs6 ++ cdRegs7 ++ cdRegs8 ++ cdRegs9 ++ cdRegs10 ++ cdRegs11 ++ cdRegs12 ++ cdRegs13 ++ cdRegs14 ++ cdRegs15 ++ cdRegs16

/-- Registers of the Stack-die block, part 0. -/
def sdRegs0 : List RegDesc := [
  ⟨0x0, 0, 1, [(R.SD_ID_DIE, .ro)]⟩,
  ⟨0x100, 0, 1, [(R.SCRUB_PERIOD_SECONDS, .rw)]⟩,
  ⟨0x104, 0, 1, [(R.SCRUB_PASS_PASSES, .ro)]⟩,
  ⟨0x108, 0, 1, [(R.SCRUB_WHERE_WING, .ro), (R.SCRUB_WHERE_POS, .ro), (R.SCRUB_WHERE_LEAF, .ro), (R.SCRUB_WHERE_ROW, .ro)]⟩,
  ⟨0x110, 0, 1, [(R.SPARECOL_USED, .ro)]⟩,
  ⟨0x114, 0, 1, [(R.FUSED_OUT_W, .ro)]⟩,
  ⟨0x118, 0, 1, [(R.DEGRADED_WING, .ro)]⟩,
  ⟨0x400, 0, 1, [(R.KV_ARG_COUNT, .rw), (R.KV_ARG_WING, .rw), (R.KV_ARG_BASE, .rw)]⟩,
  ⟨0x404, 0, 1, [(R.KV_CMD_OP, .wo), (R.KV_CMD_CARREL, .wo)]⟩,
  ⟨0x408, 0, 1, [(R.KV_STAT_CARREL, .ro), (R.KV_STAT_RESULT, .ro)]⟩,
  ⟨0x800, 4, 256, [(R.KV_TAB_VALID, .ro), (R.KV_TAB_WING, .ro), (R.KV_TAB_COUNT, .ro), (R.KV_TAB_BASE, .ro)]⟩,
  ⟨0x200, 16, 4, [(R.LNK_STAT_UP, .ro), (R.LNK_STAT_SPARE, .ro), (R.LNK_STAT_TRAIN, .ro), (R.LNK_STAT_LANE, .ro)]⟩]
/-- Registers of the Stack-die block, part 1. -/
def sdRegs1 : List RegDesc := [
  ⟨0x204, 16, 4, [(R.LNK_CNT_REPLAY, .ro), (R.LNK_CNT_CRC, .ro)]⟩,
  ⟨0x208, 16, 4, [(R.LNK_TRN_FULL, .ro), (R.LNK_TRN_SHORT, .ro)]⟩,
  ⟨0x240, 0, 1, [(R.LNK_ERR_VALID, .w1c), (R.LNK_ERR_OVER, .ro), (R.LNK_ERR_PORT, .ro), (R.LNK_ERR_TYPE, .ro), (R.LNK_ERR_VC, .ro)]⟩,
  ⟨0x244, 0, 1, [(R.ROUTE_SD, .ro)]⟩,
  ⟨0x250, 0, 1, [(R.LNK_CAUSE_COUNT, .ro), (R.LNK_CAUSE_BADPKT, .w1c), (R.LNK_CAUSE_ROUTE_CHG, .w1c), (R.LNK_CAUSE_LINK_DOWN, .w1c), (R.LNK_CAUSE_LANE_SPARE, .w1c)]⟩,
  ⟨0x254, 0, 1, [(R.LNK_CAUSE_EN_EN, .rw)]⟩,
  ⟨0x260, 0, 1, [(R.TELEM_LAST0_TEMP, .ro)]⟩,
  ⟨0x264, 0, 1, [(R.TELEM_LAST1_DROOP, .ro), (R.TELEM_LAST1_LEVEL, .ro)]⟩,
  ⟨0x268, 0, 1, []⟩,
  ⟨0x26C, 0, 1, []⟩,
  ⟨0x500, 0, 1, [(R.SD_EPOCH_NODE, .ro), (R.SD_EPOCH_EPOCH, .ro)]⟩,
  ⟨0x504, 0, 1, [(R.WO_LOG0_VALID, .w1c), (R.WO_LOG0_OVER, .ro), (R.WO_LOG0_STATUS, .ro), (R.WO_LOG0_SRC_NODE, .ro), (R.WO_LOG0_SRC_UNIT, .ro), (R.WO_LOG0_KIND, .ro), (R.WO_LOG0_DST_UNIT, .ro)]⟩]
/-- Registers of the Stack-die block, part 2. -/
def sdRegs2 : List RegDesc := [
  ⟨0x508, 0, 1, [(R.WO_LOG1_ORDER, .ro), (R.WO_LOG1_EPOCH, .ro)]⟩,
  ⟨0x50C, 0, 1, [(R.WO_CNT_COUNT, .ro)]⟩,
  ⟨0x600, 0, 1, [(R.LEVEL_IN_FORCE, .ro), (R.LEVEL_LEVEL, .rw)]⟩,
  ⟨0x700, 0, 1, [(R.SD_SUM_WO, .ro), (R.SD_SUM_LNK, .ro), (R.SD_SUM_WING, .ro)]⟩]
/-- All registers of the Stack-die block. -/
def sdRegs : List RegDesc :=
  sdRegs0 ++ sdRegs1 ++ sdRegs2

/-- Registers of the wing block, part 0. -/
def wingRegs0 : List RegDesc := [
  ⟨0x0, 0, 1, [(R.FMAP_LO_POS, .ro)]⟩,
  ⟨0x4, 0, 1, [(R.FMAP_HI_SPARE, .ro), (R.FMAP_HI_POS, .ro)]⟩,
  ⟨0x8, 0, 1, [(R.FPOS_LO_F, .ro)]⟩,
  ⟨0xC, 0, 1, [(R.FPOS_HI_F, .ro)]⟩,
  ⟨0x10, 0, 1, [(R.FOLIO_CTRL_RETRY, .w1s), (R.FOLIO_CTRL_READMIT, .w1s), (R.FOLIO_CTRL_SCRUB_CE_ACT, .rw), (R.FOLIO_CTRL_AUTO_READMIT, .rw), (R.FOLIO_CTRL_AUTO_TAKEOVER, .rw)]⟩,
  ⟨0x14, 0, 1, [(R.FOLIO_STAT_OP, .ro), (R.FOLIO_STAT_TARGET, .ro), (R.FOLIO_STAT_FOLIO, .ro), (R.FOLIO_STAT_PHASE, .ro), (R.FOLIO_STAT_ERR, .ro), (R.FOLIO_STAT_BLOCKED, .ro)]⟩,
  ⟨0x18, 0, 1, [(R.SHADOW_CNT_COUNT, .ro)]⟩,
  ⟨0x20, 0, 1, [(R.TALLY_LOG0_VALID, .w1c), (R.TALLY_LOG0_OVER, .ro), (R.TALLY_LOG0_FOLIO, .ro), (R.TALLY_LOG0_POS, .ro), (R.TALLY_LOG0_LEAF, .ro), (R.TALLY_LOG0_RG, .ro), (R.TALLY_LOG0_SEG, .ro), (R.TALLY_LOG0_PLANE, .ro), (R.TALLY_LOG0_SYND, .ro)]⟩,
  ⟨0x24, 0, 1, [(R.TALLY_LOG1_TAG, .ro), (R.TALLY_LOG1_SWEEP, .ro)]⟩,
  ⟨0x28, 0, 1, [(R.TALLY_CNT_COUNT, .ro)]⟩,
  ⟨0x30, 0, 1, [(R.SCRUB_LOG0_VALID, .w1c), (R.SCRUB_LOG0_OVER, .ro), (R.SCRUB_LOG0_KIND, .ro), (R.SCRUB_LOG0_SRC, .ro), (R.SCRUB_LOG0_POS, .ro), (R.SCRUB_LOG0_LEAF, .ro), (R.SCRUB_LOG0_ROW, .ro), (R.SCRUB_LOG0_WORD, .ro)]⟩,
  ⟨0x34, 0, 1, [(R.SCRUB_LOG1_BIT, .ro)]⟩]
/-- Registers of the wing block, part 1. -/
def wingRegs1 : List RegDesc := [
  ⟨0x38, 0, 1, [(R.SCRUB_CNT_CE, .ro), (R.SCRUB_CNT_UE, .ro), (R.SCRUB_CNT_TALLY, .ro)]⟩,
  ⟨0x40, 4, 14, [(R.LEAF_PREC_L, .rw)]⟩,
  ⟨0x80, 0, 1, [(R.WING_CAUSE_COUNT, .ro), (R.WING_CAUSE_BLOCKED, .w1c), (R.WING_CAUSE_RETIRED, .w1c), (R.WING_CAUSE_RELOAD_FAIL, .w1c), (R.WING_CAUSE_READMIT_DONE, .w1c), (R.WING_CAUSE_TAKEOVER_DONE, .w1c), (R.WING_CAUSE_SCRUB_TALLY, .w1c), (R.WING_CAUSE_SCRUB_UE, .w1c), (R.WING_CAUSE_SCRUB_CE, .w1c), (R.WING_CAUSE_TALLY, .w1c)]⟩,
  ⟨0x84, 0, 1, [(R.WING_CAUSE_EN_EN, .rw)]⟩,
  ⟨0xC0, 4, 14, [(R.SCALE_KIND3, .ro), (R.SCALE_SHIFT3, .ro), (R.SCALE_KIND2, .ro), (R.SCALE_SHIFT2, .ro), (R.SCALE_KIND1, .ro), (R.SCALE_SHIFT1, .ro), (R.SCALE_KIND0, .ro), (R.SCALE_SHIFT0, .ro)]⟩,
  ⟨0x100, 0, 1, [(R.SHIST_WR_ALL, .wo), (R.SHIST_WR_SET, .wo), (R.SHIST_WR_SHIFT, .wo), (R.SHIST_WR_TAG, .wo)]⟩,
  ⟨0x104, 0, 1, [(R.REPLAY_CNT_I, .ro), (R.REPLAY_CNT_C, .ro)]⟩,
  ⟨0x108, 0, 1, [(R.OVF_LOG0_VALID, .w1c), (R.OVF_LOG0_OVER, .ro), (R.OVF_LOG0_FOLIO, .ro), (R.OVF_LOG0_SET, .ro), (R.OVF_LOG0_ENTRY, .ro), (R.OVF_LOG0_SHIFT, .ro), (R.OVF_LOG0_TAG, .ro)]⟩,
  ⟨0x10C, 0, 1, [(R.OVF_CNT_COUNT, .ro)]⟩,
  ⟨0x400, 4, 256, [(R.SHIST_VALID, .ro), (R.SHIST_SHIFT, .ro)]⟩,
  ⟨0x110, 0, 1, [(R.RR_CAUSE_COUNT, .ro), (R.RR_CAUSE_NOSLOT, .w1c), (R.RR_CAUSE_SLOT_REJ, .w1c), (R.RR_CAUSE_CREQ_DROP, .w1c), (R.RR_CAUSE_SEM_SAT, .w1c), (R.RR_CAUSE_RECL_TMO, .w1c), (R.RR_CAUSE_CRED_DROP, .w1c), (R.RR_CAUSE_PATROL, .w1c), (R.RR_CAUSE_PARITY, .w1c)]⟩,
  ⟨0x114, 0, 1, [(R.RR_CAUSE_EN_EN, .rw)]⟩]
/-- Registers of the wing block, part 2. -/
def wingRegs2 : List RegDesc := [
  ⟨0x118, 0, 1, [(R.RR_PAR_LOG_VALID, .w1c), (R.RR_PAR_LOG_OVER, .ro), (R.RR_PAR_LOG_SRC, .ro), (R.RR_PAR_LOG_ENGINE, .ro), (R.RR_PAR_LOG_BANK, .ro), (R.RR_PAR_LOG_LINE, .ro), (R.RR_PAR_LOG_WORD, .ro)]⟩,
  ⟨0x11C, 0, 1, [(R.CRED_LOG_VALID, .w1c), (R.CRED_LOG_OVER, .ro), (R.CRED_LOG_KIND, .ro), (R.CRED_LOG_WIN, .ro), (R.CRED_LOG_EPOCH, .ro), (R.CRED_LOG_SRC, .ro)]⟩,
  ⟨0x120, 0, 1, [(R.KV_POOL_COUNT, .ro), (R.KV_POOL_BASE, .ro)]⟩,
  ⟨0x124, 0, 1, [(R.KV_USED_BLOCKS, .ro)]⟩,
  ⟨0x128, 0, 1, [(R.SEM_SEL_SAT, .ro), (R.SEM_SEL_SEM, .rw)]⟩,
  ⟨0x12C, 0, 1, [(R.SEM_VAL_VALUE, .ro)]⟩,
  ⟨0x130, 0, 1, [(R.RR_CNT_PARITY, .ro), (R.RR_CNT_CRED_DROP, .ro)]⟩,
  ⟨0x134, 0, 1, [(R.CREQ_SEM_EN, .rw), (R.CREQ_SEM_SEM, .rw)]⟩,
  ⟨0x138, 0, 1, [(R.CREQ_POP_VALID, .rc), (R.CREQ_POP_WIN, .rc), (R.CREQ_POP_SRC, .rc), (R.CREQ_POP_LINES, .rc)]⟩,
  ⟨0x13C, 0, 1, [(R.CREQ_CNT_DEPTH, .ro), (R.CREQ_CNT_DROPS, .ro)]⟩,
  ⟨0x140, 0, 1, [(R.SLOT_CUR_LO0_S, .ro)]⟩,
  ⟨0x148, 0, 1, [(R.SLOT_CUR_LO1_S, .ro)]⟩]
/-- Registers of the wing block, part 3. -/
def wingRegs3 : List RegDesc := [
  ⟨0x150, 0, 1, [(R.SLOT_CUR_LO2_S, .ro)]⟩,
  ⟨0x158, 0, 1, [(R.SLOT_CUR_LO3_S, .ro)]⟩,
  ⟨0x144, 0, 1, [(R.SLOT_CUR_HI0_S, .ro)]⟩,
  ⟨0x14C, 0, 1, [(R.SLOT_CUR_HI1_S, .ro)]⟩,
  ⟨0x154, 0, 1, [(R.SLOT_CUR_HI2_S, .ro)]⟩,
  ⟨0x15C, 0, 1, [(R.SLOT_CUR_HI3_S, .ro)]⟩,
  ⟨0x160, 8, 4, [(R.SLOT_NEXT_LO_S, .rw)]⟩,
  ⟨0x164, 8, 4, [(R.SLOT_NEXT_HI_S, .rw)]⟩,
  ⟨0x180, 0, 1, [(R.SLOT_CTRL_LOAD, .w1s)]⟩,
  ⟨0x184, 0, 1, [(R.SLOT_STAT_PEND, .ro), (R.SLOT_STAT_STATUS, .ro), (R.SLOT_STAT_ENGINE, .ro), (R.SLOT_STAT_BANK, .ro), (R.SLOT_STAT_WIN, .ro), (R.SLOT_STAT_SLOT, .ro)]⟩,
  ⟨0x200, 16, 16, [(R.CW_SRC_STATE, .ro), (R.CW_SRC_EPOCH, .ro), (R.CW_SRC_SEM, .ro), (R.CW_SRC_SRC_NODE, .ro), (R.CW_SRC_SRC_UNIT, .ro)]⟩,
  ⟨0x204, 16, 16, [(R.CW_BASE_BASE, .ro)]⟩]
/-- Registers of the wing block, part 4. -/
def wingRegs4 : List RegDesc := [
  ⟨0x208, 16, 16, [(R.CW_LEN_LEN, .ro)]⟩,
  ⟨0x20C, 16, 16, [(R.CW_CRED_CRED, .ro)]⟩,
  ⟨0x190, 0, 1, [(R.WC_STAT_STATE, .ro), (R.WC_STAT_STOPREQ, .ro), (R.WC_STAT_QDEPTH, .ro), (R.WC_STAT_PC, .ro)]⟩,
  ⟨0x194, 0, 1, [(R.WC_ORDER_ORDER, .ro), (R.WC_ORDER_EPOCH, .ro)]⟩,
  ⟨0x198, 0, 1, [(R.WC_FLT_VALID, .w1c), (R.WC_FLT_OVER, .ro), (R.WC_FLT_ENGINE, .ro), (R.WC_FLT_CODE, .ro), (R.WC_FLT_PC, .ro)]⟩,
  ⟨0x19C, 0, 1, [(R.WC_ESTAT_ESTAT, .w1c)]⟩,
  ⟨0x1A0, 0, 1, [(R.WC_QFILL_LINK, .ro), (R.WC_QFILL_MOVE, .ro), (R.WC_QFILL_VEC, .ro), (R.WC_QFILL_CIM, .ro)]⟩,
  ⟨0x1B0, 0, 1, [(R.MV_STAT_OP, .ro), (R.MV_STAT_CREDWAIT, .ro), (R.MV_STAT_FETCHES, .ro), (R.MV_STAT_LEFT, .ro)]⟩,
  ⟨0x1B4, 0, 1, [(R.MV_CNT_LINES, .ro)]⟩,
  ⟨0x1B8, 0, 1, [(R.VEC_CNT_NONFIN, .ro), (R.VEC_CNT_POISONED, .ro)]⟩]
/-- All registers of the wing block. -/
def wingRegs : List RegDesc :=
  wingRegs0 ++ wingRegs1 ++ wingRegs2 ++ wingRegs3 ++ wingRegs4

/-- Registers of the Load-die block, part 0. -/
def ldRegs0 : List RegDesc := [
  ⟨0x0, 0, 1, [(R.LD_ID_PART, .ro), (R.LD_ID_STEP, .ro), (R.LD_ID_DIE, .ro)]⟩,
  ⟨0x2, 0, 1, [(R.LD_STAT_LIMP, .ro), (R.LD_STAT_SRC, .ro), (R.LD_STAT_UV, .ro), (R.LD_STAT_RESTARTING, .ro), (R.LD_STAT_MUTE, .ro), (R.LD_STAT_MICPWR_ON, .ro), (R.LD_STAT_LIMP_N, .ro), (R.LD_STAT_AGG_OVER, .ro), (R.LD_STAT_FEEDCUT, .ro)]⟩,
  ⟨0x4, 0, 1, [(R.LD_CAUSE_COUNT, .ro), (R.LD_CAUSE_AGG_OVER, .w1c), (R.LD_CAUSE_OVERRUN, .w1c), (R.LD_CAUSE_FEEDCUT, .w1c), (R.LD_CAUSE_UV_RESTORED, .w1c), (R.LD_CAUSE_UV, .w1c), (R.LD_CAUSE_LIMP_EXIT, .w1c), (R.LD_CAUSE_LIMP_ENTRY, .w1c)]⟩,
  ⟨0x6, 0, 1, [(R.LD_CAUSE_EN_EN, .rw)]⟩,
  ⟨0x8, 0, 1, [(R.CH_SUM_LO_CH, .ro)]⟩,
  ⟨0xA, 0, 1, [(R.CH_SUM_HI_CH, .ro)]⟩,
  ⟨0xC, 0, 1, [(R.UV_CFG_TH, .rw)]⟩,
  ⟨0xE, 0, 1, [(R.UV_CNT_SHUTDOWNS, .ro)]⟩,
  ⟨0x10, 0, 1, [(R.FEEDCUT_CTRL_CLR, .w1s)]⟩,
  ⟨0x12, 0, 1, [(R.FEEDCUT_CNT_G, .ro)]⟩,
  ⟨0x14, 0, 1, [(R.LIMP_CTRL_EXIT, .w1s)]⟩,
  ⟨0x16, 0, 1, [(R.HB_STAT_AGE, .ro)]⟩]
/-- Registers of the Load-die block, part 1. -/
def ldRegs1 : List RegDesc := [
  ⟨0x18, 0, 1, [(R.MICPWR_CTRL_EN, .rw)]⟩,
  ⟨0x1A, 0, 1, [(R.AGG_CUR_SUM, .ro)]⟩,
  ⟨0x40, 64, 24, [(R.CH_ILIM_ILIM, .rw)]⟩,
  ⟨0x42, 64, 24, [(R.CH_INRUSH_MULT, .rw), (R.CH_INRUSH_WINDOW, .rw)]⟩,
  ⟨0x44, 64, 24, [(R.CH_CMD_SLOW, .wo), (R.CH_CMD_OP, .wo)]⟩,
  ⟨0x46, 64, 24, [(R.CH_RETRY_STRAT, .rw), (R.CH_RETRY_COUNT, .rw), (R.CH_RETRY_INTERVAL, .rw)]⟩,
  ⟨0x48, 64, 24, [(R.CH_RETRY2_CAP, .rw), (R.CH_RETRY2_GOOD, .rw)]⟩,
  ⟨0x4A, 64, 24, [(R.CH_WIRE_WIRE_I, .rw)]⟩,
  ⟨0x4C, 64, 24, [(R.CH_BUDGET_BUDGET, .rw)]⟩,
  ⟨0x4E, 64, 24, [(R.CH_I2T_PER_PER, .rw)]⟩,
  ⟨0x50, 64, 24, [(R.CH_RPRIO_PRIO, .rw)]⟩,
  ⟨0x52, 64, 24, [(R.CH_OFFDIAG_EN, .rw)]⟩]
/-- Registers of the Load-die block, part 2. -/
def ldRegs2 : List RegDesc := [
  ⟨0x54, 64, 24, [(R.CH_STAT_ON, .ro), (R.CH_STAT_OUT, .ro), (R.CH_STAT_INRUSH, .ro), (R.CH_STAT_AT_LIMIT, .ro), (R.CH_STAT_LIMP, .ro), (R.CH_STAT_LATCHED, .ro), (R.CH_STAT_RETRY_WAIT, .ro), (R.CH_STAT_RESTART_PEND, .ro), (R.CH_STAT_CLAMPED, .ro), (R.CH_STAT_HOT, .ro), (R.CH_STAT_FEEDCUT, .ro)]⟩,
  ⟨0x56, 64, 24, [(R.CH_FAULT_CODE, .ro), (R.CH_FAULT_RETRIES, .ro)]⟩,
  ⟨0x58, 64, 24, [(R.CH_CAUSE_COUNT, .ro), (R.CH_CAUSE_INRUSH_END, .w1c), (R.CH_CAUSE_STUCK_ON, .w1c), (R.CH_CAUSE_STB, .w1c), (R.CH_CAUSE_OL_OFF, .w1c), (R.CH_CAUSE_OL_ON, .w1c), (R.CH_CAUSE_I2T, .w1c), (R.CH_CAUSE_OT, .w1c), (R.CH_CAUSE_SHORT, .w1c)]⟩,
  ⟨0x5A, 64, 24, [(R.CH_CAUSE_EN_EN, .rw)]⟩,
  ⟨0x5C, 64, 24, [(R.CH_CUR_I, .ro)]⟩,
  ⟨0x5E, 64, 24, [(R.CH_TEMP_T, .ro)]⟩,
  ⟨0x60, 64, 24, [(R.CH_I2T_Q_Q, .ro)]⟩,
  ⟨0x62, 64, 24, [(R.CH_LEARN_VALID, .ro), (R.CH_LEARN_LMAX, .ro)]⟩,
  ⟨0x64, 64, 24, [(R.CH_CNT_TRIPS, .ro), (R.CH_CNT_CLAMPS, .ro)]⟩,
  ⟨0x66, 64, 24, [(R.CH_OTP_A_VAL, .ro)]⟩,
  ⟨0x68, 64, 24, [(R.CH_OTP_B_VAL, .ro)]⟩,
  ⟨0x6A, 64, 24, [(R.CH_OTP_C_VAL, .ro)]⟩]
/-- Registers of the Load-die block, part 3. -/
def ldRegs3 : List RegDesc := [
  ⟨0x640, 0, 1, [(R.ADC_CTRL_LEN, .rw), (R.ADC_CTRL_PER_EN, .rw), (R.ADC_CTRL_TRIG, .w1s)]⟩,
  ⟨0x642, 0, 1, [(R.ADC_PER_PERIOD, .rw)]⟩,
  ⟨0x644, 0, 1, [(R.ADC_STAT_RUN, .ro), (R.ADC_STAT_PEND, .ro), (R.ADC_STAT_OVERRUN, .rc)]⟩,
  ⟨0x646, 0, 1, [(R.ADC_SEQNO_N, .ro)]⟩,
  ⟨0x680, 2, 32, [(R.ADC_SEQ_SRC, .rw)]⟩,
  ⟨0x6C0, 2, 32, [(R.ADC_RES_CODE, .ro)]⟩,
  ⟨0x700, 2, 32, [(R.ADC_LAST_CODE, .ro)]⟩,
  ⟨0x740, 0, 1, [(R.OTP_ADDR_WORD, .rw)]⟩,
  ⟨0x742, 0, 1, [(R.OTP_DATA_DATA, .rw)]⟩,
  ⟨0x744, 0, 1, [(R.OTP_CMD_PROG, .w1s)]⟩,
  ⟨0x746, 0, 1, [(R.OTP_STAT_BUSY, .ro), (R.OTP_STAT_ERR, .ro)]⟩,
  ⟨0x1C, 0, 1, [(R.LD_RSTCAUSE_VREG, .ro), (R.LD_RSTCAUSE_CLKMON, .ro), (R.LD_RSTCAUSE_POR, .ro)]⟩]
/-- Registers of the Load-die block, part 4. -/
def ldRegs4 : List RegDesc := [
  ⟨0x1E, 0, 1, [(R.FEEDCUT_TEST_TESTING, .ro), (R.FEEDCUT_TEST_ASSERT, .w1s)]⟩]
/-- All registers of the Load-die block. -/
def ldRegs : List RegDesc :=
  ldRegs0 ++ ldRegs1 ++ ldRegs2 ++ ldRegs3 ++ ldRegs4

end Sys2Proof.Machine
end

