-- ==== Sys2Proof/Machine/Store.lean ====
section
/-! DEFINITION. Sparse data by number: a list of (key, value) pairs with strictly rising keys and no entry equal to
what an unlisted key reads as, so that equal contents are equal data. Every indexed part of the state is one. -/

namespace Sys2Proof.Machine

/-- Sparse data: (key, value) pairs. -/
abbrev Store (ν : Type) := List (Nat × ν)

/-- The value at a key; `d` where the key is not listed. -/
def Store.get {ν : Type} (d : ν) : Store ν → Nat → ν
  | [], _ => d
  | (k, v) :: m, a => if a = k then v else Store.get d m a

/-- The store without a key. -/
def Store.erase {ν : Type} : Store ν → Nat → Store ν
  | [], _ => []
  | (k, v) :: m, a => if a = k then Store.erase m a else (k, v) :: Store.erase m a

/-- The store with a value put at a key, whatever was there. -/
def Store.insert {ν : Type} : Store ν → Nat → ν → Store ν
  | [], a, x => [(a, x)]
  | (k, v) :: m, a, x =>
    if a < k then (a, x) :: (k, v) :: m else if a = k then (a, x) :: m else (k, v) :: Store.insert m a x

/-- Writes a value: a value equal to the default removes the entry. -/
def Store.put {ν : Type} [DecidableEq ν] (d : ν) (m : Store ν) (a : Nat) (x : ν) : Store ν :=
  if x = d then Store.erase m a else Store.insert m a x

/-- Every entry whose key lies in `lo ≤ key < hi` removed: a range put back to its default. -/
def Store.clear {ν : Type} (m : Store ν) (lo hi : Nat) : Store ν :=
  m.filter (fun e => !(decide (lo ≤ e.1) && decide (e.1 < hi)))

/-- The entries of `lo ≤ key < hi`, each at its distance from `at_` instead of `lo`; what lay there is gone. -/
def Store.copyTo {ν : Type} (m : Store ν) (lo hi at_ : Nat) : Store ν :=
  (m.filter (fun e => decide (lo ≤ e.1) && decide (e.1 < hi))).foldl
    (fun a e => Store.insert a (at_ + (e.1 - lo)) e.2) (Store.clear m at_ (at_ + (hi - lo)))

/-- Every key above `a`. -/
def Store.above {ν : Type} (a : Nat) : Store ν → Bool
  | [] => true
  | (k, _) :: _ => decide (a < k)

/-- Keys strictly rising. -/
def Store.sorted {ν : Type} : Store ν → Bool
  | [] => true
  | (k, _) :: m => Store.above k m && Store.sorted m

/-- The canonical form of a store with default `d`. -/
def Store.wf {ν : Type} [DecidableEq ν] (d : ν) (m : Store ν) : Bool :=
  Store.sorted m && m.all (fun e => decide (e.2 ≠ d))

end Sys2Proof.Machine
end

