-- ==== Sys2Proof/Machine/State.lean ====
section
/-! DEFINITION. The state of the RFH-8T. Every register is a set of named fields in `fld` (Machine/RegMap.lean);
every byte memory is in `mem`; the rest is the state the chapters give the machine without a register of its own,
as records. Plain data throughout. -/

namespace Sys2Proof.Machine

/-- A load channel's state beside its registers (chapter 13). -/
structure Chan where
  /-- steady limit in force, in 0.05 A (R476) -/
  lim : Nat := 0
  /-- multiplier of the running inrush window in halves (R480) -/
  mult : Nat := 0
  /-- effective window of the running inrush window, in ms (R480) -/
  weff : Nat := 0
  /-- slew taken with the last ON (R477) -/
  slow : Bool := false
  /-- MULT and WINDOW of the previous ON, where there was one (R481) -/
  prevOn : Option (Nat × Nat) := none
  /-- a measurement of D runs (R481) -/
  learning : Bool := false
  /-- the last four values of D, newest first (R481) -/
  hist : List Nat := []
  /-- the retry wait has run out and the retry waits for R490 -/
  waitDone : Bool := false
  /-- the pending restart is a retry (R495) -/
  retryOwed : Bool := false
  /-- the junction is above the trip less the restart margin (R485, R490) -/
  warm : Bool := false
  /-- exact integrator Q in 25e-6 A^2 x ms (R487) -/
  q : Nat := 0
  deriving DecidableEq, Repr, Inhabited

/-- What the bridge sends a request for (R528, R531). -/
inductive LbOwn where
  /-- heartbeat -/
  | hb
  /-- summary poll (R536) -/
  | poll
  /-- OTP copy of channel `ch` (R541) -/
  | otp (ch : Nat)
  /-- telemetry of half 0 or 1 of ADC_LAST (R538) -/
  | tel (half : Nat)
  /-- detail words of a channel (R536, R537); `now` for the read that directly follows a command -/
  | detail (ch : Nat) (now : Bool)
  /-- clear of CH_CAUSE.INRUSH_END (R537) -/
  | inrush (ch : Nat)
  /-- channel command of ledger entry `e` (R529) -/
  | ledger (e : Nat) (ch : Nat)
  /-- OFF of the cross-check (R643) -/
  | cross (ch : Nat)
  /-- one frame of software access `acc` by initiator `init` (R527) -/
  | soft (init acc : Nat)
  /-- read for staging entry `e` (R530) -/
  | staged (e : Nat)
  deriving DecidableEq, Repr

/-- One request of the bridge (R524): CMD 1 WRITE, 2 READ, 3 HB; of an HB, `count` holds NEW and `words` the epoch. -/
structure LbReq where
  cmd : Nat
  idx : Nat
  count : Nat
  words : List Nat
  own : LbOwn
  deriving DecidableEq, Repr

/-- A port of a Control die's bridge to one Load die (R526, R531). -/
structure LbPort where
  /-- SEQ of the next request -/
  seq : Nat := 0
  /-- the request that waits for its answer, with its SEQ -/
  out : Option (Nat × LbReq) := none
  /-- resends of that request -/
  tries : Nat := 0
  /-- requests waiting, in the order of R531 -/
  q : List LbReq := []
  deriving DecidableEq, Repr, Inhabited

/-- What the bridge keeps of one Load die (R536 to R541). -/
structure LbCache where
  /-- LD_STAT at the last successful poll -/
  stat : Nat := 0
  /-- enabled LD_CAUSE bits and CH_SUM at the last successful poll -/
  cause : Nat := 0
  sum : Nat := 0
  /-- a poll has succeeded since the bridge came up -/
  polled : Bool := false
  /-- polls failed since the last successful one -/
  missed : Bool := false
  /-- next channel of the detail reads (R536), and of the periodic ones (R537) -/
  nextDetail : Nat := 0
  nextPer : Nat := 0
  /-- NEW is still to be sent (R533) -/
  newPend : Bool := false
  /-- last HB answered OK, and this die owns the port (LB_STAT) -/
  hbOk : Bool := false
  owner : Bool := false
  /-- PASS seen since the last power-up or wake (SAFE_SUM) -/
  hbTestOk : Bool := false
  /-- a Load die that had left limp-home (SAFE_CAUSE.LD_RESET) -/
  leftLimp : Bool := false
  /-- latest ADC_LAST of each source (R538) -/
  adc : Store Nat := []
  /-- channels whose reconciliation is due at their next detail read (R79, R554) -/
  recon : Nat := 0
  /-- that reconciliation only adds entries (R79, R556) -/
  reconAdd : Bool := false
  deriving DecidableEq, Repr, Inhabited

/-- What the bridge keeps of one channel (R537, R541, R643). -/
structure ChCache where
  stat : Nat := 0
  fault : Nat := 0
  otpA : Nat := 0
  otpB : Nat := 0
  otpC : Nat := 0
  /-- consecutive detail reads that found the channel unjustified -/
  unjust : Nat := 0
  /-- LDGET STATE shows FAULT 0xFF (R369) -/
  ff : Bool := false
  deriving DecidableEq, Repr, Inhabited

/-- One staging entry of the bridge (R530): initiator, address, and the data once it has arrived. -/
structure Stage where
  used : Bool := false
  init : Nat := 0
  addr : Nat := 0
  data : Option Nat := none
  /-- the read ended in NO_RESPONSE -/
  fail : Bool := false
  deriving DecidableEq, Repr, Inhabited

/-- A request to the ledger (R548): 0 claim, 1 ON, 3 raising RELIMIT. -/
structure LgReq where
  op : Nat
  ilim : Nat := 0
  mult : Nat := 0
  window : Nat := 0
  /-- asked for guaranteed, and priority -/
  guar : Bool := false
  prio : Nat := 0
  /-- CLAMPED of the status word -/
  clamped : Bool := false
  /-- the LDSET or BUDREQ that still waits: sequencer agent and status register -/
  waiter : Option (Nat × Nat) := none
  /-- semaphore of CSEM -/
  csem : Option Nat := none
  /-- the request has been deferred (R369) -/
  dfr : Bool := false
  deriving DecidableEq, Repr

/-- A command the ledger path has written and that waits for its answers (R368, R369, R370). -/
structure LgCmd where
  /-- 0 ON, 2 OFF, 3 lowering RELIMIT, 4 shed OFF, 5 raising RELIMIT -/
  why : Nat
  /-- Load dies whose answer is outstanding -/
  wait : List Nat
  /-- a half has answered OK -/
  ok : Bool := false
  /-- answer of the lowest written half; 6 stands for none -/
  ans : Option Nat := none
  /-- steady amount after success (R370), or before the raise -/
  amt : Nat := 0
  /-- status code on success: 0 GRANTED, 3 DEMOTED -/
  code : Nat := 0
  req : LgReq
  deriving DecidableEq, Repr

/-- A ledger entry's state beside GNT_A and GNT_B. -/
structure LgX where
  /-- order of grants and of deferrals (R543) -/
  gseq : Nat := 0
  dseq : Nat := 0
  /-- the entry's release as a shed or released holder is under way (R547, R550) -/
  shedding : Bool := false
  /-- the deferred request, or the one whose grant is APPLYING or waits for a LEVEL write -/
  req : Option LgReq := none
  /-- status code of that grant -/
  code : Nat := 0
  /-- the ON parameters in force; `none` for an entry made from a running channel (R554) -/
  par : Option (Nat × Nat × Nat) := none
  /-- entries whose release an APPLYING grant waits for (R550), and one of them has failed -/
  waits : List Nat := []
  failed : Bool := false
  /-- AMOUNT before an APPLYING raise -/
  oldAmt : Nat := 0
  /-- the window has ended while the die was in limp-home (R554) -/
  xdue : Bool := false
  /-- commands on the L-bus, oldest first -/
  cmds : List LgCmd := []
  /-- RELIMITs held until an application completes (R371) -/
  heldRel : List LgReq := []
  deriving DecidableEq, Repr, Inhabited

/-- The ledger's view of one Stack die's level (R547). -/
structure LvlX where
  /-- a LEVEL write is under way -/
  pend : Option Nat := none
  /-- granted claims whose BUDREQ waits for it -/
  raise : List Nat := []
  /-- claims whose current is released after a lowering, and whether they stay DEFERRED -/
  lower : List (Nat × Bool) := []
  /-- the 10 us of a lowering have passed -/
  timer : Bool := false
  deriving DecidableEq, Repr, Inhabited

/-- The kept answer of a Load die's port: SEQ of the request, and the words of the answer frame (R526). -/
structure LdKept where
  seq : Nat
  frame : List Nat
  deriving DecidableEq, Repr

/-- A software access that a lock holds back (R532). -/
structure LbHeld where
  init : Nat
  d : Nat
  off : Nat
  /-- words of a write; `none` for a host read -/
  words : Option (List Nat)
  deriving DecidableEq, Repr

/-- A Load die's state beside its registers (chapters 13, 14 and 17). -/
structure LdX where
  /-- programmed OTP words, 0 where unprogrammed (R473, R474) -/
  otp : Store Nat := []
  /-- the die is held in reset: VBAT below 5.5 V or a monitor reset (R497, R641) -/
  inReset : Bool := true
  /-- next entry of the running ADC sequence (R504) -/
  adcPos : Nat := 0
  /-- owner port (0 for CD0, 1 for CD1) and E_MAX (R534) -/
  owner : Option Nat := none
  eMax : Nat := 0
  /-- kept answer of each port (R526) -/
  kept : Store (Option LdKept) := []
  deriving DecidableEq, Repr, Inhabited

/-- A slip that the catalogue has taken from a ring (R398, R404): where it came from, what it runs, and what its
completion writes and signals. -/
structure Slip where
  q : Nat
  pos : Nat
  gen : Nat
  tag : Nat
  carrel : Option Nat := none
  prog : Nat := 0
  /-- ARG0 to ARG10, those at and beyond ARGC 0 -/
  args : List Nat := []
  /-- completion queue with the reserved place; none with NOCQ or BADCQ -/
  cq : Option Nat := none
  /-- DONE_SEM, where DONE_EN is 1 -/
  doneSem : Option Nat := none
  deriving DecidableEq, Repr, Inhabited

/-- A head slip kept on chip (R404): the slip's words, and whether WAIT_SEM has been subtracted. -/
structure Head where
  q : Nat
  words : List Nat
  semTaken : Bool := false
  deriving DecidableEq, Repr, Inhabited

/-- What waits for the standby's acknowledgement (R420). -/
inductive MirAct where
  /-- the dispatch of a slip -/
  | dispatch (x : Slip)
  /-- the completion record of a slip, with its words (PHASE still 0) -/
  | record (x : Slip) (words : List Nat)
  /-- the result of a Q_CMD -/
  | qcmd (result : Nat)
  /-- DIE, KVRES and RESULT of a CARREL_CMD -/
  | carrel (die kvres result : Nat)
  /-- a mirrored change that no action waits for -/
  | other
  deriving DecidableEq, Repr

/-- One bank of a vault record (R611): the accession counter of the record that wrote it, the vault generation under
which it is encrypted, the slot's attributes and key; `good` where it authenticates. -/
structure VaultRec where
  good : Bool := false
  counter : Nat := 0
  vgen : Nat := 0
  /-- EXPIRE_AT_RESET, FRESH, PURPOSE and USES; `empty` for an erased slot -/
  empty : Bool := true
  expire : Bool := false
  fresh : Bool := false
  purpose : Nat := 0
  uses : Nat := 0
  key : List Byte := []
  /-- writes of this record (R613) -/
  wear : Nat := 0
  deriving DecidableEq, Repr, Inhabited

/-- A PARK or UNPARK that the seal engine carries out (R243, R245). -/
structure SealJob where
  unpark : Bool
  die : Nat
  wing : Nat
  carrel : Nat
  blocks : Nat
  /-- device address of the segment -/
  addr : Nat
  slot : Nat
  key : List Byte
  no : Nat
  /-- header of the segment -/
  hdr : List Byte
  /-- data of the chunk that is being collected, and the number of the next chunk -/
  got : List Byte := []
  chunk : Nat := 0
  /-- a host access has failed; every block has been written -/
  err : Bool := false
  full : Bool := false
  deriving DecidableEq, Repr, Inhabited

/-- A message of the links (R221, R223): TYPE, destination and source, MSG0, MSG1 and data bytes. `org` is the engine
that sent it plus 8 times the word index of its instruction, for the operation a discarded packet fails (R232); it is
not on the wire. -/
structure Msg where
  ty : Nat
  dn : Nat
  du : Nat
  sn : Nat
  su : Nat
  m0 : Nat
  m1 : Nat
  data : List Byte := []
  org : Nat := 0
  deriving DecidableEq, Repr, Inhabited

/-- A PMBUS_RAIL record of the shelf list (R74): Stack die, PMBus address, SERVE and DOZE codes. -/
structure Rail where
  die : Nat
  addr : Nat
  serve : Nat
  doze : Nat
  deriving DecidableEq, Repr, Inhabited

/-- The records of an adopted shelf list, with the defaults of an absent record (R74, R544, R597). -/
structure Shelf where
  retire : Nat := 0
  fwMin : Nat := 0
  wdtTrap : Bool := false
  wdtMs : Nat := 20
  ledgerMax : Nat := 500
  /-- POWER_TABLE: retention current, then levels 0 to 15 -/
  power : List Nat := [2, 24, 30, 40, 50, 60, 72, 84, 96, 110, 124, 138, 152, 166, 180, 195, 210]
  target : Nat := 4
  hostWait : Nat := 10
  rails : List Rail := []
  /-- the 20 bytes of LISTEN_DEFAULTS -/
  listen : List Nat := [0x78, 24, 0, 0x10, 0x0F, 0, 12, 12, 1, 3, 0xDC, 0x05, 0xF4, 0x01, 150, 50, 0, 0, 0, 0]
  scrub : Nat := 86400
  deriving DecidableEq, Repr, Inhabited

/-- A weight-image load from host memory that runs (R84 to R87). -/
structure WLoad where
  /-- device address of the image, key slot, and the colophon -/
  base : Nat
  slot : Nat
  col : List Byte
  /-- section entries: die, wing, folio, leaf, first row, rows, data offset -/
  secs : List (List Nat)
  /-- body bytes consumed, and the next chunk -/
  body : List Byte := []
  chunk : Nat := 0
  deriving DecidableEq, Repr, Inhabited

/-- An open segment of the capture (R585 to R587). -/
structure Seg where
  kw : Nat
  /-- next block index; frames since the open; frames the captured beam has been below its threshold -/
  idx : Nat := 0
  frames : Nat := 0
  quiet : Nat := 0
  /-- a block has carried OVERLAP; the policy is YIELD (R586) -/
  olap : Bool := false
  yields : Bool := false
  /-- the block in progress: samples, flag bits of header word 1, LS_FRAME at its first sample -/
  cur : List Nat := []
  flags : Nat := 0
  frame0 : Nat := 0
  deriving DecidableEq, Repr, Inhabited

/-- The always-on and audio islands' listening state beside the registers (chapter 15). -/
structure Audio where
  /-- consecutive voice frames; frames since the last one; frames that cannot be voice frames -/
  voice : Nat := 0
  quiet : Nat := 0
  skip : Nat := 0
  /-- frames of the discard of R594 that are left -/
  settle : Nat := 0
  /-- levels of the last 200 non-voice frames (R572), newest first; kept while VAON is present -/
  noise : List Nat := []
  /-- stage-0 history of 32 frames (R574), and stage-1 mix frames for pre-roll (R585), newest first -/
  hist : List (List Nat) := []
  mix : List (List Nat) := []
  /-- features of the last frames (R579), and class scores (R581), newest first -/
  feats : List (List Int) := []
  scores : List (List Int) := []
  /-- frames of refractory time left (R581) -/
  refr : Nat := 0
  /-- the keyword FIFO, oldest first, behind the entry KW_POP shows -/
  fifo : List Nat := []
  /-- frames of beam audio since power-up or mute release, up to 25 (R584) -/
  beamAge : Nat := 0
  /-- last three levels of each beam, and its last 25 levels below its threshold, newest first -/
  lv : Store (List Nat) := []
  nb : Store (List Nat) := []
  /-- frames each beam has met the condition of R586 -/
  comp : Store Nat := []
  seg : Option Seg := none
  /-- island buffer, oldest first; the next block moved carries DROP (R588) -/
  blocks : List (List Byte) := []
  drop : Bool := false
  /-- the mismatch of R582 has already raised its wake -/
  woke : Bool := false
  /-- a stage-1 start waits for a pocket load (R600); a pocket load: source, leaf, first row, rows -/
  due : Bool := false
  load : Option (Nat × Nat × Nat × Nat) := none
  deriving DecidableEq, Repr, Inhabited

/-- A DMA copy that runs, with its operands as read at GO (R674). -/
structure DmaJob where
  src : Nat
  dst : Nat
  len : Nat
  /-- destination wing and window for a Stack die; SIG -/
  wing : Nat
  win : Nat
  sig : Bool
  /-- WRITEs that have not been sent -/
  todo : List Msg := []
  deriving DecidableEq, Repr, Inhabited

/-- A Control die's state beside its registers. -/
structure CdX where
  /-- the main islands are powered and out of reset (R58, R437) -/
  mainUp : Bool := false
  /-- ports to the two Load dies -/
  ports : Store LbPort := []
  /-- cached words of the two Load dies, and of their channels -/
  ldc : Store LbCache := []
  chc : Store ChCache := []
  /-- the eight staging entries (R530) -/
  stages : Store Stage := []
  /-- number of the next software access -/
  nextAcc : Nat := 0
  /-- ledger entries, levels, and the order counter (R543) -/
  lg : Store LgX := []
  lvl : Store LvlX := []
  lgSeq : Nat := 0
  /-- LEDGER_MAX of the adopted shelf list (R74) -/
  lgMax : Nat := 500
  /-- a sample since the last change of C was below VMIN + 0.3 V (R542) -/
  lgLow : Bool := false
  /-- the watchdog has been kicked since it started (R458) -/
  kicked : Bool := false
  /-- the ledger's cross-check is suspended (R643) -/
  xcheckOff : Bool := false
  /-- accesses held by a lock (R532) -/
  lockHeld : List LbHeld := []
  /-- queues whose head the catalogue is reading, in the order selected (R403, R404) -/
  sels : List Nat := []
  /-- heads of blocked queues kept on chip, oldest first -/
  heads : List Head := []
  /-- ready slips whose CANCEL bit the catalogue has set (R410): queue and ring position -/
  cancels : List (Nat × Nat) := []
  /-- round-robin pointer of each class: queue, and heads it has been served (R403) -/
  rr : Store (Option (Nat × Nat)) := []
  /-- slips that wait for a sequencer, in order (R405) -/
  disp : List Slip := []
  /-- the slip each sequencer runs that has not completed (R405), and the mirror of the partner's (R415) -/
  runs : Store (Option Slip) := []
  mirRuns : Store (Option Slip) := []
  /-- Stack dies whose answer to a CLAIM is outstanding (R277, R438) -/
  claimsOut : List Nat := []
  /-- wings (8d + w) whose answer to a LOADPROG is outstanding (R288) -/
  loadsOut : List Nat := []
  /-- mirrored changes whose acknowledgement has not arrived, oldest first (R420) -/
  mirQ : List MirAct := []
  /-- key material of the slots (R608), empty where the slot has none -/
  keys : Store (List Byte) := []
  /-- vault records, by 2 x slot + bank (R611) -/
  vault : Store VaultRec := []
  /-- latest-park records, by 256 x die + carrel (R243, R244) -/
  parks : Store Nat := []
  /-- PARKs and UNPARKs of the seal engine, in the order they reached it (R327) -/
  jobs : List SealJob := []
  /-- debug opens tried this boot, counted for the challenge (R624); debug has been opened -/
  attempt : Nat := 0
  dbgOpened : Bool := false
  /-- start-up failures of the TRNG (R626) -/
  trngTries : Nat := 0
  /-- a MAC that runs: key, Commons offset, bytes (R625) -/
  mac : Option (List Byte × Nat × Nat) := none
  /-- LC_CMDs that wait for a zeroisation: KEY and TARGET (R623) -/
  lcWait : List (Nat × Nat) := []
  /-- CDn_PWREN is high (R697); the boot domain is powered, and clocked (R64) -/
  pwren : Bool := false
  bootUp : Bool := false
  bootClk : Bool := false
  /-- a primary flash device answers SFDP (R70) -/
  flash0 : Bool := false
  /-- the adopted shelf list (R75) -/
  shelf : Shelf := {}
  /-- boot has completed and RWL fields are locked (R78, R10) -/
  locked : Bool := false
  /-- the die has yielded in BOOTFAIL (R81) -/
  yielded : Bool := false
  /-- the endpoint trains, or its link is in L0 (R64 steps 10 and 11) -/
  hostTrain : Bool := false
  hostUp : Bool := false
  /-- HOST_WAIT runs: the link is up and no START has come (R88) -/
  hostWait : Bool := false
  /-- the load from host memory that runs; a fallback load runs, or waits for step 13 (R88) -/
  wload : Option WLoad := none
  fb : Bool := false
  /-- flash device of the fallback model in service, and the wings it wrote last (R76, R123) -/
  fbCs : Nat := 0
  wingFb : Nat := 0
  /-- digest and key slot of the last host image (0) and fallback model (1) loaded (R123, R430) -/
  img : Store (List Byte × Nat) := []
  /-- BOOT_ENTRY and NMI_ENTRY of the firmware, and the staged WINGTEXT sections (dies, wings, byte offset in the
  store, bytes, Commons offset) (R287, R288) -/
  bootEntry : Nat := 0
  nmiEntry : Nat := 0
  wingText : List (List Nat) := []
  /-- step 12 of a power-up or wake has begun; Stack dies swept that wait for CLAIM and LOADPROG (R277, R288) -/
  stackOn : Bool := false
  bringUp : List Nat := []
  /-- factory test (R732) -/
  factory : Bool := false
  /-- the next firmware start ends a restart (R442) -/
  restarted : Bool := false
  /-- YIELD, or REJOIN, has been sent on the pair line (R81, R439, R443) -/
  yieldOut : Bool := false
  joinOut : Bool := false
  /-- a flash operation that runs: OP, device, address, bytes (FL_CMD) -/
  flop : Option (Nat × Nat × Nat × Nat) := none
  /-- WAKE_EN and ALARM as copied at entry to STANDBY or LISTEN -/
  wakeEn : Nat := 0xF
  alarm : Nat := 0
  /-- main islands held in reset by a seizure, or by thermal shutdown (R437, R721) -/
  held : Bool := false
  hot : Bool := false
  /-- SEIZE has been sent and its confirmation is awaited (R437) -/
  seizing : Bool := false
  /-- a takeover runs (R438), and the mirror was not valid at its detection (R440) -/
  tko : Bool := false
  tkoStale : Bool := false
  /-- a planned handover waits for running slips (R439) -/
  handover : Bool := false
  /-- the partner's REJOIN is held (R443, R466); a full copy to the partner runs (R432) -/
  rejoin : Bool := false
  copying : Bool := false
  /-- the always-on side was seized during sleep (R448, R449) -/
  sleepSeized : Bool := false
  /-- this island has taken over while its partner slept, unconfirmed (R448) -/
  sleepUnconf : Bool := false
  /-- a beat was missed and the receiver stays open (R447) -/
  missing : Bool := false
  /-- WDT_OUT is driven low (R460) -/
  wdtOut : Bool := false
  /-- Stack dies that have not answered polls: consecutive failures (R667) -/
  pollFail : Store Nat := []
  /-- accesses whose target does not answer, oldest first (R49): unit, write, address as it is logged -/
  waitAcc : List (Nat × Bool × Nat) := []
  /-- DMA copies that run, by channel -/
  dma : Store (Option DmaJob) := []
  aud : Audio := {}
  deriving DecidableEq, Repr, Inhabited

/-- A control word between ports (R225). -/
inductive Ctl where
  | ack (seq : Nat)
  | nak (seq : Nat)
  | token (vc count : Nat)
  | retrain
  deriving DecidableEq, Repr

/-- A link port (R225 to R229). -/
structure LinkPort where
  /-- SEQ of the next packet sent, and SEQ expected next -/
  seq : Nat := 0
  exp : Nat := 0
  /-- packets waiting to be sent, in arrival order -/
  q : List Msg := []
  /-- packets in the replay buffer, oldest first: SEQ, packet, times resent -/
  unacked : List (Nat × Msg × Nat) := []
  /-- tokens in use at the far end, by virtual channel -/
  used : Store Nat := []
  /-- consecutive bulk packets sent (R229) -/
  bulkRun : Nat := 0
  /-- packets accepted since the last ACK -/
  ackDue : Bool := false
  /-- a NAK has been sent and packets are discarded until the expected SEQ arrives -/
  nakSent : Bool := false
  /-- the training that runs was started by resends (R227), and it has run once for the oldest packet -/
  replayTrain : Bool := false
  replayed : Bool := false
  /-- the last control word sent -/
  last : Option Ctl := none
  deriving DecidableEq, Repr, Inhabited

/-- A sender's credit record for one window (R193). -/
structure CredRec where
  epoch : Nat := 0
  base : Nat := 0
  len : Nat := 0
  credits : Nat := 0
  /-- lines sent under the epoch -/
  sent : Nat := 0
  deriving DecidableEq, Repr, Inhabited

/-- A reclaim in progress (R196): the semaphore CREDRECL named, and whether RECLAIM_ACK has arrived. -/
structure Reclaim where
  sem : Nat
  acked : Bool := false
  deriving DecidableEq, Repr, Inhabited

/-- An engine instruction with its operands as read at issue (R260): opcode, register fields and format E fields,
the values of the registers it names, and the word index of the instruction. -/
structure EngIns where
  op : Nat
  pc : Nat
  csen : Bool
  csem : Nat
  /-- engine fields 22:0 and extension word -/
  ef : Nat
  ext : Nat
  /-- the register it writes, 32 + i for ad i -/
  dst : Option Nat := none
  /-- register fields A, B, C -/
  a : Nat
  b : Nat
  c : Nat
  /-- values of s or ad registers A, B, C, and for an MVM the precisions of the fourteen folios (R99) -/
  va : Nat := 0
  vb : Nat := 0
  vc : Nat := 0
  vx : List Nat := []
  deriving DecidableEq, Repr

/-- A tally mismatch that an MVM reports when it completes (R112, R114). -/
structure TallyHit where
  folio : Nat
  pos : Nat
  leaf : Nat
  rg : Nat
  seg : Nat
  plane : Nat
  synd : Nat
  tag : Nat
  deriving DecidableEq, Repr

/-- A FETCH of a move instruction (R319): TAG, address, the lines it carries from line number `line` on. -/
structure Fetch where
  tag : Nat
  addr : Nat
  line : Nat
  count : Nat
  deriving DecidableEq, Repr

/-- A running engine instruction: its effect has been carried out as far as the device alone can, and its result is
kept until it completes (R263, R268, R271). -/
structure EngRun where
  ins : EngIns
  /-- fault code, 0 for none -/
  fault : Nat := 0
  /-- ESTAT bits it sets (R271) -/
  estat : Nat := 0
  /-- messages that are still to be sent: WRITEs that wait for credits (R193), and what follows them -/
  todo : List Msg := []
  /-- tally verdict of an MVM, and whether the shadow position agreed where one was compared (R112, R128) -/
  hits : List TallyHit := []
  shadow : Option Bool := none
  /-- FETCHes outstanding, and those not yet sent (R319) -/
  fetch : List Fetch := []
  runs : List Fetch := []
  /-- KVCHK awaits its KVACK (R240) -/
  ack : Bool := false
  /-- the seal engine has not finished a PARK or UNPARK (R243, R245) -/
  sealing : Bool := false
  /-- next RESHARD entry, and their number (R238); of an UNPARK, blocks written, and their number -/
  next : Nat := 0
  stop : Nat := 0
  /-- words of the RESHARD entry that runs -/
  ent : List Nat := []
  deriving DecidableEq, Repr

/-- How a program of an agent is to end (R266, R267, R269): status 0 OK, 1 FAULTED, 2 STOPPED. -/
structure Ending where
  status : Nat
  code : Nat := 0
  pc : Nat := 0
  trapCode : Nat := 0
  /-- return values to send (R266) -/
  nret : Nat := 0
  /-- the DONE of a program stopped by CLAIM goes to the claiming die (R277) -/
  claim : Bool := false
  deriving DecidableEq, Repr, Inhabited

/-- An engine's issue queue (R260): the instruction that runs and those that wait. -/
structure Engine where
  run : Option EngRun := none
  q : List EngIns := []
  deriving DecidableEq, Repr, Inhabited

/-- An access of a sequencer's LD or ST that has not completed (R256): its address, size in bytes, destination
register (32 + i for ad i; none for a ST) and word index. -/
structure MemOp where
  addr : Nat
  size : Nat
  dst : Option Nat
  pc : Nat
  deriving DecidableEq, Repr, Inhabited

/-- An order of a sequencer that awaits DONE (R273): Stack die, wing, MSG1 (its order number in bits 31:16), EPOCH. -/
structure SqOrder where
  d : Nat
  w : Nat
  msg1 : Nat
  epoch : Nat
  deriving DecidableEq, Repr, Inhabited

/-- An Assal agent's state beside its registers in the device map (chapter 8). -/
structure Agent where
  /-- s registers, ad registers, predicates -/
  s : Store Word := []
  ad : Store DevAddr := []
  p : Store Bool := []
  /-- v registers of a wing: 64 lanes of 16 bits each, empty for all 0, and a poison bit per half (R309) -/
  v : Store (List Nat) := []
  vp : Store Nat := []
  /-- return stack, newest first (R348) -/
  calls : List Nat := []
  /-- loop stack, newest first: first body word, last body word, iterations left (R349) -/
  loops : List (Nat × Nat × Nat) := []
  /-- engines, by code 1 to 5 -/
  eng : Store Engine := []
  /-- a wait on a semaphore: semaphore key, count, and for SEMWT the predicate it reports in (R354) -/
  wait : Option (Nat × Nat × Option Nat) := none
  /-- waiting at HALT or FENCE for these engines (mask); HALT's NRET (R262, R266) -/
  fence : Option Nat := none
  halt : Option Nat := none
  /-- waiting for a return slot at a remote CALL (R273) -/
  callWait : Bool := false
  /-- a catalogue, power or security instruction, by its PC, waits for its status (R336) -/
  stat : Option Nat := none
  /-- a ST to a Load die, by its PC, waits for the bridge (R256) -/
  ldStore : Option Nat := none
  /-- the end that is being carried out -/
  ending : Option Ending := none
  /-- orders that await DONE (R273) -/
  orders : List SqOrder := []
  /-- a stop has been sent for these orders (R280) -/
  stops : List Nat := []
  /-- outstanding accesses of the MEM engine of a sequencer (R256) -/
  memOps : List MemOp := []
  /-- an engine fault that waits for the boundary after a stalled instruction: engine, code, PC (R268, R391) -/
  pendFault : Option (Nat × Nat × Nat) := none
  /-- the 50 us of a stop request have passed during a stalled instruction (R267, R391) -/
  stopDue : Bool := false
  /-- the PC lies beyond the program memory (R284) -/
  pcBad : Bool := false
  /-- a program runs: from its start to its end (R266, R267, R269) -/
  prog : Bool := false
  /-- debug has asked for a halt at the next boundary (R676) -/
  dbgHalt : Bool := false
  /-- debug steps this sequencer (R676): 1 before its one instruction issues, 2 after -/
  step : Nat := 0
  deriving DecidableEq, Repr, Inhabited

/-- A START order (R274): sender, EPOCH, MSG1, ENTRY and arguments; also a STOP or CLAIM that waits to be
answered. -/
structure WorkOrd where
  node : Nat
  unit : Nat
  epoch : Nat
  msg1 : Nat
  entry : Nat := 0
  args : List Nat := []
  deriving DecidableEq, Repr, Inhabited

/-- A wing's state beside its registers (chapters 4, 6 and 8). -/
structure WingX where
  /-- queued START orders, oldest first, the order that runs, and STOPs that wait for its end (R276) -/
  starts : List WorkOrd := []
  cur : Option WorkOrd := none
  stopped : List WorkOrd := []
  /-- accepted WRITEs whose lines have not taken effect: window and message (R194) -/
  landing : List (Nat × Msg) := []
  /-- the request FIFO: window, sender, lines (R195) -/
  creq : List (Nat × Nat × Nat) := []
  /-- reclaims in progress, by window (R196) -/
  recl : Store (Option Reclaim) := []
  /-- an accepted slot plan that waits (R179): LO and HI of the four banks -/
  plan : Option (List Nat) := none
  /-- next line of each bank's patrol scrubber (R190) -/
  patrol : Store Nat := []
  /-- positions in state AWAIT, with the logical folio each is to take back (R126, R128) -/
  awaits : List (Nat × Nat) := []
  /-- former spares that serve a logical folio (DEGRADED) -/
  former : List Nat := []
  /-- the reload that stopped and waits for RETRY: OP, target position, logical folio (R131) -/
  halted : Option (Nat × Nat × Nat) := none
  deriving DecidableEq, Repr, Inhabited

/-- A Stack die's state beside its registers. -/
structure SdX where
  /-- the reading room, wing logic and links are powered and out of reset -/
  up : Bool := false
  /-- number of the next telemetry sample (R223) -/
  telemNo : Nat := 0
  /-- CLAIMs accepted and not yet answered (R277) -/
  claims : List WorkOrd := []
  deriving DecidableEq, Repr, Inhabited

/-- Levels of the pins that several dies see; a field is true while its active-low pin is low. -/
structure Pins where
  /-- LIMP_N low (R508) -/
  limpN : Bool := false
  /-- MUTE_N low, and the device is muted: from then until the release (R593, R594); LD0_MUTE_LED shows it -/
  muteN : Bool := false
  muted : Bool := false
  /-- TAMPER_N low (R619) -/
  tamperN : Bool := false
  /-- PERST_N low (R716) -/
  perstN : Bool := false
  /-- VBAT has risen through 9.0 V, and VAON is in regulation (R64, R696) -/
  vbat : Bool := false
  vaon : Bool := false
  deriving DecidableEq, Repr, Inhabited

/-- What an access returns to its initiator: a value (0 for a write), RETRY (R530), or an error with the KIND of
ADDR_ERR_HI. -/
inductive Rsp where
  | ok (v : Nat)
  | retry
  | error (kind : Nat)
  deriving DecidableEq, Repr

/-- Why the machine stops. It has no reason: whatever goes wrong on this device is an effect the spec gives (an error
log, a cause bit, an error to the initiator, a trap of one agent), and the device goes on. -/
inductive Fault
  deriving DecidableEq, Repr

/-- Why the model gives no meaning. -/
inductive Refusal where
  /-- Raised by the dispatch for a row of the table that has no meaning yet. Safe: nothing is claimed of it. -/
  | notModelled (mnemonic : String)
  deriving DecidableEq, Repr

/-- The state of the device. -/
structure State where
  /-- register fields, by (device address x 32 + low bit) -/
  fld : Store Nat
  /-- memories, by device address; host memory and flash lie above 2^40 -/
  mem : List Host.Cell
  /-- load channels, by global number -/
  chans : Store Chan
  /-- Load dies -/
  lds : Store LdX
  /-- Control dies -/
  cds : Store CdX
  /-- agents: sequencers 8n + k, wing controllers 16 + 8d + w -/
  agents : Store Agent
  /-- waits on semaphores in the order they began (R200): semaphore and waiter, an agent's number, or
  2^20 (n + 1) + q for the head of queue q of Control die n -/
  waitq : List (Nat × Nat)
  /-- words of Commons with flipped bits (R452), by 2^21 n + word: the codeword bits that differ -/
  comErr : Store (List Nat)
  /-- draws of free values so far; the model's own (notes/assumptions/4.md) -/
  fresh : Nat
  /-- semaphores: Stack-die wing 512 x (8d + w) + n below 16384, Control die 16384 + 8192 n + k (R199) -/
  sems : Store Nat
  /-- link ports: Stack die 4d + p, Control die 16 + 5n + p (R216) -/
  ports : Store LinkPort
  /-- messages that have reached their die and wait for their unit, in order of arrival -/
  inbox : List Msg
  /-- senders' credit records (R193), by sender, receiver and window -/
  creds : Store (Option CredRec)
  /-- reading-room lines with the poison bit set (R187), by die x 2^20 + line -/
  poison : Store Bool
  /-- words of a reading-room line whose stored parity does not match (R187, R188) -/
  parity : Store Nat
  /-- accumulator entries (R141), by ((15 x wing + position) x 4 + set) x 1024 + entry: the main word, plus 2^32 where
  the poison mark is set -/
  acc : Store Nat
  /-- KIND x 16 + SHIFT of the sets of a SHADOW position (R128), by (15 x wing + position) x 4 + set -/
  shScale : Store Nat
  /-- columns of a weight row whose cells differ from what was written (R113, R118), by
  ((15 x wing + position) x 8 + leaf) x 1024 + row: data 0 to 2047, check 2048 to 2303, tally 2304 to 2367 -/
  flips : Store (List Nat)
  /-- wings, by 8d + w -/
  wings : Store WingX
  /-- Stack dies -/
  sds : Store SdX
  /-- pin levels -/
  pins : Pins
  /-- what the last register or memory access returned to its initiator -/
  rsp : Rsp
  /-- commands waiting, first in, first out -/
  pending : List Instr
  deriving DecidableEq, Repr

/-- An agent. -/
def State.agent (s : State) (a : Nat) : Agent := Store.get {} s.agents a
/-- Changes an agent's record. -/
def State.modAgent (s : State) (a : Nat) (f : Agent → Agent) : State :=
  { s with agents := Store.put {} s.agents a (f (s.agent a)) }
/-- Channel `c` of Load die `d`. -/
def State.chan (s : State) (i : Nat) : Chan := Store.get {} s.chans i
/-- Changes a channel's record. -/
def State.modChan (s : State) (i : Nat) (f : Chan → Chan) : State :=
  { s with chans := Store.put {} s.chans i (f (s.chan i)) }
/-- Load die `d`. -/
def State.ldx (s : State) (d : Nat) : LdX := Store.get {} s.lds d
/-- Changes a Load die's record. -/
def State.modLd (s : State) (d : Nat) (f : LdX → LdX) : State :=
  { s with lds := Store.put {} s.lds d (f (s.ldx d)) }
/-- Control die `n`. -/
def State.cdx (s : State) (n : Nat) : CdX := Store.get {} s.cds n
/-- Wing `w` of Stack die `d`, by 8d + w. -/
def State.wingx (s : State) (i : Nat) : WingX := Store.get {} s.wings i
/-- Changes a wing's record. -/
def State.modWing (s : State) (i : Nat) (f : WingX → WingX) : State :=
  { s with wings := Store.put {} s.wings i (f (s.wingx i)) }
/-- Stack die `d`. -/
def State.sdx (s : State) (d : Nat) : SdX := Store.get {} s.sds d
/-- Changes a Stack die's record. -/
def State.modSd (s : State) (d : Nat) (f : SdX → SdX) : State :=
  { s with sds := Store.put {} s.sds d (f (s.sdx d)) }
/-- Link port `k`. -/
def State.port (s : State) (k : Nat) : LinkPort := Store.get {} s.ports k
/-- Changes a link port. -/
def State.modLink (s : State) (k : Nat) (f : LinkPort → LinkPort) : State :=
  { s with ports := Store.put {} s.ports k (f (s.port k)) }
/-- Changes a Control die's record. -/
def State.modCd (s : State) (n : Nat) (f : CdX → CdX) : State :=
  { s with cds := Store.put {} s.cds n (f (s.cdx n)) }

/-- The device as it is before VBAT has ever risen: every island off, every register at its Reset value, the fuses of a
part in MAKER state, the dies' own numbers in the identity registers, MICPWR_CTRL of LD1 at 0, and the pins at the
levels they have without supply (notes/assumptions/2.md). No command waits. -/
def State.reset : State where
  fld := [
    ((0x1300000000 + 0x5000) * 32 + 28, 1), ((0x1300000000 + 0x5000) * 32 + 29, 1),
    ((0x2300000000 + 0x3000) * 32 + 14, 1), ((0x2300000000 + 0x4000) * 32 + 24, 1),
    ((0x2300000000 + 0x5000) * 32 + 28, 1), ((0x2300000000 + 0x5000) * 32 + 29, 1),
    (0x5300000000 * 32, 1), (0x6300000000 * 32, 2), (0x7300000000 * 32, 3),
    (0x9300000000 * 32, 1), ((0x9300000000 + 0x18) * 32, 0)]
  mem := []
  chans := []
  lds := []
  cds := []
  agents := []
  waitq := []
  comErr := []
  fresh := 0
  sems := []
  ports := []
  inbox := []
  creds := []
  poison := []
  parity := []
  acc := []
  shScale := []
  flips := []
  wings := []
  sds := []
  pins := { muteN := true, muted := true, perstN := true }
  rsp := .ok 0
  pending := []

end Sys2Proof.Machine
end

