-- ==== Sys2Proof/Machine/Ops.lean ====
section
/-! DEFINITION. The operations every meaning is made of: block bases, fields of registers, memory, cause bits with
their recurrence counts (R11, R672), error logs of the VALID and OVER form, and the end of every command, which
brings the INT_N pin in step with the interrupt tree (R663, R669). -/

namespace Sys2Proof.Machine

/-- Base device address of the registers of Control die `n` (R30, R38). -/
def cd (n : Nat) : Nat := (n + 1) * 2 ^ 36 + 3 * 2 ^ 32
/-- Base of the die registers of Stack die `d` (R37). -/
def sd (d : Nat) : Nat := (d + 4) * 2 ^ 36 + 3 * 2 ^ 32
/-- Base of the registers of wing `w` of Stack die `d` (R37). -/
def wg (d w : Nat) : Nat := (d + 4) * 2 ^ 36 + 2 * 2 ^ 32 + w * 0x800
/-- Base of the registers of Load die `d` (R45). -/
def ld (d : Nat) : Nat := (d + 8) * 2 ^ 36 + 3 * 2 ^ 32

/-- Index of wing `w` of Stack die `d` among the 32 wings. -/
def wix (d w : Nat) : Nat := 8 * d + w
/-- Index of channel `c` of Load die `d`: its global number (R51). -/
def cix (d c : Nat) : Nat := 24 * d + c
/-- Index of sequencer `k` of Control die `n` among the agents. -/
def sqix (n k : Nat) : Nat := 8 * n + k
/-- Index of wing controller `w` of Stack die `d` among the agents. -/
def wcix (d w : Nat) : Nat := 16 + wix d w

/-- Key of a field in the field store. -/
def fkey (b : Nat) (f : Fld) : Nat := (b + f.off) * 32 + f.lo

/-- Reads a field of the block at base `b`. -/
def State.rd (s : State) (b : Nat) (f : Fld) : Nat := Store.get f.rst s.fld (fkey b f)

/-- Reads a one-bit field. -/
def State.flag (s : State) (b : Nat) (f : Fld) : Bool := s.rd b f != 0

/-- Writes a field of the block at base `b`; the value is cut to the field's width. -/
def State.wr (s : State) (b : Nat) (f : Fld) (v : Nat) : State :=
  { s with fld := Store.put f.rst s.fld (fkey b f) (v % 2 ^ (f.hi + 1 - f.lo)) }

/-- Writes a one-bit field. -/
def State.wrb (s : State) (b : Nat) (f : Fld) (v : Bool) : State := s.wr b f (b2n v)

/-- Counts in a field that saturates at its width (or at `m` where that is less). -/
def State.inc (s : State) (b : Nat) (f : Fld) : State :=
  s.wr b f (satAdd (s.rd b f) 1 (2 ^ (f.hi + 1 - f.lo) - 1))

/-- Every field of the addresses `lo ≤ a < hi` back to its reset value. -/
def State.clearRegs (s : State) (lo hi : Nat) : State := { s with fld := Store.clear s.fld (lo * 32) (hi * 32) }

/-- The COUNT field of a 32-bit cause register (R672). -/
def cnt32 (f : Fld) : Fld := ⟨f.off, 31, 24, 0, f.stride⟩
/-- The COUNT field of a 16-bit Load-die cause register (R672). -/
def cnt16 (f : Fld) : Fld := ⟨f.off, 15, 8, 0, f.stride⟩

/-- The hardware sets bits of one cause register: each bit sets, and COUNT rises by one if any of them already
read 1 (R11, R672). `l` holds fields of that register with the bits to set. -/
def State.raiseIn (s : State) (b : Nat) (cnt : Fld) (l : List (Fld × Nat)) : State :=
  let seen := l.any (fun p => s.rd b p.1 &&& p.2 != 0)
  let s := l.foldl (fun s p => s.wr b p.1 (s.rd b p.1 ||| p.2)) s
  if seen then s.inc b cnt else s

/-- Sets a cause bit of a Control-die, Stack-die or wing register. -/
def State.raise (s : State) (b : Nat) (f : Fld) : State := s.raiseIn b (cnt32 f) [(f, 1)]
/-- Sets bit `i` of a cause field of several bits. -/
def State.raiseBit (s : State) (b : Nat) (f : Fld) (i : Nat) : State := s.raiseIn b (cnt32 f) [(f, 2 ^ i)]
/-- Sets a cause bit of a Load-die register. -/
def State.raiseLd (s : State) (b : Nat) (f : Fld) : State := s.raiseIn b (cnt16 f) [(f, 1)]

/-- An error log with VALID in bit 31 and OVER in bit 30: the first error is captured, a later one sets OVER
(R54, R56 and the tables that say "as ADDR_ERR"). `cap` writes the other fields. -/
def State.capture (s : State) (b : Nat) (off stride : Nat) (cap : List (Nat × Fld × Nat)) : State :=
  if s.flag b ⟨off, 31, 31, 0, stride⟩ then s.wr b ⟨off, 30, 30, 0, stride⟩ 1
  else cap.foldl (fun s p => s.wr p.1 p.2.1 p.2.2) ((s.wr b ⟨off, 31, 31, 0, stride⟩ 1).wr b ⟨off, 30, 30, 0, stride⟩ 0)

/-- Reads one byte of memory (region 0x0, 0x1 or 0x2 device addresses, host memory and flash above 2^40). -/
def State.ldb (s : State) (a : Nat) : Byte := Store.get 0 s.mem a
/-- Writes one byte of memory. -/
def State.stb (s : State) (a : Nat) (x : Byte) : State := { s with mem := Store.put 0 s.mem a x }
/-- Reads `n` bytes, lowest address first. -/
def State.ldn (s : State) (a : Nat) : Nat → List Byte
  | 0 => []
  | n + 1 => s.ldb a :: s.ldn (a + 1) n
/-- Writes bytes, lowest address first. -/
def State.stn (s : State) (a : Nat) : List Byte → State
  | [] => s
  | x :: xs => (s.stb a x).stn (a + 1) xs
/-- Reads an `n`-byte little-endian number (R1). -/
def State.ldw (s : State) (a n : Nat) : Nat := fromBytes (s.ldn a n)
/-- Writes an `n`-byte little-endian number (R1). -/
def State.stw (s : State) (a n v : Nat) : State := s.stn a (toBytes n v)
/-- A range of memory back to zero. -/
def State.clearMem (s : State) (lo hi : Nat) : State := { s with mem := Store.clear s.mem lo hi }

/-- Draws a free value of `w` bits (notes/assumptions/4.md). -/
def State.draw (s : State) (w : Nat) : State × Nat :=
  ({ s with fresh := s.fresh + 1 }, (Config.freeBits s.fresh).toNat % 2 ^ w)

/-- A number without the bits of a mask. -/
def maskOff (x m : Nat) : Nat := x - (x &&& m)
/-- Key of byte `a` of host memory. -/
def hostKey (a : Nat) : Nat := 2 ^ 40 + a
/-- Device address of Commons offset `o` of Control die `n`. -/
def comAddr (n o : Nat) : Nat := (n + 1) * 2 ^ 36 + o
/-- Host address `o` of aperture `p` of die `n` reaches; none where the aperture is disabled or the die is not active
(R42). -/
def State.apKey (s : State) (n p o : Nat) : Option Nat :=
  if s.flag (cd n) (R.HOST_AP_LO_EN.at p) && s.flag (cd n) R.PAIR_STAT_ROLE then
    some (hostKey (s.rd (cd n) (R.HOST_AP_HI_BASE.at p) * 2 ^ 32 + o))
  else none
/-- Where a node-0x0 address of region 0x0 or 0x4 to 0x7 lies for an initiator on die `n`: Commons, or host memory
through an aperture. -/
def State.bufKey (s : State) (n addr : Nat) : Option Nat :=
  if addr / 2 ^ 32 = 0 then some (comAddr n (addr % 2 ^ 32))
  else if 4 ≤ addr / 2 ^ 32 ∧ addr / 2 ^ 32 < 8 then s.apKey n (addr / 2 ^ 32 - 4) (addr % 2 ^ 32)
  else none
/-- 32-bit difference (R393: indices run modulo 2^32). -/
def sub32 (a b : Nat) : Nat := (a + 2 ^ 32 - b % 2 ^ 32) % 2 ^ 32

/-- The die with the active role (R68); `none` while no die has claimed it. -/
def State.active (s : State) : Option Nat :=
  if s.flag (cd 0) R.PAIR_STAT_ROLE then some 0 else if s.flag (cd 1) R.PAIR_STAT_ROLE then some 1 else none
/-- Control die `n` holds the active role. -/
def State.isActive (s : State) (n : Nat) : Bool := s.flag (cd n) R.PAIR_STAT_ROLE
/-- The active die's number, 0 where there is none. -/
def State.act (s : State) : Nat := s.active.getD 0

/-- Sets a SYS_CAUSE bit of die `n` (R665). -/
def State.sysEvent (s : State) (n : Nat) (f : Fld) : State := s.raise (cd n) f

/-- The state field of die `k` (0, 1 CD; 2 to 5 SD; 6, 7 LD) in DIES (R29). -/
def diesFld : Nat → Fld
  | 0 => R.DIES_CD0 | 1 => R.DIES_CD1 | 2 => R.DIES_SD0 | 3 => R.DIES_SD1
  | 4 => R.DIES_SD2 | 5 => R.DIES_SD3 | 6 => R.DIES_LD0 | _ => R.DIES_LD1

/-- Control die `n` reports a state of die `k` in DIES; a change sets SYS_CAUSE.DIES (R665). -/
def State.setDieOn (s : State) (n k v : Nat) : State :=
  if s.rd (cd n) (diesFld k) = v then s else (s.wr (cd n) (diesFld k) v).sysEvent n R.SYS_CAUSE_DIES
/-- Both Control dies report a state of die `k`. -/
def State.setDie (s : State) (k v : Nat) : State := (s.setDieOn 0 k v).setDieOn 1 k v

/-- The wing's bit of SD_SUM: an enabled bit of WING_CAUSE or RR_CAUSE is 1 (R666). -/
def State.wingSum (s : State) (d w : Nat) : Bool :=
  let b := wg d w
  let wc := s.rd b R.WING_CAUSE_TALLY + 2 * s.rd b R.WING_CAUSE_SCRUB_CE + 4 * s.rd b R.WING_CAUSE_SCRUB_UE
    + 8 * s.rd b R.WING_CAUSE_SCRUB_TALLY + 16 * s.rd b R.WING_CAUSE_TAKEOVER_DONE
    + 32 * s.rd b R.WING_CAUSE_READMIT_DONE + 64 * s.rd b R.WING_CAUSE_RELOAD_FAIL
    + 128 * s.rd b R.WING_CAUSE_RETIRED + 256 * s.rd b R.WING_CAUSE_BLOCKED
  let rc := s.rd b R.RR_CAUSE_PARITY + 2 * s.rd b R.RR_CAUSE_PATROL + 4 * s.rd b R.RR_CAUSE_CRED_DROP
    + 8 * s.rd b R.RR_CAUSE_RECL_TMO + 16 * s.rd b R.RR_CAUSE_SEM_SAT + 32 * s.rd b R.RR_CAUSE_CREQ_DROP
    + 64 * s.rd b R.RR_CAUSE_SLOT_REJ + 128 * s.rd b R.RR_CAUSE_NOSLOT
  (wc &&& s.rd b R.WING_CAUSE_EN_EN) != 0 || (rc &&& s.rd b R.RR_CAUSE_EN_EN) != 0

/-- SD_SUM of Stack die `d` (R666). -/
def State.sdSum (s : State) (d : Nat) : Nat :=
  let wings := (List.range 8).foldl (fun a w => a + (if s.wingSum d w then 2 ^ w else 0)) 0
  let b := sd d
  let lc := s.rd b R.LNK_CAUSE_LANE_SPARE + 2 * s.rd b R.LNK_CAUSE_LINK_DOWN + 4 * s.rd b R.LNK_CAUSE_ROUTE_CHG
    + 8 * s.rd b R.LNK_CAUSE_BADPKT
  wings + (if (lc &&& s.rd b R.LNK_CAUSE_EN_EN) != 0 then 256 else 0) + 512 * s.rd b R.WO_LOG0_VALID

/-- The cause bits of a register as a number, from its one-bit fields, lowest first. -/
def State.causeBits (s : State) (b : Nat) (fs : List Fld) : Nat :=
  fs.foldl (fun a f => a ||| s.rd b f * 2 ^ f.lo) 0

/-- The twelve Control-die groups with their cause fields and enables (R663). A cause register's own bits decide
(R664); the leaves below LB_CAUSE reach it through the bridge's polls (R536). -/
def irqGroups : List (List Fld × Fld) := [
  ([R.SYS_CAUSE_ADDR_ERR, R.SYS_CAUSE_PARK_ERR, R.SYS_CAUSE_WIMG_END, R.SYS_CAUSE_PWR_DONE, R.SYS_CAUSE_CD_LINK,
    R.SYS_CAUSE_DIES, R.SYS_CAUSE_SD_POLL], R.SYS_CAUSE_EN_EN),
  ([R.DMA_CAUSE_DONE, R.DMA_CAUSE_ERR], R.DMA_CAUSE_EN_EN),
  ([R.SEQ_CAUSE_FAULT], R.SEQ_CAUSE_EN_EN),
  ([R.CAT_CAUSE_DOORBELL, R.CAT_CAUSE_FETCH, R.CAT_CAUSE_RECWRITE, R.CAT_CAUSE_SLIP], R.CAT_CAUSE_EN_EN),
  ([R.CQ_CAUSE_CQ], R.CQ_CAUSE_EN_EN),
  ([R.PAIR_CAUSE_TAKEOVER, R.PAIR_CAUSE_SEIZED_PARTNER, R.PAIR_CAUSE_REJOINED, R.PAIR_CAUSE_XLINK_DOWN,
    R.PAIR_CAUSE_PAIRLINE_FAULT, R.PAIR_CAUSE_STALE_MIRROR, R.PAIR_CAUSE_SLEEP_DRIFT], R.PAIR_CAUSE_EN_EN),
  ([R.COM_CAUSE_CE, R.COM_CAUSE_UE], R.COM_CAUSE_EN_EN),
  ([R.LG_CAUSE_DEMOTE, R.LG_CAUSE_SHED, R.LG_CAUSE_REFUSE, R.LG_CAUSE_SAG, R.LG_CAUSE_CLAMP, R.LG_CAUSE_PMIS],
    R.LG_CAUSE_EN_EN),
  ([R.LB_CAUSE_LD0_EVENT, R.LB_CAUSE_LD1_EVENT, R.LB_CAUSE_STALE_HB, R.LB_CAUSE_ERR, R.LB_CAUSE_LOCK_EXP],
    R.LB_CAUSE_EN_EN),
  ([R.LS_CAUSE_KEYWORD, R.LS_CAUSE_SEG_START, R.LS_CAUSE_SEG_END, R.LS_CAUSE_OVERLAP, R.LS_CAUSE_CAP_DROP,
    R.LS_CAUSE_PB_UNDERRUN, R.LS_CAUSE_POCKET_TALLY, R.LS_CAUSE_MUTE_CHANGE, R.LS_CAUSE_CLIP], R.LS_CAUSE_EN_EN),
  ([R.SEC_CAUSE_TAMPER, R.SEC_CAUSE_ZEROISED, R.SEC_CAUSE_LC_CHANGE, R.SEC_CAUSE_TRNG_FAIL, R.SEC_CAUSE_KDEC_FAIL,
    R.SEC_CAUSE_DBG_OPEN, R.SEC_CAUSE_DBG_FAIL, R.SEC_CAUSE_VAULT_ERR], R.SEC_CAUSE_EN_EN),
  ([R.SAFE_CAUSE_MISMATCH, R.SAFE_CAUSE_HBTEST_FAIL, R.SAFE_CAUSE_LD_RESET], R.SAFE_CAUSE_EN_EN)]

/-- GSR of die `n`: bit g is 1 while group g is pending (R663, R664). -/
def State.gsr (s : State) (n : Nat) : Nat :=
  let own := (irqGroups.zipIdx).foldl
    (fun a p => if (s.causeBits (cd n) p.1.1 &&& s.rd (cd n) p.1.2) != 0 then a + 2 ^ p.2 else a) 0
  (List.range 4).foldl (fun a d => if s.rd (cd n) (R.SD_GRP_SUM.at d) != 0 then a + 2 ^ (12 + d) else a) own

/-- The condition of R669 for driving INT_N low. A die in reset, in STANDBY or in LISTEN leaves INT_N released. -/
def State.intCond (s : State) (n : Nat) : Bool :=
  s.isActive n && s.flag (cd n) R.INT_CTRL_MASTER && (s.gsr n &&& s.rd (cd n) R.INT_EN_EN) != 0
    && !s.flag (cd n) R.INT_STAT_EOI_WIN && (s.cdx n).mainUp

/-- Die `n` drives or releases INT_N; a falling edge counts (R669, INT_CNT). -/
def State.settleDie (s : State) (n : Nat) : State :=
  if s.intCond n then
    if s.flag (cd n) R.INT_STAT_ASSERTED then s
    else (s.wr (cd n) R.INT_STAT_ASSERTED 1).inc (cd n) R.INT_CNT_ASSERTS
  else s.wr (cd n) R.INT_STAT_ASSERTED 0

/-- WDT_STAT.FROZEN: the count runs and a sequencer of the die is halted by debug (R457). -/
def State.wdtFreeze (s : State) (n : Nat) : State :=
  s.wrb (cd n) R.WDT_STAT_FROZEN
    (s.flag (cd n) R.WDT_STAT_RUNNING && (List.range 8).any (fun k => s.rd (cd n) (R.SQ_STAT_STATE.at k) == 5))

/-- PAD_STAT of die `n` shows the levels of the pins while VAON is present (chapter 19). -/
def State.padSync (s : State) (n : Nat) : State :=
  if s.pins.vaon then
    let b := cd n
    ((((s.wrb b R.PAD_STAT_PERST s.pins.perstN).wrb b R.PAD_STAT_TAMPER s.pins.tamperN).wrb b R.PAD_STAT_LIMP
      s.pins.limpN).wrb b R.PAD_STAT_MUTE s.pins.muteN).wrb b R.PAD_STAT_WDT_IN (s.cdx (1 - n)).wdtOut
  else s

/-- The end of every command: both dies' INT_N outputs follow the tree (R669), their watchdogs freeze and run on
(R457), and PAD_STAT follows the pins. -/
def State.settle (s : State) : State :=
  (((((s.settleDie 0).settleDie 1).wdtFreeze 0).wdtFreeze 1).padSync 0).padSync 1

/-- A running engine instruction ends with a fault: nothing of it is left to do. -/
def EngRun.fail (r : EngRun) (code : Nat) : EngRun :=
  if r.fault = 0 then { r with
    fault := code, todo := [], fetch := [], runs := [], ack := false, sealing := false, next := r.stop }
  else r
/-- Nothing of a running engine instruction is left to do. -/
def EngRun.finished (r : EngRun) : Bool :=
  r.todo.isEmpty && r.fetch.isEmpty && r.runs.isEmpty && !r.ack && !r.sealing && r.next == r.stop

/-- The outcome of a command that completes. -/
def done (s : State) : Host.Outcome State Fault Refusal := .next s.settle

end Sys2Proof.Machine
end

