-- ==== Sys2Proof/Machine/Channels.lean ====
section
/-! DEFINITION. Load channels (chapter 13): switching on and off, current limit and inrush, trips, retries and
latching, under-voltage, diagnostics, FEEDCUT, the ADC sequencer, OTP and limp-home. -/

namespace Sys2Proof.Machine

/-- Reads a field of channel `c` of Load die `d`. -/
def State.crd (s : State) (d c : Nat) (f : Fld) : Nat := s.rd (ld d) (f.at c)
/-- A one-bit field of a channel. -/
def State.cflag (s : State) (d c : Nat) (f : Fld) : Bool := s.flag (ld d) (f.at c)
/-- Writes a field of channel `c` of Load die `d`. -/
def State.cwr (s : State) (d c : Nat) (f : Fld) (v : Nat) : State := s.wr (ld d) (f.at c) v

/-- The even channel of a ganged pair (OTP word A bit 11, R473). -/
def State.ganged (s : State) (d c : Nat) : Bool := c % 2 == 0 && bitOf (s.crd d c R.CH_OTP_A_VAL) 11
/-- The odd half of a ganged pair (R501). -/
def State.oddHalf (s : State) (d c : Nat) : Bool := c % 2 == 1 && s.ganged d (c - 1)
/-- SAFETY of a channel; the even channel's words govern a ganged pair (R473). -/
def State.isSafety (s : State) (d c : Nat) : Bool := bitOf (s.crd d c R.CH_OTP_A_VAL) 13
/-- PARTNER bit of a channel. -/
def State.isPartner (s : State) (d c : Nat) : Bool := bitOf (s.crd d c R.CH_OTP_A_VAL) 12

/-- The rating cap in 0.05 A: 120, or 240 for a ganged pair (R476). -/
def State.topLim (s : State) (d c : Nat) : Nat := if s.ganged d c then 240 else 120
/-- The smaller of a limit, ILIM_MAX when not 0, and the rating (R473, R476). -/
def State.limCap (s : State) (d c l : Nat) : Nat :=
  let mx := bits (s.crd d c R.CH_OTP_A_VAL) 7 0
  min l (if mx = 0 then s.topLim d c else min mx (s.topLim d c))

/-- The effective wiring rating I_W in 0.05 A and budget B in 0.1 A^2 s (R486). -/
def State.wiring (s : State) (d c : Nat) : Nat × Nat :=
  let o := bits (s.crd d c R.CH_OTP_B_VAL) 7 0
  let o := if s.ganged d c then o else min o 120
  let w := s.crd d c R.CH_WIRE_WIRE_I
  let b := s.crd d c R.CH_BUDGET_BUDGET
  if o = 0 then (w, b) else (min o w, min (s.crd d c R.CH_OTP_C_VAL) b)

/-- HOT: not cool, or Q above half the budget (R490). -/
def State.isHot (s : State) (d c : Nat) : Bool :=
  let x := s.chan (cix d c)
  x.warm || ((s.wiring d c).1 != 0 && decide ((s.wiring d c).2 * 2000000 < x.q))
/-- CH_STAT.HOT follows R490; with no I2t check Q reads 0 (R486). -/
def State.hotSync (s : State) (d c : Nat) : State :=
  let s := if (s.wiring d c).1 = 0 then s.modChan (cix d c) (fun x => { x with q := 0 }) else s
  (s.cwr d c R.CH_STAT_HOT (b2n (s.isHot d c))).cwr d c R.CH_I2T_Q_Q
    (min 65535 ((s.chan (cix d c)).q / 4000000))

/-- The inrush window ends: INRUSH clears, and INRUSH_END sets where `ev` says so (R480). -/
def State.endWindow (s : State) (d c : Nat) (ev : Bool) : State :=
  if s.cflag d c R.CH_STAT_INRUSH then
    let s := (s.cwr d c R.CH_STAT_INRUSH 0).modChan (cix d c) (fun x => { x with mult := 0, weff := 0 })
    if ev then s.raiseLd (ld d) (R.CH_CAUSE_INRUSH_END.at c) else s
  else s

/-- The measurement of D stops without a stored value (R481). -/
def State.stopLearn (s : State) (d c : Nat) : State :=
  s.modChan (cix d c) (fun x => { x with learning := false })

/-- The switch is no longer driven. -/
def State.gateOff (s : State) (d c : Nat) : State := (s.cwr d c R.CH_STAT_OUT 0).cwr d c R.CH_STAT_AT_LIMIT 0

/-- The switch is driven at the limit in force; the commanded state is on (R477, R482). -/
def State.gateOn (s : State) (d c : Nat) : State :=
  (((s.cwr d c R.CH_STAT_ON 1).cwr d c R.CH_STAT_OUT 1).cwr d c R.CH_STAT_RETRY_WAIT 0).cwr d c
    R.CH_STAT_RESTART_PEND 0 |>.modChan (cix d c) (fun x => { x with waitDone := false, retryOwed := false })

/-- A channel goes off: commanded state, retry wait, pending restart and window end; LATCHED stays (R478). `ev` says
whether an open window reports INRUSH_END. -/
def State.chOff (s : State) (d c : Nat) (ev : Bool) : State :=
  let s := (s.endWindow d c ev).stopLearn d c
  (((s.cwr d c R.CH_STAT_ON 0).cwr d c R.CH_STAT_RETRY_WAIT 0).cwr d c R.CH_STAT_RESTART_PEND 0).gateOff d c
    |>.modChan (cix d c) (fun x => { x with waitDone := false, retryOwed := false })

/-- The raised limit is taken: capped at 15.0 A per switch, a cap counts (R480). -/
def State.raiseLimit (s : State) (d c : Nat) : State :=
  let x := s.chan (cix d c)
  let cap := if s.ganged d c then 600 else 300
  if cap < x.lim * x.mult / 2 then (s.cwr d c R.CH_STAT_CLAMPED 1).inc (ld d) (R.CH_CNT_CLAMPS.at c) else s

/-- The raised limit in force, in 0.05 A (R480). -/
def State.raisedLimit (s : State) (d c : Nat) : Nat :=
  let x := s.chan (cix d c)
  min (x.lim * x.mult / 2) (if s.ganged d c then 600 else 300)

/-- The steady limit is taken from CH_ILIM (R476); a clamp sets CLAMPED and counts. -/
def State.takeLimit (s : State) (d c : Nat) : State :=
  let l := s.limCap d c (s.crd d c R.CH_ILIM_ILIM)
  let clamp := decide (l < s.crd d c R.CH_ILIM_ILIM)
  let s := (s.modChan (cix d c) (fun x => { x with lim := l })).cwr d c R.CH_STAT_CLAMPED (b2n clamp)
  if clamp then s.inc (ld d) (R.CH_CNT_CLAMPS.at c) else s

/-- The answer of a Load die to a WRITE frame: OK, OWNER, ARG, HOT, LIMP or STALE (R524). -/
abbrev LdAns := Nat

/-- Arguments that make the Load die refuse an ON or RELIMIT (R476). -/
def State.badArg (s : State) (d c : Nat) : Bool :=
  decide (s.crd d c R.CH_ILIM_ILIM < if s.ganged d c then 10 else 5)
    || decide (1000 < s.crd d c R.CH_INRUSH_WINDOW) || s.oddHalf d c

/-- A RELIMIT takes effect: the limit in force changes, an open window recomputes its raised limit (R476, R483). -/
def State.doRelimit (s : State) (d c : Nat) : State :=
  let s := s.takeLimit d c
  if s.cflag d c R.CH_STAT_INRUSH then s.raiseLimit d c else s

/-- A switch-on by command: history, limit, window and learning (R477, R480, R481). -/
def State.switchOn (s : State) (d c : Nat) (slow : Bool) : State :=
  let m := s.crd d c R.CH_INRUSH_MULT
  let win := s.crd d c R.CH_INRUSH_WINDOW
  let changed := match (s.chan (cix d c)).prevOn with
    | some p => p != (m, win)
    | none => false
  let s := if changed then
    ((s.modChan (cix d c) (fun x => { x with hist := [] })).cwr d c R.CH_LEARN_VALID 0).cwr d c R.CH_LEARN_LMAX 0
    else s
  let s := s.modChan (cix d c) (fun x => { x with prevOn := some (m, win), slow := slow, learning := false })
  let s := s.takeLimit d c
  let s := (s.cwr d c R.CH_STAT_LATCHED 0).cwr d c R.CH_FAULT_RETRIES 0
  if s.flag (ld d) R.LD_STAT_UV then s.cwr d c R.CH_STAT_RESTART_PEND 1
  else
    let s := s.gateOn d c
    if win = 0 then s
    else
      let w := if s.cflag d c R.CH_LEARN_VALID then min win ((3 * s.crd d c R.CH_LEARN_LMAX + 1) / 2 + 5) else win
      let s := s.modChan (cix d c) (fun x => { x with mult := m + 3, weff := w, learning := true })
      (s.cwr d c R.CH_STAT_INRUSH 1).raiseLimit d c

/-- A write of CH_CMD that completes, with the Load die's answer: 0 OK, 2 ARG, 3 HOT, 4 LIMP (R476, R492, R497,
R510, R524). -/
def State.chCmd (s : State) (d c op : Nat) (slow : Bool) : State × LdAns :=
  if op = 0 then (s, 0)
  else if s.flag (ld d) R.LD_STAT_LIMP then (s, 4)
  else if op = 2 then
    if s.oddHalf d c then (s, 0) else ((s.chOff d c false).cwr d c R.CH_FAULT_RETRIES 0, 0)
  else if s.badArg d c then (s, 2)
  else if op = 3 then (s.doRelimit d c, 0)
  else if s.cflag d c R.CH_STAT_LATCHED && s.isHot d c then (s, 3)
  else if s.cflag d c R.CH_STAT_ON || s.cflag d c R.CH_STAT_RETRY_WAIT || s.cflag d c R.CH_STAT_RESTART_PEND then
    ((s.doRelimit d c).cwr d c R.CH_FAULT_RETRIES 0, 0)
  else (s.switchOn d c slow, 0)

/-- CH_CMD_ON (R476, R477, R480, R492, R497). -/
def execChCmdOn (d : Fin 2) (ch : Fin 24) (slow : Bool) (s : State) : Host.Outcome State Fault Refusal :=
  done (s.chCmd d ch 1 slow).1
/-- CH_CMD_OFF (R478). -/
def execChCmdOff (d : Fin 2) (ch : Fin 24) (s : State) : Host.Outcome State Fault Refusal :=
  done (s.chCmd d ch 2 false).1
/-- CH_CMD_RELIMIT (R476, R483). -/
def execChCmdRelimit (d : Fin 2) (ch : Fin 24) (s : State) : Host.Outcome State Fault Refusal :=
  done (s.chCmd d ch 3 false).1

/-- INRUSH_WINDOW_END: the effective window ends (R480). -/
def execInrushWindowEnd (d : Fin 2) (ch : Fin 24) (s : State) : Host.Outcome State Fault Refusal :=
  done (s.endWindow d ch true)

/-- INRUSH_LEARN_DONE: D is known and stored, the last four are kept, LMAX is the largest (R481). -/
def execInrushLearnDone (d : Fin 2) (ch : Fin 24) (ms : Nat) (s : State) : Host.Outcome State Fault Refusal :=
  let x := s.chan (cix d ch)
  done (if x.learning then
    let h := (ms % 1024 :: x.hist).take 4
    ((s.modChan (cix d ch) (fun x => { x with hist := h, learning := false })).cwr d ch R.CH_LEARN_VALID 1).cwr d ch
      R.CH_LEARN_LMAX (h.foldl max 0)
  else s)

/-- A retry: k rises by one and the channel switches on at the steady limit (R482, R489). -/
def State.retryOn (s : State) (d c : Nat) : State :=
  (s.inc (ld d) (R.CH_FAULT_RETRIES.at c)).gateOn d c

/-- A retry whose wait is over proceeds once the channel is not HOT (R490). -/
def State.tryRetry (s : State) (d c : Nat) : State :=
  if s.cflag d c R.CH_STAT_RETRY_WAIT && (s.chan (cix d c)).waitDone && !s.isHot d c then s.retryOn d c else s

/-- After a trip: the channel latches, or waits for its retry (R489). -/
def State.afterFault (s : State) (d c : Nat) : State :=
  let strat := s.crd d c R.CH_RETRY_STRAT
  if strat = 0 || s.crd d c R.CH_RETRY_COUNT ≤ s.crd d c R.CH_FAULT_RETRIES then
    (s.cwr d c R.CH_STAT_ON 0).cwr d c R.CH_STAT_LATCHED 1
  else
    ((s.cwr d c R.CH_STAT_RETRY_WAIT 1).modChan (cix d c) (fun x => { x with waitDone := decide (strat = 3) })).tryRetry
      d c

/-- A trip by SHORT (bit 0), OT (bit 1) or I2T (bit 2) of `mask`: the channel is off, the fault logged and counted,
and the retry strategy follows (R484, R485, R487, R488, R489). It concerns a channel that is commanded on and driven. -/
def State.trip (s : State) (d c mask : Nat) : State :=
  let e := if s.oddHalf d c then c - 1 else c
  if s.cflag d e R.CH_STAT_ON && s.cflag d e R.CH_STAT_OUT then
    let code := if bitOf mask 0 then 1 else if bitOf mask 1 then 2 else 3
    let s := s.raiseIn (ld d) (cnt16 (R.CH_CAUSE_SHORT.at c))
      [(R.CH_CAUSE_SHORT.at c, bits mask 0 0), (R.CH_CAUSE_OT.at c, bits mask 1 1), (R.CH_CAUSE_I2T.at c, bits mask 2 2)]
    let s := (s.inc (ld d) (R.CH_CNT_TRIPS.at c)).cwr d c R.CH_FAULT_CODE code
    let s := ((s.endWindow d e true).stopLearn d e).gateOff d e
    (s.hotSync d e).afterFault d e
  else s

/-- SHORT_TRIP, with the causes that arise in the same cycle (R484, R488). -/
def execShortTrip (d : Fin 2) (ch : Fin 24) (also : Nat) (s : State) : Host.Outcome State Fault Refusal :=
  done (s.trip d ch (also % 8 ||| 1))

/-- The channel that governs a switch: the even one of a ganged pair. -/
def State.govern (s : State) (d c : Nat) : Nat := if s.oddHalf d c then c - 1 else c

/-- OT_TRIP at a junction temperature code (R485). -/
def execOtTrip (d : Fin 2) (ch : Fin 24) (temp also : Nat) (s : State) : Host.Outcome State Fault Refusal :=
  let e := s.govern d ch
  let s := (s.cwr d ch R.CH_TEMP_T temp).modChan (cix d e) (fun x => { x with warm := true })
  done ((s.hotSync d e).trip d ch (also % 8 / 4 * 4 + 2))

/-- CHANNEL_COOL: the junction is at or below the trip less the restart margin; a waiting retry proceeds (R490). -/
def execChannelCool (d : Fin 2) (ch : Fin 24) (temp : Nat) (s : State) : Host.Outcome State Fault Refusal :=
  let e := s.govern d ch
  let s := (s.cwr d ch R.CH_TEMP_T temp).modChan (cix d e) (fun x => { x with warm := false })
  done ((s.hotSync d e).tryRetry d e)

/-- The die's total switch current in 20 mA units, a ganged pair counted once (R506). -/
def State.aggSum (s : State) (d : Nat) : Nat :=
  ((List.range 24).foldl (fun a c => if s.oddHalf d c then a else a + s.crd d c R.CH_CUR_I) 0) / 4

/-- I2T_PERIOD_END: the current sense of the period (mean in 5 mA, mean square in 25e-6 A^2) updates CH_CUR, AGG_CUR
and the integrator, which may trip the channel (R486, R487, R506). -/
def execI2tPeriodEnd (d : Fin 2) (ch : Fin 24) (meanSq cur : Nat) (atLimit : Bool) (s : State) :
    Host.Outcome State Fault Refusal :=
  let s := s.cwr d ch R.CH_CUR_I (min cur 4095)
  let sum := s.aggSum d
  let s := s.wr (ld d) R.AGG_CUR_SUM (min sum 4095)
  let s := if sum ≤ 2400 then s.wr (ld d) R.LD_STAT_AGG_OVER 0 else s
  done (if s.oddHalf d ch then s
  else
    let s := s.cwr d ch R.CH_STAT_AT_LIMIT (b2n (atLimit && s.cflag d ch R.CH_STAT_OUT))
    let w := s.wiring d ch
    let q : Int := (s.chan (cix d ch)).q + ((meanSq : Int) - ((10 * w.1 * (10 * w.1) : Nat) : Int)) *
      (s.crd d ch R.CH_I2T_PER_PER : Int)
    let s := s.modChan (cix d ch) (fun x => { x with q := if w.1 = 0 then 0 else q.toNat })
    let s := s.hotSync d ch
    if w.1 ≠ 0 && decide (w.2 * 4000000 < (s.chan (cix d ch)).q) then s.trip d ch 4 else s.tryRetry d ch)

/-- RETRY_WAIT_END: the wait is over; the retry proceeds unless the channel is HOT (R489, R490). -/
def execRetryWaitEnd (d : Fin 2) (ch : Fin 24) (s : State) : Host.Outcome State Fault Refusal :=
  done (if s.cflag d ch R.CH_STAT_RETRY_WAIT then
    (s.modChan (cix d ch) (fun x => { x with waitDone := true })).tryRetry d ch
  else s)

/-- GOOD_TIME_EXPIRY: the retry count returns to 0 (R491). -/
def execGoodTimeExpiry (d : Fin 2) (ch : Fin 24) (s : State) : Host.Outcome State Fault Refusal :=
  done (if s.crd d ch R.CH_RETRY2_GOOD ≠ 0 && s.cflag d ch R.CH_STAT_OUT then s.cwr d ch R.CH_FAULT_RETRIES 0 else s)

/-- One channel at an under-voltage: off as OFF would, except that k stays; its restart is pending (R495). -/
def State.uvChannel (s : State) (d c : Nat) : State :=
  if s.isSafety d c || s.oddHalf d c then s
  else if s.cflag d c R.CH_STAT_ON || s.cflag d c R.CH_STAT_RETRY_WAIT then
    let owed := s.cflag d c R.CH_STAT_RETRY_WAIT
    let s := (s.chOff d c true).cwr d c R.CH_STAT_RESTART_PEND 1
    (s.cwr d c R.CH_FAULT_CODE 9).modChan (cix d c) (fun x => { x with retryOwed := owed })
  else s

/-- UV_DETECT: VBAT counts as low (R495). -/
def execUvDetect (d : Fin 2) (s : State) : Host.Outcome State Fault Refusal :=
  done (if s.flag (ld d) R.LD_STAT_UV then s
  else
    let s := (List.range 24).foldl (fun s c => s.uvChannel d c) s
    let s := ((s.wr (ld d) R.LD_STAT_UV 1).wr (ld d) R.LD_STAT_RESTARTING 0).inc (ld d) R.UV_CNT_SHUTDOWNS
    s.raiseLd (ld d) R.LD_CAUSE_UV)

/-- The next channel of the restart sequence: highest CH_RPRIO first, then the lower number; a retry that fails
R490 does not hold the sequence back (R496). -/
def State.nextRestart (s : State) (d : Nat) : Option Nat :=
  (List.range 24).foldl (fun best c =>
    if s.cflag d c R.CH_STAT_RESTART_PEND && !((s.chan (cix d c)).retryOwed && s.isHot d c) then
      match best with
      | some b => if s.crd d b R.CH_RPRIO_PRIO < s.crd d c R.CH_RPRIO_PRIO then some c else best
      | none => some c
    else best) none

/-- One turn of the restart sequence; it ends when no restart is pending (R496). -/
def State.restartTurn (s : State) (d : Nat) : State :=
  let s := match s.nextRestart d with
    | some c => if (s.chan (cix d c)).retryOwed then s.retryOn d c else s.gateOn d c
    | none => s
  if (List.range 24).any (fun c => s.cflag d c R.CH_STAT_RESTART_PEND) then s
  else s.wr (ld d) R.LD_STAT_RESTARTING 0

/-- UV_RESTART_QUALIFY: the staggered restart starts with its first channel (R496). -/
def execUvRestartQualify (d : Fin 2) (s : State) : Host.Outcome State Fault Refusal :=
  done (if s.flag (ld d) R.LD_STAT_UV then
    let s := ((s.wr (ld d) R.LD_STAT_UV 0).wr (ld d) R.LD_STAT_RESTARTING 1).raiseLd (ld d) R.LD_CAUSE_UV_RESTORED
    s.restartTurn d
  else s)

/-- UV_RESTART_NEXT: the next pending channel, 2 ms later (R496). -/
def execUvRestartNext (d : Fin 2) (s : State) : Host.Outcome State Fault Refusal :=
  done (if s.flag (ld d) R.LD_STAT_RESTARTING then s.restartTurn d else s)

/-- One channel takes its limp state (R509): ON, OFF or KEEP; at POWERUP every channel is off already. -/
def State.limpChannel (s : State) (d c : Nat) : State :=
  let a := s.crd d c R.CH_OTP_A_VAL
  let st := bits a 15 14
  let ll := bits (s.crd d c R.CH_OTP_B_VAL) 15 8
  let l := s.limCap d c ll
  let s := s.cwr d c R.CH_STAT_LIMP 1
  if s.oddHalf d c || st = 2 then s
  else if st = 1 && ll ≠ 0 then
    if s.cflag d c R.CH_STAT_LATCHED then s
    else
      let s := s.modChan (cix d c) (fun x => { x with lim := l })
      if s.cflag d c R.CH_STAT_ON && s.cflag d c R.CH_STAT_OUT then
        if s.cflag d c R.CH_STAT_INRUSH then (s.endWindow d c true).stopLearn d c else s
      else (s.modChan (cix d c) (fun x => { x with slow := false })).gateOn d c
  else s.chOff d c true

/-- Limp-home entry with source bit `src` (1 POWERUP, 2 PIN, 4 HB); in limp-home it only adds its bit (R508). -/
def State.limpEntry (s : State) (d src : Nat) : State :=
  if s.flag (ld d) R.LD_STAT_LIMP then s.wr (ld d) R.LD_STAT_SRC (s.rd (ld d) R.LD_STAT_SRC ||| src)
  else
    let s := ((s.wr (ld d) R.LD_STAT_LIMP 1).wr (ld d) R.LD_STAT_SRC src).raiseLd (ld d) R.LD_CAUSE_LIMP_ENTRY
    (List.range 24).foldl (fun s c => s.limpChannel d c) s

/-- A Load die enters reset: registers, channels and OTP copies are lost, outputs are off; OTP itself stays
(R89, R473, R497). -/
def State.ldReset (s : State) (d : Nat) : State :=
  let s := s.clearRegs (ld d) (ld d + 0x8000)
  let s := (List.range 24).foldl (fun s c => s.modChan (cix d c) (fun _ => {})) s
  s.modLd d (fun x => { otp := x.otp, inReset := true })

/-- A Load die leaves reset: OTP is loaded, the protection registers take the OTP values, and every channel takes
its limp state with source POWERUP (R64 step 1 and 3, R473, R486, R508, R509). -/
def State.ldRelease (s : State) (d : Nat) : State :=
  let s := s.modLd d (fun x => { x with inReset := false })
  let o := (s.ldx d).otp
  let s := if d = 1 then (s.wr (ld 1) R.LD_ID_DIE 1).wr (ld 1) R.MICPWR_CTRL_EN 0 else s
  let s := (List.range 24).foldl (fun s c =>
    (((s.cwr d c R.CH_OTP_A_VAL (Store.get 0 o (3 * c))).cwr d c R.CH_OTP_B_VAL (Store.get 0 o (3 * c + 1))).cwr d c
      R.CH_OTP_C_VAL (Store.get 0 o (3 * c + 2))).cwr d c R.CH_WIRE_WIRE_I (bits (Store.get 0 o (3 * c + 1)) 7 0)
      |>.cwr d c R.CH_BUDGET_BUDGET (Store.get 0 o (3 * c + 2))) s
  let s := (s.wr (ld d) R.LD_STAT_LIMP 0).wr (ld d) R.LD_STAT_SRC 0
  let s := s.limpEntry d (if s.pins.limpN then 3 else 1)
  let s := s.wr (ld d) R.LD_STAT_LIMP_N (b2n s.pins.limpN)
  if d = 0 then
    (s.wr (ld 0) R.LD_STAT_MUTE (b2n s.pins.muteN)).wr (ld 0) R.LD_STAT_MICPWR_ON (b2n (!s.pins.muted))
  else s

/-- LD_LOW_VBAT_RESET: below 5.5 V the die resets, and at recovery its channels start from their limp states
(R497). -/
def execLdLowVbatReset (d : Fin 2) (s : State) : Host.Outcome State Fault Refusal :=
  done (((s.ldReset d).wr (ld d) R.LD_RSTCAUSE_POR 1).ldRelease d)

/-- OPEN_LOAD_ON_DETECT: OL_ON; the channel stays on (R498). -/
def execOpenLoadOnDetect (d : Fin 2) (ch : Fin 24) (s : State) : Host.Outcome State Fault Refusal :=
  done (if s.cflag d ch R.CH_STAT_OUT && !s.cflag d ch R.CH_STAT_INRUSH && !s.oddHalf d ch then
    (s.cwr d ch R.CH_FAULT_CODE 4).raiseLd (ld d) (R.CH_CAUSE_OL_ON.at ch)
  else s)

/-- The off-state tests run on a channel (R498, R501): off, not latched, and for a partner only with EN. -/
def State.diagRuns (s : State) (d c : Nat) : Bool :=
  !s.cflag d c R.CH_STAT_ON && !s.cflag d c R.CH_STAT_LATCHED && !s.oddHalf d c
    && (!s.isPartner d c || s.cflag d c R.CH_OFFDIAG_EN)

/-- OFFSTATE_DIAG_TEST: the results of the two tests, a bit per channel (R498, R488). -/
def execOffstateDiagTest (d : Fin 2) (openLoad shortBat : Nat) (s : State) : Host.Outcome State Fault Refusal :=
  done ((List.range 24).foldl (fun s c =>
    if s.diagRuns d c && (bitOf openLoad c || bitOf shortBat c) then
      (s.cwr d c R.CH_FAULT_CODE (if bitOf openLoad c then 5 else 6)).raiseIn (ld d) (cnt16 (R.CH_CAUSE_STB.at c))
        [(R.CH_CAUSE_OL_OFF.at c, bits openLoad c c), (R.CH_CAUSE_STB.at c, bits shortBat c c)]
    else s) s)

/-- One channel of a group whose feed is cut (R499). -/
def State.feedcutChannel (s : State) (d c stuck : Nat) : State :=
  let s := if s.oddHalf d c then s else (s.chOff d c true).cwr d c R.CH_FAULT_RETRIES 0
  (s.cwr d c R.CH_FAULT_CODE (if c = stuck then 7 else 8)).cwr d c R.CH_STAT_FEEDCUT 1

/-- FEEDCUT of group `g` is asserted: LD_STAT shows it and the assertion counts to 3 (R499). -/
def State.feedcutSet (s : State) (d g : Nat) : State :=
  let n := s.rd (ld d) R.FEEDCUT_CNT_G
  let k := bits n (2 * g + 1) (2 * g)
  (s.wr (ld d) R.LD_STAT_FEEDCUT (s.rd (ld d) R.LD_STAT_FEEDCUT ||| 2 ^ g)).wr (ld d) R.FEEDCUT_CNT_G
    (putBits n (2 * g + 1) (2 * g) (min (k + 1) 3))

/-- STUCK_ON_DETECT: FEEDCUT of the channel's group, every channel of the group off (R499). -/
def execStuckOnDetect (d : Fin 2) (ch : Fin 24) (s : State) : Host.Outcome State Fault Refusal :=
  done (if s.cflag d (s.govern d ch) R.CH_STAT_OUT then s
  else
    let g := ch.val / 8
    let s := (s.feedcutSet d g).raiseLd (ld d) R.LD_CAUSE_FEEDCUT
    let s := s.raiseLd (ld d) (R.CH_CAUSE_STUCK_ON.at ch)
    (List.range 8).foldl (fun s i => s.feedcutChannel d (8 * g + i) ch) s)

/-- FEEDCUT of group `g` is released, unless it has been asserted three times (R499); a test assertion is released
with it (R645). -/
def State.feedcutRelease (s : State) (d g : Nat) : State :=
  if bits (s.rd (ld d) R.FEEDCUT_CNT_G) (2 * g + 1) (2 * g) = 3 then s
  else
    let s := s.wr (ld d) R.LD_STAT_FEEDCUT (putBit (s.rd (ld d) R.LD_STAT_FEEDCUT) g false)
    let s := s.wr (ld d) R.FEEDCUT_TEST_TESTING (putBit (s.rd (ld d) R.FEEDCUT_TEST_TESTING) g false)
    (List.range 8).foldl (fun s i => s.cwr d (8 * g + i) R.CH_STAT_FEEDCUT 0) s

/-- The effect of a write of FEEDCUT_CTRL.CLR (R499). -/
def State.feedcutClear (s : State) (d groups : Nat) : State :=
  (List.range 3).foldl (fun s g => if bitOf groups g then s.feedcutRelease d g else s) s

/-- FEEDCUT_CLEAR: FEEDCUT_CTRL.CLR with the groups written as 1; the bits clear when done (R499). -/
def execFeedcutClear (d : Fin 2) (groups : Nat) (s : State) : Host.Outcome State Fault Refusal :=
  done (s.feedcutClear d groups)

/-- AGG_OVER_DETECT: AGG_OVER sets in LD_STAT and LD_CAUSE; nothing else happens (R506). -/
def execAggOverDetect (d : Fin 2) (s : State) : Host.Outcome State Fault Refusal :=
  done ((s.wr (ld d) R.LD_STAT_AGG_OVER 1).raiseLd (ld d) R.LD_CAUSE_AGG_OVER)

/-- LIMP_HB_TIMEOUT: AGE reaches 30 ms (R508). -/
def execLimpHbTimeout (d : Fin 2) (s : State) : Host.Outcome State Fault Refusal :=
  done (if (s.ldx d).inReset then s
  else (s.wr (ld d) R.HB_STAT_AGE (max 30 (s.rd (ld d) R.HB_STAT_AGE))).limpEntry d 4)

/-- LIMP_N low as one Load die sees it (R508). -/
def State.limpPin (s : State) (d : Nat) : State :=
  if (s.ldx d).inReset then s else (s.wr (ld d) R.LD_STAT_LIMP_N 1).limpEntry d 2

/-- LIMP_N_ASSERT: LIMP_N has been low for 10 us; it reaches both Load dies and both pad registers (R508, R692). -/
def execLimpNAssert (s : State) : Host.Outcome State Fault Refusal :=
  let s := { s with pins := { s.pins with limpN := true } }
  let s := (s.wr (cd 0) R.PAD_STAT_LIMP 1).wr (cd 1) R.PAD_STAT_LIMP 1
  done ((s.limpPin 0).limpPin 1)

/-- LIMP_N_RELEASE: LIMP_N is high again (R95). -/
def execLimpNRelease (s : State) : Host.Outcome State Fault Refusal :=
  let s := { s with pins := { s.pins with limpN := false } }
  let s := (s.wr (cd 0) R.PAD_STAT_LIMP 0).wr (cd 1) R.PAD_STAT_LIMP 0
  done ((s.wr (ld 0) R.LD_STAT_LIMP_N 0).wr (ld 1) R.LD_STAT_LIMP_N 0)

/-- A write of 1 to LIMP_CTRL.EXIT from die `n` (R511, R520). -/
def State.limpExit (s : State) (d n : Nat) : State :=
  if s.flag (ld d) R.LD_STAT_LIMP && !s.pins.limpN && decide (s.rd (ld d) R.HB_STAT_AGE < 30) && s.isActive n then
    let s := ((s.wr (ld d) R.LD_STAT_LIMP 0).wr (ld d) R.LD_STAT_SRC 0).raiseLd (ld d) R.LD_CAUSE_LIMP_EXIT
    (List.range 24).foldl (fun s c => s.cwr d c R.CH_STAT_LIMP 0) s
  else s

/-- LIMP_EXIT (R511). -/
def execLimpExit (d n : Fin 2) (s : State) : Host.Outcome State Fault Refusal := done (s.limpExit d n)

/-- A sequence starts; an empty one ends at once (R504). -/
def State.adcStart (s : State) (d : Nat) : State :=
  if s.rd (ld d) R.ADC_CTRL_LEN = 0 then
    (s.wr (ld d) R.ADC_SEQNO_N (s.rd (ld d) R.ADC_SEQNO_N + 1)).wr (ld d) R.ADC_STAT_RUN 0
  else (s.wr (ld d) R.ADC_STAT_RUN 1).modLd d (fun x => { x with adcPos := 0 })

/-- An ADC trigger: it starts a sequence, is held pending, or is discarded and counted (R505, R521). -/
def State.adcTrigger (s : State) (d : Nat) : State :=
  if !s.flag (ld d) R.ADC_STAT_RUN then s.adcStart d
  else if !s.flag (ld d) R.ADC_STAT_PEND then s.wr (ld d) R.ADC_STAT_PEND 1
  else (s.inc (ld d) R.ADC_STAT_OVERRUN).raiseLd (ld d) R.LD_CAUSE_OVERRUN

/-- ADC_TRIG: a write of 1 to ADC_CTRL.TRIG (R505). -/
def execAdcTrig (d : Fin 2) (s : State) : Host.Outcome State Fault Refusal := done (s.adcTrigger d)

/-- ADC_PERIODIC_TIMER: the timer fires while PER_EN is 1 and ADC_PER is not 0 (R505). -/
def execAdcPeriodicTimer (d : Fin 2) (s : State) : Host.Outcome State Fault Refusal :=
  done (if s.flag (ld d) R.ADC_CTRL_PER_EN && s.rd (ld d) R.ADC_PER_PERIOD ≠ 0 then s.adcTrigger d else s)

/-- ADC_CONVERSION_DONE: the conversion of the next entry gives `code`; after the last entry the sequence ends and
a pending trigger starts the next (R504, R521). -/
def execAdcConversionDone (d : Fin 2) (code : Nat) (s : State) : Host.Outcome State Fault Refusal :=
  done (if s.flag (ld d) R.ADC_STAT_RUN then
    let k := (s.ldx d).adcPos
    let src := s.rd (ld d) (R.ADC_SEQ_SRC.at k)
    let v := if src = 0x1E && d.val = 1 then 0 else code
    let s := if src = 0x1F then s else (s.wr (ld d) (R.ADC_RES_CODE.at k) v).wr (ld d) (R.ADC_LAST_CODE.at src) v
    let s := s.modLd d (fun x => { x with adcPos := k + 1 })
    if k + 1 < s.rd (ld d) R.ADC_CTRL_LEN then s
    else
      let s := (s.wr (ld d) R.ADC_SEQNO_N (s.rd (ld d) R.ADC_SEQNO_N + 1)).wr (ld d) R.ADC_STAT_RUN 0
      if s.flag (ld d) R.ADC_STAT_PEND then (s.wr (ld d) R.ADC_STAT_PEND 0).adcStart d else s
  else s)

/-- A read of ADC_STAT: OVERRUN returns and clears (R9 RC, R13). -/
def State.adcStatRead (s : State) (d : Nat) : State × Nat :=
  let v := s.rd (ld d) R.ADC_STAT_OVERRUN + 0x4000 * s.rd (ld d) R.ADC_STAT_PEND + 0x8000 * s.rd (ld d) R.ADC_STAT_RUN
  (s.wr (ld d) R.ADC_STAT_OVERRUN 0, v)

/-- ADC_STAT_READ (R521, R13). -/
def execAdcStatRead (d : Fin 2) (s : State) : Host.Outcome State Fault Refusal :=
  let r := s.adcStatRead d
  done { r.1 with rsp := .ok r.2 }

/-- OTP_PROG: programming starts (R474). -/
def State.otpProg (s : State) (d : Nat) : State :=
  if s.flag (ld d) R.OTP_STAT_BUSY then s
  else (s.wr (ld d) R.OTP_STAT_BUSY 1).wr (ld d) R.OTP_CMD_PROG 1

/-- OTP_PROG (R474). -/
def execOtpProg (d : Fin 2) (s : State) : Host.Outcome State Fault Refusal := done (s.otpProg d)

/-- OTP_PROG_DONE: the bits of DATA that `mask` covers have been programmed, only from 0 to 1; a bit missed fails the
verification (R474, R523). The loaded copies change at the next reset. -/
def execOtpProgDone (d : Fin 2) (mask : Nat) (s : State) : Host.Outcome State Fault Refusal :=
  done (if s.flag (ld d) R.OTP_STAT_BUSY then
    let a := s.rd (ld d) R.OTP_ADDR_WORD
    let v := s.rd (ld d) R.OTP_DATA_DATA
    let got := v &&& mask
    let s := if a < 72 then s.modLd d (fun x => { x with otp := Store.put 0 x.otp a (Store.get 0 x.otp a ||| got) })
      else s
    let ok := decide (a < 72) && got == v
    ((s.wr (ld d) R.OTP_STAT_BUSY 0).wr (ld d) R.OTP_CMD_PROG 0).wr (ld d) R.OTP_STAT_ERR (if ok then 0 else 2)
  else s)

end Sys2Proof.Machine
end

