-- ==== Sys2Proof/Machine/Access.lean ====
section
/-! DEFINITION. What a register access does field by field (R4, R5, R9, R10, R672), and the Load die's own registers
with the effects of their writes (R45, R499, R504, R511, R645). -/

namespace Sys2Proof.Machine

/-- The register of a block that begins at offset `o`, with its member number. -/
def findReg (l : List RegDesc) (o : Nat) : Option (RegDesc × Nat) :=
  (l.find? (fun r => if r.stride = 0 then r.off == o
    else decide (r.off ≤ o) && (o - r.off) % r.stride == 0 && decide ((o - r.off) / r.stride < r.count))).map
    (fun r => (r, if r.stride = 0 then 0 else (o - r.off) / r.stride))

/-- What a field returns to a read: WO reads 0 (R9). -/
def State.fieldRead (s : State) (b i : Nat) (p : Fld × Acc) : Nat :=
  match p.2 with
  | .wo => 0
  | _ => s.rd b (p.1.at i) * 2 ^ p.1.lo

/-- The stored value of the register at offset `o` of a block; an unassigned offset reads 0 (R37, R38). -/
def State.regRead (s : State) (b : Nat) (l : List RegDesc) (o : Nat) : Nat :=
  match findReg l o with
  | some (r, i) => r.fields.foldl (fun a p => a + s.fieldRead b i p) 0
  | none => 0

/-- A read clears the RC fields of the register (R9, R13). -/
def State.regReadClear (s : State) (b : Nat) (l : List RegDesc) (o : Nat) : State :=
  match findReg l o with
  | some (r, i) => r.fields.foldl (fun s p => if p.2 = .rc then s.wr b (p.1.at i) 0 else s) s
  | none => s

/-- A write to one field under its access code (R9, R10). A VALID bit that clears takes its OVER with it. -/
def State.fieldWrite (s : State) (b i : Nat) (lock : Bool) (v : Nat) (p : Fld × Acc) : State :=
  let f := p.1.at i
  let x := bits v f.hi f.lo
  match p.2 with
  | .rw => s.wr b f x
  | .rwl => if lock then s else s.wr b f x
  | .w1c =>
    let s := s.wr b f (s.rd b f - (s.rd b f &&& x))
    if f.hi = 31 ∧ f.lo = 31 ∧ x = 1 then s.wr b ⟨f.off, 30, 30, 0, 0⟩ 0 else s
  | .w1s => s.wr b f (s.rd b f ||| x)
  | .wo => s.wr b f x
  | .ro => s
  | .rc => s

/-- A write to a register field by field; reserved bits and unassigned offsets ignore it (R5, R14, R37, R38). -/
def State.regStore (s : State) (b : Nat) (l : List RegDesc) (lock : Bool) (o v : Nat) : State :=
  match findReg l o with
  | some (r, i) => r.fields.foldl (fun s p => s.fieldWrite b i lock v p) s
  | none => s

/-- Enabled causes of channel `c`: the channel's bit of CH_SUM (R497). -/
def State.chSum (s : State) (d c : Nat) : Bool :=
  (bits (s.regRead (ld d) ldRegs (0x58 + 64 * c)) 7 0 &&& s.crd d c R.CH_CAUSE_EN_EN) != 0
/-- CH_SUM of channels `lo` to `hi - 1`. -/
def State.chSums (s : State) (d lo n : Nat) : Nat :=
  (List.range n).foldl (fun a i => if s.chSum d (lo + i) then a + 2 ^ i else a) 0

/-- A 16-bit read of Load-die register `i` (R45); CH_SUM is live. -/
def State.ldRead (s : State) (d i : Nat) : Nat :=
  if i = 4 then s.chSums d 0 16 else if i = 5 then s.chSums d 16 8 else s.regRead (ld d) ldRegs (2 * i)
/-- HB_STAT.AGE shows how many milliseconds have passed (R508): while it has not reached 30 it is a free value below 30,
and beyond that a free value that does not fall. -/
def State.hbAge (s : State) (d : Nat) : State :=
  let r := s.draw 8
  let a := s.rd (ld d) R.HB_STAT_AGE
  if a < 30 then r.1.wr (ld d) R.HB_STAT_AGE (a + r.2 % (30 - a))
  else r.1.wr (ld d) R.HB_STAT_AGE (a + r.2 % (256 - a))
/-- Reads of `n` registers from index `i` on, in ascending order, with their clears (R524, R13). -/
def State.ldReads (s : State) (d i : Nat) : Nat → State × List Nat
  | 0 => (s, [])
  | n + 1 =>
    let s := if i = 0xB then s.hbAge d else s
    let v := s.ldRead d i
    let r := (s.regReadClear (ld d) ldRegs (2 * i)).ldReads d (i + 1) n
    (r.1, v :: r.2)

/-- FEEDCUT_TEST.ASSERT: accepted for a group in limp-home whose channels are all off without a pending restart;
it sets no cause and does not count (R645). -/
def State.feedcutTest (s : State) (d groups : Nat) : State :=
  (List.range 3).foldl (fun s g =>
    if bitOf groups g && s.flag (ld d) R.LD_STAT_LIMP && (List.range 8).all (fun i =>
        !s.cflag d (8 * g + i) R.CH_STAT_ON && !s.cflag d (8 * g + i) R.CH_STAT_RESTART_PEND
        && !s.cflag d (8 * g + i) R.CH_STAT_OUT) then
      (s.wr (ld d) R.LD_STAT_FEEDCUT (s.rd (ld d) R.LD_STAT_FEEDCUT ||| 2 ^ g)).wr (ld d) R.FEEDCUT_TEST_TESTING
        (s.rd (ld d) R.FEEDCUT_TEST_TESTING ||| 2 ^ g)
    else s) s

/-- A 16-bit write of Load-die register `i` that comes from Control die `n`: the fields under their codes, and the
effect of the registers that act on a write. Answers 0 OK, or the refusal of a CH_CMD word (R524, R527). -/
def State.ldWrite (s : State) (d n i v : Nat) : State × LdAns :=
  let o := 2 * i
  if o = 0x10 then (s.feedcutClear d (bits v 2 0), 0)
  else if o = 0x14 then (if bitOf v 0 then s.limpExit d n else s, 0)
  else if o = 0x18 then
    let s := if d = 0 then s.wr (ld d) R.MICPWR_CTRL_EN v else s
    (if d = 0 then s.wrb (ld d) R.LD_STAT_MICPWR_ON (bitOf v 0 && !s.pins.muted) else s, 0)
  else if o = 0x1E then (s.feedcutTest d (bits v 2 0), 0)
  else if o = 0x640 then
    let s := (s.wr (ld d) R.ADC_CTRL_LEN (bits v R.ADC_CTRL_LEN.hi R.ADC_CTRL_LEN.lo)).wr (ld d) R.ADC_CTRL_PER_EN
      (bits v R.ADC_CTRL_PER_EN.hi R.ADC_CTRL_PER_EN.lo)
    (if bitOf v R.ADC_CTRL_TRIG.lo then s.adcTrigger d else s, 0)
  else if o = 0x744 then (if bitOf v R.OTP_CMD_PROG.lo then s.otpProg d else s, 0)
  else if 0x40 ≤ o ∧ o < 0x640 ∧ o % 64 = 4 then s.chCmd d ((o - 0x40) / 64) (bits v 1 0) (bitOf v 2)
  else (s.regStore (ld d) ldRegs false o v, 0)

/-- The words of a WRITE frame in ascending order; a refused word ends it, and the words before it stand (R527). -/
def State.ldWrites (s : State) (d n i : Nat) : List Nat → State × LdAns
  | [] => (s, 0)
  | v :: vs =>
    let r := s.ldWrite d n i v
    if r.2 = 0 then r.1.ldWrites d n (i + 1) vs else r

/-- FEEDCUT_TEST_ASSERT: a write of FEEDCUT_TEST.ASSERT (R645). -/
def execFeedcutTestAssert (d : Fin 2) (groups : Nat) (s : State) : Host.Outcome State Fault Refusal :=
  done (s.feedcutTest d groups)

end Sys2Proof.Machine
end

