-- ==== Sys2Proof/Machine/Agents.lean ====
section
/-! DEFINITION. The Assal agents: register files (R257), states, traps (R268, R269), semaphores (R199, R200) and the
statuses of catalogue, power and security instructions (R336). -/

namespace Sys2Proof.Machine

/-- A sequencer, by agent number. -/
def isSq (a : Nat) : Bool := decide (a < 16)
/-- The Control die of a sequencer. -/
def sqDie (a : Nat) : Nat := a / 8
/-- The Stack die and the wing of a wing controller. -/
def wcDie (a : Nat) : Nat := (a - 16) / 8
def wcWing (a : Nat) : Nat := (a - 16) % 8
/-- Base of the registers that report an agent. -/
def agBase (a : Nat) : Nat := if isSq a then cd (sqDie a) else wg (wcDie a) (wcWing a)
/-- STATE of an agent: 0 IDLE, 1 RUNNING, 2 WAITING, 3 STOPPING, 4 DRAINING, 5 HALTED. -/
def fState (a : Nat) : Fld := if isSq a then R.SQ_STAT_STATE.at (a % 8) else R.WC_STAT_STATE
def fStopReq (a : Nat) : Fld := if isSq a then R.SQ_STAT_STOPREQ.at (a % 8) else R.WC_STAT_STOPREQ
def fPc (a : Nat) : Fld := if isSq a then R.SQ_STAT_PC.at (a % 8) else R.WC_STAT_PC
def fEstat (a : Nat) : Fld := if isSq a then R.SQ_ESTAT_ESTAT.at (a % 8) else R.WC_ESTAT_ESTAT
/-- Words of the agent's program memory (R253). -/
def pmWords (a : Nat) : Nat := if isSq a then 8192 else 4096

def State.agState (s : State) (a : Nat) : Nat := s.rd (agBase a) (fState a)
def State.setAgState (s : State) (a v : Nat) : State := s.wr (agBase a) (fState a) v
def State.pc (s : State) (a : Nat) : Nat := s.rd (agBase a) (fPc a)
def State.setPc (s : State) (a v : Nat) : State := s.wr (agBase a) (fPc a) v
/-- Sets ESTAT bits (R271). -/
def State.orEstat (s : State) (a m : Nat) : State := s.wr (agBase a) (fEstat a) (s.rd (agBase a) (fEstat a) ||| m)

/-- Reads an s register; s0 reads 0 (R257). -/
def State.sR (s : State) (a i : Nat) : Word := if i = 0 then 0 else Store.get 0 (s.agent a).s i
/-- Writes an s register; a write of s0 is discarded. -/
def State.sW (s : State) (a i : Nat) (v : Word) : State :=
  if i = 0 then s else s.modAgent a (fun x => { x with s := Store.put 0 x.s i v })
/-- Reads an ad register. -/
def State.adR (s : State) (a i : Nat) : DevAddr := Store.get 0 (s.agent a).ad i
/-- Writes an ad register. -/
def State.adW (s : State) (a i : Nat) (v : DevAddr) : State :=
  s.modAgent a (fun x => { x with ad := Store.put 0 x.ad i v })
/-- Reads a predicate; p0 reads 1. -/
def State.pR (s : State) (a i : Nat) : Bool := if i = 0 then true else Store.get false (s.agent a).p i
/-- Writes a predicate; a write of p0 is discarded. -/
def State.pW (s : State) (a i : Nat) (v : Bool) : State :=
  if i = 0 then s else s.modAgent a (fun x => { x with p := Store.put false x.p i v })

/-- Writes a register by its code: s registers 0 to 31, ad registers from 32. -/
def State.regW (s : State) (a r v : Nat) : State :=
  if r < 32 then s.sW a r (BitVec.ofNat 32 v) else s.adW a (r - 32) (BitVec.ofNat 40 v)

/-- Key of semaphore `n` of wing `w` of Stack die `d`. -/
def wsem (d w n : Nat) : Nat := 512 * wix d w + n
/-- Key of semaphore `k` of Control die `n`. -/
def csem (n k : Nat) : Nat := 16384 + 8192 * n + k
/-- Key of the semaphore that a number names for an agent (R263). -/
def agSem (a k : Nat) : Nat := if isSq a then csem (sqDie a) k else wsem (wcDie a) (wcWing a) k

/-- A signal of `v`: the counter saturates at 65,535; a wing logs the saturation (R199). -/
def State.semSignal (s : State) (k v : Nat) : State :=
  let x := Store.get 0 s.sems k
  let s := { s with sems := Store.put 0 s.sems k (min (x + v) 65535) }
  if 65535 < x + v ∧ k < 16384 then
    let b := wg (k / 4096) (k / 512 % 8)
    (s.wr b R.SEM_SEL_SAT (k % 512)).raise b R.RR_CAUSE_SEM_SAT
  else s

/-- Logs a fault of an agent in SQ_FLT or WC_FLT; a fault while VALID is 1 sets OVER (R268, R291). -/
def State.logFault (s : State) (a engine code pc : Nat) : State :=
  let b := agBase a
  if isSq a then
    s.capture b (R.SQ_FLT_VALID.at (a % 8)).off 0 [(b, R.SQ_FLT_ENGINE.at (a % 8), engine),
      (b, R.SQ_FLT_CODE.at (a % 8), code), (b, R.SQ_FLT_PC.at (a % 8), pc)]
  else
    s.capture b R.WC_FLT_VALID.off 0 [(b, R.WC_FLT_ENGINE, engine), (b, R.WC_FLT_CODE, code), (b, R.WC_FLT_PC, pc)]

/-- Engine `e` of an agent. -/
def State.engine (s : State) (a e : Nat) : Engine := Store.get {} (s.agent a).eng e
/-- WC_QFILL shows the entries queued to a wing's engines. -/
def State.qfill (s : State) (a : Nat) : State :=
  if isSq a then s
  else
    let b := agBase a
    (((s.wr b R.WC_QFILL_CIM (s.engine a 2).q.length).wr b R.WC_QFILL_VEC (s.engine a 3).q.length).wr b R.WC_QFILL_MOVE
      (s.engine a 4).q.length).wr b R.WC_QFILL_LINK (s.engine a 5).q.length
/-- Changes an engine. -/
def State.modEng (s : State) (a e : Nat) (f : Engine → Engine) : State :=
  (s.modAgent a (fun x => { x with eng := Store.put {} x.eng e (f (Store.get {} x.eng e)) })).qfill a
/-- Every engine of the agent is idle (R262). -/
def State.enginesIdle (s : State) (a : Nat) : Bool :=
  [1, 2, 3, 4, 5].all (fun e => (s.engine a e).run.isNone && (s.engine a e).q.isEmpty) && (s.agent a).memOps.isEmpty

/-- The queued instructions that have not started are abandoned, and so is every wait (R267 step 3, R268). -/
def State.abandon (s : State) (a : Nat) : State :=
  let s := [1, 2, 3, 4, 5].foldl (fun s e => s.modEng a e (fun x => { x with
    q := [], run := x.run.map (fun r => if (r.ins.op = 0x82 ∨ r.ins.op = 0xA7) ∧ r.todo ≠ [] then { r with todo := [], next := r.stop } else r) })) s
  let s := { s with waitq := s.waitq.filter (fun w => w.2 != a) }
  s.modAgent a (fun x => { x with
    wait := none, fence := none, halt := none, callWait := false, stat := none, ldStore := none, pendFault := none,
    stopDue := false })

/-- A trap: the fault is logged, the agent stops issuing and drains its engines (R268, R269). A fault while the agent
has stopped under a stop request, or while a trap drains, is logged only (R267, R292). -/
def State.trapAt (s : State) (a engine code pc tcode : Nat) : State :=
  let st := s.agState a
  let s := s.logFault a engine code pc
  if st = 3 ∨ st = 4 ∨ st = 0 then s
  else
    ((s.abandon a).setAgState a 4).modAgent a
      (fun x => { x with ending := some { status := 1, code := code, pc := pc, trapCode := tcode } })

/-- A synchronous trap with the PC at the faulting instruction (R268). -/
def State.trap (s : State) (a code : Nat) : State := s.trapAt a 0 code (s.pc a) 0

/-- The agent stops issuing under a stop request (R267 step 3). -/
def State.stopNow (s : State) (a : Nat) : State :=
  ((s.abandon a).setAgState a 3).modAgent a (fun x => { x with ending := some { status := 2 } })

/-- An instruction of the agent has issued and has not completed. -/
def Agent.stalled (g : Agent) : Bool :=
  g.stat.isSome || g.ldStore.isSome || g.fence.isSome || g.halt.isSome || g.callWait || g.wait.isSome
/-- An instruction that completes before a stop or an engine fault acts (R268, R391): a catalogue, power or security
instruction, or a ST to a Load die. -/
def Agent.firm (g : Agent) : Bool := g.stat.isSome || g.ldStore.isSome

/-- An engine fault is reported (R268): the agent traps at the next boundary. -/
def State.engFault (s : State) (a engine code pc : Nat) : State :=
  let g := s.agent a
  if g.firm then
    if g.pendFault.isSome then s.logFault a engine code pc
    else s.modAgent a (fun x => { x with pendFault := some (engine, code, pc) })
  else s.trapAt a engine code pc 0

/-- An instruction boundary: a reported fault traps, an overdue stop request acts, and debug halts a sequencer whose
engines have drained (R267, R268, R676). -/
def State.boundary (s : State) (a : Nat) : State :=
  let g := s.agent a
  if s.agState a ≠ 1 ∨ g.stalled then s
  else match g.pendFault with
  | some (e, c, pc) => s.trapAt a e c pc 0
  | none =>
    if g.stopDue then s.stopNow a
    else if (g.dbgHalt || g.step == 2) && s.enginesIdle a then
      (s.setAgState a 5).modAgent a (fun x => { x with dbgHalt := false, step := 0 })
    else s

/-- The agent waits in an instruction: STATE reads WAITING. -/
def State.hold (s : State) (a : Nat) (f : Agent → Agent) : State := (s.setAgState a 2).modAgent a f
/-- The wait ends, and the agent runs on. -/
def State.unhold (s : State) (a : Nat) (f : Agent → Agent) : State :=
  let s := s.modAgent a f
  (if s.agState a = 2 ∧ !(s.agent a).stalled then s.setAgState a 1 else s).boundary a

/-- The status of a catalogue, power or security instruction is written and its agent goes on (R336). -/
def State.answer (s : State) (w : Option (Nat × Nat)) (status : Nat) : State :=
  match w with
  | some (a, r) => (s.sW a r (BitVec.ofNat 32 status)).unhold a (fun x => { x with stat := none })
  | none => s
/-- The instruction ends with a fault instead of a status (R337). -/
def State.answerFault (s : State) (w : Option (Nat × Nat)) (code : Nat) : State :=
  match w with
  | some (a, _) =>
    let pc := (s.agent a).stat.getD (s.pc a)
    ((s.modAgent a (fun x => { x with stat := none })).setPc a pc).trapAt a 0 code pc 0
  | none => s
/-- CSEM of an instruction of Control die `n` (R336). -/
def State.csemSig (s : State) (n : Nat) (k : Option Nat) : State :=
  match k with
  | some k => s.semSignal (csem n k) 1
  | none => s

end Sys2Proof.Machine
end

