-- ==== Sys2Proof/Machine/LbusQueue.lean ====
section
/-! DEFINITION. The L-bus bridge's frames, ports and logs (R524 to R531, R56): what a request looks like on the lanes,
the queue of each port in its classes, and where a failed access is logged. -/

namespace Sys2Proof.Machine

/-- One bit of the CRC-8 with polynomial 0x07 (R525). -/
def crcBit (c : Nat) : Nat := if 128 ≤ c then ((2 * c) ^^^ 7) % 256 else 2 * c
/-- One byte of the CRC-8. -/
def crcByte (c b : Nat) : Nat := (List.range 8).foldl (fun c _ => crcBit c) (c ^^^ b)
/-- The CRC-8 of a frame: each word as its high byte, then its low byte (R525). -/
def lbCrc (ws : List Nat) : Nat := ws.foldl (fun c w => crcByte (crcByte c (w / 256 % 256)) (w % 256)) 0

/-- Header of a request frame (R524). -/
def lbHeader (seq : Nat) (r : LbReq) : Nat :=
  if r.cmd = 3 then 0x3000 + 256 * seq + 128 * r.count else 0x1000 * r.cmd + 256 * seq + r.count
/-- The words of a request frame (R524). -/
def lbFrame (seq : Nat) (r : LbReq) : List Nat :=
  lbHeader seq r :: (if r.cmd = 3 then r.words else if r.cmd = 1 then r.idx :: r.words else [r.idx])
/-- The words of an answer frame: ACK 0x8 or DATA 0x9 with SEQ and STATUS (R524). -/
def lbAnswer (cmd seq status : Nat) (data : List Nat) : List Nat := (0x1000 * cmd + 256 * seq + 16 * status) :: data

/-- Initiator code of a unit of Control die `n` (ADDR_ERR_HI.INIT). -/
def unitCode (n u : Nat) : Nat := 16 * (n + 1) + u
/-- The address under which an access of `unit` of die `n` is logged: the host's in the region 0x3 form of its BAR0
offset `bar` (R56). -/
def logAddr (n unit bar a : Nat) : Nat := if unit % 16 = 0xB then cd n + bar else a

/-- An address error seen by Control die `n` (R56, R54): kind 1 to 6, initiator, direction, address. -/
def State.addrErr (s : State) (n kind init : Nat) (write : Bool) (addr : Nat) : State :=
  let s' := s.capture (cd n) R.ADDR_ERR_HI_VALID.off 0 [(cd n, R.ADDR_ERR_HI_KIND, kind),
    (cd n, R.ADDR_ERR_HI_INIT, init), (cd n, R.ADDR_ERR_HI_WRITE, b2n write),
    (cd n, R.ADDR_ERR_HI_ADDR_HI, addr / 2 ^ 32), (cd n, R.ADDR_ERR_LO_ADDR_LO, addr % 2 ^ 32)]
  if s.flag (cd n) R.ADDR_ERR_HI_VALID then s' else s'.sysEvent n R.SYS_CAUSE_ADDR_ERR

/-- An L-bus error (LB_ERR): Load die, KIND, initiator, register index (R528, R529, R547). -/
def State.lbErr (s : State) (n d kind init reg : Nat) : State :=
  let s' := s.capture (cd n) R.LB_ERR_VALID.off 0 [(cd n, R.LB_ERR_DIE, d), (cd n, R.LB_ERR_KIND, kind),
    (cd n, R.LB_ERR_INIT, init), (cd n, R.LB_ERR_REG, reg)]
  if s.flag (cd n) R.LB_ERR_VALID then s' else s'.raise (cd n) R.LB_CAUSE_ERR

/-- Die `k` is in service as Control die `n` reports it (R29). -/
def State.inService (s : State) (n k : Nat) : Bool := decide (2 ≤ s.rd (cd n) (diesFld k))

/-- The port of die `n` to Load die `d`. -/
def State.lbPort (s : State) (n d : Nat) : LbPort := Store.get {} (s.cdx n).ports d
/-- Changes a port. -/
def State.modPort (s : State) (n d : Nat) (f : LbPort → LbPort) : State :=
  s.modCd n (fun x => { x with ports := Store.put {} x.ports d (f (Store.get {} x.ports d)) })
/-- What die `n` keeps of Load die `d`. -/
def State.ldc (s : State) (n d : Nat) : LbCache := Store.get {} (s.cdx n).ldc d
/-- Changes it. -/
def State.modLdc (s : State) (n d : Nat) (f : LbCache → LbCache) : State :=
  s.modCd n (fun x => { x with ldc := Store.put {} x.ldc d (f (Store.get {} x.ldc d)) })
/-- What die `n` keeps of channel `g`, by global number. -/
def State.chc (s : State) (n g : Nat) : ChCache := Store.get {} (s.cdx n).chc g
/-- Changes it. -/
def State.modChc (s : State) (n g : Nat) (f : ChCache → ChCache) : State :=
  s.modCd n (fun x => { x with chc := Store.put {} x.chc g (f (Store.get {} x.chc g)) })

/-- The class of R531 a request is served in. -/
def LbOwn.cls : LbOwn → Nat
  | .hb => 0
  | .ledger _ _ => 1
  | .cross _ => 1
  | .detail _ now => if now then 1 else 2
  | .poll => 2
  | .otp _ => 2
  | .inrush _ => 2
  | .soft _ _ => 3
  | .staged _ => 3
  | .tel _ => 4

/-- Puts a request behind every waiting one of its class or an earlier one (R531). -/
def lbInsert (r : LbReq) : List LbReq → List LbReq
  | [] => [r]
  | x :: xs => if x.own.cls ≤ r.own.cls then x :: lbInsert r xs else r :: x :: xs

/-- A free port sends the head of its queue with the next SEQ (R526, R531). -/
def LbPort.pump (p : LbPort) : LbPort :=
  match p.out, p.q with
  | none, r :: q => { p with out := some (p.seq, r), tries := 0, seq := (p.seq + 1) % 16, q := q }
  | _, _ => p

/-- A request joins the port's queue. -/
def State.lbEnq (s : State) (n d : Nat) (r : LbReq) : State :=
  s.modPort n d (fun p => LbPort.pump { p with q := lbInsert r p.q })

/-- The register index of channel `ch`'s block, from a byte offset inside the block. -/
def chIdx (ch off : Nat) : Nat := (off + 64 * ch) / 2

/-- The read of CH_STAT, CH_FAULT and CH_CAUSE of a channel (R536, R537). -/
def lbDetail (ch : Nat) (now : Bool) : LbReq := ⟨2, chIdx ch 0x54, 3, [], .detail ch now⟩

/-- A request the bridge makes for itself has INIT unit 0xC; a software access has its initiator's code (R528). -/
def LbOwn.init (n : Nat) : LbOwn → Nat
  | .soft i _ => i
  | _ => unitCode n 0xC

/-- LB_STAT and SAFE_SUM follow what the bridge keeps of the Load dies. -/
def State.lbSync (s : State) (n : Nat) : State :=
  let st := fun d =>
    let c := s.ldc n d
    128 * b2n c.hbOk + 64 * b2n c.owner + 32 * b2n c.newPend + 16 * b2n (bitOf c.stat 15)
      + 8 * s.rd (cd n) (R.LB_LOCK_HELD.at d)
  let sum := fun d =>
    let c := s.ldc n d
    128 * b2n (s.inService n (6 + d)) + 64 * b2n (bitOf c.stat 15) + 32 * b2n (bitOf c.stat 11) + 16 * b2n c.hbOk
      + 2 * bits c.stat 2 0 + b2n c.hbTestOk
  (((s.wr (cd n) R.LB_STAT_LD0 (st 0)).wr (cd n) R.LB_STAT_LD1 (st 1)).wr (cd n) R.SAFE_SUM_LD0 (sum 0)).wr (cd n)
    R.SAFE_SUM_LD1 (sum 1)

/-- LINK_UP of both dies shows whether answers of Load die `d` reach die `n` with a good CRC (LINK_UP.LBUS). -/
def State.lbusShow (s : State) (n d : Nat) (up : Bool) : State :=
  [0, 1].foldl (fun s k => s.wr (cd k) R.LINK_UP_LBUS (putBit (s.rd (cd k) R.LINK_UP_LBUS) (2 * n + d) up)) s

/-- LB_STAGE.IN_USE counts the entries taken. -/
def State.stageSync (s : State) (n : Nat) : State :=
  s.wr (cd n) R.LB_STAGE_IN_USE (((s.cdx n).stages.filter (fun e => e.2.used)).length)

end Sys2Proof.Machine
end

