-- ==== Sys2Proof/Machine/Ledger.lean ====
section
/-! DEFINITION. The budget ledger (chapter 14): capacity, entries, decisions, demotion and shedding, releases, power
levels, reconciliation, and the requests of LDSET, BUDREQ and BUDREL (R366 to R374). -/

namespace Sys2Proof.Machine

/-- STATE of entry `e`: 0 FREE, 1 HELD, 2 DEFERRED, 3 APPLYING (R543). -/
def State.lgSt (s : State) (n e : Nat) : Nat := s.rd (cd n) (R.GNT_B_STATE.at e)
/-- A flag of entry `e`. -/
def State.lgFlag (s : State) (n e : Nat) (f : Fld) : Bool := s.flag (cd n) (f.at e)
/-- Writes a field of entry `e`. -/
def State.lgWr (s : State) (n e : Nat) (f : Fld) (v : Nat) : State := s.wr (cd n) (f.at e) v
/-- The rest of entry `e`. -/
def State.lgx (s : State) (n e : Nat) : LgX := Store.get {} (s.cdx n).lg e
/-- Changes it. -/
def State.modLg (s : State) (n e : Nat) (f : LgX → LgX) : State :=
  s.modCd n (fun x => { x with lg := Store.put {} x.lg e (f (Store.get {} x.lg e)) })
/-- Stack die `d`'s level as the ledger sees it. -/
def State.lvl (s : State) (n d : Nat) : LvlX := Store.get {} (s.cdx n).lvl d
/-- Changes it. -/
def State.modLvl (s : State) (n d : Nat) (f : LvlX → LvlX) : State :=
  s.modCd n (fun x => { x with lvl := Store.put {} x.lvl d (f (Store.get {} x.lvl d)) })
/-- The next place in the order of grants and deferrals (R543). -/
def State.lgStamp (s : State) (n : Nat) : State := s.modCd n (fun x => { x with lgSeq := x.lgSeq + 1 })

/-- The entries in use: channels, claims and fixed entries (R543). -/
def lgAll : List Nat := List.range 84

/-- AMOUNT and EXCESS of an entry that holds (HELD or APPLYING), 0 otherwise. -/
def State.lgHold (s : State) (n e : Nat) : Nat :=
  if s.lgSt n e = 1 ∨ s.lgSt n e = 3 then s.rd (cd n) (R.GNT_A_AMOUNT.at e) + s.rd (cd n) (R.GNT_A_EXCESS.at e) else 0
/-- The sum of the holdings that satisfy `p`. -/
def State.lgSum (s : State) (n : Nat) (p : Nat → Bool) : Nat :=
  lgAll.foldl (fun a e => if p e then a + s.lgHold n e else a) 0
/-- H, the total held (R548). -/
def State.lgH (s : State) (n : Nat) : Nat := s.lgSum n (fun _ => true)
/-- G, the total held as guaranteed (R548). -/
def State.lgG (s : State) (n : Nat) : Nat := s.lgSum n (fun e => s.lgFlag n e R.GNT_B_GUAR)
/-- An entry that is never demoted or shed (R549). -/
def State.lgFirm (s : State) (n e : Nat) : Bool := s.lgFlag n e R.GNT_B_SAFETY || s.lgFlag n e R.GNT_B_FIXED
/-- F, the safety and fixed holdings (R542). -/
def State.lgF (s : State) (n : Nat) : Nat := s.lgSum n (s.lgFirm n)
/-- Capacity C. -/
def State.lgC (s : State) (n : Nat) : Nat := s.rd (cd n) R.LG_CAP_CAP
/-- The ceiling: the smaller of LEDGER_MAX and LG_SOFT (R542). -/
def State.lgCeil (s : State) (n : Nat) : Nat := min (s.cdx n).lgMax (s.rd (cd n) R.LG_SOFT_SOFT)
/-- Rank priority: 8 for a safety entry, PRIO otherwise (R548). -/
def State.lgRank (s : State) (n e : Nat) : Nat :=
  if s.lgFlag n e R.GNT_B_SAFETY then 8 else s.rd (cd n) (R.GNT_B_PRIO.at e)

/-- LG_HELD, LG_FLOOR and LG_CAP.CEIL show the totals. -/
def State.lgSync (s : State) (n : Nat) : State :=
  (((s.wr (cd n) R.LG_HELD_HELD (s.lgH n)).wr (cd n) R.LG_HELD_GUAR (s.lgG n)).wr (cd n) R.LG_FLOOR_FLOOR (s.lgF n)).wr
    (cd n) R.LG_CAP_CEIL (s.lgCeil n)

/-- A notice: cause, count and LG_LOG; 1 DEMOTE, 2 SHED, 3 REFUSE, 4 CLAMP (R553, R558). -/
def State.lgNote (s : State) (n kind e : Nat) : State :=
  let c := if kind = 1 then (R.LG_CAUSE_DEMOTE, R.LG_CNT_DEMOTES) else if kind = 2 then (R.LG_CAUSE_SHED, R.LG_CNT_SHEDS)
    else if kind = 3 then (R.LG_CAUSE_REFUSE, R.LG_CNT_REFUSALS) else (R.LG_CAUSE_CLAMP, R.LG_CNT_CLAMPS)
  ((s.raise (cd n) c.1).inc (cd n) c.2).capture (cd n) R.LG_LOG_VALID.off 0
    [(cd n, R.LG_LOG_KIND, kind), (cd n, R.LG_LOG_ENTRY, e), (cd n, R.LG_LOG_CAP, s.lgC n)]

/-- Channel `ch` of LD0 and of LD1 form a partner pair by the OTP copies (R502, R503, R541). -/
def State.lgPartner (s : State) (n ch : Nat) : Bool :=
  let a := (s.chc n ch).otpA
  let b := (s.chc n (24 + ch)).otpA
  bitOf a 12 && bitOf b 12 && bits a 15 13 == bits b 15 13
/-- Channel `g` is the even half of a ganged pair by the OTP copies. -/
def State.lgGang (s : State) (n g : Nat) : Bool := g % 2 == 0 && bitOf (s.chc n g).otpA 11
/-- The entry of channel `g`: a partner pair uses the LD0 entry (R543). -/
def State.lgEntry (s : State) (n g : Nat) : Nat := if 24 ≤ g ∧ s.lgPartner n (g - 24) then g - 24 else g
/-- The channels of an entry, as Load die and channel (R502). -/
def State.lgHalves (s : State) (n e : Nat) : List (Nat × Nat) :=
  if e < 24 ∧ s.lgPartner n e then [(0, e), (1, e)] else [(e / 24, e % 24)]
/-- A half whose Load die is in service (R549). -/
def State.lgUp (s : State) (n : Nat) (p : Nat × Nat) : Bool := s.inService n (6 + p.1)
/-- A half whose Load die is in service and out of limp-home, as the bridge last saw it (R549). -/
def State.lgUsable (s : State) (n : Nat) (p : Nat × Nat) : Bool := s.lgUp n p && !bitOf (s.ldc n p.1).stat 15
/-- The ledger leaves the entry as it is: a channel with no usable half (R554). -/
def State.lgFrozen (s : State) (n e : Nat) : Bool := decide (e < 48) && !(s.lgHalves n e).any (s.lgUsable n)

/-- Insertion into a list sorted by `lt`, behind equal ones. -/
def insBy (lt : Nat → Nat → Bool) (x : Nat) : List Nat → List Nat
  | [] => [x]
  | y :: ys => if lt x y then x :: y :: ys else y :: insBy lt x ys
/-- A list sorted by `lt`. -/
def sortBy (lt : Nat → Nat → Bool) (l : List Nat) : List Nat := l.foldr (insBy lt) []
/-- The shortest prefix whose amounts reach `need`; none where the whole list does not. -/
def takeNeed (amt : Nat → Nat) (need : Nat) : List Nat → Option (List Nat)
  | [] => if need = 0 then some [] else none
  | x :: xs => if need = 0 then some [] else (takeNeed amt (need - amt x) xs).map (x :: ·)

/-- Lowest priority first and, within a priority, the most recently granted first (R549, R553). -/
def State.lgLast (s : State) (n x y : Nat) : Bool :=
  let px := s.rd (cd n) (R.GNT_B_PRIO.at x)
  let py := s.rd (cd n) (R.GNT_B_PRIO.at y)
  decide (px < py) || (px == py && decide ((s.lgx n y).gseq < (s.lgx n x).gseq))

/-- Holders that can be demoted or shed, in order (R549, R550, R553, R554). -/
def State.lgPool (s : State) (n : Nat) : List Nat :=
  sortBy (s.lgLast n) (lgAll.filter (fun e =>
    s.lgSt n e == 1 && !s.lgFirm n e && !s.lgFrozen n e && decide (0 < s.lgHold n e)))

/-- A decision of R549. -/
inductive LgDec where
  | refuse
  | defer
  | grant (guar : Bool) (demote shed : List Nat)
  deriving DecidableEq, Repr

/-- Decides a request of `a` units for entry `e` (R549): `seek` asks for the guaranteed class, `must` defers what
cannot have it (R371), `absent` refuses a channel without a usable Load die. -/
def State.lgDecide (s : State) (n e a : Nat) (seek must absent : Bool) (rank : Nat) : LgDec :=
  let others := s.lgSum n (fun x => x != e && s.lgFirm n x)
  if absent || decide (s.lgCeil n - others < a) then .refuse
  else
    let pool := (s.lgPool n).filter (fun x => x != e && decide (s.lgRank n x < rank))
    let cls : Bool × List Nat :=
      if !seek then (false, [])
      else match takeNeed (s.lgHold n) (s.lgG n + a - s.lgC n) (pool.filter (fun x => s.lgFlag n x R.GNT_B_GUAR)) with
        | some l => (true, l)
        | none => (false, [])
    if must && !cls.1 then .defer
    else
      match takeNeed (s.lgHold n) (s.lgH n + a - s.lgC n)
          (pool.filter (fun x => !s.lgFlag n x R.GNT_B_GUAR || cls.2.contains x)) with
      | some l => .grant cls.1 cls.2 l
      | none => .defer

/-- Battery current of level `L` (R544). -/
def State.lvlCur (s : State) (n l : Nat) : Nat := s.rd (cd n) (R.LG_PTAB_UNITS.at (l + 1))
/-- The base level in use of die `d`: that of its fixed entry (R545). -/
def State.lgBaseLvl (s : State) (n d : Nat) : Nat := s.rd (cd n) (R.GNT_B_LEVEL.at (80 + d))
/-- The claims of die `d` in one of the given states. -/
def State.lgClaims (s : State) (n d : Nat) (p : Nat → Bool) : List Nat :=
  (List.range 32).map (48 + ·) |>.filter (fun e => s.rd (cd n) (R.GNT_B_DIE.at e) == d && p e)
/-- The highest of the base level and the levels of the given claims (R373, R544). -/
def State.lgTop (s : State) (n d : Nat) (l : List Nat) : Nat :=
  l.foldl (fun a e => max a (s.rd (cd n) (R.GNT_B_LEVEL.at e))) (s.lgBaseLvl n d)
/-- Granted claims of die `d` that hold current. -/
def State.lgGranted (s : State) (n d : Nat) : List Nat := s.lgClaims n d (fun e => s.lgSt n e == 1 || s.lgSt n e == 3)
/-- The level the ledger wants for die `d`: applied claims that are not being released (R544, R547). -/
def State.lgTarget (s : State) (n d : Nat) : Nat :=
  s.lgTop n d (s.lgClaims n d (fun e => s.lgSt n e == 1 && !(s.lgx n e).shedding))

/-- The AMOUNTs of die `d`'s granted claims, in ascending level (R546). -/
def State.lgReamount (s : State) (n d : Nat) : State :=
  let lv := fun e => s.rd (cd n) (R.GNT_B_LEVEL.at e)
  let l := sortBy (fun x y => decide (lv x < lv y) || (lv x == lv y && decide ((s.lgx n x).gseq < (s.lgx n y).gseq)))
    (s.lgGranted n d)
  (l.foldl (fun (p : State × Nat) e =>
    let c := s.lvlCur n (lv e)
    (p.1.lgWr n e R.GNT_A_AMOUNT (c - p.2), max p.2 c)) (s, s.lvlCur n (s.lgBaseLvl n d))).1

/-- The level last asked of die `d`. -/
def State.lgAsked (s : State) (n d : Nat) : Nat :=
  (s.lvl n d).pend.getD (bits (s.rd (cd n) R.LG_LEVEL_LEVEL) (4 * d + 3) (4 * d))
/-- The ledger writes LEVEL where the level it wants differs from the one last asked (R547). -/
def State.lgRelevel (s : State) (n d : Nat) : State :=
  let t := s.lgTarget n d
  if t = s.lgAsked n d then s else s.modLvl n d (fun x => { x with pend := some t, timer := false })

/-- Entry `e` becomes FREE; commands on the L-bus keep their place. -/
def State.lgClear (s : State) (n e : Nat) : State :=
  (s.clearRegs (cd n + 0x7200 + 8 * e) (cd n + 0x7208 + 8 * e)).modLg n e (fun x => { cmds := x.cmds })

/-- Every grant that waits for the release of `x` waits no more (R550). -/
def State.lgUnwait (s : State) (n x : Nat) : State :=
  lgAll.foldl (fun s e =>
    if (s.lgx n e).waits.contains x then s.modLg n e (fun y => { y with waits := y.waits.filter (· != x) }) else s) s
/-- The release of `x` failed: it keeps its holding, and the grants that wait on it are decided again (R550). -/
def State.lgShedFail (s : State) (n x : Nat) : State :=
  lgAll.foldl (fun s e =>
    if (s.lgx n e).waits.contains x then
      s.modLg n e (fun y => { y with waits := y.waits.filter (· != x), failed := true })
    else s) (s.modLg n x (fun y => { y with shedding := false }))

/-- The steady limit R476 puts in force for channel `g`, by the cached ILIM_MAX (R548). -/
def State.lgCap (s : State) (n g ilim : Nat) : Nat :=
  let top := if s.lgGang n g then 240 else 120
  let mx := bits (s.chc n g).otpA 7 0
  min ilim (if mx = 0 then top else min mx top)
/-- S of a request (R367). -/
def State.lgS (s : State) (n e : Nat) (q : LgReq) : Nat := 5 * s.lgCap n e q.ilim
/-- E of a request: S × (M − 1) rounded up, 0 with WINDOW 0 (R367). -/
def State.lgE (s : State) (n e : Nat) (q : LgReq) : Nat :=
  if q.window = 0 then 0 else (s.lgS n e q * (q.mult + 1) + 1) / 2

/-- The amount a request presents (R548). -/
def State.lgAmount (s : State) (n e : Nat) (q : LgReq) : Nat :=
  if q.op = 0 then
    let d := s.rd (cd n) (R.GNT_B_DIE.at e)
    s.lvlCur n (s.rd (cd n) (R.GNT_B_LEVEL.at e)) - s.lvlCur n (s.lgTop n d (s.lgGranted n d))
  else if q.op = 1 then s.lgS n e q + s.lgE n e q
  else s.lgS n e q - s.rd (cd n) (R.GNT_A_AMOUNT.at e)

/-- The status word of an LDSET or BUDREQ (R368, R373). -/
def lgStatus (e : Nat) (q : LgReq) (code : Nat) : Nat :=
  code + 128 * b2n q.clamped + (if q.op = 0 ∧ code ≠ 2 then 256 * (e - 48) else 0)
/-- The LDSET or BUDREQ completes; CSEM is signalled for every outcome but DEFERRED (R336). -/
def State.lgReply (s : State) (n e : Nat) (q : LgReq) (code : Nat) : State :=
  let s := s.answer q.waiter (lgStatus e q code)
  if code = 1 then s else s.csemSig n q.csem

/-- Words of CH_ILIM, CH_INRUSH and CH_CMD for ON (1) or RELIMIT (3); the ledger path writes SLOW 0. -/
def lgWords (op : Nat) (q : LgReq) : List Nat := [q.ilim, 4096 * q.mult + q.window, op]
/-- The ledger path writes a command to every half it may write (R368, R529), each followed by its detail read
(R537). -/
def State.lgWrite (s : State) (n e why op : Nat) (q : LgReq) (amt code : Nat) : State :=
  let up := (s.lgHalves n e).filter (s.lgUp n)
  let dst := if up.any (s.lgUsable n) then up.filter (s.lgUsable n) else up
  let s := s.modLg n e (fun x => { x with
    cmds := x.cmds ++ [{ why := why, wait := dst.map (·.1), amt := amt, code := code, req := q }] })
  dst.foldl (fun s p =>
    let r : LbReq := if op = 2 then ⟨1, chIdx p.2 0x44, 1, [2], .ledger e p.2⟩
      else ⟨1, chIdx p.2 0x40, 3, lgWords op q, .ledger e p.2⟩
    (s.lbEnq n p.1 r).lbEnq n p.1 (lbDetail p.2 true)) s

/-- A claim of die `d` stops counting toward its level. Where the level falls, the current is released after the
LEVEL write (R547), otherwise at once; a shed claim stays DEFERRED (R552). -/
def State.lgEndClaim (s : State) (n e : Nat) (dfr : Bool) : State :=
  let s := s.lgStamp n
  let q : LgReq := ⟨0, 0, 0, 0, s.lgFlag n e R.GNT_B_ASKED_G, s.rd (cd n) (R.GNT_B_PRIO.at e), false, none, none, true⟩
  if dfr then
    ((s.lgWr n e R.GNT_B_STATE 2).lgWr n e R.GNT_B_GUAR 0).lgWr n e R.GNT_B_DEMOTED 0 |>.modLg n e
      (fun x => { x with shedding := false, req := some q, dseq := (s.cdx n).lgSeq })
  else s.lgClear n e
/-- The release of a held claim begins (R374, R547, R552). -/
def State.lgDropClaim (s : State) (n e : Nat) (dfr : Bool) : State :=
  let d := s.rd (cd n) (R.GNT_B_DIE.at e)
  let s1 := s.modLg n e (fun x => { x with shedding := true })
  if s1.lgTarget n d < s1.lgAsked n d then
    (s1.modLvl n d (fun x => { x with lower := x.lower ++ [(e, dfr)] })).lgRelevel n d
  else ((s1.lgEndClaim n e dfr).lgUnwait n e).lgReamount n d

/-- Sheds a holder (R552, R553). -/
def State.lgShed (s : State) (n e : Nat) : State :=
  if (s.lgx n e).shedding then s
  else
    let s := s.lgNote n 2 e
    if 48 ≤ e then s.lgDropClaim n e true
    else (s.modLg n e (fun x => { x with shedding := true })).lgWrite n e 4 2 { op := 1 } 0 0

/-- Demotes a guaranteed holder (R553). -/
def State.lgDemote (s : State) (n e : Nat) : State :=
  ((s.lgWr n e R.GNT_B_GUAR 0).lgWr n e R.GNT_B_DEMOTED 1).lgNote n 1 e

/-- Holdings that are not already being released. -/
def State.lgStay (s : State) (n : Nat) (p : Nat → Bool) : Nat := s.lgSum n (fun e => !(s.lgx n e).shedding && p e)

/-- The limits restored in the order of R553: demote, shed, restore. -/
def State.lgRestore (s : State) (n : Nat) : State :=
  let pool := (s.lgPool n).filter (fun e => !(s.lgx n e).shedding)
  let s := pool.foldl (fun s e =>
    if s.lgC n < s.lgStay n (fun x => s.lgFlag n x R.GNT_B_GUAR) && s.lgFlag n e R.GNT_B_GUAR then s.lgDemote n e
    else s) s
  let s := pool.foldl (fun s e =>
    if s.lgC n < s.lgStay n (fun _ => true) && !s.lgFlag n e R.GNT_B_GUAR then s.lgShed n e else s) s
  pool.reverse.foldl (fun s e =>
    if s.lgFlag n e R.GNT_B_DEMOTED && !(s.lgx n e).shedding && s.lgSt n e == 1
        && decide (s.lgHold n e + s.lgStay n (fun x => s.lgFlag n x R.GNT_B_GUAR) ≤ s.lgC n) then
      (s.lgWr n e R.GNT_B_GUAR 1).lgWr n e R.GNT_B_DEMOTED 0
    else s) s

/-- Applies a grant whose sheddings are done (R550): the command is written, or the level raised (R547). -/
def State.lgApply (s : State) (n e : Nat) : State :=
  match (s.lgx n e).req with
  | none => s.lgWr n e R.GNT_B_STATE 1
  | some q =>
    let x := s.lgx n e
    let s := s.lgWr n e R.GNT_B_STATE 1
    let s :=
      if q.op = 0 then
        let d := s.rd (cd n) (R.GNT_B_DIE.at e)
        let s := (s.lgReamount n d).lgRelevel n d
        if (s.lvl n d).pend.isSome then s.modLvl n d (fun y => { y with raise := y.raise ++ [e] })
        else (s.modLg n e (fun y => { y with req := none })).lgReply n e q x.code
      else if q.op = 1 then (s.modLg n e (fun y => { y with req := none })).lgWrite n e 0 1 q 0 x.code
      else (s.modLg n e (fun y => { y with req := none })).lgWrite n e 5 3 q x.oldAmt x.code
    s.lgRestore n

/-- Carries out a grant (R549, R550): its demotions and sheddings, and its application unless it must wait. -/
def State.lgGrant (s : State) (n e : Nat) (q : LgReq) (seek guar : Bool) (demote shed : List Nat) : State :=
  let a := s.lgAmount n e q
  let s := (demote.foldl (fun s x => s.lgDemote n x) s).lgStamp n
  let code := if q.op ≠ 3 && seek && !guar then 3 else 0
  let s := s.modLg n e (fun x => { x with req := some q, code := code, waits := shed, failed := false,
                                          oldAmt := s.rd (cd n) (R.GNT_A_AMOUNT.at e) })
  let s := s.lgWr n e R.GNT_B_STATE 3
  let s :=
    if q.op = 3 then s.lgWr n e R.GNT_A_AMOUNT (s.lgS n e q)
    else
      let s := ((s.lgWr n e R.GNT_B_GUAR (b2n guar)).lgWr n e R.GNT_B_DEMOTED (b2n (seek && !guar))).modLg n e
        (fun x => { x with gseq := (s.cdx n).lgSeq })
      if q.op = 1 then
        ((s.lgWr n e R.GNT_A_AMOUNT (s.lgS n e q)).lgWr n e R.GNT_A_EXCESS (s.lgE n e q)).modLg n e
          (fun x => { x with par := some (q.ilim, q.mult, q.window), xdue := false })
      else s.lgWr n e R.GNT_A_AMOUNT a
  let s := shed.foldl (fun s x => s.lgShed n x) s
  if (s.lgx n e).waits = [] then s.lgApply n e else s

/-- The class a request seeks: for a raise the class the entry holds (R371), otherwise asked or safety (R549). -/
def State.lgSeek (s : State) (n e : Nat) (q : LgReq) : Bool :=
  if q.op = 3 then s.lgFlag n e R.GNT_B_GUAR else q.guar || s.lgFlag n e R.GNT_B_SAFETY
/-- Decides request `q` of entry `e`. -/
def State.lgJudge (s : State) (n e : Nat) (q : LgReq) : LgDec :=
  s.lgDecide n e (s.lgAmount n e q) (s.lgSeek n e q) (q.op == 3 && s.lgSeek n e q)
    (s.lgFrozen n e) (s.lgRank n e)

/-- Reconsiders one deferred entry: granted where it fits, otherwise passed over (R551). -/
def State.lgRetry (s : State) (n e : Nat) : State :=
  match (s.lgx n e).req with
  | some q =>
    if s.lgSt n e = 2 ∨ (s.lgSt n e = 1 ∧ q.op = 3) then
      match s.lgJudge n e q with
      | .grant guar dem shed => s.lgGrant n e q (s.lgSeek n e q) guar dem shed
      | _ => s
    else s
  | none => s
/-- The order of R551: rank priority, asked for guaranteed, oldest deferral. -/
def State.lgFirst (s : State) (n x y : Nat) : Bool :=
  let ax := b2n (s.lgFlag n x R.GNT_B_ASKED_G)
  let ay := b2n (s.lgFlag n y R.GNT_B_ASKED_G)
  decide (s.lgRank n y < s.lgRank n x) || (s.lgRank n x == s.lgRank n y &&
    (decide (ay < ax) || (ax == ay && decide ((s.lgx n x).dseq < (s.lgx n y).dseq))))
/-- Reconsiders every deferred entry (R551). -/
def State.lgReconsider (s : State) (n : Nat) : State :=
  (sortBy (s.lgFirst n) (lgAll.filter (fun e =>
    match (s.lgx n e).req with
    | some q => s.lgSt n e == 2 || (s.lgSt n e == 1 && q.op == 3)
    | none => false))).foldl (fun s e => s.lgRetry n e) s

/-- After a change of C or a release: limits, deferred entries, totals (R551, R553). -/
def State.lgAfter (s : State) (n : Nat) : State := ((s.lgRestore n).lgReconsider n).lgSync n

/-- The request becomes DEFERRED, and its instruction completes with that status (R549, R369). -/
def State.lgDefer (s : State) (n e : Nat) (q : LgReq) : State :=
  let s := s.lgStamp n
  let s :=
    if q.op = 3 then s
    else if q.op = 1 then
      ((s.lgWr n e R.GNT_A_AMOUNT (s.lgS n e q)).lgWr n e R.GNT_A_EXCESS (s.lgE n e q)).lgWr n e R.GNT_B_STATE 2
    else (s.lgWr n e R.GNT_A_AMOUNT (s.lgAmount n e q)).lgWr n e R.GNT_B_STATE 2
  (s.modLg n e (fun x => { x with req := some { q with dfr := true, waiter := none }, dseq := (s.cdx n).lgSeq,
                                  waits := [], failed := false })).lgReply n e q 1

/-- The flags of an entry from its request: what it asks for, SAFETY and PARTNER (R543). -/
def State.lgFlags (s : State) (n e : Nat) (q : LgReq) : State :=
  let safety := e < 48 && bitOf (s.chc n e).otpA 13
  (((s.lgWr n e R.GNT_B_ASKED_G (b2n q.guar)).lgWr n e R.GNT_B_PRIO q.prio).lgWr n e R.GNT_B_SAFETY (b2n safety)).lgWr
    n e R.GNT_B_PARTNER (b2n (decide (e < 24) && s.lgPartner n e))

/-- Presents a new request (R548, R549). -/
def State.lgPresent (s : State) (n e : Nat) (q : LgReq) : State :=
  let s := if q.op = 3 then s else s.lgFlags n e q
  let s := match s.lgJudge n e q with
    | .refuse => (if q.op = 3 then s else s.lgClear n e).lgNote n 3 e |>.lgReply n e q 2
    | .defer => s.lgDefer n e q
    | .grant guar dem shed => s.lgGrant n e q (s.lgSeek n e q) guar dem shed
  s.lgSync n

/-- A grant that was APPLYING is decided again after a failed release (R550). -/
def State.lgRedecide (s : State) (n e : Nat) : State :=
  match (s.lgx n e).req with
  | none => s
  | some q =>
    let s := if q.op = 3 then (s.lgWr n e R.GNT_A_AMOUNT (s.lgx n e).oldAmt).lgWr n e R.GNT_B_STATE 1
      else (s.lgWr n e R.GNT_B_STATE 2).lgWr n e R.GNT_B_GUAR 0
    match s.lgJudge n e q with
    | .grant guar dem shed => s.lgGrant n e q (s.lgSeek n e q) guar dem shed
    | _ => s.lgDefer n e q

/-- LDSET ON of channel `g` (R368, R369). -/
def State.lgOn (s : State) (n g : Nat) (q : LgReq) : State :=
  let e := s.lgEntry n g
  let halves := s.lgHalves n e
  let st := fun (p : Nat × Nat) => (s.chc n (24 * p.1 + p.2)).stat
  let q := { q with clamped := decide (s.lgCap n e q.ilim < q.ilim) }
  if s.lgSt n e = 1 ∨ s.lgSt n e = 3 ∨ halves.any (fun p => bitOf (st p) 15) then s.lgReply n e q 5
  else if halves.all (fun p => bitOf (st p) 10 && bitOf (st p) 6) then s.lgReply n e q 4
  else (s.lgClear n e).lgPresent n e q

/-- A cancelled application: its LDSET completes REFUSED without its CSEM, and RELIMITs held for it find nothing to
change (R370, R371). -/
def State.lgCancel (s : State) (n e : Nat) : State :=
  let x := s.lgx n e
  let s := match x.req with
    | some q =>
      let s := if q.op = 3 then s.lgWr n e R.GNT_A_AMOUNT x.oldAmt else s
      s.answer q.waiter (lgStatus e q 2)
    | none => s
  let s := x.heldRel.foldl (fun s q => s.lgReply n e q 6) s
  (s.lgWr n e R.GNT_B_STATE 1).modLg n e (fun x => { x with req := none, waits := [], failed := false, heldRel := [] })

/-- LDSET OFF of channel `g` (R369, R370, R385). -/
def State.lgOff (s : State) (n g : Nat) (q : LgReq) : State :=
  let e := s.lgEntry n g
  let s := if s.lgSt n e = 3 then s.lgCancel n e
    else if s.lgSt n e = 2 then s.lgClear n e
    else s.modLg n e (fun x => { x with req := none })
  if (s.lgHalves n e).any (s.lgUp n) then (s.lgWrite n e 2 2 q 0 0).lgSync n
  else s.answerFault q.waiter 0x37

/-- A RELIMIT to a HELD entry (R370, R371). -/
def State.lgRelimitHeld (s : State) (n e : Nat) (q : LgReq) : State :=
  let s := s.modLg n e (fun x => { x with req := none })
  if s.rd (cd n) (R.GNT_A_AMOUNT.at e) < s.lgS n e q then s.lgPresent n e { q with op := 3 }
  else if (s.lgHalves n e).any (s.lgUp n) then s.lgWrite n e 3 3 { q with op := 3 } (s.lgS n e q) 0
  else s.answerFault q.waiter 0x37

/-- LDSET RELIMIT of channel `g`, by the state of its entry (R371). -/
def State.lgRelimit (s : State) (n g : Nat) (q : LgReq) : State :=
  let e := s.lgEntry n g
  let q := { q with clamped := decide (s.lgCap n e q.ilim < q.ilim) }
  if s.lgSt n e = 0 then s.lgReply n e q 6
  else if s.lgSt n e = 2 then
    let s := s.modLg n e (fun x => { x with req := x.req.map (fun r =>
      { r with ilim := q.ilim, mult := q.mult, window := q.window, csem := q.csem, clamped := q.clamped }) })
    ((s.lgWr n e R.GNT_A_AMOUNT (s.lgS n e q)).lgWr n e R.GNT_A_EXCESS (s.lgE n e q)).lgReply n e q 1
  else if s.lgSt n e = 3 then s.modLg n e (fun x => { x with heldRel := x.heldRel ++ [q] })
  else s.lgRelimitHeld n e q

/-- RELIMITs that an application held are handled as for HELD, or find the entry FREE (R371). -/
def State.lgHeldRel (s : State) (n e : Nat) : State :=
  let l := (s.lgx n e).heldRel
  l.foldl (fun s q => if s.lgSt n e = 1 then s.lgRelimitHeld n e q else s.lgReply n e q 6)
    (s.modLg n e (fun x => { x with heldRel := [] }))

/-- LDGET shows FAULT 0xFF for the entry's channels, or no longer (R369). -/
def State.lgFF (s : State) (n e : Nat) (b : Bool) : State :=
  (s.lgHalves n e).foldl (fun s p => s.modChc n (24 * p.1 + p.2) (fun x => { x with ff := b })) s

/-- How the instruction completes when no written half answered OK (R368, R369). -/
def State.lgFail (s : State) (n e : Nat) (c : LgCmd) : State :=
  let a := c.ans.getD 6
  if c.req.dfr then s.lgFF n e true
  else if a = 3 then s.lgReply n e c.req 4
  else if a = 4 then s.lgReply n e c.req 2
  else if a = 2 then s.answerFault c.req.waiter 0x36
  else s.answerFault c.req.waiter 0x37

/-- A shed channel's OFF is done: the whole amount is released and the entry waits as DEFERRED, without a
semaphore; a channel that has latched is FREE instead (R552, R554, R562). -/
def State.lgShedDone (s : State) (n e : Nat) : State :=
  let latched := (s.lgHalves n e).all (fun p => bitOf (s.chc n (24 * p.1 + p.2)).stat 10)
  let x := s.lgx n e
  let lo := if s.lgGang n e then 10 else 5
  let p := x.par.getD (max lo ((s.rd (cd n) (R.GNT_A_AMOUNT.at e) + 4) / 5), 0, 0)
  let q : LgReq := { op := 1, ilim := p.1, mult := p.2.1, window := p.2.2, guar := s.lgFlag n e R.GNT_B_ASKED_G,
                     prio := s.rd (cd n) (R.GNT_B_PRIO.at e), dfr := true }
  let s := s.lgUnwait n e
  if latched then s.lgClear n e
  else
    let s := (s.lgWr n e R.GNT_B_GUAR 0).lgWr n e R.GNT_B_DEMOTED 0
    (s.modLg n e (fun x => { x with shedding := false })).lgDefer n e q

/-- A command of the ledger path has all its answers (R368, R369, R370, R550, R552). -/
def State.lgFinish (s : State) (n e : Nat) (c : LgCmd) : State :=
  let s :=
    if c.why = 4 then
      if c.ok && s.lgSt n e == 1 then s.lgShedDone n e else if c.ok then s.lgUnwait n e else s.lgShedFail n e
    else if c.ok then
      let s := s.lgFF n e false
      let s :=
        if c.why = 2 then (if s.lgSt n e = 1 then s.lgClear n e else s)
        else if c.why = 3 ∨ c.why = 5 then
          let p := (s.lgx n e).par.getD (0, c.req.mult, c.req.window)
          let s := s.modLg n e (fun x => { x with par := some (c.req.ilim, p.2) })
          if c.why = 3 ∧ s.lgSt n e = 1 then s.lgWr n e R.GNT_A_AMOUNT c.amt else s
        else s
      s.lgReply n e c.req c.code
    else
      let s :=
        if c.why = 0 then s.lgClear n e
        else if c.why = 5 ∧ s.lgSt n e = 1 then s.lgWr n e R.GNT_A_AMOUNT c.amt else s
      s.lgFail n e c
  (s.lgHeldRel n e).lgAfter n

/-- The answer of Load die `d` (6 for none) to the oldest command of entry `e` that waits for it. -/
def lgTakeAns (d status : Nat) : List LgCmd → List LgCmd × Option LgCmd
  | [] => ([], none)
  | c :: cs =>
    if c.wait.contains d then
      let c' := { c with wait := c.wait.filter (· != d), ok := c.ok || status == 0,
                         ans := if d = 0 then some status else (c.ans.orElse (fun _ => some status)) }
      if c'.wait = [] then (cs, some c') else (c' :: cs, none)
    else
      let r := lgTakeAns d status cs
      (c :: r.1, r.2)
/-- An answer to a ledger-path command. -/
def State.lgAck (s : State) (n d e status : Nat) : State :=
  let r := lgTakeAns d status (s.lgx n e).cmds
  let s := s.modLg n e (fun x => { x with cmds := r.1 })
  match r.2 with
  | some c => s.lgFinish n e c
  | none => s

/-- BUDREQ of level `l` on die `d` (R373, R549, R558): the lowest free claim; none when all 32 are held. -/
def State.lgFreeClaim (s : State) (n : Nat) : Option Nat :=
  ((List.range 32).map (48 + ·)).find? (fun e => s.lgSt n e == 0)
/-- BUDREQ with a free claim `e`. -/
def State.lgClaim (s : State) (n e d l : Nat) (q : LgReq) : State :=
  let top := bits (s.rd (cd n) R.LG_BASE_LVLMAX) (4 * d + 3) (4 * d)
  let clamp := decide (top < l)
  let s := s.lgClear n e
  let s := (s.lgWr n e R.GNT_B_DIE d).lgWr n e R.GNT_B_LEVEL (min l top)
  let s := if clamp then s.lgNote n 4 e else s
  s.lgPresent n e { q with op := 0, clamped := clamp }

/-- BUDREL of claim entry `e`: the status and the new state (R374). -/
def State.lgUnclaim (s : State) (n e : Nat) : State × Nat :=
  let x := s.lgx n e
  let d := s.rd (cd n) (R.GNT_B_DIE.at e)
  if s.lgSt n e = 0 then (s, 1)
  else if s.lgSt n e = 1 then
    let s := match x.req with
      | some q => (s.modLg n e (fun x => { x with req := none })).lgReply n e q x.code
      | none => s
    let s := s.modLvl n d (fun y => { y with raise := y.raise.filter (· != e) })
    if x.shedding then
      (s.modLvl n d (fun y => { y with lower := y.lower.map (fun p => if p.1 = e then (e, false) else p) }), 0)
    else ((s.lgDropClaim n e false).lgAfter n, 0)
  else
    let s := match x.req with
      | some q => if s.lgSt n e = 3 then s.lgReply n e q 2 else s
      | none => s
    (((s.lgClear n e).lgReamount n d).lgAfter n, 0)

/-- The ledger's LEVEL write to Stack die `d` completes (R547, R373). -/
def State.lgLevelDone (s : State) (n d level : Nat) (ok : Bool) : State :=
  let x := s.lvl n d
  if x.pend = some level then
    let s := if ok then s.wr (cd n) R.LG_LEVEL_LEVEL (putBits (s.rd (cd n) R.LG_LEVEL_LEVEL) (4 * d + 3) (4 * d) level)
      else s.lbErr n 0 7 (unitCode n 0xC) d
    let s := s.modLvl n d (fun y => { y with pend := none, raise := [] })
    let s := x.raise.foldl (fun s e => match (s.lgx n e).req with
      | some q => (s.modLg n e (fun y => { y with req := none })).lgReply n e q (s.lgx n e).code
      | none => s) s
    let s := if ok then s
      else (x.lower.foldl (fun s p => s.lgShedFail n p.1) s).modLvl n d (fun y => { y with lower := [] })
    if ok && x.timer then s.modLvl n d (fun y => { y with timer := true }) else s
  else s
/-- The current of a lowered level is released: 10 us have passed and the write has succeeded (R547, R552). -/
def State.lgLowerRelease (s : State) (n d : Nat) : State :=
  let x := s.lvl n d
  if x.timer && x.pend.isNone then
    let s := s.modLvl n d (fun y => { y with lower := [], timer := false })
    let s := x.lower.foldl (fun s p => (s.lgEndClaim n p.1 p.2).lgUnwait n p.1) s
    (s.lgReamount n d).lgAfter n
  else s

/-- C takes a new value; a change restarts the watch on VBAT and restores the limits (R542, R553). -/
def State.lgSetC (s : State) (n c : Nat) : State :=
  if c = s.lgC n then s.lgSync n
  else ((s.wr (cd n) R.LG_CAP_CAP c).modCd n (fun x => { x with lgLow := false })).lgAfter n

/-- The ceiling has changed: C falls to it at once where it lies above (R542). -/
def State.lgCeilChange (s : State) (n : Nat) : State := (s.lgSetC n (min (s.lgC n) (s.lgCeil n))).lgSync n

/-- ⌈ceiling × step ÷ 256⌉ (R542). -/
def lgStep (ceil step : Nat) : Nat := (ceil * step + 255) / 256

/-- SAG_LOOP_ADJUST of die `n` once per telemetry period (R542); `tenMs` says that 10 ms have passed since the last
change of C. V is the lowest VBAT among the Load dies in service; a code is 12.5 mV, VMIN 0.1 V. -/
def execSagLoopAdjust (n : Fin 2) (tenMs : Bool) (s : State) : Host.Outcome State Fault Refusal :=
  let vs := ([0, 1].filter (fun d => s.inService n (6 + d))).map (fun d => Store.get 0 (s.ldc n d).adc 0x18)
  done (match vs with
  | [] => s
  | v0 :: r =>
    let v := r.foldl min v0
    let s := s.wr (cd n) R.LG_VBAT_CODE v
    let vmin := s.rd (cd n) R.LG_SAG_VMIN
    let low := s.modCd n (fun x => { x with lgLow := true })
    if v < 8 * vmin then
      let c := max (min (s.lgC n) (s.lgF n)) (s.lgC n - lgStep (s.lgCeil n) (s.rd (cd n) R.LG_SAG_DN))
      (low.raise (cd n) R.LG_CAUSE_SAG).lgSetC n c
    else if v < 8 * (vmin + 3) then low
    else if tenMs && !(s.cdx n).lgLow then
      s.lgSetC n (min (s.lgCeil n) (s.lgC n + lgStep (s.lgCeil n) (s.rd (cd n) R.LG_SAG_UP)))
    else s)

/-- SHED_RELEASE_DONE of entry `e`: its sheddings are done and the APPLYING grant is applied, or one has failed and
it is decided again (R550). -/
def execShedReleaseDone (n : Fin 2) (e : Fin 96) (s : State) : Host.Outcome State Fault Refusal :=
  let x := s.lgx n e
  done (if s.lgSt n e = 3 then
    if x.failed then (s.lgRedecide n e).lgAfter n
    else if x.waits = [] then (s.lgApply n e).lgAfter n
    else s
  else s)

/-- LEVEL_WRITE: die `n`'s write of Stack die `d`'s LEVEL arrives, or fails (R547). Only the die that holds the
Stack die's epoch may write it; any other write is an access-refused error. -/
def execLevelWrite (n : Fin 2) (d : Fin 4) (level : Fin 16) (ok : Bool) (s : State) :
    Host.Outcome State Fault Refusal :=
  done (if s.rd (sd d) R.SD_EPOCH_NODE ≠ n.val + 1 then
    (s.addrErr n 4 (unitCode n 0xC) true (sd d + 0x600)).lgLevelDone n d level false
  else
    let s := if ok then (s.wr (sd d) R.LEVEL_LEVEL level).wr (sd d) R.LEVEL_IN_FORCE level else s
    s.lgLevelDone n d level ok)

/-- LEVEL_LOWER_RELEASE: 10 us after the LEVEL write was issued; the release waits for its success (R547). -/
def execLevelLowerRelease (n : Fin 2) (d : Fin 4) (s : State) : Host.Outcome State Fault Refusal :=
  done ((s.modLvl n d (fun x => { x with timer := true })).lgLowerRelease n d)

/-- A write of LG_SOFT, clamped to LEDGER_MAX (R558, R542). -/
def State.lgSoftWrite (s : State) (n v : Nat) : State :=
  let v := v % 65536
  let mx := (s.cdx n).lgMax
  let s := if mx < v then s.lgNote n 4 0x7F else s
  (s.wr (cd n) R.LG_SOFT_SOFT (min v mx)).lgCeilChange n
/-- A write of LG_SAG, VMIN clamped to 9.0 V (R558). -/
def State.lgSagWrite (s : State) (n v : Nat) : State :=
  let vmin := bits v 8 0
  let s := if vmin < 0x5A then s.lgNote n 4 0x7F else s
  ((s.wr (cd n) R.LG_SAG_UP (bits v 31 24)).wr (cd n) R.LG_SAG_DN (bits v 23 16)).wr (cd n) R.LG_SAG_VMIN (max vmin 0x5A)

/-- LG_SOFT_WRITE (R558). -/
def execLgSoftWrite (n : Fin 2) (v : Nat) (s : State) : Host.Outcome State Fault Refusal := done (s.lgSoftWrite n v)
/-- LG_SAG_WRITE (R558). -/
def execLgSagWrite (n : Fin 2) (v : Nat) (s : State) : Host.Outcome State Fault Refusal := done (s.lgSagWrite n v)

/-- LEDGER_WINDOW_TIMER of entry `e`: its EXCESS is released unless INRUSH_END has done so; in limp-home the release
waits for the reconciliation (R552, R554, R561). -/
def execLedgerWindowTimer (n : Fin 2) (e : Fin 48) (s : State) : Host.Outcome State Fault Refusal :=
  done (if s.lgSt n e = 1 ∧ s.rd (cd n) (R.GNT_A_EXCESS.at e) ≠ 0 then
    if s.lgFrozen n e then s.modLg n e (fun x => { x with xdue := true })
    else (s.lgWr n e R.GNT_A_EXCESS 0).lgAfter n
  else s)

/-- The measured current of channel `g` in 10 mA, rounded up; both switches of a ganged pair (R79, R539). -/
def State.lgMeasured (s : State) (n : Nat) (p : Nat × Nat) : Nat :=
  let adc := (s.ldc n p.1).adc
  (Store.get 0 adc p.2 + (if s.lgGang n (24 * p.1 + p.2) then Store.get 0 adc (p.2 + 1) else 0) + 1) / 2

/-- Reconciliation of entry `e` with its channels (R79, R440, R554, R639). -/
def State.lgReconcile (s : State) (n e : Nat) (addOnly : Bool) : State :=
  let halves := (s.lgHalves n e).filter (s.lgUp n)
  let on := halves.filter (fun p => bitOf (s.chc n (24 * p.1 + p.2)).stat 15)
  let st := s.lgSt n e
  if on ≠ [] ∧ (st = 0 ∨ st = 2) then
    let s := (s.lgClear n e).lgStamp n
    let s := s.lgFlags n e { op := 1, guar := true, prio := 7 }
    let s := (s.lgWr n e R.GNT_B_STATE 1).lgWr n e R.GNT_B_GUAR 1
    let s := s.lgWr n e R.GNT_A_AMOUNT (on.foldl (fun a p => a + s.lgMeasured n p) 0)
    (s.modLg n e (fun x => { x with gseq := (s.cdx n).lgSeq })).lgAfter n
  else if on = [] ∧ st = 1 ∧ !addOnly ∧ (s.lgx n e).cmds = [] then (s.lgClear n e).lgAfter n
  else if (s.lgx n e).xdue then
    ((s.lgWr n e R.GNT_A_EXCESS 0).modLg n e (fun x => { x with xdue := false })).lgAfter n
  else s

/-- The releases a detail read shows: INRUSH_END, and a channel latched or cut off (R552, R554, R639). -/
def State.lgDetail (s : State) (n e : Nat) (inrushEnd : Bool) : State :=
  let x := s.lgx n e
  if s.lgFrozen n e then if inrushEnd then s.modLg n e (fun x => { x with xdue := true }) else s
  else
    let s := if inrushEnd ∧ s.lgSt n e = 1 ∧ s.rd (cd n) (R.GNT_A_EXCESS.at e) ≠ 0 then
      (s.lgWr n e R.GNT_A_EXCESS 0).lgAfter n else s
    let halves := (s.lgHalves n e).filter (s.lgUp n)
    let gone := halves.all (fun p =>
      let c := s.chc n (24 * p.1 + p.2)
      bitOf c.stat 10 || ((bits c.fault 15 8 == 7 || bits c.fault 15 8 == 8) && !bitOf c.stat 15))
    let latched := halves.all (fun p => bitOf (s.chc n (24 * p.1 + p.2)).stat 10)
    let shed := match x.req with
      | some q => q.dfr && q.csem.isNone
      | none => false
    if halves != [] && x.cmds == [] && ((gone && s.lgSt n e == 1) || (latched && s.lgSt n e == 2 && shed)) then
      (s.lgClear n e).lgAfter n
    else s

/-- The cross-check of a detail read of channel `ch` of Load die `d` (R643, R659): after two unjustified reads the
channel, with its partner half, is turned off and the mismatch logged. -/
def State.lgCross (s : State) (n d ch : Nat) : State :=
  let g := 24 * d + ch
  let e := s.lgEntry n g
  let c := s.chc n g
  let off := (s.cdx n).xcheckOff || bitOf (s.ldc n d).stat 15 || bitOf (s.ldc n d).recon ch
  let bad := !off && bitOf c.stat 15 && s.lgSt n e != 1 && s.lgSt n e != 3
  if bad && 1 ≤ c.unjust then
    let s := s.modChc n g (fun c => { c with unjust := 0 })
    let s := ((s.lgHalves n e).filter (s.lgUp n)).foldl (fun s p =>
      (s.lbEnq n p.1 ⟨1, chIdx p.2 0x44, 1, [2], .cross p.2⟩).lbEnq n p.1 (lbDetail p.2 true)) s
    (s.raise (cd n) R.SAFE_CAUSE_MISMATCH).capture (cd n) R.SAFE_LOG_VALID.off 0
      [(cd n, R.SAFE_LOG_KIND, 1), (cd n, R.SAFE_LOG_DIE, d), (cd n, R.SAFE_LOG_CH, g)]
  else s.modChc n g (fun c => { c with unjust := if bad then c.unjust + 1 else 0 })

/-- A Load die is degraded while one of its partner halves is latched or cut off and the other half carries the
load (R29, R502). -/
def State.lgDegrade (s : State) (n d : Nat) : State :=
  let bad := (List.range 24).any (fun ch =>
    let c := s.chc n (24 * d + ch)
    let o := s.chc n (24 * (1 - d) + ch)
    s.lgPartner n ch && bitOf o.stat 15 && !bitOf c.stat 15 && (bitOf c.stat 10 || bits c.fault 15 8 != 0))
  if s.inService n (6 + d) then s.setDieOn n (6 + d) (if bad then 3 else 2) else s

/-- LG_PMIS after the OTP copies were read: pairs whose halves differ in PARTNER, LIMP or SAFETY (R555). -/
def State.lgPmis (s : State) (n : Nat) : State :=
  let m := (List.range 24).foldl (fun a ch =>
    let x := (s.chc n ch).otpA
    let y := (s.chc n (24 + ch)).otpA
    if (bitOf x 12 || bitOf y 12) && !s.lgPartner n ch then a + 2 ^ ch else a) 0
  let s' := s.wr (cd n) R.LG_PMIS_CH m
  if m ≠ 0 ∧ m ≠ s.rd (cd n) R.LG_PMIS_CH then s'.raise (cd n) R.LG_CAUSE_PMIS else s'

/-- The fixed entry of die `d` is granted at its base level, guaranteed at priority 7; false where it does not fit
(R545). -/
def State.lgFixed (s : State) (n d : Nat) : State × Bool :=
  let e := 80 + d
  let l := bits (s.rd (cd n) R.LG_BASE_BASE) (4 * d + 3) (4 * d)
  let a := s.lvlCur n l
  let s0 := (s.lgClear n e).lgWr n e R.GNT_B_PRIO 7
  match s0.lgDecide n e a true true false 7 with
  | .grant _ dem shed =>
    let s := (dem.foldl (fun s x => s.lgDemote n x) s0).lgStamp n
    let s := ((s.lgWr n e R.GNT_B_STATE 1).lgWr n e R.GNT_B_GUAR 1).lgWr n e R.GNT_B_ASKED_G 1
    let s := ((s.lgWr n e R.GNT_B_FIXED 1).lgWr n e R.GNT_B_DIE d).lgWr n e R.GNT_B_LEVEL l
    let s := (s.lgWr n e R.GNT_A_AMOUNT a).modLg n e (fun x => { x with gseq := (s.cdx n).lgSeq })
    ((shed.foldl (fun s x => s.lgShed n x) s).lgSync n, true)
  | _ => ((s.lgClear n e).lgSync n, false)

/-- Entry to DOZE: claims are withdrawn without a signal, fixed entries pass to retention (R556, R62). -/
def State.lgDoze (s : State) (n : Nat) : State :=
  let s := ((List.range 32).map (48 + ·)).foldl (fun s e => s.lgClear n e) s
  let s := (List.range 4).foldl (fun s d => (if s.lgSt n (80 + d) = 1 then
    s.lgWr n (80 + d) R.GNT_A_AMOUNT (s.rd (cd n) (R.LG_PTAB_UNITS.at 0)) else s).modLvl n d (fun _ => {})) s
  s.lgAfter n
/-- Entry to STANDBY or LISTEN: deferred channel requests are withdrawn without a signal, and fixed entries and
claims are released (R556, R734). -/
def State.lgSleep (s : State) (n : Nat) : State :=
  let s := (List.range 48).foldl (fun s e => if s.lgSt n e = 2 then s.lgClear n e
    else s.modLg n e (fun x => { x with req := none })) s
  let s := ((List.range 36).map (48 + ·)).foldl (fun s e => s.lgClear n e) s
  ((List.range 4).foldl (fun s d => s.modLvl n d (fun _ => {})) s).lgSync n

end Sys2Proof.Machine
end

