-- ==== Sys2Proof/Machine/Bridge.lean ====
section
/-! DEFINITION. The L-bus bridge (chapter 14) and the safety functions it carries (chapter 17): software accesses,
staging and locks, frames at the Load dies, answers, polls, telemetry, and the heartbeat-path test. -/

namespace Sys2Proof.Machine

/-- The address under which an access to offset `off` of Load die `d` is logged (R56). -/
def lbLogAddr (n unit d off : Nat) : Nat := logAddr n unit (0x40000 + 0x8000 * d + off) (ld d + off)

/-- The frames of a write of `words` at index `idx`: at most 16 words, within one 64-byte page, ascending (R527). -/
def lbSplit (own : LbOwn) : Nat → Nat → List Nat → List LbReq
  | 0, _, _ => []
  | _, _, [] => []
  | fuel + 1, idx, w :: ws =>
    let k := min 16 (32 - idx % 32)
    let now := (w :: ws).take k
    ⟨1, idx, now.length, now, own⟩ :: lbSplit own fuel (idx + k) ((w :: ws).drop k)

/-- The bridge refuses the write without a frame (R529): CH_ILIM, CH_INRUSH or CH_CMD of a channel, the OTP port
outside MAKER, any write on the standby die. -/
def State.lbRefused (s : State) (n idx k : Nat) : Bool :=
  !s.isActive n || (List.range k).any (fun i =>
    let o := 2 * (idx + i)
    (decide (0x40 ≤ o ∧ o < 0x640) && decide (o % 64 ≤ 4))
      || (decide (0x740 ≤ o ∧ o ≤ 0x746) && s.rd (cd n) R.SEC_STAT_LC != 1))

/-- A write to Load die `d` that no lock holds back starts (R527, R529). -/
def State.lbStartWrite (s : State) (n d init off : Nat) (words : List Nat) : State :=
  let acc := (s.cdx n).nextAcc
  let s := s.modCd n (fun x => { x with nextAcc := x.nextAcc + 1 })
  (lbSplit (.soft init acc) words.length (off / 2) words).foldl (fun s r => s.lbEnq n d r) s

/-- The lock of Load die `d` is held by another software initiator (R532). -/
def State.lbLockedOut (s : State) (n d init : Nat) : Bool :=
  s.flag (cd n) (R.LB_LOCK_HELD.at d) && s.rd (cd n) (R.LB_LOCK_HOLDER.at d) != init

/-- A software write to Load die `d`: refused, or sent, or held by the lock (R4, R45, R49, R528, R529, R532). -/
def State.lbWrite (s : State) (n d unit off : Nat) (words : List Nat) : State :=
  let init := unitCode n unit
  let bad := fun kind => { s.addrErr n kind init true (lbLogAddr n unit d off) with rsp := .error kind }
  if off % 2 ≠ 0 then bad 3
  else if 0x8000 < off + 2 * words.length then bad 2
  else if s.rd (cd n) (diesFld (6 + d)) = 0 then bad 5
  else if words = [] then { s with rsp := .ok 0 }
  else if s.lbRefused n (off / 2) words.length then
    { (s.lbErr n d 6 init (off / 2)).addrErr n 4 init true (lbLogAddr n unit d off) with rsp := .error 4 }
  else if s.lbLockedOut n d init then
    { s.modCd n (fun x => { x with lockHeld := x.lockHeld ++ [⟨init, d, off, some words⟩] }) with rsp := .ok 0 }
  else { s.lbStartWrite n d init off words with rsp := .ok 0 }

/-- Staging entry `e`. -/
def State.stage (s : State) (n e : Nat) : Stage := Store.get {} (s.cdx n).stages e
/-- Writes staging entry `e`. -/
def State.setStage (s : State) (n e : Nat) (x : Stage) : State :=
  (s.modCd n (fun y => { y with stages := Store.put {} y.stages e x })).stageSync n

/-- A software read of one Load-die register (R530): staged and answered RETRY, or answered from its entry. -/
def State.lbRead (s : State) (n d unit off : Nat) : State :=
  let init := unitCode n unit
  let bad := fun kind => { s.addrErr n kind init false (lbLogAddr n unit d off) with rsp := .error kind }
  let a := ld d + off
  let mine := (List.range 8).find? (fun e => let x := s.stage n e; x.used && x.init == init && x.addr == a)
  if off % 2 ≠ 0 then bad 3
  else if 0x8000 ≤ off then bad 2
  else if s.rd (cd n) (diesFld (6 + d)) = 0 then bad 5
  else if s.lbLockedOut n d init then
    if unit = 0xB then { s.modCd n (fun x => { x with lockHeld := x.lockHeld ++ [⟨init, d, off, none⟩] }) with rsp := .retry }
    else { s with rsp := .retry }
  else match mine with
  | some e =>
    let x := s.stage n e
    match x.data with
    | some v => { s.setStage n e {} with rsp := .ok v }
    | none => if x.fail then { s.setStage n e {} with rsp := .error 5 } else { s with rsp := .retry }
  | none =>
    match (List.range 8).find? (fun e => !(s.stage n e).used) with
    | some e => { (s.setStage n e { used := true, init := init, addr := a }).lbEnq n d ⟨2, off / 2, 1, [], .staged e⟩
                  with rsp := .retry }
    | none => { s with rsp := .retry }

/-- LBUS_BRIDGE_WRITE: a fabric write of 16-bit words by unit `unit` of die `n` (R528). -/
def execLbusBridgeWrite (n d : Fin 2) (unit off : Nat) (words : List Nat) (s : State) :
    Host.Outcome State Fault Refusal := done (s.lbWrite n d unit off words)
/-- LBUS_BRIDGE_READ: a fabric read of one register by unit `unit` of die `n` (R530). -/
def execLbusBridgeRead (n d : Fin 2) (unit off : Nat) (s : State) : Host.Outcome State Fault Refusal :=
  done (s.lbRead n d unit off)

/-- A sequencer's LDs from a Load die are reissued until they have their data (R256, R530); an error is an engine
fault of the MEM engine. -/
def State.ldReissue (s : State) (n : Nat) : State :=
  let old := s.rsp
  let s := (List.range 8).foldl (fun s k =>
    let a := sqix n k
    (s.agent a).memOps.foldl (fun s m =>
      let node := m.addr / 2 ^ 36
      match m.dst, decide (node = 8 ∨ node = 9) with
      | some r, true =>
        let s := s.lbRead n (node - 8) k (m.addr % 2 ^ 32)
        let gone := fun (s : State) => s.modAgent a (fun x => { x with memOps := x.memOps.erase m })
        match s.rsp with
        | .ok v => (gone (s.regW a r v)).boundary a
        | .retry => s
        | .error _ => (gone s).engFault a 1 3 m.pc
      | _, _ => s) s) s
  { s with rsp := old }
/-- The accesses a lock held back are carried out in arrival order (R532). -/
def State.lbRelease (s : State) (n d : Nat) : State :=
  let l := (s.cdx n).lockHeld.filter (fun h => h.d == d)
  let s := s.modCd n (fun x => { x with lockHeld := x.lockHeld.filter (fun h => h.d != d) })
  l.foldl (fun s h => match h.words with
    | some ws => s.lbStartWrite n d h.init h.off ws
    | none => s.lbRead n d (h.init % 16) h.off) s |>.ldReissue n
/-- LB_LOCK(d).REQ: the lock is taken where it is free (R532). -/
def State.lbLockReq (s : State) (n d init : Nat) : State :=
  if s.flag (cd n) (R.LB_LOCK_HELD.at d) then s
  else ((s.wr (cd n) (R.LB_LOCK_HELD.at d) 1).wr (cd n) (R.LB_LOCK_HOLDER.at d) init).lbSync n
/-- The lock ends. -/
def State.lbUnlock (s : State) (n d : Nat) : State :=
  ((s.wr (cd n) (R.LB_LOCK_HELD.at d) 0).wr (cd n) (R.LB_LOCK_HOLDER.at d) 0).lbSync n |>.lbRelease n d
/-- LB_LOCK(d).REL by its holder. -/
def State.lbLockRel (s : State) (n d init : Nat) : State :=
  if s.flag (cd n) (R.LB_LOCK_HELD.at d) && s.rd (cd n) (R.LB_LOCK_HOLDER.at d) == init then s.lbUnlock n d else s

/-- LB_LOCK_REQ by unit `unit` (R532). -/
def execLbLockReq (n d : Fin 2) (unit : Fin 16) (s : State) : Host.Outcome State Fault Refusal :=
  done (s.lbLockReq n d (unitCode n unit))
/-- LB_LOCK_REL by unit `unit` (R532). -/
def execLbLockRel (n d : Fin 2) (unit : Fin 16) (s : State) : Host.Outcome State Fault Refusal :=
  done (s.lbLockRel n d (unitCode n unit))
/-- LB_LOCK_EXPIRY: 100 us after the lock was taken (R532). -/
def execLbLockExpiry (n d : Fin 2) (s : State) : Host.Outcome State Fault Refusal :=
  done (if s.flag (cd n) (R.LB_LOCK_HELD.at d) then (s.lbUnlock n d).raise (cd n) R.LB_CAUSE_LOCK_EXP else s)
/-- STAGED_DATA_EXPIRY of staging entry `e`: data that was not collected in 100 us is dropped and counted; a host
read it served ends in a Completer Abort (R530, R48). -/
def execStagedDataExpiry (n : Fin 2) (e : Fin 8) (s : State) : Host.Outcome State Fault Refusal :=
  let x := s.stage n e
  done (if x.used && x.data.isSome then
    (s.setStage n e {}).inc (cd n) (R.LB_CNT_DROPS.at (if x.addr < ld 1 then 0 else 1))
  else s)

/-! ### Frames at a Load die -/

/-- What a Load die keeps for the port of die `n`. -/
def State.kept (s : State) (d n : Nat) : Option LdKept := Store.get none (s.ldx d).kept n
/-- The Load die answers: the answer and its SEQ are kept for the port (R526). -/
def State.ldAnswer (s : State) (d n seq : Nat) (frame : List Nat) : State :=
  s.modLd d (fun x => { x with kept := Store.put none x.kept n (some ⟨seq, frame⟩) })
/-- A frame the Load die acts on: its CRC holds, the die is out of reset, and its SEQ is not the one last answered on
this port (R525, R526). -/
def State.ldTakes (s : State) (d n : Nat) (frame : List Nat) (crc : Nat) : Bool :=
  lbCrc frame == crc && !(s.ldx d).inReset && (s.kept d n).map (·.seq) != some (bits (frame.headD 0) 11 8)

/-- LBUS_WRITE_FRAME: the words of a frame reach Load die `d` on the port of die `n` with its CRC (R524 to R527,
R535). A frame with a failed CRC or a reserved header value is discarded. -/
def execLbusWriteFrame (d n : Fin 2) (frame : List Nat) (crc : Nat) (s : State) : Host.Outcome State Fault Refusal :=
  done (match frame with
  | h :: idx :: words =>
    if s.ldTakes d n frame crc && bits h 15 12 == 1 && bits h 7 5 == 0 && bits h 4 0 == words.length
        && decide (1 ≤ words.length ∧ words.length ≤ 16) && decide (idx < 16384) then
      let seq := bits h 11 8
      if (s.ldx d).owner = some n.val then
        let r := s.ldWrites d n idx words
        r.1.ldAnswer d n seq (lbAnswer 8 seq r.2 [])
      else s.ldAnswer d n seq (lbAnswer 8 seq 1 [])
    else s
  | _ => s)

/-- LBUS_READ_FRAME: a READ is served through either port (R526, R535). -/
def execLbusReadFrame (d n : Fin 2) (frame : List Nat) (crc : Nat) (s : State) : Host.Outcome State Fault Refusal :=
  done (match frame with
  | [h, idx] =>
    let k := bits h 4 0
    if s.ldTakes d n frame crc && bits h 15 12 == 2 && bits h 7 5 == 0 && decide (1 ≤ k ∧ k ≤ 16)
        && decide (idx < 16384) then
      let seq := bits h 11 8
      let r := s.ldReads d idx k
      r.1.ldAnswer d n seq (lbAnswer 9 seq 0 r.2)
    else s
  | _ => s)

/-- A heartbeat is accepted with NEW, at a higher epoch, or at the same epoch through the owner port (R534). -/
def State.hbAccept (s : State) (d n epoch : Nat) (new : Bool) : Bool :=
  let x := s.ldx d
  new || decide (x.eMax < epoch) || (x.eMax == epoch && x.owner == some n)

/-- LBUS_HB_FRAME: an HB resets AGE and the owner port, or is answered STALE (R534, R563). -/
def execLbusHbFrame (d n : Fin 2) (frame : List Nat) (crc : Nat) (s : State) : Host.Outcome State Fault Refusal :=
  done (match frame with
  | [h, epoch] =>
    if s.ldTakes d n frame crc && bits h 15 12 == 3 && bits h 6 0 == 0 && decide (epoch < 65536) then
      let seq := bits h 11 8
      if s.hbAccept d n epoch (bitOf h 7) then
        ((s.modLd d (fun x => { x with owner := some n.val, eMax := epoch })).wr (ld d) R.HB_STAT_AGE 0).ldAnswer d n seq
          (lbAnswer 8 seq 0 [])
      else s.ldAnswer d n seq (lbAnswer 8 seq 5 [])
    else s
  | _ => s)

/-! ### Answers at the bridge -/

/-- The KIND of LB_ERR for an answer; 6 stands for no answer (LB_ERR table). -/
def lbKind (status : Nat) : Nat := if status = 6 then 1 else status + 1

/-- A software write's frame ends (R527, R528): a failure ends the access and is logged in both logs; the last OK
frame completes it. A sequencer's ST to a Load die goes on, or takes ADDR (R256). -/
def State.lbSoftDone (s : State) (n d : Nat) (r : LbReq) (init acc status : Nat) : State :=
  let unit := init % 16
  let a := sqix n unit
  let rest := (s.lbPort n d).q.any (fun x => x.own == .soft init acc)
  if status = 0 then
    if rest then s
    else if unit < 8 then s.unhold a (fun x => { x with ldStore := none }) else s
  else
    let s := s.modPort n d (fun p => { p with q := p.q.filter (fun x => x.own != .soft init acc) })
    let s := (s.lbErr n d (lbKind status) init r.idx).addrErr n (if status = 6 then 5 else 4) init true (lbLogAddr n unit d (2 * r.idx))
    if unit < 8 then match (s.agent a).ldStore with
      | some pc => (s.modAgent a (fun x => { x with ldStore := none })).trapAt a 0 3 pc 0
      | none => s
    else s

/-- Data for staging entry `e`, or its failure (R530); a host read is completed with it (R48). -/
def State.lbStaged (s : State) (n d e idx : Nat) (data : Option Nat) : State :=
  let x := s.stage n e
  if !x.used then s
  else if x.init % 16 = 0xB then
    let s := s.setStage n e {}
    match data with
    | some v => { s with rsp := .ok v }
    | none => { (s.lbErr n d 1 x.init idx).addrErr n 5 x.init false (lbLogAddr n x.init d (2 * idx)) with rsp := .error 5 }
  else match data with
    | some v => s.setStage n e { x with data := some v }
    | none => ((s.setStage n e { x with fail := true }).lbErr n d 1 x.init idx).addrErr n 5 x.init false (lbLogAddr n x.init d (2 * idx))

/-- A heartbeat's answer (R533, R534): OK, STALE, or none. -/
def State.lbHbDone (s : State) (n d status : Nat) : State :=
  if status = 0 then s.modLdc n d (fun c => { c with hbOk := true, owner := true, newPend := false })
  else if status = 5 then
    ((s.modLdc n d (fun c => { c with hbOk := false, owner := false })).inc (cd n) (R.LB_CNT_STALE_HB.at d)).raise (cd n)
      R.LB_CAUSE_STALE_HB
  else (s.modLdc n d (fun c => { c with hbOk := false })).lbErr n d (lbKind status) (unitCode n 0xC) 0

/-- A poll that found HB in SRC passes the heartbeat-path test (R644). -/
def State.lbTestPoll (s : State) (n d src : Nat) : State :=
  if bitOf (s.rd (cd n) R.LB_HBTEST_HOLD) d && bitOf src 2 then
    ((s.wr (cd n) R.LB_HBTEST_HOLD (putBit (s.rd (cd n) R.LB_HBTEST_HOLD) d false)).wr (cd n) R.LB_HBTEST_PASS
      (putBit (s.rd (cd n) R.LB_HBTEST_PASS) d true)).modLdc n d (fun c => { c with hbTestOk := true })
  else s

/-- LDd_EVENT of a poll (R536): a bit newly set, or a standing one while the event bit reads 0. -/
def State.lbEvent (s : State) (n d new any : Nat) : State :=
  let f := if d = 0 then R.LB_CAUSE_LD0_EVENT else R.LB_CAUSE_LD1_EVENT
  if new ≠ 0 ∨ (any ≠ 0 ∧ !s.flag (cd n) f) then s.raise (cd n) f else s

/-- The next channel after `from_` in ascending order whose bit is set, wrapping (R536). -/
def nextBit (sum start : Nat) : Option Nat :=
  ((List.range 24).map (fun i => (start + i) % 24)).find? (fun c => bitOf sum c)

/-- A poll's five words (R536, R541, R644, R554, SAFE_CAUSE.LD_RESET). -/
def State.lbPollDone (s : State) (n d stat cause en lo hi : Nat) : State :=
  let c := s.ldc n d
  let cz := bits cause 6 0 &&& en
  let sum := lo + 65536 * bits hi 7 0
  let new := (cz - (cz &&& c.cause)) + (sum - (sum &&& c.sum))
  let s := s.lbEvent n d new (cz + sum)
  let limp := bitOf stat 15
  let powerup := bitOf stat 12
  -- a Load die that had left limp-home shows POWERUP
  let s := if c.leftLimp && limp && powerup then
    (s.raise (cd n) R.SAFE_CAUSE_LD_RESET).capture (cd n) R.SAFE_LOG_VALID.off 0
      [(cd n, R.SAFE_LOG_KIND, 3), (cd n, R.SAFE_LOG_DIE, d), (cd n, R.SAFE_LOG_CH, 0)] else s
  let s := if powerup && (!bitOf c.stat 12 || c.missed || !c.polled) then
    (List.range 24).foldl (fun s ch => s.lbEnq n d ⟨2, chIdx ch 0x66, 3, [], .otp ch⟩) s else s
  let exit := bitOf c.stat 15 && !limp
  let s := s.modLdc n d (fun c => { c with
    stat := stat, cause := cz, sum := sum, polled := true, missed := false,
    leftLimp := if limp then c.leftLimp && !powerup else true,
    recon := if exit then 2 ^ 24 - 1 else c.recon, reconAdd := if exit then false else c.reconAdd })
  let s := s.lbTestPoll n d (bits stat 14 12)
  match nextBit sum (s.ldc n d).nextDetail with
  | some ch => (s.modLdc n d (fun c => { c with nextDetail := (ch + 1) % 24 })).lbEnq n d (lbDetail ch false)
  | none => s

/-- A detail read's three words (R536, R537, R552, R554, R643). -/
def State.lbDetailDone (s : State) (n d ch stat fault cause : Nat) : State :=
  let g := 24 * d + ch
  let s := s.modChc n g (fun c => { c with stat := stat, fault := fault })
  if !s.isActive n || !(s.cdx n).mainUp then s
  else
    let s := if bitOf cause 7 then s.lbEnq n d ⟨1, chIdx ch 0x58, 1, [0x80], .inrush ch⟩ else s
    let e := s.lgEntry n g
    if ch % 2 = 1 && s.lgGang n (g - 1) then s
    else
      let c := s.ldc n d
      let s := if bitOf c.recon ch && !bitOf c.stat 15 then
        (s.lgReconcile n e c.reconAdd).modLdc n d (fun c => { c with recon := putBit c.recon ch false }) else s
      (((s.lgDetail n e (bitOf cause 7)).lgCross n d ch).lgDegrade n d).lgSync n

/-- An answered request, or one that has failed (status 6): what it was for decides (R528, R531). -/
def State.lbDone (s : State) (n d : Nat) (r : LbReq) (status : Nat) (data : List Nat) : State :=
  let own := unitCode n 0xC
  let log := fun (s : State) => if status = 0 then s else s.lbErr n d (lbKind status) own r.idx
  let s := match r.own with
    | .hb => s.lbHbDone n d status
    | .poll => match status, data with
      | 0, [a, b, c, e, f] => s.lbPollDone n d a b c e f
      | _, _ => (log s).modLdc n d (fun c => { c with missed := true })
    | .otp ch => match status, data with
      | 0, [a, b, c] => (s.modChc n (24 * d + ch) (fun x => { x with otpA := a, otpB := b, otpC := c })).lgPmis n
      | _, _ => log s
    | .tel half => if status = 0 then
        s.modLdc n d (fun c => { c with
          adc := (data.zipIdx).foldl (fun (m : Store Nat) (p : Nat × Nat) => Store.put 0 m (16 * half + p.2) p.1) c.adc })
      else log s
    | .detail ch _ => match status, data with
      | 0, [a, b, c] => s.lbDetailDone n d ch a b c
      | _, _ => log s
    | .inrush _ => log s
    | .cross _ => log s
    | .ledger e _ => (log s).lgAck n d e status
    | .soft init acc => s.lbSoftDone n d r init acc status
    | .staged e => s.lbStaged n d e r.idx (if status = 0 then data.head? else none)
  ((s.modPort n d LbPort.pump).lbSync n).ldReissue n

/-- The frame of a request's answer is the one the bridge waits for: CRC, CMD, SEQ, reserved bits (R524, R525). -/
def lbMatch (frame : List Nat) (crc cmd : Nat) (seq : Nat) : Bool :=
  let h := frame.headD 0
  lbCrc frame == crc && bits h 15 12 == cmd && bits h 11 8 == seq && bits h 3 0 == 0 && decide (bits h 7 4 ≤ 5)

/-- LBUS_ACK_RECEIVE: an ACK reaches the bridge of die `n` from Load die `d` (R528). -/
def execLbusAckReceive (n d : Fin 2) (frame : List Nat) (crc : Nat) (s : State) : Host.Outcome State Fault Refusal :=
  done (match (s.lbPort n d).out with
  | some (seq, r) =>
    if r.cmd ≠ 2 && frame.length == 1 && lbMatch frame crc 8 seq then
      ((s.modPort n d (fun p => { p with out := none, tries := 0 })).lbusShow n d true).lbDone n d r
        (bits (frame.headD 0) 7 4) []
    else s
  | none => s)

/-- LBUS_DATA_RECEIVE: DATA for a READ of the bridge (R530, R536, R537, R538). -/
def execLbusDataReceive (n d : Fin 2) (frame : List Nat) (crc : Nat) (s : State) : Host.Outcome State Fault Refusal :=
  done (match (s.lbPort n d).out with
  | some (seq, r) =>
    if r.cmd = 2 && frame.length == r.count + 1 && lbMatch frame crc 9 seq then
      ((s.modPort n d (fun p => { p with out := none, tries := 0 })).lbusShow n d true).lbDone n d r (bits (frame.headD 0) 7 4)
        (frame.drop 1)
    else s
  | none => s)

/-- LBUS_RESEND_TIMEOUT: 2 us without an answer: the request is sent again with its SEQ, and after the third resend
the access ends in NO_RESPONSE (R526). -/
def execLbusResendTimeout (n d : Fin 2) (s : State) : Host.Outcome State Fault Refusal :=
  let p := s.lbPort n d
  done (match p.out with
  | some (_, r) =>
    if p.tries < 3 then (s.modPort n d (fun p => { p with tries := p.tries + 1 })).inc (cd n) (R.LB_CNT_RESENDS.at d)
    else ((s.modPort n d (fun p => { p with out := none, tries := 0 })).lbusShow n d false).lbDone n d r 6 []
  | none => s)

/-- The heartbeat of die `n` to Load die `d`, with its epoch; NEW as R533 gives. -/
def State.lbHeartbeat (s : State) (n d epoch : Nat) : State :=
  s.lbEnq n d ⟨3, 0, b2n (s.ldc n d).newPend, [epoch % 65536], .hb⟩

/-- LBUS_HB_TIMER: 1 ms while the main islands run, from the first kick on and only while the last kick is no more than
2 ms old (`fresh`); in STANDBY and LISTEN, and until the first kick of a wake, the always-on island sends (R59, R458,
R533). A Load die under test gets none (R644). -/
def execLbusHbTimer (n : Fin 2) (fresh : Bool) (s : State) : Host.Outcome State Fault Refusal :=
  let cur := s.rd (cd n) R.PWR_STATE_CUR
  let go := s.isActive n && (if (s.cdx n).mainUp && (s.cdx n).kicked then fresh else cur == 1 || cur == 2)
  let s := if go then [0, 1].foldl (fun s d =>
    if bitOf (s.rd (cd n) R.LB_HBTEST_HOLD) d then s else s.lbHeartbeat n d (s.rd (cd n) R.PAIR_STAT_EPOCH)) s else s
  done s

/-- LBUS_POLL of Load die `d` (R536): the active die, POLL_US not 0, main islands up. -/
def execLbusPoll (n d : Fin 2) (s : State) : Host.Outcome State Fault Refusal :=
  done (if s.isActive n && (s.cdx n).mainUp && s.rd (cd n) R.LB_CTRL_POLL_US != 0 && s.inService n (6 + d) then
    s.lbEnq n d ⟨2, 1, 5, [], .poll⟩
  else s)

/-- TELEMETRY_READ: ADC_LAST of each Load die in service as two READs, and the next channel's detail words
(R537, R538). -/
def execTelemetryRead (n : Fin 2) (s : State) : Host.Outcome State Fault Refusal :=
  done (if (s.cdx n).mainUp && s.rd (cd n) R.LB_CTRL_TEL_PER != 0 then
    [0, 1].foldl (fun s d => if s.inService n (6 + d) then
      let ch := (s.ldc n d).nextPer
      let s := (s.lbEnq n d ⟨2, 0x380, 16, [], .tel 0⟩).lbEnq n d ⟨2, 0x390, 16, [], .tel 1⟩
      (s.modLdc n d (fun c => { c with nextPer := (ch + 1) % 24 })).lbEnq n d (lbDetail ch false)
    else s) s
  else s)

/-! ### Heartbeat-path test and monitor (chapter 17) -/

/-- LB_HBTEST.HOLD(d): the active die, and only while the cached LIMP is 1 (R644). -/
def State.hbTestHold (s : State) (n d : Nat) : State :=
  if s.isActive n && bitOf (s.ldc n d).stat 15 then
    ((s.wr (cd n) R.LB_HBTEST_HOLD (putBit (s.rd (cd n) R.LB_HBTEST_HOLD) d true)).wr (cd n) R.LB_HBTEST_PASS
      (putBit (s.rd (cd n) R.LB_HBTEST_PASS) d false)).wr (cd n) R.LB_HBTEST_FAIL
      (putBit (s.rd (cd n) R.LB_HBTEST_FAIL) d false)
  else s
/-- HBTEST_HOLD (R644). -/
def execHbtestHold (n d : Fin 2) (s : State) : Host.Outcome State Fault Refusal := done (s.hbTestHold n d)
/-- HBTEST_TIMEOUT: 40 ms without the poll (R644). -/
def execHbtestTimeout (n d : Fin 2) (s : State) : Host.Outcome State Fault Refusal :=
  done (if bitOf (s.rd (cd n) R.LB_HBTEST_HOLD) d then
    let s := (s.wr (cd n) R.LB_HBTEST_HOLD (putBit (s.rd (cd n) R.LB_HBTEST_HOLD) d false)).wr (cd n) R.LB_HBTEST_FAIL
      (putBit (s.rd (cd n) R.LB_HBTEST_FAIL) d true)
    (s.raise (cd n) R.SAFE_CAUSE_HBTEST_FAIL).capture (cd n) R.SAFE_LOG_VALID.off 0
      [(cd n, R.SAFE_LOG_KIND, 2), (cd n, R.SAFE_LOG_DIE, d), (cd n, R.SAFE_LOG_CH, 0)]
  else s)

/-- MONITOR_RESET: the clock or supply monitor resets Load die `d` and holds it (R641, R642). -/
def execMonitorReset (d : Fin 2) (supply : Bool) (s : State) : Host.Outcome State Fault Refusal :=
  let s := s.ldReset d
  done (((s.wr (ld d) R.LD_RSTCAUSE_POR 0).wrb (ld d) R.LD_RSTCAUSE_CLKMON (!supply)).wrb (ld d) R.LD_RSTCAUSE_VREG
    supply)
/-- MONITOR_RELEASE: 1 ms within limits; the die starts as after a reset below 5.5 V (R641, R497). -/
def execMonitorRelease (d : Fin 2) (s : State) : Host.Outcome State Fault Refusal :=
  done (if (s.ldx d).inReset then
    let v := s.rd (ld d) R.LD_RSTCAUSE_VREG
    let c := s.rd (ld d) R.LD_RSTCAUSE_CLKMON
    ((s.ldRelease d).wr (ld d) R.LD_RSTCAUSE_VREG v).wr (ld d) R.LD_RSTCAUSE_CLKMON c
  else s)

end Sys2Proof.Machine
end

