-- ==== Sys2Proof/Machine/ComRam.lean ====
section
/-! DEFINITION. Reads and writes of Commons with SECDED (R452). -/

namespace Sys2Proof.Machine

/-- Key of 64-bit word `i` of Commons of die `n`. -/
def comWord (n i : Nat) : Nat := n * 2 ^ 21 + i
/-- A codeword bit of a word has changed by itself: a data bit changes the stored byte (R452). -/
def State.comFlip (s : State) (n i b : Nat) : State :=
  let k := comWord n i
  let l := Store.get [] s.comErr k
  let s := { s with comErr := Store.put [] s.comErr k (if l.contains b then l.erase b else l ++ [b]) }
  if b < 64 then
    let a := comAddr n (8 * i + b / 8)
    s.stb a (s.ldb a ^^^ BitVec.ofNat 8 (2 ^ (b % 8)))
  else s
/-- Words of Commons that have changed by themselves: word number and codeword bit. -/
def State.comUpsets (s : State) (n : Nat) (l : List (Nat × Nat)) : State :=
  l.foldl (fun s x => if x.1 < 2 ^ 21 ∧ x.2 < 72 then s.comFlip n x.1 x.2 else s) s
/-- An error of Commons is logged: 1 CE, 2 UE, the reading master, word and bit (R452). -/
def State.comLog (s : State) (n kind master i bit : Nat) : State :=
  let b := cd n
  let s := s.capture b R.COM_ERR_LOG_VALID.off 0 [(b, R.COM_ERR_LOG_KIND, kind), (b, R.COM_ERR_LOG_MASTER, master),
    (b, R.COM_ERR_LOG_WORD, i), (b, R.COM_ERR_BIT_BIT, bit)]
  if kind = 1 then (s.inc b R.COM_CNT_CE).raise b R.COM_CAUSE_CE else (s.inc b R.COM_CNT_UE).raise b R.COM_CAUSE_UE
/-- A read checks a word: one changed bit is corrected and written back, two are detected; what three or more do is a
free value, as of R118. The flag marks an uncorrectable error. -/
def State.comCheck (s : State) (n master i : Nat) : State × Bool :=
  match Store.get [] s.comErr (comWord n i) with
  | [] => (s, false)
  | [b] => ((s.comFlip n i b).comLog n 1 master i b, false)
  | [_, _] => (s.comLog n 2 master i 0, true)
  | _ =>
    let (s, r) := s.draw 9
    if r % 4 < 2 then (s.comLog n 2 master i 0, true)
    else if r % 4 = 2 then ((s.comFlip n i (r / 4 % 72)).comLog n 1 master i (r / 4 % 72), false)
    else (s, false)
/-- A read of `len` bytes at offset `o` by a master: the data, and whether a word was uncorrectable. -/
def State.comRead (s : State) (n master o len : Nat) : State × List Byte × Bool :=
  let words := if len = 0 then [] else (List.range ((o + len - 1) / 8 - o / 8 + 1)).map (o / 8 + ·)
  let (s, bad) := words.foldl (fun (x : State × Bool) i => let y := x.1.comCheck n master i; (y.1, x.2 || y.2)) (s, false)
  (s, s.ldn (comAddr n o) len, bad)
/-- A write at offset `o` by a master: a word written in part is read and checked first. -/
def State.comWrite (s : State) (n master o : Nat) (data : List Byte) : State :=
  let len := data.length
  let words := if len = 0 then [] else (List.range ((o + len - 1) / 8 - o / 8 + 1)).map (o / 8 + ·)
  let s := words.foldl (fun s i =>
    let s := if o ≤ 8 * i ∧ 8 * i + 8 ≤ o + len then s else (s.comCheck n master i).1
    { s with comErr := Store.put [] s.comErr (comWord n i) [] }) s
  s.stn (comAddr n o) data

end Sys2Proof.Machine
end

