-- ==== Sys2Proof/Machine/Links.lean ====
section
/-! DEFINITION. The Stack links (chapter 7): the packet and its CRC, ports with replay, tokens and training, lane
sparing, routing, and what a message does when it reaches its die. -/

namespace Sys2Proof.Machine

/-! ### Ports -/

/-- Node codes (R30). -/
def cdNode (n : Nat) : Nat := n + 1
def sdNode (d : Nat) : Nat := d + 4
/-- Key of port Pp of Stack die `d`, and of Control die `n` (R216). -/
def sdPort (d p : Nat) : Nat := 4 * d + p
def cdPort (n p : Nat) : Nat := 16 + 5 * n + p
/-- The node a port belongs to. -/
def portNode (k : Nat) : Nat := if k < 16 then sdNode (k / 4) else cdNode ((k - 16) / 5)
/-- The port at the far end (R216). -/
def farPort (k : Nat) : Nat :=
  if k < 16 then
    let d := k / 4
    if k % 4 = 0 then sdPort ((d + 1) % 4) 1 else if k % 4 = 1 then sdPort ((d + 3) % 4) 0
    else cdPort (k % 4 - 2) d
  else if (k - 16) % 5 = 4 then cdPort (1 - (k - 16) / 5) 4
  else sdPort ((k - 16) % 5) (2 + (k - 16) / 5)
/-- The two ports of link `l`, in the order of LINK_UP's bits: ring 0–3, CD0's control links 4–7, CD1's 8–11,
cross link 12 (R17, R216). -/
def linkEnds (l : Nat) : List Nat :=
  if l < 4 then [sdPort l 0, sdPort ((l + 1) % 4) 1]
  else if l < 8 then [sdPort (l - 4) 2, cdPort 0 (l - 4)]
  else if l < 12 then [sdPort (l - 8) 3, cdPort 1 (l - 8)]
  else [cdPort 0 4, cdPort 1 4]
/-- The link a port is an end of. -/
def portLink (k : Nat) : Nat :=
  if k < 16 then
    if k % 4 = 0 then k / 4 else if k % 4 = 1 then (k / 4 + 3) % 4 else 4 * (k % 4 - 1) + k / 4
  else if (k - 16) % 5 = 4 then 12 else 4 + 4 * ((k - 16) / 5) + (k - 16) % 5

/-- Base and field of a port's LNK_STAT or CD_LNK_STAT. -/
def portFld (k : Nat) (fs fc : Fld) : Nat × Fld :=
  if k < 16 then (sd (k / 4), fs.at (k % 4)) else (cd ((k - 16) / 5), fc.at ((k - 16) % 5))
def fUp (k : Nat) := portFld k R.LNK_STAT_UP R.CD_LNK_STAT_UP
def fSpare (k : Nat) := portFld k R.LNK_STAT_SPARE R.CD_LNK_STAT_SPARE
def fTrain (k : Nat) := portFld k R.LNK_STAT_TRAIN R.CD_LNK_STAT_TRAIN
def fLane (k : Nat) := portFld k R.LNK_STAT_LANE R.CD_LNK_STAT_LANE
def fReplay (k : Nat) := portFld k R.LNK_CNT_REPLAY R.CD_LNK_CNT_REPLAY
def fCrc (k : Nat) := portFld k R.LNK_CNT_CRC R.CD_LNK_CNT_CRC

/-- The port sends packets: its link is up and no training runs (R218). -/
def State.portSends (s : State) (k : Nat) : Bool :=
  s.flag (fUp k).1 (fUp k).2 && s.rd (fTrain k).1 (fTrain k).2 == 0
/-- Link `l` is up. -/
def State.linkUp (s : State) (l : Nat) : Bool :=
  (linkEnds l).all (fun k => s.flag (fUp k).1 (fUp k).2)

/-- A write of UP or SPARE of a port; a change on a Control die sets SYS_CAUSE.CD_LINK (R665). -/
def State.setLinkBit (s : State) (f : Nat × Fld) (k : Nat) (b : Bool) : State :=
  if s.flag f.1 f.2 = b then s
  else
    let s := s.wrb f.1 f.2 b
    if k < 16 then s else s.sysEvent ((k - 16) / 5) R.SYS_CAUSE_CD_LINK

/-! ### Packets -/

/-- The virtual channel of a message type (R223): 0 control, 1 credit, 2 bulk, 3 telemetry; none for an unlisted
type. -/
def vcOf : Nat → Option Nat
  | 0x01 => some 0 | 0x02 => some 0 | 0x03 => some 0 | 0x04 => some 0 | 0x08 => some 2 | 0x09 => some 0
  | 0x0A => some 2 | 0x0B => some 2 | 0x0C => some 0 | 0x10 => some 1 | 0x11 => some 1 | 0x12 => some 2
  | 0x13 => some 1 | 0x14 => some 2 | 0x15 => some 1 | 0x16 => some 1 | 0x20 => some 3 | 0x21 => some 0
  | _ => none
/-- The channel of a message. -/
def Msg.vc (m : Msg) : Nat := (vcOf m.ty).getD 0
/-- Wire bytes of a packet (R221). -/
def Msg.wire (m : Msg) : Nat := 24 + max 16 (16 * ((m.data.length + 15) / 16))
/-- Tokens a packet occupies (R228). -/
def Msg.tokens (m : Msg) : Nat := (m.wire + 63) / 64
/-- Buffer tokens of a channel: 8, 2, 32 and 2 KiB (R228). -/
def vcTokens : Nat → Nat
  | 0 => 128 | 1 => 32 | 2 => 512 | _ => 32

/-- One bit of the reflected CRC-32 (R222). -/
def crc32Bit (c : Nat) : Nat := if c % 2 = 1 then (c / 2) ^^^ 0xEDB88320 else c / 2
/-- One byte of the CRC-32. -/
def crc32Byte (c : Nat) (b : Byte) : Nat := (List.range 8).foldl (fun c _ => crc32Bit c) (c ^^^ b.toNat)
/-- The CRC-32 of the header and the payload (R222). -/
def crc32 (bs : List Byte) : Nat := (bs.foldl crc32Byte 0xFFFFFFFF) ^^^ 0xFFFFFFFF

/-- The header words of a packet with link sequence number `seq` (R221). -/
def packetHeader (seq : Nat) (m : Msg) : List Nat :=
  [m.ty * 2 ^ 24 + m.vc * 2 ^ 22 + m.data.length,
   seq * 2 ^ 20 + m.dn * 2 ^ 12 + m.du * 2 ^ 8 + m.sn * 2 ^ 4 + m.su, m.m0, m.m1]
/-- The payload: the data padded with zeros to a multiple of 16 bytes, at least 16 (R221). -/
def packetPayload (m : Msg) : List Byte :=
  m.data ++ List.replicate (max 16 (16 * ((m.data.length + 15) / 16)) - m.data.length) 0
/-- The bytes the CRC-32 covers. -/
def packetBytes (hdr : List Nat) (payload : List Byte) : List Byte := hdr.flatMap (toBytes 4) ++ payload

/-! ### Sending -/

/-- Whether a packet may go on the wire now: tokens and replay-buffer space (R226, R228). -/
def LinkPort.fits (p : LinkPort) (m : Msg) : Bool :=
  decide (Store.get 0 p.used m.vc + m.tokens ≤ vcTokens m.vc)
    && decide (p.unacked.foldl (fun a x => a + x.2.1.wire) 0 + m.wire ≤ 65536)
/-- The first waiting packet of a channel that may go. -/
def LinkPort.head (p : LinkPort) (vc : Nat) : Option Msg :=
  (p.q.find? (fun m => m.vc == vc)).filter (p.fits ·)
/-- The next packet in the order of R229. -/
def LinkPort.next (p : LinkPort) : Option Msg :=
  (p.head 0).orElse (fun _ => (p.head 1).orElse (fun _ =>
    if 15 ≤ p.bulkRun then (p.head 3).orElse (fun _ => p.head 2) else (p.head 2).orElse (fun _ => p.head 3)))
/-- Sends waiting packets while the port may (R226, R229). -/
def LinkPort.drain : Nat → LinkPort → LinkPort
  | 0, p => p
  | k + 1, p =>
    match p.next with
    | none => p
    | some m => LinkPort.drain k { p with
        q := p.q.erase m, unacked := p.unacked ++ [(p.seq, m, 0)], seq := (p.seq + 1) % 4096,
        used := Store.put 0 p.used m.vc (Store.get 0 p.used m.vc + m.tokens),
        bulkRun := if m.vc = 2 then p.bulkRun + 1 else 0 }
/-- A port that sends puts its waiting packets on the wire. -/
def State.linkPump (s : State) (k : Nat) : State :=
  if s.portSends k then s.modLink k (fun p => p.drain p.q.length) else s

/-- The port by which node `a` reaches node `b` (R231, R26); none where no route leads there. -/
def State.routePort (s : State) (a b : Nat) : Option Nat :=
  if 4 ≤ a ∧ a < 8 then
    let d := a - 4
    if 4 ≤ b ∧ b < 8 then
      match bits (s.rd (sd d) R.ROUTE_SD) (2 * (b - 4) + 1) (2 * (b - 4)) with
      | 1 => some (sdPort d 0)
      | 2 => some (sdPort d 1)
      | _ => none
    else
      let n := b - 1
      if s.flag (fUp (sdPort d (2 + n))).1 (fUp (sdPort d (2 + n))).2 then some (sdPort d (2 + n))
      else some (sdPort d (3 - n))
  else
    let n := a - 1
    if 4 ≤ b ∧ b < 8 then
      if s.flag (fUp (cdPort n (b - 4))).1 (fUp (cdPort n (b - 4))).2 then some (cdPort n (b - 4)) else some (cdPort n 4)
    else some (cdPort n 4)

/-- The agent behind a node and unit. -/
def nodeAgent (node unit : Nat) : Nat := if node < 4 then sqix (node - 1) (unit % 8) else wcix (node - 4) (unit % 8)
/-- The operation that sent a discarded packet completes with LINKDOWN (R232). -/
def State.opFault (s : State) (m : Msg) (code : Nat) : State :=
  if m.su < 8 ∧ m.org ≠ 0 then
    s.modAgent (nodeAgent m.sn m.su) (fun a =>
      let e := Store.get {} a.eng (m.org % 8)
      { a with eng := Store.put {} a.eng (m.org % 8) { e with run := e.run.map (fun r =>
          if r.ins.pc = m.org / 8 then r.fail code else r) } })
  else s

/-- What a message does when it reaches its die: a semaphore signal, an error report and telemetry act at once; every
other message waits for its unit (R223, R56, R199). -/
def State.deliver (s : State) (m : Msg) : State :=
  if m.ty = 0x02 then
    let k := bits m.m0 28 16
    s.semSignal (if m.dn < 4 then csem (m.dn - 1) k else wsem (m.dn - 4) (m.du % 8) (k % 512)) (bits m.m0 15 0)
  else if m.ty = 0x04 then
    if m.dn < 4 then s.addrErr (m.dn - 1) (bits m.m1 10 8) (16 * m.sn + m.su) (bitOf m.m1 11)
      (m.m0 + bits m.m1 7 0 * 2 ^ 32)
    else s
  else if m.ty = 0x20 then s
  else { s with inbox := s.inbox ++ [m] }

/-- A message leaves node `at_`: to a unit of the same die by its internal path, otherwise by the route's port; with
no route the operation that sent it completes with LINKDOWN (R232). -/
def State.forward (s : State) (at_ : Nat) (m : Msg) : State :=
  if m.dn = at_ then s.deliver m
  else match s.routePort at_ m.dn with
  | some k => (s.modLink k (fun p => { p with q := p.q ++ [m] })).linkPump k
  | none => s.opFault m 0x1B
/-- A unit sends a message. -/
def State.send (s : State) (m : Msg) : State := s.forward m.sn m
/-- Sends messages in order. -/
def State.sendAll (s : State) (l : List Msg) : State := l.foldl (fun s m => s.send m) s

/-- A unit takes the first waiting message that satisfies `p`; an earlier message of the same flow (R230) goes
first. -/
def State.takeMsg (s : State) (p : Msg → Bool) : Option (Msg × State) :=
  match s.inbox.find? p with
  | some m =>
    let before := s.inbox.takeWhile (fun x => !p x)
    if before.any (fun x => x.sn == m.sn && x.su == m.su && x.dn == m.dn && x.du == m.du && x.vc == m.vc) then none
    else some (m, { s with inbox := s.inbox.erase m })
  | none => none

/-! ### Training, lanes, links down -/

/-- A Stack-die cause of the link layer, at the Stack ends of link `l`. -/
def State.linkCause (s : State) (l : Nat) (f : Fld) : State :=
  (linkEnds l).foldl (fun s k => if k < 16 then s.raise (sd (k / 4)) f else s) s
/-- Bit `l` of LINK_UP and LINK_SPARE on both Control dies: fields of the register by link. -/
def linkUpFld (l : Nat) : Fld × Nat :=
  if l < 4 then (R.LINK_UP_RING, l) else if l < 8 then (R.LINK_UP_CTL_CD0, l - 4)
  else if l < 12 then (R.LINK_UP_CTL_CD1, l - 8) else (R.LINK_UP_CROSS, 0)
def linkSpareFld (l : Nat) : Fld × Nat :=
  if l < 4 then (R.LINK_SPARE_RING, l) else if l < 8 then (R.LINK_SPARE_CTL_CD0, l - 4)
  else if l < 12 then (R.LINK_SPARE_CTL_CD1, l - 8) else (R.LINK_SPARE_CROSS, 0)
def State.setBoth (s : State) (f : Fld × Nat) (b : Bool) : State :=
  [0, 1].foldl (fun s n => s.wr (cd n) f.1 (putBit (s.rd (cd n) f.1) f.2 b)) s

/-- Starts a training of link `l`: 1 full, 2 short (R218); the Stack ends count it. -/
def State.startTrain (s : State) (l kind : Nat) : State :=
  (linkEnds l).foldl (fun s k =>
    let s := s.wr (fTrain k).1 (fTrain k).2 kind
    if k < 16 then s.inc (sd (k / 4)) ((if kind = 1 then R.LNK_TRN_FULL else R.LNK_TRN_SHORT).at (k % 4)) else s) s

/-- Stack die `d` runs degraded: a former spare serves, a lane spare is in use, or the active die reaches it through a
relay (R29, R26, R219). -/
def State.dieDegraded (s : State) (d : Nat) : Bool :=
  s.rd (sd d) R.DEGRADED_WING != 0 || (List.range 4).any (fun p =>
    let k := sdPort d p
    s.flag (fSpare k).1 (fSpare k).2 || (p == 2 + s.act && !s.flag (fUp k).1 (fUp k).2))
/-- DIES shows a Stack die in service as degraded, or no longer. -/
def State.dieSync (s : State) (d : Nat) : State :=
  [0, 1].foldl (fun s n =>
    if 2 ≤ s.rd (cd n) (diesFld (2 + d)) then s.setDieOn n (2 + d) (if s.dieDegraded d then 3 else 2) else s) s
/-- A die in service is degraded while it uses a spare lane or a relay (R29, R26, R219). -/
def State.degradeNode (s : State) (node : Nat) : State :=
  let k := if node < 4 then node - 1 else node - 2
  [0, 1].foldl (fun s n => if s.rd (cd n) (diesFld k) = 2 then s.setDieOn n k 3 else s) s

/-- The route of Stack die `d` to Stack die `e` with the ring links `up` (R231, R232). -/
def ringRoute (up : Nat) (d e : Nat) : Nat :=
  let k := (e + 4 - d) % 4
  let fwd := (List.range k).all (fun i => bitOf up ((d + i) % 4))
  let bwd := (List.range (4 - k)).all (fun i => bitOf up ((d + 3 + 4 - i) % 4))
  if k = 0 then 0
  else if k = 3 then (if bwd then 2 else if fwd then 1 else 3)
  else (if fwd then 1 else if bwd then 2 else 3)
/-- The ROUTE value of die `d`. -/
def ringMap (up d : Nat) : Nat := (List.range 4).foldl (fun a e => a + ringRoute up d e * 4 ^ e) 0

/-- Packets held for or unacknowledged on a failed ring link are discarded, and their operations fail (R232). -/
def State.discardPort (s : State) (k : Nat) : State :=
  let p := s.port k
  let lost := p.unacked.map (·.2.1) ++ p.q
  lost.foldl (fun s m => s.opFault m 0x1B) (s.modLink k (fun p => { p with q := [], unacked := [], used := [] }))
/-- Packets of a failed control link take the relay of R26. -/
def State.relayPort (s : State) (k : Nat) : State :=
  let p := s.port k
  let l := p.unacked.map (·.2.1) ++ p.q
  l.foldl (fun s m => s.forward (portNode k) m) (s.modLink k (fun p => { p with q := [], unacked := [], used := [] }))

/-- A link goes down (R220): UP reads 0 at both ends, LINK_UP shows it, LINK_DOWN sets at its Stack ends. A ring link
discards its packets and the active die sends ROUTE to every Stack die (R232); a control link is relayed (R26). -/
def State.linkFail (s : State) (l : Nat) : State :=
  let s := (linkEnds l).foldl (fun s k => (s.setLinkBit (fUp k) k false).wr (fTrain k).1 (fTrain k).2 3) s
  let s := (s.setBoth (linkUpFld l) false).linkCause l R.LNK_CAUSE_LINK_DOWN
  if l < 4 then
    let s := (linkEnds l).foldl (fun s k => s.discardPort k) s
    match s.active with
    | some n =>
      let up := s.rd (cd n) R.LINK_UP_RING
      (List.range 4).foldl (fun s d => s.send ⟨0x21, sdNode d, 8, cdNode n, 0, ringMap up d, 0, [], 0⟩) s
    | none => s
  else if l < 12 then
    (linkEnds l).foldl (fun s k => s.relayPort k) (s.dieSync ((l - 4) % 4))
  else s

/-- LANE_FAIL: the spare takes the first failed lane after a short training; with the spare in use the link goes
down (R219, R220). -/
def execLaneFail (l : Fin 13) (lane : Nat) (s : State) : Host.Outcome State Fault Refusal :=
  let ends := linkEnds l
  done (if !s.linkUp l then s
  else if ends.any (fun k => s.flag (fSpare k).1 (fSpare k).2) then s.linkFail l
  else
    let s := ends.foldl (fun s k => (s.setLinkBit (fSpare k) k true).wr (fLane k).1 (fLane k).2 lane) s
    let s := ((s.setBoth (linkSpareFld l) true).linkCause l R.LNK_CAUSE_LANE_SPARE).startTrain l 2
    ends.foldl (fun s k => s.degradeNode (portNode k)) s)

/-- After a training packets held or to be replayed are sent in their order (R218). -/
def State.trainDone (s : State) (l : Nat) : State :=
  (linkEnds l).foldl (fun s k =>
    ((s.wr (fTrain k).1 (fTrain k).2 0).modLink k (fun p => { p with replayTrain := false })).linkPump k) s

/-- A training of link `l` ends well: the link is up. -/
def State.linkRise (s : State) (l : Nat) : State :=
  let s := (((linkEnds l).foldl (fun s k => s.setLinkBit (fUp k) k true) s).setBoth (linkUpFld l) true).trainDone l
  if 4 ≤ l ∧ l < 12 then s.dieSync ((l - 4) % 4) else s

/-- SHORT_TRAINING_DONE: it ends, or fails; a failed one becomes a full training, or takes the link down where
resends had started it (R218, R227). -/
def execShortTrainingDone (l : Fin 13) (ok : Bool) (s : State) : Host.Outcome State Fault Refusal :=
  let ends := linkEnds l
  done (if ends.any (fun k => s.rd (fTrain k).1 (fTrain k).2 == 2) then
    if ok then s.linkRise l
    else if ends.any (fun k => (s.port k).replayTrain) then s.linkFail l
    else s.startTrain l 1
  else s)

/-- LINK_FULL_TRAINING_DONE: the link is up, or down when the training failed (R218, R220). -/
def execLinkFullTrainingDone (l : Fin 13) (ok : Bool) (s : State) : Host.Outcome State Fault Refusal :=
  done (if (linkEnds l).any (fun k => s.rd (fTrain k).1 (fTrain k).2 == 1) then
    if ok then s.linkRise l else s.linkFail l
  else s)

/-! ### Receiving -/

/-- The sender resends from packet `n` on (R226); a packet resent four times starts a short training, and four more
take the link down (R227). -/
def State.resendFrom (s : State) (k n : Nat) : State :=
  let p := s.port k
  let keep := p.unacked.takeWhile (fun x => x.1 != n)
  let again := p.unacked.dropWhile (fun x => x.1 != n)
  match again with
  | [] => s
  | (_, _, c) :: _ =>
    if 8 ≤ c then s.linkFail (portLink k)
    else if c = 4 ∧ !p.replayed then
      ((s.modLink k (fun p => { p with replayTrain := true, replayed := true })).startTrain (portLink k) 2)
    else
      let s := s.modLink k (fun p => { p with unacked := keep ++ again.map (fun x => (x.1, x.2.1, x.2.2 + 1)) })
      s.wr (fReplay k).1 (fReplay k).2 (satAdd (s.rd (fReplay k).1 (fReplay k).2) again.length 65535)

/-- A well-formed packet that is next in sequence is taken in: its message reaches the die or travels on, and its
buffer's tokens return (R223, R228). -/
def State.acceptPacket (s : State) (k : Nat) (hdr : List Nat) (payload : List Byte) : State :=
  let h0 := hdr.getD 0 0
  let h1 := hdr.getD 1 0
  let ty := bits h0 31 24
  let vc := bits h0 23 22
  let m : Msg := ⟨ty, bits h1 15 12, bits h1 11 8, bits h1 7 4, bits h1 3 0, hdr.getD 2 0, hdr.getD 3 0,
    payload.take (bits h0 12 0), 0⟩
  let s := s.modLink k (fun p => { p with exp := (p.exp + 1) % 4096, ackDue := true, nakSent := false })
  if vcOf ty = some vc then
    let s := s.modLink k (fun p => { p with last := some (.token vc m.tokens) })
    s.forward (portNode k) m
  else if k < 16 then
    (s.capture (sd (k / 4)) R.LNK_ERR_VALID.off 0 [(sd (k / 4), R.LNK_ERR_PORT, k % 4), (sd (k / 4), R.LNK_ERR_TYPE, ty),
      (sd (k / 4), R.LNK_ERR_VC, vc)]).raise (sd (k / 4)) R.LNK_CAUSE_BADPKT
  else s

/-- PACKET_RECEIVE at port `k`: header words, payload and CRC as they arrive (R222, R226). -/
def execPacketReceive (k : Fin 26) (hdr : List Nat) (payload : List Byte) (crc : Nat) (s : State) :
    Host.Outcome State Fault Refusal :=
  let p := s.port k
  let seq := bits (hdr.getD 1 0) 31 20
  done (if !s.portSends k then s
  else if crc32 (packetBytes hdr payload) ≠ crc then
    let s := s.inc (fCrc k).1 (fCrc k).2
    if p.nakSent then s else s.modLink k (fun p => { p with nakSent := true, last := some (.nak p.exp) })
  else if seq = p.exp then s.acceptPacket k hdr payload
  else if (p.exp + 4096 - seq) % 4096 ≤ 2048 then
    s.modLink k (fun p => { p with last := some (.ack ((p.exp + 4095) % 4096)) })
  else if p.nakSent then s
  else s.modLink k (fun p => { p with nakSent := true, last := some (.nak p.exp) }))

/-- ACK_RECEIVE: ACK(seq) with a good CRC-16 frees every packet up to it (R225, R226). -/
def execAckReceive (k : Fin 26) (seq : Nat) (crcOk : Bool) (s : State) : Host.Outcome State Fault Refusal :=
  let u := (s.port k).unacked
  done (if crcOk && u.any (fun x => x.1 == seq) then
    (s.modLink k (fun p => { p with unacked := (u.dropWhile (fun x => x.1 != seq)).drop 1, replayed := false })).linkPump k
  else s)
/-- NAK_RECEIVE: the port resends from the SEQ named (R226). -/
def execNakReceive (k : Fin 26) (seq : Nat) (crcOk : Bool) (s : State) : Host.Outcome State Fault Refusal :=
  done (if crcOk then s.resendFrom k seq else s)
/-- TOKEN_RECEIVE: buffer tokens of a channel return (R228). -/
def execTokenReceive (k : Fin 26) (vc : Fin 4) (count : Nat) (crcOk : Bool) (s : State) :
    Host.Outcome State Fault Refusal :=
  done (if crcOk then
    (s.modLink k (fun p => { p with used := Store.put 0 p.used vc (Store.get 0 p.used vc - count) })).linkPump k
  else s)
/-- RETRAIN_RECEIVE: the port trains with its far end (R225, R218). -/
def execRetrainReceive (k : Fin 26) (crcOk : Bool) (s : State) : Host.Outcome State Fault Refusal :=
  done (if crcOk && s.portSends k then s.startTrain (portLink k) 2 else s)
/-- ACK_SEND_TIMER: 256 ns: an ACK goes out where packets were accepted (R226). -/
def execAckSendTimer (k : Fin 26) (s : State) : Host.Outcome State Fault Refusal :=
  done (if (s.port k).ackDue then
    s.modLink k (fun p => { p with ackDue := false, last := some (.ack ((p.exp + 4095) % 4096)) })
  else s)
/-- REPLAY_TIMEOUT: 2 us without an ACK: resend from the oldest unacknowledged packet (R226, R227). -/
def execReplayTimeout (k : Fin 26) (s : State) : Host.Outcome State Fault Refusal :=
  done (match (s.port k).unacked with
  | (n, _, _) :: _ => if s.portSends k then s.resendFrom k n else s
  | [] => s)

/-- ROUTE_RECEIVE at Stack die `d` (R232): the new routes are in force, ROUTE_CHG sets on a change, and packets held
for a link that is down take the new route. -/
def execRouteReceive (d : Fin 4) (s : State) : Host.Outcome State Fault Refusal :=
  done (match s.takeMsg (fun m => m.ty == 0x21 && m.dn == sdNode d) with
  | some (m, s) =>
    let v := bits m.m0 7 0
    let s := if s.rd (sd d) R.ROUTE_SD = v then s else (s.wr (sd d) R.ROUTE_SD v).raise (sd d) R.LNK_CAUSE_ROUTE_CHG
    [sdPort d 0, sdPort d 1].foldl (fun s k =>
      if s.flag (fUp k).1 (fUp k).2 then s
      else
        let l := (s.port k).q
        l.foldl (fun s m => s.forward (sdNode d) m) (s.modLink k (fun p => { p with q := [] }))) s
  | none => s)

/-- TELEM_SEND: every 10 us Stack die `d` samples its hottest island and its clock stretches, and sends them to both
Control dies with the sample's number (R223, TELEM_LAST). -/
def execTelemSend (d : Fin 4) (temp droop : Nat) (s : State) : Host.Outcome State Fault Refusal :=
  if !(s.sdx d).up then done s else
  let lv := s.rd (sd d) R.LEVEL_IN_FORCE
  let s := ((s.wr (sd d) R.TELEM_LAST0_TEMP temp).wr (sd d) R.TELEM_LAST1_DROOP (min droop 65535)).wr (sd d)
    R.TELEM_LAST1_LEVEL lv
  let no := (s.sdx d).telemNo
  let data := toBytes 4 (temp % 65536) ++ toBytes 4 (min droop 65535 * 65536 + lv) ++ toBytes 8 0
  let s := s.modSd d (fun x => { x with telemNo := x.telemNo + 1 })
  done (s.sendAll [⟨0x20, 1, 0, sdNode d, 8, no % 2 ^ 32, 0, data, 0⟩, ⟨0x20, 2, 0, sdNode d, 8, no % 2 ^ 32, 0, data, 0⟩])

end Sys2Proof.Machine
end

