-- ==== Sys2Proof/Machine/ReadingRoom.lean ====
section
/-! DEFINITION. The reading room (chapter 6): lines with parity and poison, slot plans, credit windows and remote
writes, the request FIFO, the patrol, KV pools and the sweep of a wake. -/

namespace Sys2Proof.Machine

/-! ### Lines -/

/-- Device address of byte `o` of wing `w`'s banks on die `d` (R33, R172). -/
def rrAddr (d w o : Nat) : Nat := sdNode d * 2 ^ 36 + w * 2 ^ 23 + o
/-- Key of wing-local line `n` for its poison bit and parity. -/
def rrLine (d w n : Nat) : Nat := d * 2 ^ 20 + w * 2 ^ 17 + n

/-- Words of a line whose stored parity does not match. -/
def State.badWords (s : State) (k : Nat) : Nat := Store.get 0 s.parity k
/-- The line's poison bit. -/
def State.poisoned (s : State) (k : Nat) : Bool := Store.get false s.poison k
/-- Sets or clears the poison bit. -/
def State.setPoison (s : State) (k : Nat) (b : Bool) : State := { s with poison := Store.put false s.poison k b }

/-- A parity failure is logged (R188, R190): `src` 1 for the patrol. -/
def State.parityLog (s : State) (d w n src engine : Nat) : State :=
  let b := wg d w
  let s := s.capture b R.RR_PAR_LOG_VALID.off 0 [(b, R.RR_PAR_LOG_SRC, src), (b, R.RR_PAR_LOG_ENGINE, engine),
    (b, R.RR_PAR_LOG_BANK, n / 32768), (b, R.RR_PAR_LOG_LINE, n % 32768),
    (b, R.RR_PAR_LOG_WORD, ctz 16 (s.badWords (rrLine d w n)))]
  (s.inc b R.RR_CNT_PARITY).raise b (if src = 1 then R.RR_CAUSE_PATROL else R.RR_CAUSE_PARITY)

/-- A line is delivered marked poisoned when its poison bit is set or a word fails parity (R188). -/
def State.lineMarked (s : State) (d w n : Nat) : Bool :=
  s.poisoned (rrLine d w n) || s.badWords (rrLine d w n) != 0
/-- The check every read makes of a line (R188); a read never changes the stored line. -/
def State.lineCheck (s : State) (d w n engine : Nat) : State :=
  if s.badWords (rrLine d w n) = 0 then s else s.parityLog d w n 0 engine
/-- The data of a line. -/
def State.lineData (s : State) (d w n : Nat) : List Byte := s.ldn (rrAddr d w (64 * n)) 64

/-- A write into one line from byte `o` of it (R187): parity is fresh for the words written, and the poison bit
takes the flag for a full line and keeps what it had otherwise. -/
def State.lineWrite (s : State) (d w n o : Nat) (data : List Byte) (flag : Bool) : State :=
  let k := rrLine d w n
  let mask := (List.range 16).foldl (fun a i => if o < 4 * i + 4 ∧ 4 * i < o + data.length then a + 2 ^ i else a) 0
  let s := s.stn (rrAddr d w (64 * n + o)) data
  let s := { s with parity := Store.put 0 s.parity k (s.badWords k - (s.badWords k &&& mask)) }
  if mask = 65535 then s.setPoison k flag else if flag && mask != 0 then s.setPoison k true else s

/-- A write of bytes from wing-local byte `o` on, line by line (R224). -/
def State.rrWrite (s : State) (d w : Nat) (flag : Bool) : Nat → Nat → List Byte → State
  | 0, _, _ => s
  | _, _, [] => s
  | fuel + 1, o, x :: xs =>
    let k := 64 - o % 64
    (s.lineWrite d w (o / 64) (o % 64) ((x :: xs).take k) flag).rrWrite d w flag fuel (o + k) ((x :: xs).drop k)
/-- Writes bytes at wing-local byte `o`. -/
def State.rrStore (s : State) (d w o : Nat) (data : List Byte) (flag : Bool) : State :=
  s.rrWrite d w flag (data.length + 1) o data

/-- Lines that `len` bytes from byte `o` touch (R193). -/
def linesOf (o len : Nat) : Nat := if len = 0 then 0 else (o + len - 1) / 64 - o / 64 + 1

/-! ### Slot plans -/

/-- SLOT_CUR of bank `b`: slots 7–0 and 15–8. -/
def slotCurLo : Nat → Fld
  | 0 => R.SLOT_CUR_LO0_S | 1 => R.SLOT_CUR_LO1_S | 2 => R.SLOT_CUR_LO2_S | _ => R.SLOT_CUR_LO3_S
def slotCurHi : Nat → Fld
  | 0 => R.SLOT_CUR_HI0_S | 1 => R.SLOT_CUR_HI1_S | 2 => R.SLOT_CUR_HI2_S | _ => R.SLOT_CUR_HI3_S
/-- A plan: LO and HI of the four banks in order. -/
def planCode (p : List Nat) (b i : Nat) : Nat :=
  bits (p.getD (2 * b + i / 8) 0) (4 * (i % 8) + 3) (4 * (i % 8))
/-- The plan in force. -/
def State.slotCur (s : State) (d w : Nat) : List Nat :=
  (List.range 4).flatMap (fun b => [s.rd (wg d w) (slotCurLo b), s.rd (wg d w) (slotCurHi b)])
/-- The staged plan. -/
def State.slotNext (s : State) (d w : Nat) : List Nat :=
  (List.range 4).flatMap (fun b => [s.rd (wg d w) (R.SLOT_NEXT_LO_S.at b), s.rd (wg d w) (R.SLOT_NEXT_HI_S.at b)])

/-- The port limit of an engine code (R176, R177). -/
def slotLimit : Nat → Nat
  | 0 => 4 | 1 => 1 | 2 => 1 | 3 => 2 | 4 => 1 | 5 => 2 | 6 => 1 | _ => 4
/-- INBOUND holds a slot in bank `b` of a plan. -/
def inboundIn (p : List Nat) (b : Nat) : Bool := (List.range 16).any (fun i => planCode p b i == 6)
/-- Banks that window `c`'s lines touch. -/
def State.cwBanks (s : State) (d w c : Nat) : List Nat :=
  let base := s.rd (wg d w) (R.CW_BASE_BASE.at c)
  let len := s.rd (wg d w) (R.CW_LEN_LEN.at c)
  if len = 0 then [] else (List.range 4).filter (fun b => decide (base / 32768 ≤ b ∧ b ≤ (base + len - 1) / 32768))
/-- A window that is OPEN or RECLAIMING and touches a bank where the plan gives INBOUND no slot: bank and window. -/
def State.planConflict (s : State) (d w : Nat) (p : List Nat) : Option (Nat × Nat) :=
  ((List.range 16).flatMap (fun c => if s.rd (wg d w) (R.CW_SRC_STATE.at c) = 0 then []
    else (s.cwBanks d w c).map (fun b => (b, c)))).find? (fun x => !inboundIn p x.1)
/-- A reserved code in the plan: bank and slot (R179). -/
def planInvalid (p : List Nat) : Option (Nat × Nat) :=
  ((List.range 4).flatMap (fun b => (List.range 16).map (fun i => (b, i)))).find? (fun x => decide (8 ≤ planCode p x.1 x.2))
/-- An engine that owns a slot index in more banks than its port limit: engine and slot (R177). -/
def planOversub (p : List Nat) : Option (Nat × Nat) :=
  ((List.range 16).flatMap (fun i => (List.range 8).map (fun e => (e, i)))).find? (fun x =>
    decide (slotLimit x.1 < ((List.range 4).filter (fun b => planCode p b x.2 == x.1)).length))

/-- A plan is rejected: 2 OVERSUB, 3 INVALID, 4 CONFLICT, 5 STUCK, with what the status shows. -/
def State.slotReject (s : State) (d w status engine bank win slot : Nat) : State :=
  let b := wg d w
  let s := ((s.wr b R.SLOT_STAT_STATUS status).wr b R.SLOT_STAT_ENGINE engine).wr b R.SLOT_STAT_BANK bank
  let s := ((s.wr b R.SLOT_STAT_WIN win).wr b R.SLOT_STAT_SLOT slot).wr b R.SLOT_STAT_PEND 0
  ((s.wr b R.SLOT_CTRL_LOAD 0).modWing (wix d w) (fun x => { x with plan := none })).raise b R.RR_CAUSE_SLOT_REJ

/-- A write of 1 to SLOT_CTRL.LOAD: the plan is checked, and accepted or rejected (R179). -/
def State.slotLoad (s : State) (d w : Nat) : State :=
  let b := wg d w
  let p := s.slotNext d w
  match planInvalid p, planOversub p, s.planConflict d w p with
  | some x, _, _ => s.slotReject d w 3 0 x.1 0 x.2
  | none, some x, _ => s.slotReject d w 2 x.1 0 0 x.2
  | none, none, some x => s.slotReject d w 4 0 x.1 x.2 0
  | none, none, none =>
    let s := ((s.wr b R.SLOT_STAT_STATUS 1).wr b R.SLOT_STAT_ENGINE 0).wr b R.SLOT_STAT_BANK 0
    let s := ((s.wr b R.SLOT_STAT_WIN 0).wr b R.SLOT_STAT_SLOT 0).wr b R.SLOT_STAT_PEND 1
    (s.wr b R.SLOT_CTRL_LOAD 0).modWing (wix d w) (fun x => { x with plan := some p })

/-- SLOT_PLAN_LOAD (R179). -/
def execSlotPlanLoad (d : Fin 4) (w : Fin 8) (s : State) : Host.Outcome State Fault Refusal := done (s.slotLoad d w)
/-- SLOT_PLAN_APPLY: a frame without a conflicting request: the plan is in force, unless a window now conflicts
(R179, R214). -/
def execSlotPlanApply (d : Fin 4) (w : Fin 8) (s : State) : Host.Outcome State Fault Refusal :=
  done (match (s.wingx (wix d w)).plan with
  | none => s
  | some p =>
    match s.planConflict d w p with
    | some x => s.slotReject d w 4 0 x.1 x.2 0
    | none =>
      let s := (List.range 4).foldl (fun s b =>
        (s.wr (wg d w) (slotCurLo b) (p.getD (2 * b) 0)).wr (wg d w) (slotCurHi b) (p.getD (2 * b + 1) 0)) s
      (s.wr (wg d w) R.SLOT_STAT_PEND 0).modWing (wix d w) (fun x => { x with plan := none }))
/-- SLOT_PLAN_STUCK: 4,096 cycles without such a frame (R179). -/
def execSlotPlanStuck (d : Fin 4) (w : Fin 8) (s : State) : Host.Outcome State Fault Refusal :=
  done (if (s.wingx (wix d w)).plan.isSome then s.slotReject d w 5 0 0 0 0 else s)
/-- NOSLOT_TIMEOUT: a request has waited 4,096 cycles for a slot (R176). -/
def execNoslotTimeout (d : Fin 4) (w : Fin 8) (s : State) : Host.Outcome State Fault Refusal :=
  done (s.raise (wg d w) R.RR_CAUSE_NOSLOT)

/-- PATROL_SCRUB_READ of bank `b`: the next line in ascending order; `upset` are the words whose stored bits have
flipped since they were written. A word that fails parity is logged and the line poisoned (R190). -/
def execPatrolScrubRead (d : Fin 4) (w : Fin 8) (b : Fin 4) (upset : Nat) (s : State) :
    Host.Outcome State Fault Refusal :=
  if !(s.sdx d).up then done s else
  let i := Store.get 0 (s.wingx (wix d w)).patrol b
  let n := 32768 * b.val + i
  let k := rrLine d w n
  let s := { s with parity := Store.put 0 s.parity k (s.badWords k ^^^ (upset % 65536)) }
  let s := s.modWing (wix d w) (fun x => { x with patrol := Store.put 0 x.patrol b ((i + 1) % 32768) })
  done (if s.badWords k = 0 then s else (s.parityLog d w n 1 7).setPoison k true)

/-! ### Credit windows: the receiving wing -/

/-- CREDIT_GRANT of window `c` with the credits added (R192, R223). -/
def State.grantMsg (s : State) (d w c added : Nat) : Msg :=
  let b := wg d w
  ⟨0x11, s.rd b (R.CW_SRC_SRC_NODE.at c), s.rd b (R.CW_SRC_SRC_UNIT.at c), sdNode d, w,
   c * 2 ^ 28 + s.rd b (R.CW_SRC_EPOCH.at c) * 2 ^ 20 + s.rd b (R.CW_BASE_BASE.at c), s.rd b (R.CW_LEN_LEN.at c),
   toBytes 4 added, 0⟩

/-- CREDGRANT on window `c` (R192): the fault code, or none with the new state. -/
def State.cwGrant (s : State) (d w c node unit base len cred sem : Nat) : State × Option Nat :=
  let b := wg d w
  let st := s.rd b (R.CW_SRC_STATE.at c)
  let same := st = 1 ∧ s.rd b (R.CW_SRC_SRC_NODE.at c) = node ∧ s.rd b (R.CW_SRC_SRC_UNIT.at c) = unit ∧
    s.rd b (R.CW_BASE_BASE.at c) = base ∧ s.rd b (R.CW_LEN_LEN.at c) = len
  let had := if same then s.rd b (R.CW_CRED_CRED.at c) else 0
  let banks := if len = 0 then [] else (List.range 4).filter (fun k =>
    decide (base / 32768 ≤ k ∧ k ≤ (base + len - 1) / 32768))
  if st ≠ 0 ∧ ¬same then (s, some 0x28)
  else if 131072 < base + len then (s, some 0x12)
  else if banks.any (fun k => !inboundIn (s.slotCur d w) k) then (s, some 0x29)
  else if 0x3FFFF < had + cred then (s, some 0x2A)
  else
    let s := if same then s
      else
        let s := ((s.wr b (R.CW_SRC_STATE.at c) 1).wr b (R.CW_SRC_SRC_NODE.at c) node).wr b (R.CW_SRC_SRC_UNIT.at c) unit
        ((s.wr b (R.CW_SRC_SEM.at c) sem).wr b (R.CW_BASE_BASE.at c) base).wr b (R.CW_LEN_LEN.at c) len
    let s := s.wr b (R.CW_CRED_CRED.at c) (had + cred)
    (s.send (s.grantMsg d w c cred), none)

/-- CRED_LOG, count and cause of a drop or a reclaim timeout (R194, R197). -/
def State.credDrop (s : State) (d w kind win epoch src : Nat) (f : Fld) : State :=
  let b := wg d w
  ((s.capture b R.CRED_LOG_VALID.off 0 [(b, R.CRED_LOG_KIND, kind), (b, R.CRED_LOG_WIN, win),
    (b, R.CRED_LOG_EPOCH, epoch), (b, R.CRED_LOG_SRC, src)]).inc b R.RR_CNT_CRED_DROP).raise b f

/-- The checks of a WRITE at the inbound port: 1 STALE, 2 SENDER, 3 RANGE, 4 OVERRUN (R194). -/
def State.writeCheck (s : State) (d w : Nat) (m : Msg) : Option Nat :=
  let b := wg d w
  let c := bits m.m0 31 28
  let off := 4 * bits m.m1 20 0
  if s.rd b (R.CW_SRC_STATE.at c) = 0 ∨ s.rd b (R.CW_SRC_EPOCH.at c) ≠ bits m.m0 27 20 then some 1
  else if s.rd b (R.CW_SRC_SRC_NODE.at c) ≠ m.sn ∨ s.rd b (R.CW_SRC_SRC_UNIT.at c) ≠ m.su then some 2
  else if s.rd b (R.CW_LEN_LEN.at c) * 64 < off + m.data.length then some 3
  else if s.rd b (R.CW_CRED_CRED.at c) < linesOf off m.data.length then some 4
  else none

/-- WRITE_RECEIVE at wing `w`: the WRITE is dropped and logged, or accepted; its lines land in INBOUND slots. A
zero-length WRITE signals at acceptance (R194). -/
def execWriteReceive (d : Fin 4) (w : Fin 8) (s : State) : Host.Outcome State Fault Refusal :=
  done (match s.takeMsg (fun m => m.ty == 0x12 && m.dn == sdNode d && m.du == w.val) with
  | none => s
  | some (m, s) =>
    let c := bits m.m0 31 28
    match s.writeCheck d w m with
    | some kind => s.credDrop d w kind c (bits m.m0 27 20) (16 * m.sn + m.su) R.RR_CAUSE_CRED_DROP
    | none =>
      let cred := s.rd (wg d w) (R.CW_CRED_CRED.at c)
      let s := s.wr (wg d w) (R.CW_CRED_CRED.at c) (cred - linesOf (4 * bits m.m1 20 0) m.data.length)
      if m.data = [] then
        if bitOf m.m0 19 then s.semSignal (wsem d w (s.rd (wg d w) (R.CW_SRC_SEM.at c))) 1 else s
      else s.modWing (wix d w) (fun x => { x with landing := x.landing ++ [(c, m)] }))

/-- WRITE_LANDED: the last line of the oldest accepted WRITE takes effect, and SIG adds 1 to SEM (R194, R181). -/
def execWriteLanded (d : Fin 4) (w : Fin 8) (s : State) : Host.Outcome State Fault Refusal :=
  done (match (s.wingx (wix d w)).landing with
  | [] => s
  | (c, m) :: rest =>
    let s := s.modWing (wix d w) (fun x => { x with landing := rest })
    let base := s.rd (wg d w) (R.CW_BASE_BASE.at c)
    let s := s.rrStore d w (64 * base + 4 * bits m.m1 20 0) m.data (bitOf m.m0 18)
    if bitOf m.m0 19 then s.semSignal (wsem d w (s.rd (wg d w) (R.CW_SRC_SEM.at c))) 1 else s)

/-- CREQ_POP and CREQ_CNT.DEPTH show the request FIFO (R195). -/
def State.creqSync (s : State) (d w : Nat) : State :=
  let b := wg d w
  let q := (s.wingx (wix d w)).creq
  let h := q.headD (0, 0, 0)
  let s := ((s.wrb b R.CREQ_POP_VALID (!q.isEmpty)).wr b R.CREQ_POP_WIN h.1).wr b R.CREQ_POP_SRC h.2.1
  (s.wr b R.CREQ_POP_LINES h.2.2).wr b R.CREQ_CNT_DEPTH q.length

/-- CREDIT_REQ_RECEIVE (R195). -/
def execCreditReqReceive (d : Fin 4) (w : Fin 8) (s : State) : Host.Outcome State Fault Refusal :=
  done (match s.takeMsg (fun m => m.ty == 0x10 && m.dn == sdNode d && m.du == w.val) with
  | none => s
  | some (m, s) =>
    let b := wg d w
    if s.flag b R.CREQ_SEM_EN && decide ((s.wingx (wix d w)).creq.length < 16) then
      let s := s.modWing (wix d w) (fun x => { x with
        creq := x.creq ++ [(bits m.m0 31 28, 16 * m.sn + m.su, bits m.m0 17 0)] })
      (s.creqSync d w).semSignal (wsem d w (s.rd b R.CREQ_SEM_SEM)) 1
    else (s.inc b R.CREQ_CNT_DROPS).raise b R.RR_CAUSE_CREQ_DROP)

/-- A read of CREQ_POP removes the oldest request (R195). -/
def State.creqPop (s : State) (d w : Nat) : State × Nat :=
  let v := s.regRead (wg d w) wingRegs R.CREQ_POP_VALID.off
  ((s.modWing (wix d w) (fun x => { x with creq := x.creq.drop 1 })).creqSync d w, v)
/-- CREQ_POP_READ (R195). -/
def execCreqPopRead (d : Fin 4) (w : Fin 8) (s : State) : Host.Outcome State Fault Refusal :=
  let r := s.creqPop d w
  done { r.1 with rsp := .ok r.2 }

/-- CREDRECL on window `c` with its semaphore (R196). -/
def State.cwReclaim (s : State) (d w c sem : Nat) : State :=
  let b := wg d w
  let st := s.rd b (R.CW_SRC_STATE.at c)
  if st = 0 then s.semSignal (wsem d w sem) 1
  else if st = 1 then
    let s := (s.wr b (R.CW_SRC_STATE.at c) 2).modWing (wix d w) (fun x => { x with recl := Store.put none x.recl c (some { sem := sem }) })
    s.send ⟨0x13, s.rd b (R.CW_SRC_SRC_NODE.at c), s.rd b (R.CW_SRC_SRC_UNIT.at c), sdNode d, w,
      c * 2 ^ 28 + s.rd b (R.CW_SRC_EPOCH.at c) * 2 ^ 20, 0, [], 0⟩
  else s

/-- A reclaim completes (R196): FREE, the next epoch, no credits, and its semaphore is signalled. -/
def State.cwFree (s : State) (d w c : Nat) : State :=
  let b := wg d w
  let r := Store.get none (s.wingx (wix d w)).recl c
  let ep := s.rd b (R.CW_SRC_EPOCH.at c)
  let s := (s.clearRegs (b + 0x200 + 16 * c) (b + 0x210 + 16 * c)).wr b (R.CW_SRC_EPOCH.at c) (ep + 1)
  let s := s.modWing (wix d w) (fun x => { x with recl := Store.put none x.recl c none })
  match r with
  | some r => s.semSignal (wsem d w r.sem) 1
  | none => s

/-- RECLAIM_ACK_RECEIVE (R196); an ACK of an old epoch is dropped as STALE (R198). -/
def execReclaimAckReceive (d : Fin 4) (w : Fin 8) (s : State) : Host.Outcome State Fault Refusal :=
  done (match s.takeMsg (fun m => m.ty == 0x14 && m.dn == sdNode d && m.du == w.val) with
  | none => s
  | some (m, s) =>
    let c := bits m.m0 31 28
    if s.rd (wg d w) (R.CW_SRC_STATE.at c) = 2 ∧ s.rd (wg d w) (R.CW_SRC_EPOCH.at c) = bits m.m0 27 20 then
      s.modWing (wix d w) (fun x => { x with
        recl := Store.put none x.recl c ((Store.get none x.recl c).map (fun r => { r with acked := true })) })
    else s.credDrop d w 1 c (bits m.m0 27 20) (16 * m.sn + m.su) R.RR_CAUSE_CRED_DROP)

/-- RECLAIM_COMPLETE of window `c`: the ACK is in and every accepted WRITE has taken effect (R196). -/
def execReclaimComplete (d : Fin 4) (w : Fin 8) (c : Fin 16) (s : State) : Host.Outcome State Fault Refusal :=
  let x := s.wingx (wix d w)
  done (match Store.get none x.recl c with
  | some r => if r.acked && x.landing.all (fun p => p.1 != c.val) then s.cwFree d w c else s
  | none => s)

/-- RECLAIM_TIMEOUT of window `c`: 100,000 cycles without the ACK (R197). -/
def execReclaimTimeout (d : Fin 4) (w : Fin 8) (c : Fin 16) (s : State) : Host.Outcome State Fault Refusal :=
  let b := wg d w
  done (match Store.get none (s.wingx (wix d w)).recl c with
  | some r =>
    if r.acked then s
    else
      let src := 16 * s.rd b (R.CW_SRC_SRC_NODE.at c) + s.rd b (R.CW_SRC_SRC_UNIT.at c)
      (s.credDrop d w 5 c (s.rd b (R.CW_SRC_EPOCH.at c)) src R.RR_CAUSE_RECL_TMO).cwFree d w c
  | none => s)

/-! ### Credit records: the sender -/

/-- Key of a credit record: sender node and unit, receiver node and wing, window. -/
def ckey (sn su dn wing win : Nat) : Nat := ((((sn * 16 + su) * 16 + dn) * 8) + wing) * 16 + win
/-- A credit record. -/
def State.cred (s : State) (k : Nat) : Option CredRec := Store.get none s.creds k
/-- Writes a credit record. -/
def State.setCred (s : State) (k : Nat) (r : Option CredRec) : State := { s with creds := Store.put none s.creds k r }

/-- MV_CNT counts the lines that the move engine sends. -/
def State.mvCount (s : State) (m : Msg) : State :=
  if 4 ≤ m.sn ∧ m.org % 8 = 4 ∧ (m.ty = 0x12 ∨ m.ty = 0x08) then
    let b := wg (m.sn - 4) m.su
    s.wr b R.MV_CNT_LINES (s.rd b R.MV_CNT_LINES + (m.data.length + 63) / 64)
  else s

/-- A WRITE leaves when its record holds the credits it consumes, and takes the record's epoch with it (R193). -/
def State.trySend (s : State) (m : Msg) : Option State :=
  let k := ckey m.sn m.su m.dn m.du (bits m.m0 31 28)
  let n := linesOf (4 * bits m.m1 20 0) m.data.length
  match s.cred k with
  | some r =>
    if n ≤ r.credits then
      some (((s.setCred k (some { r with credits := r.credits - n, sent := r.sent + n })).mvCount m).send
        { m with m0 := putBits m.m0 27 20 r.epoch })
    else none
  | none => none
/-! ### KV pools -/

/-- Carrel `c` holds a reservation on die `d`: wing, BASE and COUNT in blocks (R202). -/
def State.kvEntry (s : State) (d c : Nat) : Option (Nat × Nat × Nat) :=
  let b := sd d
  if s.flag b (R.KV_TAB_VALID.at c) then
    some (s.rd b (R.KV_TAB_WING.at c), s.rd b (R.KV_TAB_BASE.at c), s.rd b (R.KV_TAB_COUNT.at c))
  else none
/-- Lines `lo` to `hi` of wing `w` lie in carrel `c`'s reservation (R206). -/
def State.kvCovers (s : State) (d c w lo hi : Nat) : Bool :=
  match s.kvEntry d c with
  | some (kw, base, cnt) => kw == w && decide (64 * base ≤ lo ∧ hi < 64 * (base + cnt) ∧ lo < 64 * (base + cnt) ∧ 64 * base ≤ hi)
  | none => false
/-- Two block ranges share a block. -/
def overlap (a n b m : Nat) : Bool := decide (0 < n ∧ 0 < m ∧ a < b + m ∧ b < a + n)

/-- The result of a KV command (R203): 1 OK, 0x10 NOSPACE, 0x11 OVERLAP, 0x12 EXISTS, 0x13 NONE, 0x14 INUSE. -/
def State.kvResult (s : State) (d op c w base cnt : Nat) : Nat :=
  let pb := s.rd (wg d w) R.KV_POOL_BASE
  let pc := s.rd (wg d w) R.KV_POOL_COUNT
  let wing := (List.range 256).filterMap (fun i => (s.kvEntry d i).filter (fun e => e.1 == w))
  if op = 1 then
    if !wing.isEmpty then 0x14 else if 2048 < base + cnt then 0x10 else 1
  else if op = 2 then
    if (s.kvEntry d c).isSome then 0x12
    else if base < pb ∨ pb + pc < base + cnt then 0x10
    else if wing.any (fun e => overlap base cnt e.2.1 e.2.2) then 0x11 else 1
  else if (s.kvEntry d c).isSome then 1 else 0x13

/-- KV_CMD with operation `op` (1 SETPOOL, 2 RESERVE, 3 RELEASE) and the arguments of KV_ARG (R203). -/
def State.kvCmd (s : State) (d op c : Nat) : State :=
  if op = 0 then s
  else
    let b := sd d
    let w := s.rd b R.KV_ARG_WING
    let base := s.rd b R.KV_ARG_BASE
    let cnt := s.rd b R.KV_ARG_COUNT
    let r := s.kvResult d op c w base cnt
    let s := (s.wr b R.KV_STAT_CARREL c).wr b R.KV_STAT_RESULT r
    if r ≠ 1 then s
    else if op = 1 then (s.wr (wg d w) R.KV_POOL_BASE base).wr (wg d w) R.KV_POOL_COUNT cnt
    else if op = 2 then
      let s := (s.wr b (R.KV_TAB_VALID.at c) 1).wr b (R.KV_TAB_WING.at c) w
      let s := (s.wr b (R.KV_TAB_BASE.at c) base).wr b (R.KV_TAB_COUNT.at c) cnt
      s.wr (wg d w) R.KV_USED_BLOCKS (s.rd (wg d w) R.KV_USED_BLOCKS + cnt)
    else
      let w := s.rd b (R.KV_TAB_WING.at c)
      let n := s.rd b (R.KV_TAB_COUNT.at c)
      let s := s.wr (wg d w) R.KV_USED_BLOCKS (s.rd (wg d w) R.KV_USED_BLOCKS - n)
      s.clearRegs (b + 0x800 + 4 * c) (b + 0x804 + 4 * c)

/-- A write of KV_CMD by die `n`; only the die that holds the accepted epoch may (R204). -/
def State.kvWrite (s : State) (n unit d op c : Nat) : State :=
  if s.rd (sd d) R.SD_EPOCH_NODE = cdNode n then { s.kvCmd d op c with rsp := .ok 0 }
  else { s.addrErr n 4 (unitCode n unit) true (logAddr n unit (0x20404 + 0x8000 * d) (sd d + 0x404)) with rsp := .error 4 }

/-- KV_SETPOOL: KV_ARG and KV_CMD written by unit `unit` of die `n` (R203, R204). -/
def execKvSetpool (n : Fin 2) (unit : Fin 16) (d : Fin 4) (s : State) : Host.Outcome State Fault Refusal :=
  done (s.kvWrite n unit d 1 0)
/-- KV_RESERVE for carrel `c` (R203, R204). -/
def execKvReserve (n : Fin 2) (unit : Fin 16) (d : Fin 4) (c : Fin 256) (s : State) :
    Host.Outcome State Fault Refusal := done (s.kvWrite n unit d 2 c)
/-- KV_RELEASE of carrel `c` (R203, R204, R213). -/
def execKvRelease (n : Fin 2) (unit : Fin 16) (d : Fin 4) (c : Fin 256) (s : State) :
    Host.Outcome State Fault Refusal := done (s.kvWrite n unit d 3 c)

/-- Whether the die answers a KVCHK with OK: the lines lie in the carrel's reservation (R240). -/
def State.kvchk (s : State) (d w : Nat) (m : Msg) : Bool :=
  let base := s.rd (wg d w) (R.CW_BASE_BASE.at (bits m.m0 31 28))
  s.kvCovers d (bits m.m0 27 20) w (base + bits m.m0 17 0) (base + bits m.m1 17 0)
/-- KVCHK_RECEIVE at wing `w` (R240). -/
def execKvchkReceive (d : Fin 4) (w : Fin 8) (s : State) : Host.Outcome State Fault Refusal :=
  done (match s.takeMsg (fun m => m.ty == 0x15 && m.dn == sdNode d && m.du == w.val) with
  | none => s
  | some (m, s) =>
    s.send ⟨0x16, m.sn, m.su, sdNode d, w, bits m.m0 27 20 * 2 ^ 20 + b2n (s.kvchk d w m), 0, [], 0⟩)

/-! ### The sweep of a wake -/

/-- What the end of a wake's sweep has reset on die `d` (R208, R82, R178, R175). -/
def State.rrSweep (s : State) (d : Nat) : State :=
  let s := s.clearMem (sdNode d * 2 ^ 36) (sdNode d * 2 ^ 36 + 2 ^ 26)
  let s := { s with poison := Store.clear s.poison (rrLine d 0 0) (rrLine (d + 1) 0 0),
                    parity := Store.clear s.parity (rrLine d 0 0) (rrLine (d + 1) 0 0),
                    sems := Store.clear s.sems (wsem d 0 0) (wsem (d + 1) 0 0) }
  let s := (List.range 8).foldl (fun s w =>
    (s.clearRegs (wg d w + 0x110) (wg d w + 0x300)).modWing (wix d w) (fun x =>
      { x with landing := [], creq := [], recl := [], plan := none, patrol := [] })) s
  (s.clearRegs (sd d + 0x400) (sd d + 0x410)).clearRegs (sd d + 0x800) (sd d + 0xC00)

end Sys2Proof.Machine
end

