-- ==== Sys2Proof/Machine/Catalogue.lean ====
section
/-! DEFINITION. The catalogue (chapter 11): queue records, doorbells, dispatch, completion records, carrels, and the
mirror of its changes on the standby die. -/

namespace Sys2Proof.Machine

/-! ### Queue records -/

/-- Device address of word `k` of queue `q`'s record in die `n`'s catalogue SRAM (R393). -/
def qAddr (n q k : Nat) : Nat := (n + 1) * 2 ^ 36 + 2 ^ 32 + 32 * q + 4 * k
/-- Word `k` of queue `q`'s record. -/
def State.qw (s : State) (n q k : Nat) : Nat := s.ldw (qAddr n q k) 4
/-- Bits `hi:lo` of word `k`. -/
def State.qf (s : State) (n q k hi lo : Nat) : Nat := bits (s.qw n q k) hi lo
/-- Die `n`'s changes reach the partner's mirror (R415, R416). -/
def State.mirOn (s : State) (n : Nat) : Bool := s.flag (cd n) R.MIRROR_STAT_VALID
/-- Writes word `k` of a record, on the mirror as well (R415). -/
def State.qwPut (s : State) (n q k v : Nat) : State :=
  let s' := s.stw (qAddr n q k) 4 v
  if s.mirOn n then s'.stw (qAddr (1 - n) q k) 4 v else s'
/-- Writes bits `hi:lo` of word `k`. -/
def State.qfPut (s : State) (n q k hi lo v : Nat) : State := s.qwPut n q k (putBits (s.qw n q k) hi lo v)

/-- Ring base of queue `q`, a device address (R393). -/
def State.qBase (s : State) (n q : Nat) : Nat := s.qf n q 1 7 0 * 2 ^ 32 + s.qf n q 0 31 6 * 64
/-- Entries of the ring; 0 where the queue is disabled. -/
def State.qSize (s : State) (n q : Nat) : Nat := if s.qf n q 1 12 8 = 0 then 0 else 2 ^ s.qf n q 1 12 8
def State.qProd (s : State) (n q : Nat) : Nat := s.qw n q 2
def State.qCons (s : State) (n q : Nat) : Nat := s.qw n q 3
/-- The queue is a completion queue; it is owned by the device. -/
def State.qIsCq (s : State) (n q : Nat) : Bool := bitOf (s.qw n q 1) 15
def State.qIsDev (s : State) (n q : Nat) : Bool := bitOf (s.qw n q 1) 14
/-- Free places of a completion queue (R394). -/
def State.qFree (s : State) (n q : Nat) : Nat := s.qSize n q - sub32 (s.qProd n q) (s.qCons n q) - s.qf n q 5 16 0

/-- Queues with a record that is not all zero, in ascending order; every other queue is disabled. -/
def State.qListed (s : State) (n : Nat) : List Nat :=
  ((s.mem.filter (fun c => decide (qAddr n 0 0 ≤ c.1 ∧ c.1 < qAddr n 0 0 + 2 ^ 22))).map
    (fun c => (c.1 - qAddr n 0 0) / 32)).dedup

/-- Writes a register field on die `n` and on its mirror (R415, R430). -/
def State.wrMir (s : State) (n : Nat) (f : Fld) (v : Nat) : State :=
  let s' := s.wr (cd n) f v
  if s.mirOn n then s'.wr (cd (1 - n)) f v else s'

/-- Sets a catalogue cause, on the mirror as well (R431, R680). -/
def State.raiseMirBit (s : State) (n : Nat) (f : Fld) (i : Nat) : State :=
  let s' := s.raiseBit (cd n) f i
  if s.mirOn n then s'.raiseBit (cd (1 - n)) f i else s'
def State.raiseMir (s : State) (n : Nat) (f : Fld) : State := s.raiseMirBit n f 0

/-- A write of ring memory at device address `a`, by a Commons master: none where the aperture does not serve. -/
def State.ringPut (s : State) (n master a : Nat) (data : List Byte) : Option State :=
  if a / 2 ^ 32 = 0 then some (s.comWrite n master (a % 2 ^ 24) data) else (s.bufKey n a).map (fun k => s.stn k data)
/-- A read of `len` bytes of ring memory. -/
def State.ringGet (s : State) (n master a len : Nat) : Option (State × List Byte) :=
  if a / 2 ^ 32 = 0 then let r := s.comRead n master (a % 2 ^ 24) len; some (r.1, r.2.1)
  else (s.bufKey n a).map (fun k => (s, s.ldn k len))

/-! ### What the registers show -/

/-- R402, for a queue whose head is not being read. -/
def State.qEligible (s : State) (n q : Nat) : Bool :=
  !s.qIsCq n q && decide (s.qSize n q ≠ 0) && s.qf n q 1 31 24 != 0 && !bitOf (s.qw n q 7) 17
    && s.qProd n q != s.qCons n q && !bitOf (s.qw n q 7) 19 && !bitOf (s.qw n q 7) 18
/-- The eligible queues of die `n`, in ascending order. -/
def State.qAllEligible (s : State) (n : Nat) : List Nat := (s.qListed n).filter (s.qEligible n)

/-- CAT_STAT and MIRROR_STAT.LAG follow the catalogue's state. -/
def State.catSync (s : State) (n : Nat) : State :=
  let el := (s.qAllEligible n).foldl (fun a q => a ||| 2 ^ s.qf n q 1 18 16) 0
  let run := (List.range 8).foldl (fun a k => a + (if s.flag (cd n) (R.SQ_RUNQ_VALID.at k) then 2 ^ k else 0)) 0
  (((s.wr (cd n) R.CAT_STAT_ELIGIBLE el).wr (cd n) R.CAT_STAT_RUNNING run).wr (cd n) R.CAT_STAT_HELD
    (min 64 (s.cdx n).heads.length)).wr (cd n) R.MIRROR_STAT_LAG (min 65535 (s.cdx n).mirQ.length)

/-- An error of queue `q` is logged with its cause: 1 FETCH, 2 RECWRITE, 3 DB_RANGE, 4 DB_OWNER, 5 DB_DISABLED,
6 BADCQ; all but BADCQ are shown in LAST_ERR (R401, R404, R409). -/
def State.catErr (s : State) (n kind q : Nat) : State :=
  let s := (s.capture (cd n) R.CAT_ERR_LOG_VALID.off 0 [(cd n, R.CAT_ERR_LOG_KIND, kind), (cd n, R.CAT_ERR_LOG_QUEUE, q)])
  let s := s.raiseMir n (if kind = 1 then R.CAT_CAUSE_FETCH else if kind = 2 then R.CAT_CAUSE_RECWRITE
    else if kind = 6 then R.CAT_CAUSE_SLIP else R.CAT_CAUSE_DOORBELL)
  if kind = 6 then s else s.qfPut n q 7 31 24 kind

/-- A mirrored change: it waits for the standby's acknowledgement, or nothing waits where there is no mirror
(R416, R420). -/
def State.mirror (s : State) (n : Nat) (a : MirAct) (go : State → State) : State :=
  if s.mirOn n then s.modCd n (fun x => { x with mirQ := x.mirQ ++ [a] }) else go s
/-- A mirrored change that no action waits for. -/
def State.mirrored (s : State) (n : Nat) : State := s.mirror n .other id

/-! ### Heads -/

/-- Waiter number of the head of queue `q`. -/
def headWaiter (n q : Nat) : Nat := 2 ^ 20 * (n + 1) + q
/-- The head of queue `q` held on chip. -/
def State.headOf (s : State) (n q : Nat) : Option Head := (s.cdx n).heads.find? (fun h => h.q == q)
/-- The held head is dropped, with its wait. -/
def State.dropHead (s : State) (n q : Nat) : State :=
  let s := { s with waitq := s.waitq.filter (fun w => w.2 != headWaiter n q) }
  s.modCd n (fun x => { x with heads := x.heads.filter (fun h => h.q != q) })
/-- A blocked head is kept: bit 18 BLK_SEM or 19 BLK_CQ of word 7 sets (R404). -/
def State.keepHead (s : State) (n q bit : Nat) (words : List Nat) (taken : Bool) : State :=
  (((s.dropHead n q).modCd n (fun x => { x with heads := x.heads ++ [⟨q, words, taken⟩] })).qfPut n q 7 bit bit 1)

/-- BLK_CQ clears for every held head whose completion queue `cq` has a free place (R402). -/
def State.unblockCq (s : State) (n cq : Nat) : State :=
  if s.qFree n cq = 0 then s
  else (s.cdx n).heads.foldl (fun s h =>
    if bits (h.words.getD 2 0) 16 0 = cq then s.qfPut n h.q 7 19 19 0 else s) s

/-! ### Completion -/

/-- The words of a completion record, PHASE 0 (R409). -/
def recWords (n : Nat) (x : Slip) (status fault ustat : Nat) (res : List Nat) (trap pc sq us : Nat) : List Nat :=
  [status * 2 ^ 16 + fault * 256 + ustat, x.q, x.tag * 2 ^ 16 + x.pos,
   res.length * 2 ^ 20 + n * 2 ^ 19 + sq * 2 ^ 16 + x.gen, trap * 2 ^ 16 + pc] ++ (res ++ List.replicate (4 - res.length) 0)
   ++ [us] ++ List.replicate 6 0

/-- Steps 2, 3 and 5 of R408 for a record of queue `cq`, with DONE_SEM in its place (R408, R409). -/
def State.recWrite (s : State) (n : Nat) (x : Slip) (words : List Nat) (signal : Bool) : State :=
  let s := match x.cq with
    | none => s
    | some cq =>
      let size := s.qSize n cq
      let prod := s.qProd n cq
      let phase := if size = 0 then 0 else (prod / size + 1) % 2
      let ws := (words.headD 0 + phase * 2 ^ 31) :: words.drop 1
      let a := s.qBase n cq + 64 * (prod % max size 1)
      let s := match s.ringPut n 1 a (ws.flatMap (toBytes 4)) with
        | some s => s
        | none => s.catErr n 2 cq
      let s := (s.qwPut n cq 2 ((prod + 1) % 2 ^ 32)).qfPut n cq 5 16 0 (s.qf n cq 5 16 0 - 1)
      s.qwPut n cq 6 ((s.qw n cq 6 + 1) % 2 ^ 32)
  let s := match x.doneSem, signal with
    | some k, true => s.semSignal (csem n k) 1
    | _, _ => s
  match x.cq with
  | none => s
  | some cq => if bitOf (s.qw n cq 1) 13 && decide (s.qf n cq 4 4 0 < 24) then s.raiseMirBit n R.CQ_CAUSE_CQ (s.qf n cq 4 4 0) else s

/-- A slip completes (R407, R408): its record is mirrored first, then written. -/
def State.slipComplete (s : State) (n : Nat) (x : Slip) (words : List Nat) : State :=
  if x.cq.isSome then s.mirror n (.record x words) (fun s => s.recWrite n x words true)
  else (s.recWrite n x words true).mirrored n

/-- CARREL_TAB.RUNNING of a slip's carrel. -/
def State.carrelRun (s : State) (n : Nat) (x : Slip) (up : Bool) : State :=
  match x.carrel with
  | some c =>
    let v := s.rd (cd n) (R.CARREL_TAB_RUNNING.at c)
    s.wrMir n (R.CARREL_TAB_RUNNING.at c) (if up then satAdd v 1 255 else v - 1)
  | none => s

/-- The slip running on sequencer `k`. -/
def State.runSlip (s : State) (n k : Nat) : Option Slip := Store.get none (s.cdx n).runs k
/-- Sets the running-slip entry of sequencer `k`, its registers and its mirror (R405, R415). -/
def State.setRun (s : State) (n k : Nat) (x : Option Slip) : State :=
  let s := s.modCd n (fun y => { y with runs := Store.put none y.runs k x })
  let s := if s.mirOn n then s.modCd (1 - n) (fun y => { y with mirRuns := Store.put none y.mirRuns k x }) else s
  match x with
  | some x => ((((s.wr (cd n) (R.SQ_RUNQ_VALID.at k) 1).wr (cd n) (R.SQ_RUNQ_QUEUE.at k) x.q).wr (cd n)
      (R.SQ_RUNP_GEN.at k) x.gen).wr (cd n) (R.SQ_RUNP_POS.at k) x.pos)
  | none => s.wr (cd n) (R.SQ_RUNQ_VALID.at k) 0

/-- The slip of sequencer `k` completes at CMPL or at the end of its program; without a running slip nothing
happens (R407). RUN_US is a time the model does not keep: a free value (notes/assumptions/4.md). -/
def State.runComplete (s : State) (n k status fault ustat : Nat) (res : List Nat) (trap pc : Nat) : State :=
  match s.runSlip n k with
  | none => s
  | some x =>
    let us := s.draw 32
    let s := (us.1.setRun n k none).carrelRun n x false
    s.slipComplete n x (recWords n x status fault ustat res trap pc k us.2)

/-! ### Doorbells and Q_CMD -/

/-- A doorbell write of `v` to queue `q` at die `n` (R401, R427). -/
def State.doorbell (s : State) (n q v : Nat) : State :=
  if !s.isActive n then s.inc (cd n) R.PAIR_CNT_ORPHAN
  else if s.qIsDev n q then s.catErr n 4 q
  else if s.qSize n q = 0 then s.catErr n 5 q
  else if s.qIsCq n q then
    if sub32 v (s.qCons n q) ≤ sub32 (s.qProd n q) (s.qCons n q) then
      ((s.qwPut n q 3 v).unblockCq n q).mirrored n
    else s.catErr n 3 q
  else if sub32 v (s.qCons n q) ≤ s.qSize n q ∧ sub32 v (s.qProd n q) ≤ s.qSize n q then
    (s.qwPut n q 2 v).mirrored n
  else s.catErr n 3 q

/-- DOORBELL_WRITE (R401). -/
def execDoorbellWrite (n : Fin 2) (q : Fin 131072) (v : Word) (s : State) : Host.Outcome State Fault Refusal :=
  done ((s.doorbell n q v.toNat).catSync n)

/-- INVALID of R395, for the six words of a record. -/
def qInvalid (w : List Nat) : Bool :=
  let w0 := w.getD 0 0
  let w1 := w.getD 1 0
  let w4 := w.getD 4 0
  let w5 := w.getD 5 0
  let sl := bits w1 12 8
  let size := if sl = 0 then 0 else 2 ^ sl
  let region := bits w1 3 0
  let off := bits w0 31 6 * 64
  bits w0 5 0 != 0 || bits w1 23 19 != 0 || (sl != 0 && decide (sl < 4 ∨ 16 < sl)) || bits w4 15 5 != 0
    || decide (24 ≤ bits w4 4 0) || bits w5 31 17 != 0
    || bits w1 7 4 != 0 || !(region == 0 || decide (4 ≤ region ∧ region ≤ 7))
    || decide ((if region = 0 then 2 ^ 24 else 2 ^ 32) < off + 64 * size)
    || (bitOf w1 15 && bitOf w1 14)
    || (!bitOf w1 15 && sl != 0 && decide (size < sub32 (w.getD 2 0) (w.getD 3 0)))
/-- LIVE of R395: the queue is live and the write changes more than WEIGHT, PRIO, INT_EN or INT_SEL. -/
def State.qLive (s : State) (n q : Nat) (w : List Nat) : Bool :=
  let mask1 := fun v => putBits (putBits (putBits v 31 24 0) 18 16 0) 13 13 0
  let mask4 := fun v => putBits v 4 0 0
  let same := (List.range 6).all (fun k => k == 1 || k == 4 || s.qw n q k == w.getD k 0)
  let only := same && mask1 (s.qw n q 1) == mask1 (w.getD 1 0) && mask4 (s.qw n q 4) == mask4 (w.getD 4 0)
  let off := same && putBits (s.qw n q 1) 12 8 0 == w.getD 1 0 && s.qw n q 4 == w.getD 4 0
  s.qSize n q != 0 && !only && !(off && !(s.qIsCq n q && s.qf n q 5 16 0 != 0))

/-- Q_CMD OP WRITE (R395, R396, R425). -/
def State.qWrite (s : State) (n : Nat) : State :=
  let q := s.rd (cd n) R.Q_SEL_QUEUE
  let w := (List.range 6).map (fun k => s.rd (cd n) (R.Q_DATA_WORD.at k))
  if s.flag (cd n) R.Q_RES_BUSY then s
  else if qInvalid w then s.wr (cd n) R.Q_RES_RESULT 0x10
  else if s.qLive n q w then s.wr (cd n) R.Q_RES_RESULT 0x11
  else
    let s := (List.range 6).foldl (fun s k => s.qwPut n q k (w.getD k 0)) s
    let s := (s.qwPut n q 6 0).qwPut n q 7 0
    let s := if s.qSize n q = 0 then
        (s.dropHead n q).modCd n (fun x => { x with
          sels := x.sels.filter (· != q), cancels := x.cancels.filter (fun c => c.1 != q) })
      else s
    if s.mirOn n then (s.wr (cd n) R.Q_RES_BUSY 1).mirror n (.qcmd 1) id else s.wr (cd n) R.Q_RES_RESULT 1
/-- Q_CMD OP READ (R395). -/
def State.qRead (s : State) (n : Nat) : State :=
  let q := s.rd (cd n) R.Q_SEL_QUEUE
  if s.flag (cd n) R.Q_RES_BUSY then s
  else
    ((List.range 8).foldl (fun s k => s.wr (cd n) (R.Q_DATA_WORD.at k) (s.qw n q k)) s).wr (cd n) R.Q_RES_RESULT 1

/-- Q_CMD_READ (R395). -/
def execQCmdRead (n : Fin 2) (s : State) : Host.Outcome State Fault Refusal := done (s.qRead n)
/-- Q_CMD_WRITE (R395). -/
def execQCmdWrite (n : Fin 2) (s : State) : Host.Outcome State Fault Refusal := done ((s.qWrite n).catSync n)

/-! ### Dispatch -/

/-- Sequencer `k` is idle and named in SQ_EN. -/
def State.sqFree (s : State) (n k : Nat) : Bool :=
  bitOf (s.rd (cd n) R.CAT_CTRL_SQ_EN) k && s.agState (sqix n k) == 0
/-- The lowest such sequencer. -/
def State.idleSq (s : State) (n : Nat) : Option Nat := (List.range 8).find? (s.sqFree n)

/-- The queue R403 selects: its class and number. -/
def State.qPick (s : State) (n : Nat) : Option (Nat × Nat) :=
  let el := (s.qAllEligible n).filter (fun q => !(s.cdx n).sels.contains q)
  let cls := fun q => s.qf n q 1 18 16
  match el with
  | [] => none
  | _ =>
    let c := el.foldl (fun a q => max a (cls q)) 0
    let l := el.filter (fun q => cls q == c)
    match Store.get none (s.cdx n).rr c with
    | some (cur, served) =>
      if l.contains cur && decide (served < s.qf n cur 1 31 24) then some (c, cur)
      else (((l.find? (fun q => decide (cur < q))).orElse (fun _ => l.head?)).map (fun q => (c, q)))
    | none => l.head?.map (fun q => (c, q))

/-- Die `n` dispatches: it is active with CAT_CTRL.DISPATCH_EN, not in DOZE, and no planned handover waits (R62, R403,
R439). -/
def State.dispatchOn (s : State) (n : Nat) : Bool :=
  s.isActive n && s.flag (cd n) R.CAT_CTRL_DISPATCH_EN && s.rd (cd n) R.PWR_STATE_CUR != 3 && !(s.cdx n).handover

/-- QUEUE_SELECT: the arbiter takes an eligible queue, and its head is read (R403). -/
def execQueueSelect (n : Fin 2) (s : State) : Host.Outcome State Fault Refusal :=
  done (if s.dispatchOn n && (s.idleSq n).isSome then
    match s.qPick n with
    | some (c, q) => s.modCd n (fun x => { x with
        sels := x.sels ++ [q],
        rr := match Store.get none x.rr c with
          | some (cur, served) => if cur = q ∧ served < s.qf n q 1 31 24 then x.rr else Store.put none x.rr c (some (q, 0))
          | none => Store.put none x.rr c (some (q, 0)) })
    | none => s
  else s)

/-- The outcome of a head slip (R404): 0 RUN, 3 CANCELLED, 4 STALEGEN, 5 BADSLIP, 6 NOCARREL. -/
def State.slipOutcome (s : State) (n q : Nat) (w : List Nat) : Nat :=
  let w0 := w.getD 0 0
  let w3 := w.getD 3 0
  let w4 := w.getD 4 0
  if bitOf w0 31 then 3
  else if bits (w.getD 1 0) 31 16 ≠ s.qf n q 4 31 16 then 4
  else if bits w0 30 25 ≠ 0 ∨ bits w0 15 10 ≠ 0 ∨ bits (w.getD 2 0) 30 17 ≠ 0 ∨ bits w3 30 29 ≠ 0 ∨ bits w3 14 13 ≠ 0
    ∨ bits w4 31 4 ≠ 0 ∨ 11 < bits w4 3 0 then 5
  else if bitOf w0 24 && !s.flag (cd n) (R.CARREL_TAB_ADMITTED.at (bits w0 23 16)) then 6
  else 0

/-- The slip that a head's words describe. -/
def slipOf (q pos : Nat) (w : List Nat) (cq : Option Nat) : Slip :=
  let w0 := w.getD 0 0
  let w3 := w.getD 3 0
  { q := q, pos := pos, gen := bits (w.getD 1 0) 31 16, tag := bits (w.getD 1 0) 15 0,
    carrel := if bitOf w0 24 then some (bits w0 23 16) else none, prog := bits w0 9 0,
    args := (List.range 11).map (fun i => if i < bits (w.getD 4 0) 3 0 then w.getD (5 + i) 0 else 0),
    cq := cq, doneSem := if bitOf w3 15 then some (bits w3 12 0) else none }

/-- Steps 4 and 5 of R404: CONS and SERVED advance; the slip is dispatched or completes. -/
def State.headTake (s : State) (n q : Nat) (w : List Nat) (out : Nat) (cq : Option Nat) : State :=
  let pos := s.qCons n q % max (s.qSize n q) 1
  let c := s.qf n q 1 18 16
  let s := (s.qwPut n q 3 ((s.qCons n q + 1) % 2 ^ 32)).qwPut n q 6 ((s.qw n q 6 + 1) % 2 ^ 32)
  let s := (s.dropHead n q).modCd n (fun x => { x with
    cancels := x.cancels.filter (· != (q, pos)),
    rr := match Store.get none x.rr c with
      | some (cur, served) => if cur = q then Store.put none x.rr c (some (cur, served + 1)) else x.rr
      | none => x.rr })
  let x := slipOf q pos w cq
  if out = 0 then s.mirror n (.dispatch x) (fun s => s.modCd n (fun y => { y with disp := y.disp ++ [x] }))
  else s.slipComplete n x (recWords n x out 0 0 [] 0 0 0 0)

/-- Step 3 of R404: a place in the completion queue. -/
def State.headPlace (s : State) (n q : Nat) (w : List Nat) (out : Nat) (taken : Bool) : State :=
  let cq := bits (w.getD 2 0) 16 0
  if bitOf (w.getD 2 0) 31 then s.headTake n q w out none
  else if !s.qIsCq n cq ∨ s.qSize n cq = 0 then (s.catErr n 6 cq).headTake n q w out none
  else if s.qFree n cq = 0 then s.keepHead n q 19 w taken
  else (s.qfPut n cq 5 16 0 (s.qf n cq 5 16 0 + 1)).headTake n q w out (some cq)

/-- The steps of R404 on a head slip; `taken` where WAIT_SEM has been subtracted. -/
def State.headStep (s : State) (n q : Nat) (w : List Nat) (taken : Bool) : State :=
  let out := s.slipOutcome n q w
  let w3 := w.getD 3 0
  if out = 0 ∧ bitOf w3 31 ∧ !taken then
    let k := csem n (bits w3 28 16)
    if s.waitq.any (fun x => x.1 == k) || Store.get 0 s.sems k == 0 then
      let s := s.keepHead n q 18 w false
      { s with waitq := s.waitq ++ [(k, headWaiter n q)] }
    else { s with sems := Store.put 0 s.sems k (Store.get 0 s.sems k - 1) }.headPlace n q w out true
  else s.headPlace n q w out taken

/-- The sixteen words of a slip. -/
def slipWords (l : List Byte) : List Nat := (List.range 16).map (fun i => fromBytes ((l.drop (4 * i)).take 4))

/-- HEAD_SLIP_ARRIVE: the head read of the queue selected first completes. `words` is the slip for a host-owned
ring in host memory, which the host has stored there, `err` an error of a host read; a head kept on chip is taken up
again (R363, R404, R409). -/
def execHeadSlipArrive (n : Fin 2) (err : Bool) (words : List Nat) (s : State) : Host.Outcome State Fault Refusal :=
  done (match (s.cdx n).sels with
  | [] => s
  | q :: rest =>
    let s := s.modCd n (fun x => { x with sels := rest })
    let pos := s.qCons n q % max (s.qSize n q) 1
    let cancel := (s.cdx n).cancels.contains (q, pos)
    let mark := fun (w : List Nat) => if cancel then putBit (w.headD 0) 31 true :: w.drop 1 else w
    match s.headOf n q with
    | some h => (s.headStep n q (mark h.words) h.semTaken).catSync n
    | none =>
      let base := s.qBase n q + 64 * pos
      let host := decide (base / 2 ^ 32 ≠ 0)
      match (if host && err then none else s.ringGet n 1 base 64) with
      | some (s, l) => (s.headStep n q (mark (if host && !s.qIsDev n q then words else slipWords l)) false).catSync n
      | none => ((s.qfPut n q 7 17 17 1).catErr n 1 q).catSync n)

/-- A program starts on sequencer `k` with every register 0 (R258). -/
def State.sqFresh (s : State) (n k : Nat) : State :=
  let a := sqix n k
  let old := s.agent a
  let s := s.modAgent a (fun _ => { prog := true, orders := old.orders })
  (((s.wr (cd n) (R.SQ_ESTAT_ESTAT.at k) 0).wr (cd n) (R.SQ_DEPTH_LOOPS.at k) 0).wr (cd n) (R.SQ_CALLS_CALLS.at k) 0).wr
    (cd n) (R.SQ_STAT_STOPREQ.at k) 0
/-- Device address of word `w` of sequencer memory `k` counted in 32-bit words (R254). -/
def sqMem (n k w : Nat) : Nat := (n + 1) * 2 ^ 36 + 2 * 2 ^ 32 + k * 0x10000 + 4 * w

/-- The slip is loaded into sequencer `k` (R405); a program without a valid directory entry traps with NOPROG. -/
def State.slipLoad (s : State) (n k : Nat) (x : Slip) : State :=
  let a := sqix n k
  let e := s.ldw (sqMem n k x.prog) 4
  let s := (s.sqFresh n k).setRun n k (some x) |>.carrelRun n x true
  let s := (x.args.zipIdx).foldl (fun s p => s.sW a (p.2 + 1) (BitVec.ofNat 32 p.1)) s
  let s := ((s.sW a 28 (BitVec.ofNat 32 x.tag)).sW a 30 (BitVec.ofNat 32 x.q)).sW a 31 (BitVec.ofNat 32 x.pos)
  let s := s.sW a 29 (BitVec.ofNat 32 (match x.carrel with
    | some c => s.rd (cd n) (R.CARREL_TAB_WING.at c) * 256 + c
    | none => 2 ^ 31))
  let s := (s.setPc a (bits e 12 0)).setAgState a 1
  if bitOf e 31 then s else s.trap a 6

/-- SLIP_DISPATCH: the first acknowledged slip goes to the lowest idle sequencer (R405, R420). -/
def execSlipDispatch (n : Fin 2) (s : State) : Host.Outcome State Fault Refusal :=
  done (match (s.cdx n).disp, s.idleSq n with
  | x :: rest, some k =>
    if s.dispatchOn n then ((s.modCd n (fun y => { y with disp := rest })).slipLoad n k x).catSync n else s
  | _, _ => s)

/-- What waited for the acknowledgement goes on (R420). -/
def State.mirGo (s : State) (n : Nat) (a : MirAct) : State :=
  match a with
  | .dispatch x => s.modCd n (fun y => { y with disp := y.disp ++ [x] })
  | .record x w => s.recWrite n x w true
  | .qcmd r => (s.wr (cd n) R.Q_RES_BUSY 0).wr (cd n) R.Q_RES_RESULT r
  | .carrel d k r => (((s.wr (cd n) R.CARREL_STAT_BUSY 0).wr (cd n) R.CARREL_STAT_DIE d).wr (cd n)
      R.CARREL_STAT_KVRES k).wr (cd n) R.CARREL_STAT_RESULT r
  | .other => s
/-- MIRROR_ACK_RECEIVE: the oldest mirrored change is acknowledged (R420). -/
def execMirrorAckReceive (n : Fin 2) (s : State) : Host.Outcome State Fault Refusal :=
  done (match (s.cdx n).mirQ with
  | [] => s
  | a :: rest => ((s.modCd n (fun x => { x with mirQ := rest })).mirGo n a).catSync n)
/-- Without a mirror nothing waits (R416). -/
def State.mirFlush (s : State) (n : Nat) : State :=
  let l := (s.cdx n).mirQ
  (l.foldl (fun s a => s.mirGo n a) (s.modCd n (fun x => { x with mirQ := [] }))).catSync n

/-! ### Carrels -/

/-- A KV command to Stack die `d` with its arguments (R412). -/
def State.kvDo (s : State) (d op c w base cnt : Nat) : State :=
  (((s.wr (sd d) R.KV_ARG_WING w).wr (sd d) R.KV_ARG_BASE base).wr (sd d) R.KV_ARG_COUNT cnt).kvCmd d op c
/-- The reservations of CREATE, die by die: the die and result that refused (R412). -/
def State.carrelReserve (s : State) (n c w : Nat) : Nat → Nat → State × Option (Nat × Nat)
  | 0, _ => (s, none)
  | k + 1, d =>
    let s := s.kvDo d 2 c w (s.rd (cd n) (R.CARREL_ARG_BASE.at d)) (s.rd (cd n) (R.CARREL_ARG_COUNT.at d))
    let r := s.rd (sd d) R.KV_STAT_RESULT
    if r = 1 then s.carrelReserve n c w k (d + 1)
    else ((List.range d).foldl (fun s e => s.kvCmd e 3 c) s, some (d, r))

/-- The result of a CARREL_CMD is reported once its mirrored change is acknowledged (R420). -/
def State.carrelEnd (s : State) (n c d k r : Nat) (changed : Bool) : State :=
  let s := s.wr (cd n) R.CARREL_STAT_CARREL c
  if changed ∧ s.mirOn n then (s.wr (cd n) R.CARREL_STAT_BUSY 1).mirror n (.carrel d k r) id
  else s.mirGo n (.carrel d k r)

/-- CARREL_CMD with OP CREATE (R412): 1 OK, 2 EXISTS, 3 REFUSED, 4 ABSENT. -/
def State.carrelCreate (s : State) (n c w : Nat) : State :=
  if !s.isActive n || s.flag (cd n) R.CARREL_STAT_BUSY then s
  else if s.flag (cd n) (R.CARREL_TAB_ADMITTED.at c) then s.carrelEnd n c 0 0 2 false
  else if (List.range 4).any (fun d => !s.inService n (2 + d)) then s.carrelEnd n c 0 0 4 false
  else
    match s.carrelReserve n c w 4 0 with
    | (s, some (d, r)) => s.carrelEnd n c d r 3 false
    | (s, none) =>
      ((s.wrMir n (R.CARREL_TAB_ADMITTED.at c) 1).wrMir n (R.CARREL_TAB_WING.at c) w).carrelEnd n c 0 0 1 true
/-- CARREL_CMD with OP RELEASE (R413): 1 OK, 5 NONE. -/
def State.carrelRelease (s : State) (n c : Nat) : State :=
  if !s.isActive n || s.flag (cd n) R.CARREL_STAT_BUSY then s
  else if !s.flag (cd n) (R.CARREL_TAB_ADMITTED.at c) then s.carrelEnd n c 0 0 5 false
  else
    let s := (List.range 4).foldl (fun s d => if s.inService n (2 + d) then s.kvCmd d 3 c else s) s
    ((s.wrMir n (R.CARREL_TAB_ADMITTED.at c) 0).wrMir n (R.CARREL_TAB_WING.at c) 0).carrelEnd n c 0 0 1 true

/-- CARREL_CREATE of carrel `c` with home wing `w` (R412). -/
def execCarrelCreate (n : Fin 2) (c : Fin 256) (w : Fin 8) (s : State) : Host.Outcome State Fault Refusal :=
  done ((s.carrelCreate n c w).catSync n)
/-- CARREL_RELEASE of carrel `c` (R413). -/
def execCarrelRelease (n : Fin 2) (c : Fin 256) (s : State) : Host.Outcome State Fault Refusal :=
  done ((s.carrelRelease n c).catSync n)

/-! ### Rings in Commons at a wake or takeover -/

/-- Queues whose ring lies in Commons restart: PROD, CONS and RSV 0, GEN one higher (R421, R83). -/
def State.ringsReset (s : State) (n : Nat) : State :=
  (s.qListed n).foldl (fun s q =>
    if s.qf n q 1 3 0 = 0 ∧ s.qSize n q ≠ 0 then
      let s := ((s.qwPut n q 2 0).qwPut n q 3 0).qfPut n q 5 16 0 0
      s.qfPut n q 4 31 16 ((s.qf n q 4 31 16 + 1) % 65536)
    else s) s

/-- A new active die's catalogue starts (R421): mirrored records are rewritten, running slips are recorded
ABANDONED without DONE_SEM, rings in Commons restart. `recs` are the records mirrored but not known written. -/
def State.catTakeover (s : State) (n : Nat) (recs : List (Slip × List Nat)) : State :=
  let inCom := fun (s : State) (x : Slip) => match x.cq with
    | some cq => decide (s.qf n cq 1 3 0 = 0)
    | none => true
  let s := recs.foldl (fun s r => if inCom s r.1 then s else s.recWrite n r.1 r.2 false) s
  let s := (s.cdx n).mirRuns.foldl (fun s e => match e.2 with
    | some x =>
      let us := s.draw 32
      if inCom us.1 x then us.1 else us.1.recWrite n x (recWords n x 7 0 0 [] 0 0 (e.1 % 8) us.2) false
    | none => s) s
  let s := s.modCd n (fun x => { x with mirRuns := [], sels := [], heads := [], disp := [] })
  let s := { s with waitq := s.waitq.filter (fun w => decide (w.2 < 2 ^ 20 * (n + 1) ∨ 2 ^ 20 * (n + 2) ≤ w.2)) }
  ((s.qListed n).foldl (fun s q => (s.qfPut n q 7 19 18 0)) s).ringsReset n |>.catSync n

end Sys2Proof.Machine
end

