-- ==== Sys2Proof/Machine/Crypto.lean ====
section
/-! DEFINITION. The algorithms that chapters 3, 7 and 16 name by their standards: SHA-256 and SHA-384 (FIPS 180-4),
HMAC (FIPS 198-1), the KDF of SP 800-108 (R607), AES-256-GCM (FIPS 197, SP 800-38D), and ECDSA and ECDH on P-256
(FIPS 186-5, SP 800-56A). The standards' text is not in the spec; notes/assumptions/31.md. -/

namespace Sys2Proof.Machine

/-- A big-endian number. -/
def fromBE (l : List Byte) : Nat := l.foldl (fun a b => 256 * a + b.toNat) 0
/-- The `n` big-endian bytes of a number. -/
def toBE (n x : Nat) : List Byte := (toBytes n x).reverse
/-- Blocks of `n` bytes; `k` blocks at most. -/
def chunksOf (n : Nat) : Nat → List Byte → List (List Byte)
  | 0, _ => []
  | _, [] => []
  | k + 1, l => l.take n :: chunksOf n k (l.drop n)
/-- The exclusive or of two byte strings. -/
def xorBytes (a b : List Byte) : List Byte := a.zipWith (· ^^^ ·) b

/-! ### SHA-2 -/

/-- The first 80 prime numbers. -/
def primes80 : List Nat := [
  2, 3, 5, 7, 11, 13, 17, 19, 23, 29, 31, 37, 41, 43, 47, 53, 59, 61, 67, 71, 73, 79, 83, 89, 97, 101, 103, 107, 109, 113,
  127, 131, 137, 139, 149, 151, 157, 163, 167, 173, 179, 181, 191, 193, 197, 199, 211, 223, 227, 229, 233, 239, 241, 251,
  257, 263, 269, 271, 277, 281, 283, 293, 307, 311, 313, 317, 331, 337, 347, 349, 353, 359, 367, 373, 379, 383, 389, 397,
  401, 409]
/-- The integer cube root of a number below 2^216. -/
def cbrt (x : Nat) : Nat :=
  (List.range 72).foldl (fun r i => if (r + 2 ^ (71 - i)) ^ 3 ≤ x then r + 2 ^ (71 - i) else r) 0

/-- A hash of the SHA-2 family on words of `w` bits: rounds, rotations, initial value. -/
structure Sha (w : Nat) where
  k : List (BitVec w)
  big0 : Nat × Nat × Nat
  big1 : Nat × Nat × Nat
  small0 : Nat × Nat × Nat
  small1 : Nat × Nat × Nat
  init : List (BitVec w)

/-- The round constants: fractions of cube roots of primes. -/
def shaK (w rounds : Nat) : List (BitVec w) := (primes80.take rounds).map (fun p => BitVec.ofNat w (cbrt (p * 2 ^ (3 * w))))
/-- SHA-256. -/
def sha256P : Sha 32 :=
  { k := shaK 32 64, big0 := (2, 13, 22), big1 := (6, 11, 25), small0 := (7, 18, 3), small1 := (17, 19, 10),
    init := (primes80.take 8).map (fun p => BitVec.ofNat 32 (Nat.sqrt (p * 2 ^ 64))) }
/-- SHA-384. -/
def sha384P : Sha 64 :=
  { k := shaK 64 80, big0 := (28, 34, 39), big1 := (14, 18, 41), small0 := (1, 8, 7), small1 := (19, 61, 6),
    init := ((primes80.drop 8).take 8).map (fun p => BitVec.ofNat 64 (Nat.sqrt (p * 2 ^ 128))) }

def rot3 {w : Nat} (r : Nat × Nat × Nat) (x : BitVec w) : BitVec w :=
  x.rotateRight r.1 ^^^ x.rotateRight r.2.1 ^^^ x.rotateRight r.2.2
def rotShift {w : Nat} (r : Nat × Nat × Nat) (x : BitVec w) : BitVec w :=
  x.rotateRight r.1 ^^^ x.rotateRight r.2.1 ^^^ (x >>> r.2.2)
/-- The message schedule, newest word first: sixteen words are given, `n` more are computed. -/
def shaSched {w : Nat} (p : Sha w) : Nat → List (BitVec w) → List (BitVec w)
  | 0, l => l
  | n + 1, l =>
    shaSched p n ((rotShift p.small1 (l.getD 1 0) + l.getD 6 0 + rotShift p.small0 (l.getD 14 0) + l.getD 15 0) :: l)
/-- One round on a, b, c, d, e, f, g, h. -/
def shaRound {w : Nat} (p : Sha w) (s : List (BitVec w)) (x : BitVec w × BitVec w) : List (BitVec w) :=
  match s with
  | [a, b, c, d, e, f, g, h] =>
    let t1 := h + rot3 p.big1 e + ((e &&& f) ^^^ (~~~e &&& g)) + x.1 + x.2
    let t2 := rot3 p.big0 a + ((a &&& b) ^^^ (a &&& c) ^^^ (b &&& c))
    [t1 + t2, a, b, c, d + t1, e, f, g]
  | l => l
/-- One block. -/
def shaBlock {w : Nat} (p : Sha w) (hs : List (BitVec w)) (block : List Byte) : List (BitVec w) :=
  let ws := (chunksOf (w / 8) 16 block).map (fun b => BitVec.ofNat w (fromBE b))
  let sched := (shaSched p (p.k.length - 16) ws.reverse).reverse
  hs.zipWith (· + ·) ((p.k.zip sched).foldl (shaRound p) hs)
/-- The digest, `n` bytes of it. -/
def shaHash {w : Nat} (p : Sha w) (n : Nat) (msg : List Byte) : List Byte :=
  let blk := 2 * w
  let lenB := w / 4
  let zeros := (blk - (msg.length + 1 + lenB) % blk) % blk
  let m := msg ++ 0x80#8 :: List.replicate zeros 0 ++ toBE lenB (8 * msg.length)
  let hs := (chunksOf blk (m.length / blk + 1) m).foldl (shaBlock p) p.init
  (hs.flatMap (fun x => toBE (w / 8) x.toNat)).take n
def sha256 (msg : List Byte) : List Byte := shaHash sha256P 32 msg
def sha384 (msg : List Byte) : List Byte := shaHash sha384P 48 msg

/-- HMAC-SHA-256. -/
def hmac (key msg : List Byte) : List Byte :=
  let k := if 64 < key.length then sha256 key else key
  let k := k ++ List.replicate (64 - k.length) 0
  sha256 (k.map (· ^^^ 0x5C) ++ sha256 (k.map (· ^^^ 0x36) ++ msg))
/-- KDF(K, label, context, L) of R607, with `n` bytes of output. -/
def kdf (key : List Byte) (label : List Nat) (ctx : List Byte) (n : Nat) : List Byte :=
  ((List.range ((n + 31) / 32)).flatMap (fun i =>
    hmac key (toBE 4 (i + 1) ++ label.map (BitVec.ofNat 8) ++ 0#8 :: ctx ++ toBE 4 (8 * n)))).take n

/-! ### AES-256-GCM -/

/-- Doubling in GF(2^8). -/
def xtime (a : Nat) : Nat := if 128 ≤ a then (2 * a) ^^^ 0x11B else 2 * a
/-- The product in GF(2^8). -/
def gmul (a b : Nat) : Nat :=
  ((List.range 8).foldl (fun (r : Nat × Nat) i => (if bitOf b i then r.1 ^^^ r.2 else r.1, xtime r.2)) (0, a)).1
/-- One entry of the S-box: the inverse a^254, then the affine map. -/
def sboxOf (a : Nat) : Nat :=
  let i := (List.range 7).foldl (fun (r : Nat × Nat) _ => let q := gmul r.2 r.2; (gmul r.1 q, q)) (1, a)
  let rotl := fun (x k : Nat) => (x * 2 ^ k) % 256 + x / 2 ^ (8 - k)
  let x := i.1
  x ^^^ rotl x 1 ^^^ rotl x 2 ^^^ rotl x 3 ^^^ rotl x 4 ^^^ 0x63
/-- The S-box. -/
def sbox : List Nat := (List.range 256).map sboxOf
def subByte (b : Byte) : Byte := BitVec.ofNat 8 (sbox.getD b.toNat 0)

/-- The key schedule of AES-256, newest word first: `n` words more, the next being number `i`. -/
def aesExpand : Nat → Nat → Nat → List (List Byte) → List (List Byte)
  | 0, _, _, l => l
  | n + 1, i, rcon, l =>
    let t := l.headD []
    let t := if i % 8 = 0 then
        match (t.drop 1 ++ t.take 1).map subByte with
        | x :: r => (x ^^^ BitVec.ofNat 8 rcon) :: r
        | [] => []
      else if i % 8 = 4 then t.map subByte else t
    aesExpand n (i + 1) (if i % 8 = 0 then xtime rcon else rcon) (xorBytes (l.getD 7 []) t :: l)
/-- The fifteen round keys. -/
def aesKeys (key : List Byte) : List (List Byte) :=
  chunksOf 16 15 ((aesExpand 52 8 1 (chunksOf 4 8 key).reverse).reverse.flatten)
/-- Row i of the state turns by i places; the state is column by column. -/
def shiftRows (s : List Byte) : List Byte := (List.range 16).map (fun i => s.getD ((i + 4 * (i % 4)) % 16) 0)
def mixColumn : List Byte → List Byte
  | [a, b, c, d] =>
    let m := fun (w x y z : Byte) => BitVec.ofNat 8 (gmul w.toNat 2 ^^^ gmul x.toNat 3 ^^^ y.toNat ^^^ z.toNat)
    [m a b c d, m b c d a, m c d a b, m d a b c]
  | l => l
/-- AES-256 of one block under expanded keys. -/
def aesBlock (ks : List (List Byte)) (b : List Byte) : List Byte :=
  let s := xorBytes b (ks.headD [])
  let s := ((ks.drop 1).take 13).foldl (fun s k =>
    xorBytes ((chunksOf 4 4 (shiftRows (s.map subByte))).flatMap mixColumn) k) s
  xorBytes (shiftRows (s.map subByte)) (ks.getD 14 [])

/-- The product in GF(2^128) of GHASH. -/
def ghMul (x y : Nat) : Nat :=
  ((List.range 128).foldl (fun (r : Nat × Nat) i =>
    (if bitOf x (127 - i) then r.1 ^^^ r.2 else r.1, if r.2 % 2 = 1 then (r.2 / 2) ^^^ (0xE1 * 2 ^ 120) else r.2 / 2))
    (0, y)).1
/-- Bytes padded with zeros to whole blocks. -/
def pad16 (l : List Byte) : List Byte := l ++ List.replicate ((16 - l.length % 16) % 16) 0
/-- GHASH. -/
def ghash (h : Nat) (l : List Byte) : Nat := (chunksOf 16 (l.length / 16 + 1) l).foldl (fun y b => ghMul (y ^^^ fromBE b) h) 0
/-- Counter mode from counter value 2 on, with a 96-bit IV. -/
def gcmCtr (ks : List (List Byte)) (iv data : List Byte) : List Byte :=
  ((chunksOf 16 (data.length / 16 + 1) data).zipIdx).flatMap (fun x => xorBytes x.1 (aesBlock ks (iv ++ toBE 4 (x.2 + 2))))
/-- The tag over additional data and ciphertext. -/
def gcmTag (ks : List (List Byte)) (iv aad ct : List Byte) : List Byte :=
  let h := fromBE (aesBlock ks (List.replicate 16 0))
  let x := ghash h (pad16 aad ++ pad16 ct ++ toBE 8 (8 * aad.length) ++ toBE 8 (8 * ct.length))
  xorBytes (toBE 16 x) (aesBlock ks (iv ++ toBE 4 1))
/-- AES-256-GCM encryption: ciphertext and tag. -/
def gcmSeal (key iv aad pt : List Byte) : List Byte × List Byte :=
  let ks := aesKeys key
  let ct := gcmCtr ks iv pt
  (ct, gcmTag ks iv aad ct)
/-- AES-256-GCM decryption: none where the tag fails. -/
def gcmOpen (key iv aad ct tag : List Byte) : Option (List Byte) :=
  let ks := aesKeys key
  if gcmTag ks iv aad ct = tag then some (gcmCtr ks iv ct) else none

/-! ### P-256 -/

def p256 : Nat := 0xffffffff00000001000000000000000000000000ffffffffffffffffffffffff
def n256 : Nat := 0xffffffff00000000ffffffffffffffffbce6faada7179e84f3b9cac2fc632551
def b256 : Nat := 0x5ac635d8aa3a93e7b3ebbd55769886bc651d06b0cc53b0f63bce3c3e27d2604b
/-- The base point. -/
def g256 : Nat × Nat :=
  (0x6b17d1f2e12c4247f8bce6e563a440f277037d812deb33a0f4a13945d898c296,
   0x4fe342e2fe1a7f9b8ee7eb4a7c0f9e162bce33576b315ececbb6406837bf51f5)

/-- x^e modulo m, over the low 256 bits of e. -/
def powMod (m x e : Nat) : Nat :=
  (List.range 256).foldl (fun r i => let q := r * r % m; if bitOf e (255 - i) then q * x % m else q) 1
/-- The inverse modulo a prime. -/
def invMod (m x : Nat) : Nat := powMod m x (m - 2)
/-- The sum of two points; none is the neutral element. -/
def ecAdd (a b : Option (Nat × Nat)) : Option (Nat × Nat) :=
  match a, b with
  | none, q => q
  | q, none => q
  | some (x1, y1), some (x2, y2) =>
    if x1 = x2 ∧ (y1 + y2) % p256 = 0 then none
    else
      let l := if x1 = x2 then (3 * x1 * x1 + p256 - 3) * invMod p256 (2 * y1) % p256
        else (y2 + p256 - y1) * invMod p256 ((x2 + p256 - x1) % p256) % p256
      let x3 := (l * l + 2 * p256 - x1 - x2) % p256
      some (x3, (l * (x1 + p256 - x3) + p256 - y1) % p256)
/-- k times a point, over the low 256 bits of k. -/
def ecMul (k : Nat) (q : Option (Nat × Nat)) : Option (Nat × Nat) :=
  (List.range 256).foldl (fun r i => let d := ecAdd r r; if bitOf k (255 - i) then ecAdd d q else d) none
/-- A point of the curve, from X then Y, big-endian. -/
def ecPoint (b : List Byte) : Option (Nat × Nat) :=
  let x := fromBE (b.take 32)
  let y := fromBE ((b.drop 32).take 32)
  if x < p256 ∧ y < p256 ∧ y * y % p256 = (x * x * x + (p256 - 3) * x + b256) % p256 then some (x, y) else none
/-- X then Y of a point, big-endian. -/
def ecBytes (q : Option (Nat × Nat)) : List Byte :=
  match q with
  | some (x, y) => toBE 32 x ++ toBE 32 y
  | none => List.replicate 64 0
/-- ECDSA verification of a signature r, s over the SHA-384 digest of a message, cut to its leftmost 256 bits (R615). -/
def ecdsaOk (pub sig msg : List Byte) : Bool :=
  let r := fromBE (sig.take 32)
  let t := fromBE ((sig.drop 32).take 32)
  match ecPoint pub with
  | none => false
  | some q =>
    if r = 0 ∨ n256 ≤ r ∨ t = 0 ∨ n256 ≤ t then false
    else
      let e := fromBE ((sha384 msg).take 32)
      let w := invMod n256 t
      match ecAdd (ecMul (e * w % n256) (some g256)) (ecMul (r * w % n256) (some q)) with
      | none => false
      | some (x, _) => x % n256 == r

end Sys2Proof.Machine
end

