-- ==== Sys2Proof/Machine/Commons.lean ====
section
/-! DEFINITION. Host memory through apertures, and the key slots as every user of a key sees them (R608, R609). -/

namespace Sys2Proof.Machine

/-! ### Host memory through the apertures of die `n` -/

/-- Host addresses of the 16-byte pieces of `len` bytes at device address `addr`; none where an aperture does not
serve (R42). -/
def State.hostKeys (s : State) (n addr len : Nat) : Option (List Nat) :=
  let ks := (List.range ((len + 15) / 16)).map (fun i =>
    let a := addr + 16 * i
    if 4 ≤ a / 2 ^ 32 % 16 ∧ a / 2 ^ 32 % 16 < 8 then s.apKey n (a / 2 ^ 32 % 16 - 4) (a % 2 ^ 32) else none)
  if ks.all (·.isSome) then some (ks.filterMap id) else none
/-- A write to host memory. -/
def State.hostPut (s : State) (n addr : Nat) (data : List Byte) : Option State :=
  (s.hostKeys n addr data.length).map (fun ks =>
    ((chunksOf 16 ks.length data).zip ks).foldl (fun s x => s.stn x.2 x.1) s)
/-- A read of host memory. -/
def State.hostGet (s : State) (n addr len : Nat) : Option (List Byte) :=
  (s.hostKeys n addr len).map (fun ks => (ks.flatMap (fun k => s.ldn k 16)).take len)

/-! ### Key slots -/

/-- Purpose bits of a slot: 0 MODEL, 1 SESSION, 2 SIGN, 3 DEBUG (R608). -/
def State.slotHas (s : State) (n slot p : Nat) : Bool := bitOf (s.rd (cd n) (R.SLOT_ATTR_PURPOSE.at slot)) p
/-- The slot holds a key and its USES, where it counts them, is above 0 (R609). -/
def State.slotLive (s : State) (n slot : Nat) : Bool :=
  s.flag (cd n) (R.SLOT_ATTR_VALID.at slot)
    && (s.flag (cd n) (R.SLOT_ATTR_KIND.at slot) || s.rd (cd n) (R.SLOT_ATTR_USES.at slot) != 0)
/-- The slot is usable for a purpose. -/
def State.slotOk (s : State) (n slot p : Nat) : Bool := s.slotLive n slot && s.slotHas n slot p
/-- Key material of a slot. -/
def State.slotKey (s : State) (n slot : Nat) : List Byte := Store.get [] (s.cdx n).keys slot
/-- A vault record. -/
def State.vaultRec (s : State) (n k : Nat) : VaultRec := Store.get {} (s.cdx n).vault k
/-- The bank of a slot that holds its current record: the higher counter that is not above ACC_CTR (R612); none where
neither serves. -/
def State.vaultBank (s : State) (n slot : Nat) : Option Nat :=
  let ok := fun b => let r := s.vaultRec n (2 * slot + b)
    r.good && r.vgen == s.rd (cd n) R.SEC_STAT_VGEN && decide (r.counter ≤ s.rd (cd n) R.SEC_STAT_ACC_CTR)
  if ok 0 && ok 1 then
    some (if (s.vaultRec n (2 * slot)).counter ≤ (s.vaultRec n (2 * slot + 1)).counter then 1 else 0)
  else if ok 0 then some 0 else if ok 1 then some 1 else none
/-- Writes a vault record; VAULT_STAT shows the highest write count (R613). -/
def State.vaultPut (s : State) (n k : Nat) (r : VaultRec) : State :=
  let w := (s.vaultRec n k).wear + 1
  let s := s.modCd n (fun x => { x with vault := Store.put {} x.vault k { r with wear := w } })
  s.wr (cd n) R.VAULT_STAT_WEAR (min 0x1FFFF (max w (s.rd (cd n) R.VAULT_STAT_WEAR)))
/-- Dies that take a change of the keys: the die itself, and the partner while it is in service (R609, R617). -/
def State.keyDies (s : State) (n : Nat) : List Nat := if s.inService n (1 - n) then [n, 1 - n] else [n]
/-- A charge of a slot, committed to the vault of each die in service and mirrored (R609). -/
def State.slotCharge (s : State) (n slot : Nat) : State :=
  if s.flag (cd n) (R.SLOT_ATTR_KIND.at slot) then s
  else
    let u := s.rd (cd n) (R.SLOT_ATTR_USES.at slot) - 1
    (s.keyDies n).foldl (fun s k =>
      let s := s.wr (cd k) (R.SLOT_ATTR_USES.at slot) u
      match s.vaultBank k slot with
      | some b => s.vaultPut k (2 * slot + b) { s.vaultRec k (2 * slot + b) with uses := u }
      | none => s) s

end Sys2Proof.Machine
end

