-- ==== Sys2Proof/Machine/Program.lean ====
section
/-! DEFINITION. How an Assal agent issues instructions and how its program starts, stops and ends (chapter 8): the
checks before an instruction, the PC and the loop stack, work orders, DONE messages and return records. -/

namespace Sys2Proof.Machine

/-! ### The end of a program -/

/-- Link 0–12 that joins Control die `n` to Stack die `d`. -/
def ctlLink (n d : Nat) : Nat := 4 + 4 * n + d
/-- Die `n` can send an order to Stack die `d`: it is active, and its control link or the relay of R26 is up (R280,
R426). -/
def State.cdReaches (s : State) (n d : Nat) : Bool :=
  s.isActive n && (s.linkUp (ctlLink n d) || (s.linkUp 12 && s.linkUp (ctlLink (1 - n) d)))

/-- The return record of a START (R278): words 1 to 18, then word 0 with VALID. -/
def State.retRecord (s : State) (n k : Nat) (m : Msg) : State :=
  let order := m.m1 / 65536
  let p0 := fromBytes (m.data.take 4)
  let nret := m.data.length / 4 - 1
  let o := s.rd (cd n) (R.SQ_RET_BASE.at k) * 8192 + 128 * (order % 64)
  let m2 := 2 + k / 4
  let r := s.comRead n m2 o 4
  let ow := fromBytes r.2.1 / 2 ^ 31
  let w0 := ow * 2 ^ 30 + m.su % 8 * 2 ^ 26 + (m.sn - 4) % 4 * 2 ^ 24 + bits m.m0 15 8 * 65536 + bits m.m0 7 0 * 256 + nret
  let rets := (List.range 15).map (fun i => fromBytes ((m.data.drop (4 + 4 * i)).take 4))
  let ws := [order * 65536 + bits p0 15 12 * 4096, bits p0 31 16 * 65536 + bits p0 11 0, 0] ++ rets
  (r.1.comWrite n m2 (o + 4) (ws.flatMap (toBytes 4))).comWrite n m2 o (toBytes 4 (2 ^ 31 + w0))

/-- SQ_STAT.OUT counts the orders that await DONE. -/
def State.outSync (s : State) (n k : Nat) : State :=
  s.wr (cd n) (R.SQ_STAT_OUT.at k) (s.agent (sqix n k)).orders.length

/-- A DONE for a START order of sequencer `k` of die `n` (R278): record, SEM, and the slot is free. -/
def State.doneStart (s : State) (n k : Nat) (m : Msg) : State :=
  let a := sqix n k
  let order := m.m1 / 65536
  let s := s.retRecord n k m
  let s := if bitOf m.m1 15 then s.semSignal (csem n (bits m.m1 12 0)) 1 else s
  let s := s.modAgent a (fun x => { x with orders := x.orders.filter (fun o => o.msg1 / 65536 != order) })
  (s.outSync n k).unhold a (fun x => { x with callWait := false })

/-- The order cannot be reached any more: as a DONE with STATUS NOROUTE and LEN 0 (R280). -/
def State.noRoute (s : State) (n k : Nat) (o : SqOrder) : State :=
  s.doneStart n k ⟨0x03, cdNode n, k, sdNode o.d, o.w, o.epoch * 65536 + 0x700, o.msg1, [], 0⟩

/-- A WORK message (R274). -/
def workMsg (n unit d dstUnit epoch kind msg1 : Nat) (data : List Byte) : Msg :=
  ⟨0x01, sdNode d, dstUnit, cdNode n, unit, epoch * 65536 + kind * 4096, msg1, data, 0⟩

/-- The STOPs a sequencer sends when its program has been stopped (R267 step 4), with the ORDER they stop in MSG1
and SEMEN 0; an order that no link reaches ends NOROUTE (R280). -/
def State.stopOrders (s : State) (n k : Nat) : State :=
  let a := sqix n k
  let ep := s.rd (cd n) R.PAIR_STAT_EPOCH
  (s.agent a).orders.foldl (fun s o =>
    let num := o.msg1 / 65536
    if s.cdReaches n o.d then
      (s.modAgent a (fun x => { x with stops := x.stops ++ [num] })).send
        (workMsg n k o.d o.w ep 3 (num * 65536) (toBytes 2 num ++ List.replicate 14 0))
    else s.noRoute n k o) s

/-- Wing `w`'s queue of START orders, and WC_STAT.QDEPTH. -/
def State.startQ (s : State) (d w : Nat) (f : List WorkOrd → List WorkOrd) : State :=
  let s := s.modWing (wix d w) (fun x => { x with starts := f x.starts })
  s.wr (wg d w) R.WC_STAT_QDEPTH (s.wingx (wix d w)).starts.length

/-- DONE for an order, from unit `unit` of Stack die `d` to node `dst` (R278). -/
def State.sendDone (s : State) (d unit dst : Nat) (o : WorkOrd) (status fault : Nat) (data : List Byte) : State :=
  s.send ⟨0x03, dst, o.unit, sdNode d, unit, o.epoch * 65536 + status * 256 + fault, o.msg1, data, 0⟩

/-- CLAIMs are answered once no program of an older epoch runs (R277). -/
def State.claimCheck (s : State) (d : Nat) : State :=
  let busy := (List.range 8).any (fun w => match (s.wingx (wix d w)).cur with
    | some o => o.epoch != s.rd (sd d) R.SD_EPOCH_EPOCH
    | none => false)
  if busy then s
  else
    let l := (s.sdx d).claims
    l.foldl (fun s o => s.sendDone d 8 o.node o 0 0 []) (s.modSd d (fun x => { x with claims := [] }))

/-- The program of an agent ends as its `ending` says, once its engines are idle (R266, R267, R269). -/
def State.progEnd (s : State) (a : Nat) (e : Ending) : State :=
  let estat := s.rd (agBase a) (fEstat a)
  let s := (s.setAgState a 0).wr (agBase a) (fStopReq a) 0
  if isSq a then
    let n := sqDie a
    let k := a % 8
    let s := s.modAgent a (fun x => { x with prog := false, ending := none, calls := [], loops := [] })
    let s := (s.wr (cd n) (R.SQ_DEPTH_LOOPS.at k) 0).wr (cd n) (R.SQ_CALLS_CALLS.at k) 0
    let s := if e.status = 1 then s.raiseBit (cd n) R.SEQ_CAUSE_FAULT k else s
    let s := if e.status = 2 then s.stopOrders n k else s
    let s := s.runComplete n k e.status e.code 0 [] e.trapCode e.pc
    (if (s.agent a).dbgHalt || (s.agent a).step != 0 then
      (s.setAgState a 5).modAgent a (fun x => { x with dbgHalt := false, step := 0 })
    else s).catSync n
  else
    let d := wcDie a
    let w := wcWing a
    let x := s.wingx (wix d w)
    let rets := (List.range e.nret).flatMap (fun i => toBytes 4 (s.sR a (i + 1)).toNat)
    let p0 := e.trapCode * 65536 + estat * 4096 + e.pc % 4096
    let s := s.modAgent a (fun y => { y with prog := false, ending := none, calls := [], loops := [] })
    let s := s.modWing (wix d w) (fun y => { y with cur := none, stopped := [] })
    let s := match x.cur with
      | some o => s.sendDone d w (if e.claim then s.rd (sd d) R.SD_EPOCH_NODE else o.node) o e.status e.code (toBytes 4 p0 ++ rets)
      | none => s
    (x.stopped.foldl (fun s o => s.sendDone d w o.node o 0 0 []) s).claimCheck d

/-- A stopped program, or one that waits at HALT, ends once its engines are idle; a trap ends with
TRAP_DRAIN_DONE. -/
def State.progCheck (s : State) (a : Nat) : State :=
  if !s.enginesIdle a then s
  else match s.agState a, (s.agent a).ending, (s.agent a).halt with
  | 3, some e, _ => s.progEnd a e
  | 1, _, some nret => (s.modAgent a (fun x => { x with halt := none })).progEnd a { status := 0, nret := nret }
  | _, _, _ => s

/-- A stop request (R267): at a stop point the agent stops at once. -/
def State.stopReq (s : State) (a : Nat) : State :=
  let g := s.agent a
  let st := s.agState a
  if st = 0 ∨ st = 3 ∨ st = 4 then s
  else
    let s := s.wr (agBase a) (fStopReq a) 1
    if st ≠ 5 ∧ (g.wait.isSome ∨ g.callWait ∨ g.halt.isSome) then (s.stopNow a).progCheck a else s

/-- STOP_TIMEOUT: no stop point in 50 us: the agent stops at the next boundary; a stalled instruction completes
first (R267, R391). -/
def execStopTimeout (a : Fin 48) (s : State) : Host.Outcome State Fault Refusal :=
  let st := s.agState a
  done (if s.flag (agBase a) (fStopReq a) && (st == 1 || st == 2 || st == 5) then
    if (s.agent a).firm then s.modAgent a (fun x => { x with stopDue := true }) else (s.stopNow a).progCheck a
  else s)

/-- TRAP_DRAIN_DONE: the engines of a trapped agent have drained (R269). -/
def execTrapDrainDone (a : Fin 48) (s : State) : Host.Outcome State Fault Refusal :=
  let st := s.agState a
  done (match (s.agent a).ending with
  | some e => if (st == 3 || st == 4) && s.enginesIdle a then s.progEnd a e else s
  | none => s)

/-! ### Issue -/

/-- A register, by its code, has a pending write (R259). -/
def State.regPending (s : State) (a r : Nat) : Bool :=
  r != 0 && ((s.agent a).memOps.any (fun m => m.dst == some r)
    || [2, 3, 4, 5].any (fun e => let x := s.engine a e
      (x.run.any (fun r' => r'.ins.dst == some r)) || x.q.any (fun i => i.dst == some r)))

/-- The agent can issue (R259, R676): it runs, no instruction of it stalls, and debug does not hold it. -/
def State.ready (s : State) (a : Nat) : Bool :=
  s.agState a == 1 && !(s.agent a).stalled && !(s.agent a).dbgHalt && (s.agent a).step != 2

/-- The sequencer's depth registers. -/
def State.depthSync (s : State) (a : Nat) : State :=
  if isSq a then
    (s.wr (agBase a) (R.SQ_DEPTH_LOOPS.at (a % 8)) (s.agent a).loops.length).wr (agBase a) (R.SQ_CALLS_CALLS.at (a % 8))
      (s.agent a).calls.length
  else s

/-- The PC moves to word `t`; beyond the program memory the next fetch faults (R284, R347). -/
def State.goto (s : State) (a : Nat) (t : Int) : State :=
  let bad := decide (t < 0 ∨ (pmWords a : Int) ≤ t)
  (s.setPc a (wrapTo 13 t)).modAgent a (fun g => { g with pcBad := bad })

/-- The next instruction in order, with the loop-back at the last body word (R349). -/
def State.adv (s : State) (a : Nat) (x : Bool) : State :=
  let pc := s.pc a
  let next : Int := (pc + 1 + b2n x : Nat)
  match (s.agent a).loops with
  | (st, last, k) :: rest =>
    if pc = last ∨ (x ∧ pc + 1 = last) then
      if k ≤ 1 then ((s.modAgent a (fun g => { g with loops := rest })).depthSync a).goto a next
      else (s.modAgent a (fun g => { g with loops := (st, last, k - 1) :: rest })).goto a st
    else s.goto a next
  | [] => s.goto a next

/-- A taken B or BC to PC + DISP: a target outside the innermost body pops that loop entry (R347, R350). -/
def State.jump (s : State) (a : Nat) (disp : Int) : State :=
  let t : Int := (s.pc a : Int) + disp
  let s := match (s.agent a).loops with
    | (st, last, _) :: rest =>
      if (st : Int) ≤ t ∧ t ≤ (last : Int) then s
      else (s.modAgent a (fun g => { g with loops := rest })).depthSync a
    | [] => s
  s.goto a t

/-- The one instruction of a STEP has issued (R676). -/
def State.stepped (s : State) (a : Nat) : State :=
  if (s.agent a).step = 1 then s.modAgent a (fun g => { g with step := 2 }) else s

/-- An agent issues an instruction (R259, R265, R284): PCRANGE first, then ILLEGAL, then the wait for pending
registers, then the predicate, then the instruction itself. `regs` are the registers it reads or writes. -/
def State.issue (s : State) (a : Nat) (i : Ins) (legal : Bool) (regs : List Nat) (go : State → State) : State :=
  if !s.ready a then s
  else if (s.agent a).pcBad || decide (pmWords a ≤ s.pc a + b2n i.x) then s.trap a 2
  else if !legal then s.trap a 1
  else if regs.any (s.regPending a) then s
  else if !s.pR a i.pred.val then ((s.adv a i.x).stepped a).boundary a
  else ((go s).stepped a).boundary a

/-- An instruction that completes inside the agent in its cycle. -/
def State.issueAdv (s : State) (a : Nat) (i : Ins) (legal : Bool) (regs : List Nat) (go : State → State) : State :=
  s.issue a i legal regs (fun s => (go s).adv a i.x)

end Sys2Proof.Machine
end

