-- ==== Sys2Proof/Machine/Operands.lean ====
section
/-! DEFINITION. The operand forms of the Assal formats (R281, R282): fields of the base and extension word, the second
source, addresses of LD and ST. -/

namespace Sys2Proof

/-- SUB, bits 36:32 of formats R and I. -/
def Ins.sub (i : Ins) : Nat := i.low.toNat / 2 ^ 32
/-- IMM of format I, and OFF of format M: bits 31:0. -/
def Ins.imm (i : Ins) : Word := i.low.setWidth 32
/-- Bits `hi:lo` of the format fields. -/
def Ins.f (i : Ins) (hi lo : Nat) : Nat := bits i.low.toNat hi lo
/-- The extension word; 0 where X is 0. -/
def Ins.xw (i : Ins) : Nat := if i.x then i.ext.toNat else 0
/-- Bits `hi:lo` of the extension word. -/
def Ins.e (i : Ins) (hi lo : Nat) : Nat := bits i.xw hi lo
/-- Register fields A, B and C are 0. -/
def Ins.noRegs (i : Ins) : Bool := i.a.val == 0 && i.b.val == 0 && i.c.val == 0
/-- DISP of format B: a signed word displacement. -/
def Ins.disp (i : Ins) : Int := sext 24 i.low.toNat
/-- The reserved fields of formats R and I: bits 31:0 of R, register field C of I (R282, R335). -/
def Ins.riOk (i : Ins) (imm : Bool) : Bool := if imm then i.c.val == 0 else i.imm == 0
/-- CSEN and CSEM of format E (R263). -/
def Ins.csen (i : Ins) : Bool := bitOf i.low.toNat 36
def Ins.csem (i : Ins) : Nat := i.f 35 23
/-- Engine fields 22:0 of format E. -/
def Ins.ef (i : Ins) (hi lo : Nat) : Nat := bits (i.low.toNat % 2 ^ 23) hi lo

end Sys2Proof

namespace Sys2Proof.Machine

/-- The second source: IMM, or s[C]. -/
def State.srcC (s : State) (a : Nat) (imm : Bool) (i : Ins) : Word := if imm then i.imm else s.sR a i.c

/-- The semaphores an agent's CSEM or SEM may name (R284). -/
def semLimit (a : Nat) : Nat := if isSq a then 8192 else 512
/-- CSEM of format E names a semaphore of the agent's range. -/
def csemOk (a : Nat) (i : Ins) : Bool := decide (i.csem < semLimit a)

/-- Bytes that SIZE names (R342). -/
def memBytes : Nat → Nat
  | 0 => 1 | 1 => 2 | 2 => 4 | _ => 8
/-- The effective address of LD and ST (R342). -/
def State.effAddr (s : State) (a : Nat) (i : Ins) : DevAddr :=
  let base := s.adR a i.b + (s.sR a i.c).setWidth 40
  if bitOf i.low.toNat 33 then base else base + i.imm.signExtend 40
/-- The update of ad[B] with POST (R342). -/
def State.postAddr (s : State) (a : Nat) (i : Ins) : State :=
  if bitOf i.low.toNat 33 then s.adW a i.b (s.adR a i.b + i.imm.signExtend 40) else s
/-- Fields that LD and ST allow: SIZE 0 to 3, bit 32 reserved, ad fields below 16 (R282, R284). -/
def memLegal (i : Ins) : Bool :=
  !i.x && decide (i.f 36 34 < 4) && !bitOf i.low.toNat 32 && decide (i.b.val < 16)
    && (i.f 36 34 != 3 || decide (i.a.val < 16))
/-- The data register's code. -/
def memReg (i : Ins) : Nat := if i.f 36 34 = 3 then 32 + i.a.val else i.a.val

end Sys2Proof.Machine
end

