-- ==== Sys2Proof/Machine/Control.lean ====
section
/-! DEFINITION. Control flow, semaphores, FENCE and the credit instructions an agent executes itself (R347 to R358), and
the run control of debug (R676). -/

namespace Sys2Proof.Machine

/-- Bits 36:24 of format B are reserved. -/
def bOk (i : Ins) : Bool := !i.x && i.f 36 24 == 0

/-- B (R347). -/
def execB (a : Fin 48) (i : Ins) (s : State) : Host.Outcome State Fault Refusal :=
  done (s.issue a i (bOk i && i.noRegs) [] (fun s => s.jump a i.disp))

/-- BC: branches on s[A], or on its being 0 with INV (R347). -/
def execBc (a : Fin 48) (i : Ins) (s : State) : Host.Outcome State Fault Refusal :=
  done (s.issue a i (bOk i && decide (i.b.val < 2) && i.c.val == 0) [i.a.val] (fun s =>
    if (s.sR a i.a != 0) != (i.b.val == 1) then s.jump a i.disp else s.adv a false))

/-- CALL, local form (R348). -/
def execCall (a : Fin 48) (i : Ins) (s : State) : Host.Outcome State Fault Refusal :=
  done (s.issue a i (bOk i && i.noRegs) [] (fun s =>
    if 16 ≤ (s.agent a).calls.length then s.trap a 4
    else ((s.modAgent a (fun g => { g with calls := (s.pc a + 1) :: g.calls })).depthSync a).goto a ((s.pc a : Int) + i.disp)))

/-- RET (R348). -/
def execRet (a : Fin 48) (i : Ins) (s : State) : Host.Outcome State Fault Refusal :=
  done (s.issue a i (!i.x && i.low == 0 && i.noRegs) [] (fun s =>
    match (s.agent a).calls with
    | [] => s.trap a 4
    | t :: rest => ((s.modAgent a (fun g => { g with calls := rest })).depthSync a).goto a t))

/-- LOOP (R349). -/
def execLoop (a : Fin 48) (i : Ins) (s : State) : Host.Outcome State Fault Refusal :=
  done (s.issue a i (bOk i && i.b.val == 0 && i.c.val == 0 && decide (1 ≤ i.disp)) [i.a.val] (fun s =>
    let k := (s.sR a i.a).toNat
    if k = 0 ∨ i.disp = 1 then s.goto a ((s.pc a : Int) + i.disp)
    else if 4 ≤ (s.agent a).loops.length then s.trap a 4
    else
      let pc := s.pc a
      ((s.modAgent a (fun g => { g with loops := (pc + 1, ((pc : Int) + i.disp - 1).toNat, k) :: g.loops })).depthSync a).goto a
        ((pc + 1 : Nat) : Int)))

/-- YIELD: a stop point (R267, R351). -/
def execYield (a : Fin 48) (i : Ins) (s : State) : Host.Outcome State Fault Refusal :=
  done ((s.issue a i (!i.x && i.low == 0 && i.noRegs) [] (fun s =>
    if s.flag (agBase a) (fStopReq a) then s.stopNow a else s.adv a false)).progCheck a)

/-- HALT: waits for every engine, then the program ends; with a stop request pending it is the stop point (R266). -/
def execHalt (a : Fin 48) (i : Ins) (s : State) : Host.Outcome State Fault Refusal :=
  done ((s.issue a i (!i.x && decide (i.low.toNat < 16) && i.noRegs) [] (fun s =>
    if s.flag (agBase a) (fStopReq a) then s.stopNow a
    else s.modAgent a (fun g => { g with halt := some (i.low.toNat % 16) }))).progCheck a)

/-- TRAP with TRAPCODE in IMM bits 15:0 (R351). -/
def execTrap (a : Fin 48) (i : Ins) (s : State) : Host.Outcome State Fault Refusal :=
  done (s.issue a i (!i.x && decide (i.low.toNat < 65536) && i.noRegs) [] (fun s =>
    s.trapAt a 0 5 (s.pc a) (i.low.toNat % 65536)))

/-! ### Semaphores -/

/-- A message can travel from node `x` to node `y` (R232, R26). -/
def State.reaches (s : State) (x y : Nat) : Bool :=
  if x = y then true
  else if 4 ≤ x ∧ x < 8 ∧ 4 ≤ y ∧ y < 8 then (s.routePort x y).isSome
  else if 4 ≤ x ∧ x < 8 then
    s.linkUp (ctlLink (y - 1) (x - 4)) || (s.linkUp 12 && s.linkUp (ctlLink (2 - y) (x - 4)))
  else if 4 ≤ y ∧ y < 8 then
    s.linkUp (ctlLink (x - 1) (y - 4)) || (s.linkUp 12 && s.linkUp (ctlLink (2 - x) (y - 4)))
  else s.linkUp 12

/-- Node and unit of an agent. -/
def agNode (a : Nat) : Nat := if isSq a then cdNode (sqDie a) else sdNode (wcDie a)
def agUnit (a : Nat) : Nat := a % 8
/-- Node code 0x0 resolves to the initiator's own Control die, or to the die whose epoch the Stack die accepted
(R31). -/
def State.aliasNode (s : State) (a : Nat) : Nat :=
  if isSq a then cdNode (sqDie a) else s.rd (sd (wcDie a)) R.SD_EPOCH_NODE

/-- SEM and COUNT of format S. -/
def Ins.sem (i : Ins) : Nat := i.f 36 24
def Ins.count (i : Ins) : Nat := i.f 23 8

/-- SEMSIG, own form (R352). -/
def execSemsig (a : Fin 48) (i : Ins) (s : State) : Host.Outcome State Fault Refusal :=
  done (s.issueAdv a i (!i.x && i.noRegs && i.f 7 0 == 0 && decide (Ins.sem i < semLimit a)) [] (fun s =>
    if Ins.count i = 0 then s else s.semSignal (agSem a (Ins.sem i)) (Ins.count i)))

/-- SEMSIG, remote form (R353): refused targets take ADDR, an unreachable one LINKDOWN. -/
def execSemsigRemote (a : Fin 48) (i : Ins) (s : State) : Host.Outcome State Fault Refusal :=
  let node := i.f 6 3
  let wing := i.f 2 0
  let stack := decide (4 ≤ node ∧ node < 8)
  let legal := !i.x && i.noRegs && (!stack || decide (Ins.sem i < 512)) && (decide (3 ≤ node) || wing == 0)
  done (s.issue a i legal [] (fun s =>
    let dst := if node = 0 then s.aliasNode a else node
    let v := Ins.count i
    if !(stack || decide (1 ≤ dst ∧ dst ≤ 2)) || (isSq a && decide (dst < 4) && dst != agNode a) then s.trap a 3
    else if v = 0 then s.adv a false
    else if !s.reaches (agNode a) dst then s.trap a 0x1B
    else
      let m : Msg := ⟨0x02, dst, if stack then wing else 0, agNode a, agUnit a, Ins.sem i * 65536 + v, 0, [], 0⟩
      (s.send m).adv a false))

/-- SEMWAIT or SEMWT on the own semaphore `k` for `n` (R199, R200, R354): it completes at once, or it waits; a stop
request pending at the wait stops the program. `pr` is the predicate of SEMWT, `try_` its timeout of 0. -/
def State.semWait (s : State) (a k n : Nat) (x : Bool) (pr : Option Nat) (try_ : Bool) : State :=
  let out := fun (s : State) (b : Bool) => match pr with
    | some p => s.pW a p b
    | none => s
  let c := Store.get 0 s.sems k
  if n = 0 then (out s true).adv a x
  else if n ≤ c ∧ !s.waitq.any (fun w => w.1 == k) then
    (out { s with sems := Store.put 0 s.sems k (c - n) } true).adv a x
  else if try_ then (out s false).adv a x
  else if s.flag (agBase a) (fStopReq a) then s.stopNow a
  else
    ({ (s.adv a x) with waitq := s.waitq ++ [(k, a)] }).hold a (fun g => { g with wait := some (k, n, pr) })

/-- SEMWAIT (R354). -/
def execSemwait (a : Fin 48) (i : Ins) (s : State) : Host.Outcome State Fault Refusal :=
  done ((s.issue a i (!i.x && i.noRegs && i.f 7 0 == 0 && decide (Ins.sem i < semLimit a)) [] (fun s =>
    s.semWait a (agSem a (Ins.sem i)) (Ins.count i) false none false)).progCheck a)
/-- SEMWT (R354). -/
def execSemwt (a : Fin 48) (i : Ins) (s : State) : Host.Outcome State Fault Refusal :=
  done ((s.issue a i (i.x && i.noRegs && i.f 7 3 == 0 && decide (Ins.sem i < semLimit a) && i.e 63 32 == 0) [] (fun s =>
    s.semWait a (agSem a (Ins.sem i)) (Ins.count i) true (some (i.f 2 0)) (i.e 31 0 == 0))).progCheck a)

/-- The wait of agent `a` leaves the order of its semaphore. -/
def State.waitEnd (s : State) (a : Nat) : State :=
  { s with waitq := s.waitq.filter (fun w => w.2 != a) }.unhold a (fun g => { g with wait := none })
/-- SEMWT_TIMEOUT: the wait completes without changing the counter, and p[PRES] becomes 0 (R354). -/
def execSemwtTimeout (a : Fin 48) (s : State) : Host.Outcome State Fault Refusal :=
  done (match (s.agent a).wait with
  | some (_, _, some p) => (s.pW a p false).waitEnd a
  | _ => s)

/-- SEMAPHORE_WAIT_DONE: the waiter at the head of semaphore `k` is served once the counter covers its count (R199,
R200, R424). -/
def execSemaphoreWaitDone (k : Fin 32768) (s : State) : Host.Outcome State Fault Refusal :=
  let c := Store.get 0 s.sems k
  done (match s.waitq.find? (fun w => w.1 == k.val) with
  | none => s
  | some w =>
    if w.2 < 48 then
      match (s.agent w.2).wait with
      | some (_, n, pr) =>
        if n ≤ c then
          let s := { s with sems := Store.put 0 s.sems k (c - n) }
          let s := match pr with
            | some p => s.pW w.2 p true
            | none => s
          s.waitEnd w.2
        else s
      | none => s
    else if 1 ≤ c then
      let n := w.2 / 2 ^ 20 - 1
      let q := w.2 % 2 ^ 20
      let s := { s with sems := Store.put 0 s.sems k (c - 1), waitq := s.waitq.erase w }
      let s := s.modCd n (fun x => { x with
        heads := x.heads.map (fun h => if h.q = q then { h with semTaken := true } else h) })
      (s.qfPut n q 7 18 18 0).catSync n
    else s)

/-- The engines named by a FENCE mask that are busy (R262, R355): a wing's MEM bit names the VEC queue. -/
def State.fenceBusy (s : State) (a mask : Nat) : Bool :=
  let m := if isSq a then mask else if bitOf mask 1 then mask ||| 8 else mask
  [2, 3, 4, 5].any (fun e => bitOf m e && ((s.engine a e).run.isSome || !(s.engine a e).q.isEmpty))
    || (bitOf m 1 && !(s.agent a).memOps.isEmpty)
/-- A FENCE that waits for nothing more completes. -/
def State.fenceCheck (s : State) (a : Nat) : State :=
  match (s.agent a).fence with
  | some m => if s.fenceBusy a m then s else s.unhold a (fun g => { g with fence := none }) |>.boundary a
  | none => s
/-- FENCE (R262, R355). -/
def execFence (a : Fin 48) (i : Ins) (s : State) : Host.Outcome State Fault Refusal :=
  done (s.issue a i (!i.x && i.noRegs && decide (i.low.toNat < 64) && i.low.toNat % 2 == 0) [] (fun s =>
    let s := s.adv a false
    if s.fenceBusy a i.low.toNat then s.modAgent a (fun g => { g with fence := some i.low.toNat }) else s))

/-! ### Windows -/

/-- CREDGRANT (R357, R192): its faults are synchronous. -/
def execCredgrant (a : Fin 48) (i : Ins) (s : State) : Host.Outcome State Fault Refusal :=
  let legal := !isSq a && !i.x && decide (Ins.sem i < 512) && i.f 19 16 == 0 && i.f 7 0 == 0
  done (s.issue a i legal [i.a.val, i.b.val, i.c.val] (fun s =>
    let go := fun cred => s.cwGrant (wcDie a) (wcWing a) (i.f 23 20) (i.f 15 12) (i.f 11 8) (s.sR a i.a).toNat
      (s.sR a i.b).toNat cred (Ins.sem i)
    let cred := (s.sR a i.c).toNat
    if 2 ^ 18 ≤ cred then s.trap a (if (go 0).2 = some 0x28 then 0x28 else 0x12)
    else match go cred with
    | (s', none) => s'.adv a false
    | (_, some f) => s.trap a f))

/-- CREDRECL (R358, R196): WINBUSY for a window that is already RECLAIMING. -/
def execCredrecl (a : Fin 48) (i : Ins) (s : State) : Host.Outcome State Fault Refusal :=
  let legal := !isSq a && !i.x && i.noRegs && decide (Ins.sem i < 512) && i.f 19 0 == 0
  done (s.issue a i legal [] (fun s =>
    if s.rd (wg (wcDie a) (wcWing a)) (R.CW_SRC_STATE.at (i.f 23 20)) = 2 then s.trap a 0x28
    else (s.cwReclaim (wcDie a) (wcWing a) (i.f 23 20) (Ins.sem i)).adv a false))

/-! ### Work orders -/

/-- CALL, remote form (R273): START to a wing; the CALL stalls while 64 orders await DONE. -/
def execCallRemote (a : Fin 48) (i : Ins) (s : State) : Host.Outcome State Fault Refusal :=
  let node := i.e 63 60
  let nargs := i.e 43 40
  let legal := isSq a && i.x && i.c.val == 0 && i.low == 0 && decide (4 ≤ node ∧ node < 8) && !bitOf i.xw 59
    && i.e 39 38 == 0 && i.e 23 0 == 0 && decide (i.b.val + nargs ≤ 32)
  done ((s.issue a i legal (i.a.val :: (List.range nargs).map (fun k => i.b.val + k)) (fun s =>
    let n := sqDie a
    let k := a.val % 8
    if 64 ≤ (s.agent a).orders.length then
      if s.flag (agBase a) (fStopReq a) then s.stopNow a else s.hold a (fun g => { g with callWait := true })
    else
      let order := s.rd (cd n) (R.SQ_ORDER_NEXT.at k)
      let ep := s.rd (cd n) R.PAIR_STAT_EPOCH
      let msg1 := order * 65536 + b2n (bitOf i.xw 37) * 32768 + i.e 36 24
      let args := (List.range nargs).map (fun j => (s.sR a (i.b.val + j)).toNat)
      let words := (nargs * 65536 + i.e 55 44) :: (args ++ List.replicate (15 - nargs) 0)
      let o : SqOrder := ⟨node - 4, i.e 58 56, msg1, ep⟩
      let s := (s.wr (cd n) (R.SQ_ORDER_NEXT.at k) ((order + 1) % 65536)).sW a i.a (BitVec.ofNat 32 order)
      let s := ((s.modAgent a (fun g => { g with orders := g.orders ++ [o] })).outSync n k).adv a true
      if s.cdReaches n (node - 4) then s.send (workMsg n k (node - 4) o.w ep 1 msg1 (words.flatMap (toBytes 4)))
      else s.noRoute n k o)).progCheck a)

/-- An order that is refused or discarded is logged and counted (R275). -/
def State.woLog (s : State) (d status : Nat) (m : Msg) : State :=
  let b := sd d
  (s.capture b R.WO_LOG0_VALID.off 0 [(b, R.WO_LOG0_STATUS, status), (b, R.WO_LOG0_SRC_NODE, m.sn),
    (b, R.WO_LOG0_SRC_UNIT, m.su), (b, R.WO_LOG0_KIND, bits m.m0 15 12), (b, R.WO_LOG0_DST_UNIT, m.du),
    (b, R.WO_LOG1_ORDER, bits m.m1 31 16), (b, R.WO_LOG1_EPOCH, bits m.m0 31 16)]).inc b R.WO_CNT_COUNT
/-- The order of a WORK message. -/
def orderOf (m : Msg) : WorkOrd := { node := m.sn, unit := m.su, epoch := bits m.m0 31 16, msg1 := m.m1 }
/-- It is answered with a refusal. -/
def State.woRefuse (s : State) (d status : Nat) (m : Msg) : State :=
  (s.woLog d status m).sendDone d m.du m.sn (orderOf m) status 0 []

/-- Word `i` of a payload. -/
def Msg.word (m : Msg) (i : Nat) : Nat := fromBytes ((m.data.drop (4 * i)).take 4)
/-- Check 2 of R275: kind, destination unit, length, reserved bits, FIRST + k. -/
def workBad (m : Msg) : Bool :=
  let kind := bits m.m0 15 12
  let w := m.word 0
  let rsv := bits m.m0 11 0 != 0 || bits m.m1 14 13 != 0
  let zero := fun lo n => (List.range n).all (fun i => m.word (lo + i) == 0)
  rsv || (match kind with
  | 1 => decide (8 ≤ m.du) || m.data.length != 64 || bits w 15 12 != 0 || bits w 31 20 != 0
      || !zero (1 + bits w 19 16) (15 - bits w 19 16)
  | 2 => decide (8 ≤ m.du) || m.data.length != 16 + 8 * bits w 20 12 || decide (510 < bits w 20 12) || bits w 31 21 != 0
      || !zero 1 3 || decide (4096 < bits w 11 0 + bits w 20 12)
  | 3 => decide (8 ≤ m.du) || m.data.length != 16 || bits w 31 16 != 0 || !zero 1 3
  | 4 => m.du != 8 || m.data.length != 16 || !zero 0 4
  | _ => true)

/-- The checks of R275 on a WORK message that Stack die `d` takes, other than BUSY; `go` handles an order that passes
(a CLAIM skips check 4). -/
def State.workCheck (s : State) (d : Nat) (m : Msg) (go : State → State) : State :=
  if m.sn ≠ 1 ∧ m.sn ≠ 2 then s.woLog d 0xFF m
  else if workBad m then s.woRefuse d 6 m
  else if bits m.m0 15 12 = 4 then go s
  else if bits m.m0 31 16 ≠ s.rd (sd d) R.SD_EPOCH_EPOCH ∨ m.sn ≠ s.rd (sd d) R.SD_EPOCH_NODE then s.woRefuse d 5 m
  else go s
/-- Takes the first WORK message of a kind at Stack die `d`. -/
def State.takeWork (s : State) (d : Nat) (p : Nat → Bool) : Option (Msg × State) :=
  s.takeMsg (fun m => m.ty == 0x01 && m.dn == sdNode d && p (bits m.m0 15 12))

/-- WORK_START: START, or an order of unknown kind (R275, R276). -/
def execWorkStart (d : Fin 4) (s : State) : Host.Outcome State Fault Refusal :=
  done (match s.takeWork d (fun k => !(decide (2 ≤ k ∧ k ≤ 4))) with
  | none => s
  | some (m, s) => s.workCheck d m (fun s =>
      let w := m.du
      if 4 ≤ (s.wingx (wix d w)).starts.length then s.woRefuse d 4 m
      else
        let n := bits (m.word 0) 19 16
        let o := { orderOf m with entry := bits (m.word 0) 11 0, args := (List.range n).map (fun i => m.word (1 + i)) }
        s.startQ d w (· ++ [o])))

/-- Key of word `i` of wing `w`'s program store, which has no device address (R255). -/
def wpsKey (d w i : Nat) : Nat := 2 ^ 90 + (wix d w * 4096 + i) * 8

/-- WORK_LOADPROG (R275). -/
def execWorkLoadprog (d : Fin 4) (s : State) : Host.Outcome State Fault Refusal :=
  done (match s.takeWork d (· == 2) with
  | none => s
  | some (m, s) => s.workCheck d m (fun s =>
      let w := m.du
      if s.agState (wcix d w) ≠ 0 ∨ (s.wingx (wix d w)).starts ≠ [] then s.woRefuse d 4 m
      else
        let s := s.stn (wpsKey d w (bits (m.word 0) 11 0)) (m.data.drop 16)
        s.sendDone d w m.sn (orderOf m) 0 0 []))

/-- WORK_STOP: removes or stops the order it names (R276); a running order is answered first. -/
def execWorkStop (d : Fin 4) (s : State) : Host.Outcome State Fault Refusal :=
  done (match s.takeWork d (· == 3) with
  | none => s
  | some (m, s) => s.workCheck d m (fun s =>
      let w := m.du
      let x := s.wingx (wix d w)
      let hit := fun (o : WorkOrd) => o.msg1 / 65536 == bits (m.word 0) 15 0 && o.node == m.sn && o.unit == m.su
      match x.starts.find? hit with
      | some o => ((s.startQ d w (·.erase o)).sendDone d w o.node o 3 0 []).sendDone d w m.sn (orderOf m) 0 0 []
      | none =>
        if x.cur.any hit then
          (s.modWing (wix d w) (fun y => { y with stopped := y.stopped ++ [orderOf m] })).stopReq (wcix d w)
        else s.sendDone d w m.sn (orderOf m) 0 0 []))

/-- The orders of an older epoch in wing `w` end at a CLAIM (R277). -/
def State.claimWing (s : State) (d w node : Nat) : State :=
  let a := wcix d w
  let x := s.wingx (wix d w)
  let s := x.starts.foldl (fun s o => s.sendDone d w node o 5 0 []) (s.startQ d w (fun _ => []))
  let st := s.agState a
  let mark := fun (s : State) => s.modAgent a (fun g => { g with ending := g.ending.map (fun e => { e with claim := true }) })
  if x.cur.isNone then s
  else if st = 3 ∨ st = 4 then mark s
  else (mark (s.stopNow a)).progCheck a

/-- WORK_CLAIM (R277). -/
def execWorkClaim (d : Fin 4) (s : State) : Host.Outcome State Fault Refusal :=
  done (match s.takeWork d (· == 4) with
  | none => s
  | some (m, s) => s.workCheck d m (fun s =>
      let ep := bits m.m0 31 16
      let cur := s.rd (sd d) R.SD_EPOCH_EPOCH
      if cur < ep then
        let s := (s.wr (sd d) R.SD_EPOCH_EPOCH ep).wr (sd d) R.SD_EPOCH_NODE m.sn
        let s := s.modSd d (fun x => { x with claims := x.claims ++ [orderOf m] })
        ((List.range 8).foldl (fun s w => s.claimWing d w m.sn) s).claimCheck d
      else if ep = cur ∧ m.sn = s.rd (sd d) R.SD_EPOCH_NODE then
        (s.modSd d (fun x => { x with claims := x.claims ++ [orderOf m] })).claimCheck d
      else s.woRefuse d 5 m))

/-- WING_PROGRAM_START: the wing is idle and starts its oldest queued order (R258, R276). -/
def execWingProgramStart (d : Fin 4) (w : Fin 8) (s : State) : Host.Outcome State Fault Refusal :=
  let a := wcix d w
  done (match (s.wingx (wix d w)).starts, s.agState a with
  | o :: _, 0 =>
    let b := wg d w
    let s := (s.startQ d w (·.drop 1)).modWing (wix d w) (fun x => { x with cur := some o })
    let s := s.modAgent a (fun _ => { prog := true })
    let s := (((s.wr b R.WC_ORDER_ORDER (o.msg1 / 65536)).wr b R.WC_ORDER_EPOCH o.epoch).wr b R.WC_ESTAT_ESTAT 0).wr b
      R.WC_STAT_STOPREQ 0
    let s := (o.args.zipIdx).foldl (fun s p => s.sW a (p.2 + 1) (BitVec.ofNat 32 p.1)) s
    (s.setPc a o.entry).setAgState a 1
  | _, _ => s)

/-- Stack die `d` has answered every CLAIM and LOADPROG of its start: die `n` puts it in service, and its scrub takes
the shelf list's period (R277, R288, R64 step 13, R119). -/
def State.dieReady (s : State) (n d : Nat) : State :=
  let x := s.cdx n
  if x.bringUp.contains d && !x.claimsOut.contains d && x.loadsOut.all (fun i => i / 8 != d) then
    let s := s.modCd n (fun x => { x with bringUp := x.bringUp.erase d })
    let s := (s.wr (sd d) R.SCRUB_PERIOD_SECONDS x.shelf.scrub).setDie (2 + d) (if s.dieDegraded d then 3 else 2)
    s.lgRelevel n d
  else s

/-- DONE_RECEIVE at die `n` (R278, R435): a START's DONE is recorded, one for another kind signals SEM only, and one
that answers no order of this die is discarded and counted. -/
def execDoneReceive (n : Fin 2) (s : State) : Host.Outcome State Fault Refusal :=
  done (match s.takeMsg (fun m => m.ty == 0x03 && m.dn == cdNode n) with
  | none => s
  | some (m, s) =>
    let d := m.sn - 4
    let k := m.du
    let num := m.m1 / 65536
    let g := s.agent (sqix n k)
    let sem := fun (s : State) => if bitOf m.m1 15 then s.semSignal (csem n (bits m.m1 12 0)) 1 else s
    if m.su = 8 ∧ (s.cdx n).claimsOut.contains d then
      (sem (s.modCd n (fun x => { x with claimsOut := x.claimsOut.erase d }))).dieReady n d
    else if k < 8 ∧ g.orders.any (fun o => o.msg1 / 65536 == num && o.d == d && o.w == m.su) then s.doneStart n k m
    else if k < 8 ∧ g.stops.contains num then
      sem (s.modAgent (sqix n k) (fun x => { x with stops := x.stops.erase num }))
    else if (s.cdx n).loadsOut.contains (wix d m.su) then
      (sem (s.modCd n (fun x => { x with loadsOut := x.loadsOut.erase (wix d m.su) }))).dieReady n d
    else s.inc (cd n) R.PAIR_CNT_ORPHAN)

/-- STOP_NOROUTE_TIMEOUT: no DONE within 50 us of a STOP for order `num` of sequencer `a` (R280). -/
def execStopNorouteTimeout (a : Fin 16) (num : Fin 65536) (s : State) : Host.Outcome State Fault Refusal :=
  let g := s.agent a
  done (match g.orders.find? (fun o => o.msg1 / 65536 == num.val) with
  | some o => if g.stops.contains num.val then s.noRoute (sqDie a) (a.val % 8) o else s
  | none => s)

/-! ### Debug run control -/

/-- Debug of die `n` is open (R624). -/
def State.dbgOpen (s : State) (n : Nat) : Bool := s.flag (cd n) R.SEC_STAT_DBG_OPEN
/-- DBG_RUN bits of HALT: an idle sequencer halts at once (R676). -/
def State.dbgHaltSq (s : State) (n k : Nat) : State :=
  let a := sqix n k
  if !s.dbgOpen n || s.agState a == 5 then s
  else if s.agState a = 0 then s.setAgState a 5
  else (s.modAgent a (fun g => { g with dbgHalt := true })).boundary a
/-- DBG_RUN bits of RESUME. -/
def State.dbgResumeSq (s : State) (n k : Nat) : State :=
  let a := sqix n k
  if !s.dbgOpen n || s.agState a != 5 then s else s.setAgState a (if (s.agent a).prog then 1 else 0)
/-- DBG_RUN bits of STEP. -/
def State.dbgStepSq (s : State) (n k : Nat) : State :=
  let a := sqix n k
  if !s.dbgOpen n || s.agState a != 5 || !(s.agent a).prog then s
  else (s.setAgState a 1).modAgent a (fun g => { g with step := 1 })

/-- DBG_HALT of the sequencers in `mask` (R676). -/
def execDbgHalt (n : Fin 2) (mask : BitVec 8) (s : State) : Host.Outcome State Fault Refusal :=
  done ((List.range 8).foldl (fun s k => if bitOf mask.toNat k then s.dbgHaltSq n k else s) s)
/-- DBG_RESUME of the sequencers in `mask` (R676). -/
def execDbgResume (n : Fin 2) (mask : BitVec 8) (s : State) : Host.Outcome State Fault Refusal :=
  done ((List.range 8).foldl (fun s k => if bitOf mask.toNat k then s.dbgResumeSq n k else s) s)
/-- DBG_STEP of the sequencers in `mask` (R676). -/
def execDbgStep (n : Fin 2) (mask : BitVec 8) (s : State) : Host.Outcome State Fault Refusal :=
  done ((List.range 8).foldl (fun s k => if bitOf mask.toNat k then s.dbgStepSq n k else s) s)

end Sys2Proof.Machine
end

