-- ==== Sys2Proof/Machine/Float.lean ====
section
/-! DEFINITION. BF16 and FP32 values (R157, R308): exact values as dyadic numbers, one rounding to nearest with ties to
even, and the functions of R314, each correctly rounded. -/

namespace Sys2Proof.Machine

/-- A floating-point value: NaN, an infinity, or the exact number (-1)^neg x m x 2^e, a zero where m is 0. -/
inductive Fv where
  | nan
  | inf (neg : Bool)
  | num (neg : Bool) (m : Nat) (e : Int)
  deriving DecidableEq, Repr

/-- The sign of a value; a NaN has none. -/
def Fv.neg : Fv → Bool
  | .nan => false
  | .inf n => n
  | .num n _ _ => n
/-- An infinity or a NaN. -/
def Fv.nonfinite : Fv → Bool
  | .num _ _ _ => false
  | _ => true
/-- Zero. -/
def Fv.isZero : Fv → Bool
  | .num _ 0 _ => true
  | _ => false

/-- m with its sign. -/
def signed (neg : Bool) (m : Nat) : Int := if neg then -(m : Int) else m
/-- A dyadic number from a signed integer and an exponent; an exact zero takes the sign `z`. -/
def dyadic (x e : Int) (z : Bool) : Fv := if x = 0 then .num z 0 0 else .num (decide (x < 0)) x.natAbs e

/-- The exact sum; a sum that is exactly zero takes the sign `z`. -/
def Fv.add (x y : Fv) (z : Bool) : Fv :=
  match x, y with
  | .nan, _ => .nan
  | _, .nan => .nan
  | .inf a, .inf b => if a = b then .inf a else .nan
  | .inf a, _ => .inf a
  | _, .inf b => .inf b
  | .num a m e, .num b n f =>
    let g := min e f
    dyadic (signed a m * ((2 ^ (e - g).toNat : Nat) : Int) + signed b n * ((2 ^ (f - g).toNat : Nat) : Int)) g z
/-- The exact product. -/
def Fv.mul (x y : Fv) : Fv :=
  match x, y with
  | .nan, _ => .nan
  | _, .nan => .nan
  | .inf a, .inf b => .inf (a != b)
  | .inf a, .num b n _ => if n = 0 then .nan else .inf (a != b)
  | .num a m _, .inf b => if m = 0 then .nan else .inf (a != b)
  | .num a m e, .num b n f => .num (a != b) (m * n) (e + f)
/-- The value with the other sign. -/
def Fv.negate : Fv → Fv
  | .nan => .nan
  | .inf a => .inf (!a)
  | .num a m e => .num (!a) m e
/-- The value times 2^k. -/
def Fv.scale (x : Fv) (k : Int) : Fv :=
  match x with
  | .num a m e => .num a m (e + k)
  | y => y

/-- x rounded to an integer, to nearest, ties to even. -/
def Fv.rne : Fv → Int
  | .num a m e => signed a (if 0 ≤ e then m * 2 ^ e.toNat else (rneShift m (-e).toNat).toNat)
  | _ => 0

/-- A magnitude m x 2^e rounded to `p` bits, exponents of the last bit not below `lo`: mantissa and exponent. -/
def roundMag (p : Nat) (lo : Int) (m : Nat) (e : Int) : Nat × Int :=
  let q := max (e + (Nat.log2 m : Int) + 1 - p) lo
  let r := if q ≤ e then m * 2 ^ (e - q).toNat else (rneShift m (q - e).toNat).toNat
  if r = 2 ^ p then (2 ^ (p - 1), q + 1) else (r, q)

/-- The encoding with `p` bits of precision and 8 exponent bits; `flush` turns a rounded subnormal into a zero of the
same sign. -/
def Fv.encode (p : Nat) (flush : Bool) : Fv → Nat
  | .nan => 255 * 2 ^ (p - 1) + 2 ^ (p - 2)
  | .inf a => b2n a * 2 ^ (p + 7) + 255 * 2 ^ (p - 1)
  | .num a m e =>
    let s := b2n a * 2 ^ (p + 7)
    if m = 0 then s
    else
      let r := roundMag p (-125 - p) m e
      if r.1 < 2 ^ (p - 1) then s + (if flush then 0 else r.1)
      else if 255 ≤ r.2 + p + 126 then s + 255 * 2 ^ (p - 1)
      else s + (r.2 + p + 126).toNat * 2 ^ (p - 1) + (r.1 - 2 ^ (p - 1))
/-- The value of an encoding; `flush` counts a subnormal as a zero of the same sign. -/
def decodeF (p : Nat) (flush : Bool) (x : Nat) : Fv :=
  let a := bitOf x (p + 7)
  let ex := bits x (p + 6) (p - 1)
  let f := x % 2 ^ (p - 1)
  if ex = 255 then (if f = 0 then .inf a else .nan)
  else if ex = 0 then (if flush || f == 0 then .num a 0 0 else .num a f (-125 - p))
  else .num a (2 ^ (p - 1) + f) (ex - 126 - p)

/-- An FP32 of the accumulators: subnormals are kept (R157). -/
def f32 (x : Nat) : Fv := decodeF 24 false x
def Fv.to32 (x : Fv) : Nat := x.encode 24 false
/-- A BF16 of the vector unit: subnormals count as zero (R308). -/
def bf (x : Nat) : Fv := decodeF 8 true x
def Fv.toBf (x : Fv) : Nat := x.encode 8 true

/-- FP32 addition and subtraction under R157: an exact zero sum is +0. -/
def add32 (x y : Nat) : Nat := ((f32 x).add (f32 y) false).to32
def sub32f (x y : Nat) : Nat := ((f32 x).add (f32 y).negate false).to32
/-- An FP32 that is infinite or NaN. -/
def nonfin32 (x : Nat) : Bool := bits x 30 23 == 255
/-- A BF16 that is infinite or NaN. -/
def nonfin16 (x : Nat) : Bool := bits x 14 7 == 255
/-- An FP32 rounded to BF16 (R158). -/
def to16 (x : Nat) : Nat := (f32 x).encode 8 false

/-! ### The functions of R314 -/

/-- A quotient a x 2^k / b with a sticky last bit: rounding it once rounds the exact quotient. -/
def quot (neg : Bool) (a b k : Nat) (e : Int) : Fv :=
  let q := a * 2 ^ k / b
  .num neg (2 * q + b2n (decide (a * 2 ^ k % b ≠ 0))) (e - k - 1)

/-- 1 / x. -/
def fRcp : Fv → Fv
  | .nan => .nan
  | .inf a => .num a 0 0
  | .num a m e => if m = 0 then .inf a else quot a 1 m 64 (-e)

/-- 1 / sqrt x: the root of 2^k / m with a sticky last bit. -/
def fRsq : Fv → Fv
  | .nan => .nan
  | .inf a => if a then .nan else .num false 0 0
  | .num a m e =>
    if m = 0 then .inf a
    else if a then .nan
    else
      let odd := e % 2 ≠ 0
      let m := if odd then 2 * m else m
      let e := if odd then e - 1 else e
      let r := Nat.sqrt (2 ^ 128 / m)
      .num false (2 * r + b2n (decide (r * r * m ≠ 2 ^ 128))) (-e / 2 - 65)

/-- Fraction bits of the evaluation of e^x. -/
def expBits : Nat := 192
/-- The sum of t^i / i! from term `i` on, t in units of 2^-expBits, with `n` terms left. -/
def expSum (t : Nat) : Nat → Nat → Nat → Nat
  | 0, _, _ => 0
  | n + 1, i, term => term + expSum t n (i + 1) (term * t / 2 ^ expBits / (i + 1))
/-- e^y for 0 ≤ y = m x 2^e < 128, in units of 2^-expBits: the series at y / 256, squared eight times. -/
def expFix (m : Nat) (e : Int) : Nat :=
  let sh := (expBits : Int) - 8 + e
  let t := if 0 ≤ sh then m * 2 ^ sh.toNat else m / 2 ^ (-sh).toNat
  (List.range 8).foldl (fun v _ => v * v / 2 ^ expBits) (expSum t 40 0 (2 ^ expBits))
/-- e^x. Arguments of 128 and above overflow, those of -128 and below vanish, and an x below 2^-40 in magnitude
rounds to 1.0. -/
def fExp : Fv → Fv
  | .nan => .nan
  | .inf a => if a then .num false 0 0 else .inf false
  | .num a m e =>
    if m = 0 ∨ e + (Nat.log2 m : Int) < -40 then .num false 1 0
    else if 7 ≤ e + (Nat.log2 m : Int) then (if a then .num false 0 0 else .inf false)
    else
      let v := expFix m e
      if a then quot false (2 ^ expBits) v 256 0 else .num false (2 * v + 1) (-(expBits : Int) - 1)

end Sys2Proof.Machine
end

