-- ==== Sys2Proof/Machine/Stacks.lean ====
section
/-! DEFINITION. The stacks and the accumulators (chapters 4 and 5): the folio map, weight rows with their check and
tally columns, the MVM in its three modes with replays, readout and clearing of accumulator sets, the scale history. -/

namespace Sys2Proof.Machine

/-! ### Folio map and cells -/

/-- The position of logical folio `f`; 15 for none (R98). -/
def State.folioPos (s : State) (d w f : Nat) : Nat :=
  if f < 8 then bits (s.rd (wg d w) R.FMAP_LO_POS) (4 * f + 3) (4 * f)
  else if f < 14 then bits (s.rd (wg d w) R.FMAP_HI_POS) (4 * (f - 8) + 3) (4 * (f - 8))
  else 15
/-- The map names position `p` for logical folio `f`. -/
def State.setFolioPos (s : State) (d w f p : Nat) : State :=
  let b := wg d w
  if f < 8 then s.wr b R.FMAP_LO_POS (putBits (s.rd b R.FMAP_LO_POS) (4 * f + 3) (4 * f) p)
  else s.wr b R.FMAP_HI_POS (putBits (s.rd b R.FMAP_HI_POS) (4 * (f - 8) + 3) (4 * (f - 8)) p)
/-- The state of position `p`: 0 SERVING, 1 SPARE, 2 LOADING, 3 SHADOW, 4 SUSPECT, 5 AWAIT, 6 RETIRED, 7 FUSED_OUT. -/
def State.posState (s : State) (d w p : Nat) : Nat :=
  let b := wg d w
  if p < 10 then bits (s.rd b R.FPOS_LO_F) (3 * p + 2) (3 * p)
  else if p < 15 then bits (s.rd b R.FPOS_HI_F) (3 * (p - 10) + 2) (3 * (p - 10)) else 7
/-- Sets the state of a position. -/
def State.setPosState (s : State) (d w p v : Nat) : State :=
  let b := wg d w
  if p < 10 then s.wr b R.FPOS_LO_F (putBits (s.rd b R.FPOS_LO_F) (3 * p + 2) (3 * p) v)
  else s.wr b R.FPOS_HI_F (putBits (s.rd b R.FPOS_HI_F) (3 * (p - 10) + 2) (3 * (p - 10)) v)
/-- The logical folio a position carries. -/
def State.posFolio (s : State) (d w p : Nat) : Option Nat := (List.range 14).find? (fun f => s.folioPos d w f == p)
/-- The lowest position in a state. -/
def State.posIn (s : State) (d w st : Nat) : Option Nat := (List.range 15).find? (fun p => s.posState d w p == st)
/-- The position that runs in shadow of logical folio `f` (R128). -/
def State.shadowOf (s : State) (d w f : Nat) : Option Nat :=
  let b := wg d w
  if s.rd b R.FOLIO_STAT_OP = 2 ∧ s.rd b R.FOLIO_STAT_PHASE = 4 ∧ s.rd b R.FOLIO_STAT_FOLIO = f then
    some (s.rd b R.FOLIO_STAT_TARGET)
  else none

/-- Key of the first byte of a row of a position's cells: region 0x1 of R34 with the position in place of the folio. -/
def cellAddr (d w p leaf row : Nat) : Nat :=
  sdNode d * 2 ^ 36 + 2 ^ 32 + w * 2 ^ 25 + p * 2 ^ 21 + leaf * 2 ^ 18 + row * 2 ^ 8
/-- Number of a position's row in its wing, and its key among all rows. -/
def rowNo (p leaf row : Nat) : Nat := (p * 8 + leaf) * 1024 + row
def rowKey (d w n : Nat) : Nat := wix d w * 2 ^ 17 + n
/-- Columns of a row that differ from what was written. -/
def State.rowFlips (s : State) (k : Nat) : List Nat := Store.get [] s.flips k

/-- One cell of the row with key `k` and data at `addr` changes: a data cell changes the row's byte (R97). -/
def State.flipAt (s : State) (k addr c : Nat) : State :=
  let l := s.rowFlips k
  let s := { s with flips := Store.put [] s.flips k (if l.contains c then l.erase c else l ++ [c]) }
  if c < 2048 then s.stb (addr + c / 8) (s.ldb (addr + c / 8) ^^^ BitVec.ofNat 8 (2 ^ (c % 8))) else s
/-- One cell of row `n` of a wing changes. -/
def State.flipCell (s : State) (d w n c : Nat) : State :=
  s.flipAt (rowKey d w n) (cellAddr d w (n / 8192) (n / 1024 % 8) (n % 1024)) c
/-- Cells that have changed by themselves: row number in the wing, and column. -/
def State.upsets (s : State) (d w : Nat) (l : List (Nat × Nat)) : State :=
  l.foldl (fun s x => if x.1 < 15 * 8192 ∧ x.2 < 2368 then s.flipCell d w x.1 x.2 else s) s
/-- A row is written with fresh check and tally columns (R85, R111). -/
def State.writeRow (s : State) (d w n : Nat) (data : List Byte) : State :=
  let s := { s with flips := Store.put [] s.flips (rowKey d w n) [] }
  s.stn (cellAddr d w (n / 8192) (n / 1024 % 8) (n % 1024)) data

/-- The sum of a segment's 32 data bytes. -/
def segSum (data : List Byte) (seg : Nat) : Nat := ((data.drop (32 * seg)).take 32).foldl (fun a b => a + b.toNat) 0
/-- The stored tally value of a segment, from the data now in the row and the columns that differ (R111). -/
def storedTally (data : List Byte) (flips : List Nat) (seg : Nat) : Nat :=
  let was := flips.foldl (fun (a : Int) c =>
    if c / 256 = seg then
      if bitOf (data.getD (c / 8) 0).toNat (c % 8) then a - ((2 ^ (c % 8) : Nat) : Int) else a + ((2 ^ (c % 8) : Nat) : Int)
    else a) (segSum data seg : Int)
  flips.foldl (fun t c => if 2304 + 8 * seg ≤ c ∧ c < 2312 + 8 * seg then t ^^^ 2 ^ (c - 2304 - 8 * seg) else t)
    (wrapTo 8 was)
/-- What one row driven with 1 adds to a segment's syndrome (R112, R113): the row with key `k` and data at `addr`. -/
def State.syndAt (s : State) (k addr seg : Nat) : Nat :=
  let l := s.rowFlips k
  if l = [] then 0
  else
    let data := s.ldn addr 256
    (segSum data seg + 256 - storedTally data l seg) % 256
def State.rowSynd (s : State) (d w n seg : Nat) : Nat :=
  s.syndAt (rowKey d w n) (cellAddr d w (n / 8192) (n / 1024 % 8) (n % 1024)) seg

/-! ### Accumulator sets -/

/-- Key of an accumulator entry. -/
def accKey (d w p a e : Nat) : Nat := ((wix d w * 15 + p) * 4 + a) * 1024 + e
/-- The main word of an entry, and its poison mark (R141). -/
def State.accWord (s : State) (k : Nat) : Nat := Store.get 0 s.acc k % 2 ^ 32
def State.accBad (s : State) (k : Nat) : Bool := bitOf (Store.get 0 s.acc k) 32
/-- Writes an entry. -/
def State.accPut (s : State) (k v : Nat) (bad : Bool) : State :=
  { s with acc := Store.put 0 s.acc k (v % 2 ^ 32 + b2n bad * 2 ^ 32) }

/-- KIND and SHIFT fields of SCALE for a set. -/
def kindFld : Nat → Fld
  | 0 => R.SCALE_KIND0 | 1 => R.SCALE_KIND1 | 2 => R.SCALE_KIND2 | _ => R.SCALE_KIND3
def shiftFld : Nat → Fld
  | 0 => R.SCALE_SHIFT0 | 1 => R.SCALE_SHIFT1 | 2 => R.SCALE_SHIFT2 | _ => R.SCALE_SHIFT3
/-- KIND and SHIFT of set `a` of folio `f` in position `p`: SCALE for the position the map names, the shadow's own
otherwise. -/
def State.setScale (s : State) (d w f p a kind shift : Nat) : State :=
  if s.folioPos d w f = p then (s.wr (wg d w) ((kindFld a).at f) kind).wr (wg d w) ((shiftFld a).at f) shift
  else { s with shScale := Store.put 0 s.shScale ((wix d w * 15 + p) * 4 + a) (kind * 16 + shift) }
def State.kind (s : State) (d w f p a : Nat) : Nat :=
  if s.folioPos d w f = p then s.rd (wg d w) ((kindFld a).at f)
  else Store.get 0 s.shScale ((wix d w * 15 + p) * 4 + a) / 16
def State.shift (s : State) (d w f p a : Nat) : Nat :=
  if s.folioPos d w f = p then s.rd (wg d w) ((shiftFld a).at f)
  else Store.get 0 s.shScale ((wix d w * 15 + p) * 4 + a) % 16
def State.setKind (s : State) (d w f p a kind : Nat) : State := s.setScale d w f p a kind (s.shift d w f p a)

/-- The kinds after an MVM with ACC 0 in mode 0 I, 1 C, 2 K (R143). -/
def State.newKinds (s : State) (d w f p a mode : Nat) : State :=
  let was := s.kind d w f p a
  let s := s.setKind d w f p a mode
  if mode = 2 then s.setKind d w f p (a + 2) 3
  else if was = 2 then s.setKind d w f p (a + 2) 0
  else if was = 3 ∧ s.kind d w f p (a - 2) = 2 then s.setKind d w f p (a - 2) 1
  else s
/-- ACCCLR of a set: a set of kind FPK takes its companion along (R160). -/
def State.accClear (s : State) (d w f p a : Nat) : State :=
  let one := fun (s : State) a =>
    { s with acc := Store.clear s.acc (accKey d w p a 0) (accKey d w p (a + 1) 0) }.setScale d w f p a 0 0
  if s.kind d w f p a = 2 then one (one s a) (a + 2) else one s a
/-- The sets of one position are copied to another, with their poison marks (R127). -/
def State.accCopy (s : State) (d w p q : Nat) : State :=
  let lo := accKey d w p 0 0
  let own := s.acc.filter (fun e => decide (lo ≤ e.1) && decide (e.1 < lo + 4096))
  let to0 := accKey d w q 0 0
  own.foldl (fun s e => { s with acc := Store.put 0 s.acc (to0 + (e.1 - lo)) e.2 })
    { s with acc := Store.clear s.acc to0 (to0 + 4096) }

/-! ### The MVM -/

/-- Planes and signedness of an input format; none where it is reserved (R101). -/
def inFmt (c : Nat) : Option (Nat × Bool) :=
  if c < 8 then some (c + 1, false) else if 9 ≤ c ∧ c < 16 then some (c - 7, true) else if c = 16 then some (8, true) else none

/-- The elements of an integer chunk (R101). -/
def intChunk (p : Nat) (sgn : Bool) (data : List Byte) : List Int :=
  data.map (fun b => if sgn then sext p b.toNat else ((b.toNat % 2 ^ p : Nat) : Int))
/-- The BF16 elements of a chunk. -/
def bfElems : List Byte → List Nat
  | lo :: hi :: rest => (lo.toNat + 256 * hi.toNat) :: bfElems rest
  | _ => []
/-- Block floating point (R102): mantissas, chunk exponent, and whether an element was not finite. -/
def bfpChunk (data : List Byte) : List Int × Int × Bool :=
  let xs := bfElems data
  let ex := fun x => bits x 14 7
  let live := fun x => ex x != 0 && ex x != 255
  let nf := xs.any (fun x => ex x == 255)
  match (xs.filter live).map ex with
  | [] => (xs.map (fun _ => 0), 0, nf)
  | e :: es =>
    let top := es.foldl max e
    (xs.map (fun x => if live x then
        max (-127) (min 127 (rneShift (signed (bitOf x 15) (128 + x % 128)) (top - ex x + 1)))
      else 0), (top : Int) - 133, nf)

/-- Weight `k` of a row, of precision `w` bits (R100). -/
def State.weight (s : State) (addr prec k : Nat) : Int :=
  sext prec ((s.ldb (addr + k * prec / 8)).toNat / 2 ^ (k * prec % 8))
/-- The row-group result R(g, k) of a position (R103). -/
def State.rgSum (s : State) (d w p leaf prec g k : Nat) (xs : List Int) : Int :=
  (xs.zipIdx).foldl (fun a x => a + x.1 * s.weight (cellAddr d w p leaf (32 * g + x.2)) prec k) 0
/-- Inputs under a pre-shift (R147). -/
def preShift (sh : Nat) (xs : List Int) : List Int := xs.map (fun x => x / ((2 ^ sh : Nat) : Int))

/-- The values of an entry in a run of mode I: it ends or stays at its bound where it leaves the INT32 range (R148,
R149). The value, and the row group of the first overflow. -/
def sumRun : Int → Nat → List Int → Int × Option Nat
  | v, _, [] => (v, none)
  | v, j, r :: rs => if clampS 32 (v + r) = v + r then sumRun (v + r) (j + 1) rs else (clampS 32 (v + r), some j)
/-- A promotion group's chunk: the aligned sum, its exponent, and the row group where it leaves 24 bits (R153). -/
def chunkRun : Int → Int → Nat → List (Int × Int) → Int × Int × Option Nat
  | c, ec, _, [] => (c, ec, none)
  | c, ec, j, (r, e) :: rs =>
    let c' := if ec < e then rneShift c (e - ec).toNat else c
    let ec' := max ec e
    let v := c' + rneShift r (ec' - e).toNat
    if clampS 24 v = v then chunkRun v ec' (j + 1) rs else (v, ec', some j)
/-- The chunk of a group's results. -/
def chunkOf (l : List (Int × Int)) : Int × Int × Option Nat :=
  match l with
  | [] => (0, 0, none)
  | (r, e) :: rs => chunkRun 0 e 0 ((r, e) :: rs)

/-- The least of some row-group numbers. -/
def firstOver (l : List (Option Nat)) : Option Nat :=
  l.foldl (fun a x => match a, x with
    | some i, some j => some (min i j)
    | none, y => y
    | y, none => y) none
/-- The runs of mode I from shift `sh` with `k` replays left: shift and row groups executed (R146 to R149). -/
def iRuns (n : Nat) (at_ : Nat → Option Nat) : Nat → Nat → List (Nat × Nat)
  | 0, sh => [(sh, n)]
  | k + 1, sh =>
    if sh = 15 then [(sh, n)]
    else match at_ sh with
      | none => [(sh, n)]
      | some j => (sh, j + 1) :: iRuns n at_ k (sh + 1)

/-- One promotion of mode C (R155): the new main word, and whether a result was not finite. -/
def promoteC (m : Nat) (c ec : Int) : Nat × Bool :=
  let p := (dyadic c ec false).to32
  let t := add32 m p
  (t, nonfin32 p || nonfin32 t)
/-- One promotion of mode K (R156): main word, compensation word, and whether a result was not finite. -/
def promoteK (m q : Nat) (c ec : Int) : Nat × Nat × Bool :=
  let p := (dyadic c ec false).to32
  let y := sub32f p q
  let t := add32 m y
  let q' := if nonfin32 t then 0 else sub32f (sub32f t m) y
  (t, q', nonfin32 p || nonfin32 y || nonfin32 t || nonfin32 q')

/-- The fields of an MVM (R302). -/
structure Mvm where
  folios : List Nat
  leaf : Nat
  set : Nat
  acc : Bool
  mode : Nat
  fmt : Nat
  count : Nat
  first : Nat
  tag : Nat
  addr : Nat
  precs : List Nat
  deriving DecidableEq, Repr

/-- The fields of an MVM in the queue. -/
def mvmOf (i : EngIns) : Mvm :=
  { folios := (List.range 14).filter (fun f => bitOf i.ef (9 + f)), leaf := bits i.ef 8 6, set := bits i.ef 5 4,
    acc := bitOf i.ef 3, mode := bits i.ef 2 1, fmt := bits i.ext 23 19, count := bits i.ext 18 13,
    first := bits i.ext 12 8, tag := bits i.ext 7 0, addr := (i.vb + i.vc) % 2 ^ 40, precs := i.vx }
/-- Precision in bits of the leaf in folio `f`. -/
def Mvm.prec (m : Mvm) (f : Nat) : Nat := 2 * 2 ^ bits (m.precs.getD f 0x5555) (2 * m.leaf + 1) (2 * m.leaf)
/-- Entries written in folio `f` (R100). -/
def Mvm.entries (m : Mvm) (f : Nat) : Nat := 2048 / m.prec f
def Mvm.chunkBytes (m : Mvm) : Nat := if m.fmt = 16 then 64 else 32
def Mvm.planes (m : Mvm) : Nat := ((inFmt m.fmt).map (·.1)).getD 8

/-- Bytes `addr` to `addr + len - 1` lie in wing `w`'s banks. -/
def ownBytes (d w addr len : Nat) : Bool := decide (rrAddr d w 0 ≤ addr ∧ addr + len ≤ rrAddr d w 0 + 2 ^ 23)

/-- The checks of R105 and R144: the first fault, 0 for none. -/
def State.mvmCheck (s : State) (d w : Nat) (m : Mvm) : Nat :=
  if !bitOf (s.rd (cd s.act) R.WING_LOADED_LOADED) (wix d w) then 0x10
  else if m.folios.any (fun f => s.folioPos d w f == 15) then 0x11
  else if 32 < m.first + m.count then 0x12
  else if (inFmt m.fmt).isNone || (m.fmt == 16 && m.mode == 0) then 0x13
  else if m.count != 0 && (m.addr % m.chunkBytes != 0 || !ownBytes d w m.addr (m.count * m.chunkBytes)) then 3
  else if m.mode == 2 && decide (2 ≤ m.set) then 0x14
  else if m.acc && m.count != 0 && m.folios.any (fun f => s.kind d w f (s.folioPos d w f) m.set != m.mode) then 0x15
  else 0

/-- The input of an MVM: elements and exponent per row group, and the status bits POISON_IN and NONFINITE (R101, R102,
R110, R188). -/
def State.mvmInput (s : State) (d w : Nat) (m : Mvm) : State × List (List Int × Int) × Bool × Bool :=
  let lo := (m.addr - rrAddr d w 0) / 64
  let ls := (List.range (linesOf (m.addr - rrAddr d w 0) (m.count * m.chunkBytes))).map (lo + ·)
  let bad := ls.any (fun l => s.lineMarked d w l)
  let chunks := (List.range m.count).map (fun j =>
    let data := s.ldn (m.addr + j * m.chunkBytes) m.chunkBytes
    match inFmt m.fmt with
    | some (p, sgn) => if m.fmt = 16 then bfpChunk data else (intChunk p sgn data, 0, false)
    | none => ([], 0, false))
  let s := ls.foldl (fun s l => s.lineCheck d w l 1) s
  (s, chunks.map (fun c => (c.1, c.2.1)), bad, chunks.any (·.2.2))

/-- The results of one entry over some row groups of a position, under a pre-shift; with their exponents. -/
def State.mvmSums (s : State) (d w p f : Nat) (m : Mvm) (inp : List (List Int × Int)) (j0 n sh k : Nat) :
    List (Int × Int) :=
  (List.range n).map (fun j =>
    let c := inp.getD (j0 + j) ([], 0)
    (s.rgSum d w p m.leaf (m.prec f) (m.first + j0 + j) k (preShift sh c.1), c.2 + sh))

/-- The first tally mismatch of a position in the order of R104, over the runs (shift, first row group, row groups)
that an MVM made (R112, R166). -/
def State.mvmTally (s : State) (d w p f : Nat) (m : Mvm) (inp : List (List Int × Int)) (runs : List (Nat × Nat × Nat)) :
    Option TallyHit :=
  let pts := runs.flatMap (fun r => (List.range r.2.2).flatMap (fun j =>
    (List.range (max (m.planes - r.1) 1)).flatMap (fun b => (List.range 8).map (fun seg => (r.1, r.2.1 + j, b, seg)))))
  let synd := fun (x : Nat × Nat × Nat × Nat) =>
    let xs := preShift x.1 (inp.getD x.2.1 ([], 0)).1
    ((xs.zipIdx).foldl (fun a e => if e.1 / ((2 ^ x.2.2.1 : Nat) : Int) % 2 = 1 then
      a + s.rowSynd d w (rowNo p m.leaf (32 * (m.first + x.2.1) + e.2)) x.2.2.2 else a) 0) % 256
  (pts.find? (fun x => synd x != 0)).map (fun x =>
    ⟨f, p, m.leaf, m.first + x.2.1, x.2.2.2, x.2.2.1, synd x, m.tag⟩)

/-- The base value of an entry in a run of mode I at shift `sh` (R147). -/
def State.iBase (s : State) (d w f p : Nat) (m : Mvm) (sh k : Nat) : Int :=
  if m.acc then sext 32 (s.accWord (accKey d w p m.set k)) / ((2 ^ (sh - s.shift d w f p m.set) : Nat) : Int) else 0
/-- An entry's run of mode I. -/
def State.iRun (s : State) (d w f p : Nat) (m : Mvm) (inp : List (List Int × Int)) (sh k : Nat) : Int × Option Nat :=
  sumRun (s.iBase d w f p m sh k) 0 ((s.mvmSums d w p f m inp 0 m.count sh k).map (·.1))
/-- The first row group in which an entry of a masked folio overflows at shift `sh`. -/
def State.iOver (s : State) (d w : Nat) (m : Mvm) (inp : List (List Int × Int)) (sh : Nat) : Option Nat :=
  firstOver (m.folios.flatMap (fun f => (List.range (m.entries f)).map (fun k =>
    (s.iRun d w f (s.folioPos d w f) m inp sh k).2)))
/-- Mode I commits the last run in a position (R150). `bad` poisons the result. -/
def State.iCommit (s : State) (d w f p : Nat) (m : Mvm) (inp : List (List Int × Int)) (sh : Nat) (bad : Bool) : State :=
  let vals := (List.range (m.entries f)).map (fun k => (k, (s.iRun d w f p m inp sh k).1))
  let s := vals.foldl (fun s x =>
    let key := accKey d w p m.set x.1
    s.accPut key (wrapTo 32 x.2) (bad || (m.acc && s.accBad key))) s
  let s := if m.acc then s else s.newKinds d w f p m.set 0
  s.setScale d w f p m.set (s.kind d w f p m.set) sh

/-- The promotion groups: first row group and number (R152). -/
def promGroups (n : Nat) : List (Nat × Nat) := (List.range ((n + 15) / 16)).map (fun g => (16 * g, min 16 (n - 16 * g)))
/-- The first row group of a promotion group in which a chunk leaves 24 bits at input shift `sh` (R154). -/
def State.cOver (s : State) (d w : Nat) (m : Mvm) (inp : List (List Int × Int)) (g : Nat × Nat) : Option Nat :=
  firstOver (m.folios.flatMap (fun f => (List.range (m.entries f)).map (fun k =>
    (chunkOf (s.mvmSums d w (s.folioPos d w f) f m inp g.1 g.2 0 k)).2.2)))
/-- Modes C and K commit in a position: `gs` are the groups with the input shift each ran at. -/
def State.cCommit (s : State) (d w f p : Nat) (m : Mvm) (inp : List (List Int × Int)) (gs : List ((Nat × Nat) × Nat))
    (bad : Bool) : State × Bool :=
  let res := (List.range (m.entries f)).map (fun k =>
    let m0 := if m.acc then s.accWord (accKey d w p m.set k) else 0
    let q0 := if m.acc then s.accWord (accKey d w p (m.set + 2) k) else 0
    let r := gs.foldl (fun (x : Nat × Nat × Bool) g =>
      let c := chunkOf (s.mvmSums d w p f m inp g.1.1 g.1.2 g.2 k)
      if m.mode = 1 then
        let y := promoteC x.1 c.1 c.2.1
        (y.1, x.2.1, x.2.2 || y.2)
      else
        let y := promoteK x.1 x.2.1 c.1 c.2.1
        (y.1, y.2.1, x.2.2 || y.2.2)) (m0, q0, false)
    (k, r))
  let s := res.foldl (fun s x =>
    let key := accKey d w p m.set x.1
    let mark := bad || (m.acc && s.accBad key)
    let s := s.accPut key x.2.1 mark
    if m.mode = 2 then s.accPut (accKey d w p (m.set + 2) x.1) x.2.2.1 mark else s) s
  (if m.acc then s else s.newKinds d w f p m.set m.mode, res.any (fun x => x.2.2.2))

/-- An MVM with RG_COUNT 0 and ACC 0 in a position (R109, R161). -/
def State.mvmZero (s : State) (d w f p : Nat) (m : Mvm) : State :=
  let s := (List.range (m.entries f)).foldl (fun s k =>
    let s := s.accPut (accKey d w p m.set k) 0 false
    if m.mode = 2 then s.accPut (accKey d w p (m.set + 2) k) 0 false else s) s
  let s := s.newKinds d w f p m.set m.mode
  s.setScale d w f p m.set (s.kind d w f p m.set) 0

/-- The positions that compute folio `f`: the serving one, and the shadow (R128). -/
def State.computing (s : State) (d w f : Nat) : List Nat :=
  s.folioPos d w f :: (s.shadowOf d w f).toList
/-- The shadow agrees with the serving position in what both wrote (R128, R168). -/
def State.shadowEq (s : State) (d w f p q : Nat) (m : Mvm) : Bool :=
  let sets := if m.mode = 2 then [m.set, m.set + 2] else [m.set]
  sets.all (fun a => s.kind d w f p a == s.kind d w f q a && s.shift d w f p a == s.shift d w f q a
    && (List.range (m.entries f)).all (fun k =>
      Store.get 0 s.acc (accKey d w p a k) == Store.get 0 s.acc (accKey d w q a k)))

/-- The scale history of a tag (R151). -/
def State.hist (s : State) (d w tag : Nat) : Nat :=
  if s.flag (wg d w) (R.SHIST_VALID.at tag) then s.rd (wg d w) (R.SHIST_SHIFT.at tag) else 0
def State.histSet (s : State) (d w tag shift : Nat) : State :=
  (s.wr (wg d w) (R.SHIST_VALID.at tag) 1).wr (wg d w) (R.SHIST_SHIFT.at tag) shift
def State.histClear (s : State) (d w tag : Nat) : State :=
  (s.wr (wg d w) (R.SHIST_VALID.at tag) 0).wr (wg d w) (R.SHIST_SHIFT.at tag) 0

/-- Adds to a saturating count. -/
def State.addTo (s : State) (b : Nat) (f : Fld) (n : Nat) : State :=
  s.wr b f (satAdd (s.rd b f) n (2 ^ (f.hi + 1 - f.lo) - 1))

/-- The first saturation of a final run: lowest row group, then folio, then entry (R149). -/
def State.ovfFirst (s : State) (d w : Nat) (m : Mvm) (inp : List (List Int × Int)) (sh j : Nat) : Nat × Nat :=
  ((m.folios.flatMap (fun f => (List.range (m.entries f)).map (fun k => (f, k)))).find? (fun x =>
    (s.iRun d w x.1 (s.folioPos d w x.1) m inp sh x.2).2 == some j)).getD (0, 0)

/-- What an MVM's runs give: the runs for the tally check, and the commit of a position. -/
structure MvmPlan where
  runs : List (Nat × Nat × Nat)
  replays : Nat
  shift : Nat := 0
  groups : List ((Nat × Nat) × Nat) := []
  /-- the row group of the first saturation in a final run -/
  ovf : Option Nat := none
  deriving DecidableEq, Repr

/-- The runs of an MVM that computes. -/
def State.mvmPlan (s : State) (d w : Nat) (m : Mvm) (inp : List (List Int × Int)) : MvmPlan :=
  if m.mode = 0 then
    let h := s.hist d w m.tag
    let s0 := if m.acc then m.folios.foldl (fun a f => max a (s.shift d w f (s.folioPos d w f) m.set)) h else h
    let rs := iRuns m.count (s.iOver d w m inp) 4 s0
    let sh := (rs.getLast?.map (·.1)).getD s0
    { runs := rs.map (fun r => (r.1, 0, r.2)), replays := rs.length - 1, shift := sh, ovf := s.iOver d w m inp sh }
  else
    let gs := (promGroups m.count).map (fun g => (g, if m.fmt = 16 then none else s.cOver d w m inp g))
    { runs := gs.flatMap (fun x => match x.2 with
        | some j => [(0, x.1.1, j + 1), (1, x.1.1, x.1.2)]
        | none => [(0, x.1.1, x.1.2)]),
      replays := (gs.filter (fun x => x.2.isSome)).length, groups := gs.map (fun x => (x.1, b2n x.2.isSome)) }

/-- An MVM that passes its checks, with a row-group count and a folio mask that are not 0. -/
def State.mvmCompute (s : State) (d w : Nat) (i : EngIns) (m : Mvm) : State × EngRun :=
  let b := wg d w
  let (s, inp, pin, nf) := s.mvmInput d w m
  let pl := s.mvmPlan d w m inp
  let hits := m.folios.filterMap (fun f => s.mvmTally d w (s.folioPos d w f) f m inp pl.runs)
  let shade := m.folios.filterMap (fun f => (s.shadowOf d w f).map (fun q => (f, q)))
  let shBad := shade.any (fun x => (s.mvmTally d w x.2 x.1 m inp pl.runs).isSome)
  let s := if m.mode = 0 then s.addTo b R.REPLAY_CNT_I pl.replays else s.addTo b R.REPLAY_CNT_C pl.replays
  let s := match pl.ovf with
    | some j =>
      let x := s.ovfFirst d w m inp pl.shift j
      (s.capture b R.OVF_LOG0_VALID.off 0 [(b, R.OVF_LOG0_FOLIO, x.1), (b, R.OVF_LOG0_SET, m.set),
        (b, R.OVF_LOG0_ENTRY, x.2), (b, R.OVF_LOG0_SHIFT, pl.shift), (b, R.OVF_LOG0_TAG, m.tag)]).inc b R.OVF_CNT_COUNT
    | none => if m.mode = 0 then s.histSet d w m.tag pl.shift else s
  let bad := fun f => pin || hits.any (fun h => h.folio == f)
  let (s, nf2) := m.folios.foldl (fun (x : State × Bool) f =>
    (x.1.computing d w f).foldl (fun (x : State × Bool) p =>
      if m.mode = 0 then (x.1.iCommit d w f p m inp pl.shift (bad f), x.2)
      else
        let y := x.1.cCommit d w f p m inp pl.groups (bad f)
        (y.1, x.2 || y.2)) x) (s, false)
  let sh := match shade with
    | (f, q) :: _ => some (!shBad && s.shadowEq d w f (s.folioPos d w f) q m)
    | [] => none
  (s, { ins := i, fault := if pl.ovf.isSome then 0x16 else 0,
        estat := b2n (!hits.isEmpty) + 2 * b2n pin + 4 * b2n (nf || nf2), hits := hits, shadow := sh })

/-- An MVM starts (R105, R109, R144, R161). -/
def State.mvmStart (s : State) (d w : Nat) (i : EngIns) : State × EngRun :=
  let m := mvmOf i
  let c := s.mvmCheck d w m
  if c ≠ 0 then (s, { ins := i, fault := c })
  else if m.folios = [] then (s, { ins := i })
  else if m.count = 0 then
    (if m.acc then s else m.folios.foldl (fun s f => (s.computing d w f).foldl (fun s p => s.mvmZero d w f p m) s) s,
      { ins := i })
  else s.mvmCompute d w i m

/-! ### ACCRD, ACCCLR, SCALEGET -/

/-- An entry as ACCRD delivers it: 0 RAW32, 1 FP32, 2 BF16 (R158). -/
def State.accRead (s : State) (d w f a fmt e : Nat) : Nat :=
  let p := s.folioPos d w f
  let v := s.accWord (accKey d w p a e)
  let k := s.kind d w f p a
  let x := if fmt = 0 then v
    else if k = 0 then (dyadic (sext 32 v) (s.shift d w f p a : Int) false).to32
    else if k = 2 then sub32f v (s.accWord (accKey d w p (a + 2) e))
    else v
  if fmt = 2 then to16 x else x

/-- ACCRD starts (R303, R304). -/
def State.accrdStart (s : State) (d w : Nat) (i : EngIns) : State × EngRun :=
  let f := bits i.ef 22 19
  let a := bits i.ef 18 17
  let fmt := bits i.ef 16 15
  let cnt := bits i.ext 20 10
  let fst := bits i.ext 9 0
  let ea := (i.vb + i.vc) % 2 ^ 40
  let size := if fmt = 2 then 2 else 4
  let len := 4 * ((cnt * size + 3) / 4)
  if 13 < f ∨ s.folioPos d w f = 15 then (s, { ins := i, fault := 0x11 })
  else if 1024 < fst + cnt then (s, { ins := i, fault := 0x12 })
  else if ea % 64 ≠ 0 ∨ (cnt ≠ 0 ∧ !ownBytes d w ea len) then (s, { ins := i, fault := 3 })
  else
    let data := (List.range cnt).flatMap (fun j => toBytes size (s.accRead d w f a fmt (fst + j)))
    let data := data ++ List.replicate (len - data.length) 0
    let per := 64 / size
    let o := ea - rrAddr d w 0
    ((List.range ((len + 63) / 64)).foldl (fun s l =>
      let bad := (List.range per).any (fun j =>
        decide (l * per + j < cnt) && s.accBad (accKey d w (s.folioPos d w f) a (fst + l * per + j)))
      s.rrStore d w (o + 64 * l) ((data.drop (64 * l)).take 64) bad) s, { ins := i })

/-- ACCCLR starts (R306). -/
def State.accclrStart (s : State) (d w : Nat) (i : EngIns) : State × EngRun :=
  let fs := (List.range 14).filter (fun f => bitOf i.ef (9 + f))
  if fs.any (fun f => s.folioPos d w f == 15) then (s, { ins := i, fault := 0x11 })
  else (fs.foldl (fun s f => (s.computing d w f).foldl (fun s p => s.accClear d w f p (bits i.ef 8 7)) s) s, { ins := i })

/-- SCALEGET starts (R159, R307). -/
def State.scalegetStart (s : State) (d w a : Nat) (i : EngIns) : State × EngRun :=
  let f := bits i.ef 22 19
  let st := bits i.ef 18 17
  let p := s.folioPos d w f
  if 13 < f ∨ p = 15 then (s, { ins := i, fault := 0x11 })
  else (s.regW a (i.dst.getD 0) (s.kind d w f p st * 16 + s.shift d w f p st), { ins := i })

end Sys2Proof.Machine
end

