-- ==== Sys2Proof/Machine/Takeover.lean ====
section
/-! DEFINITION. Failed positions and their replacement (chapter 4): tally verdicts, the scrubber, takeover, re-admission,
shadow runs, and the writes of LEAF_PREC and SHIST_WR. The folio reload itself, which reads an image, is in
Machine/Image.lean. -/

namespace Sys2Proof.Machine

/-! ### States of the positions -/

/-- FOLIO_STAT shows no reload and no shadow run. -/
def State.folioIdle (s : State) (d w : Nat) : Bool := s.rd (wg d w) R.FOLIO_STAT_OP == 0
/-- FOLIO_STAT of a running operation. -/
def State.folioOp (s : State) (d w op target folio phase : Nat) : State :=
  let b := wg d w
  (((s.wr b R.FOLIO_STAT_OP op).wr b R.FOLIO_STAT_TARGET target).wr b R.FOLIO_STAT_FOLIO folio).wr b R.FOLIO_STAT_PHASE
    phase
/-- FOLIO_STAT with no operation; FOLIO and ERR stay. -/
def State.folioEnd (s : State) (d w : Nat) : State :=
  let b := wg d w
  ((s.wr b R.FOLIO_STAT_OP 0).wr b R.FOLIO_STAT_TARGET 15).wr b R.FOLIO_STAT_PHASE 0

/-- Folios whose position is SUSPECT, lowest first. -/
def State.suspects (s : State) (d w : Nat) : List Nat :=
  (List.range 14).filter (fun f => s.posState d w (s.folioPos d w f) == 4)
/-- A SUSPECT folio for which nothing runs, while no position is SPARE (R130, R135). -/
def State.isBlocked (s : State) (d w : Nat) : Bool :=
  (s.posIn d w 1).isNone && (s.suspects d w).any (fun f =>
    s.folioIdle d w || s.rd (wg d w) R.FOLIO_STAT_FOLIO != f
      || (s.rd (wg d w) R.FOLIO_STAT_OP == 2 && s.rd (wg d w) R.FOLIO_STAT_PHASE != 4))
/-- FOLIO_STAT.BLOCKED follows R130; the cause sets when it comes to apply, or where `again` another SUSPECT joins. -/
def State.blockSync (s : State) (d w : Nat) (again : Bool) : State :=
  let b := wg d w
  let was := s.flag b R.FOLIO_STAT_BLOCKED
  let now := s.isBlocked d w
  let s := s.wrb b R.FOLIO_STAT_BLOCKED now
  if now && (again || !was) then s.raise b R.WING_CAUSE_BLOCKED else s

/-- DEGRADED of the wing: a former spare serves (DEGRADED); the die is degraded in DIES, or no longer (R29). -/
def State.formerSync (s : State) (d w : Nat) : State :=
  let on := (s.wingx (wix d w)).former ≠ []
  let s := s.wr (sd d) R.DEGRADED_WING (putBit (s.rd (sd d) R.DEGRADED_WING) w on)
  s.dieSync d

/-- Position `q` fails: RETIRED until the die powers up from off (R129). -/
def State.retire (s : State) (d w q err : Nat) : State :=
  let b := wg d w
  let s := (s.setPosState d w q 6).modWing (wix d w) (fun x => { x with awaits := x.awaits.filter (fun p => p.1 != q) })
  let s := if s.rd b R.FMAP_HI_SPARE = q then s.wr b R.FMAP_HI_SPARE 15 else s
  (((s.folioEnd d w).wr b R.FOLIO_STAT_ERR err).raise b R.WING_CAUSE_RETIRED).blockSync d w false
/-- The shadow run fails (R129). -/
def State.shadowFail (s : State) (d w q : Nat) : State :=
  { s.retire d w q 6 with shScale := Store.clear s.shScale ((wix d w * 15 + q) * 4) ((wix d w * 15 + q) * 4 + 4) }

/-- A serving position that fails becomes SUSPECT (R114). -/
def State.suspect (s : State) (d w p : Nat) : State :=
  if s.posState d w p = 0 then (s.setPosState d w p 4).blockSync d w true else s

/-- The tally verdict of an MVM (R114, R134): one log for the lowest folio, one count, every position SUSPECT. -/
def State.tallyVerdict (s : State) (d w : Nat) (hits : List TallyHit) : State :=
  if hits = [] then s
  else
    let b := wg d w
    let s := hits.foldl (fun s h =>
      s.capture b R.TALLY_LOG0_VALID.off 0 [(b, R.TALLY_LOG0_FOLIO, h.folio), (b, R.TALLY_LOG0_POS, h.pos),
        (b, R.TALLY_LOG0_LEAF, h.leaf), (b, R.TALLY_LOG0_RG, h.rg), (b, R.TALLY_LOG0_SEG, h.seg),
        (b, R.TALLY_LOG0_PLANE, h.plane), (b, R.TALLY_LOG0_SYND, h.synd), (b, R.TALLY_LOG1_TAG, h.tag),
        (b, R.TALLY_LOG1_SWEEP, 0)]) s
    let s := (s.inc b R.TALLY_CNT_COUNT).raise b R.WING_CAUSE_TALLY
    hits.foldl (fun s h => s.suspect d w h.pos) s

/-- A compared MVM of a shadow run completes (R128, R129). -/
def State.shadowDone (s : State) (d w : Nat) (r : Option Bool) : State :=
  let b := wg d w
  match r with
  | none => s
  | some ok =>
    if s.rd b R.FOLIO_STAT_OP = 2 ∧ s.rd b R.FOLIO_STAT_PHASE = 4 then
      let s := s.wr b R.SHADOW_CNT_COUNT (satAdd (s.rd b R.SHADOW_CNT_COUNT) 1 1024)
      if ok then s else s.shadowFail d w (s.rd b R.FOLIO_STAT_TARGET)
    else s

/-! ### The readout port -/

/-- A finding of the port: 1 CE with the codeword bit, 2 UE, 3 TALLY; and the word or segment. -/
structure Finding where
  kind : Nat
  word : Nat
  bit : Nat := 0
  deriving DecidableEq, Repr

/-- Codeword bits of word `m` that differ. -/
def wordFlips (l : List Nat) (m : Nat) : List Nat :=
  (l.filter (fun c => c / 64 == m && decide (c < 2048))).map (· % 64)
    ++ (l.filter (fun c => decide (2048 + 8 * m ≤ c ∧ c < 2056 + 8 * m))).map (fun c => 64 + (c - 2048 - 8 * m))
/-- What the code says of word `m` of a row (R118): one changed bit is corrected, two are detected; three or more are
beyond the code, and what it does is a free value: nothing, a wrong correction, or a detection. -/
def State.wordCheck (s : State) (l : List Nat) (m : Nat) : State × Option Finding :=
  match wordFlips l m with
  | [] => (s, none)
  | [b] => (s, some ⟨1, m, b⟩)
  | [_, _] => (s, some ⟨2, m, 0⟩)
  | _ =>
    let (s, r) := s.draw 9
    (s, if r % 4 < 2 then some ⟨2, m, 0⟩ else if r % 4 = 2 then some ⟨1, m, r / 4 % 72⟩ else none)
/-- The checks of the 32 words. -/
def State.wordChecks (s : State) (l : List Nat) : State × List Finding :=
  (List.range 32).foldl (fun x m =>
    let y := x.1.wordCheck l m
    (y.1, x.2 ++ y.2.toList)) (s, [])
/-- One readout of a row (R115, R117): the data delivered, corrected where a word is correctable, and the findings;
the tally is recomputed from the corrected data. -/
def State.readRow (s : State) (d w n : Nat) : State × List Byte × List Finding :=
  let l := s.rowFlips (rowKey d w n)
  let data := s.ldn (cellAddr d w (n / 8192) (n / 1024 % 8) (n % 1024)) 256
  if l = [] then (s, data, [])
  else
    let (s, fs) := s.wordChecks l
    let fix := fs.filterMap (fun f => if f.kind = 1 ∧ f.bit < 64 then some (64 * f.word + f.bit) else none)
    let out := fix.foldl (fun (a : List Byte) c => a.set (c / 8) (a.getD (c / 8) 0 ^^^ BitVec.ofNat 8 (2 ^ (c % 8)))) data
    let ts := (List.range 8).filter (fun g => segSum out g % 256 != storedTally data l g)
    (s, out, fs ++ ts.map (fun g => ⟨3, g, 0⟩))

/-- A finding is logged and acts on its position: `src` 1 for a move-engine readout (R117, R121). -/
def State.scrubFind (s : State) (d w n src : Nat) (f : Finding) : State :=
  let b := wg d w
  let p := n / 8192
  let s := s.capture b R.SCRUB_LOG0_VALID.off 0 [(b, R.SCRUB_LOG0_KIND, f.kind), (b, R.SCRUB_LOG0_SRC, src),
    (b, R.SCRUB_LOG0_POS, p), (b, R.SCRUB_LOG0_LEAF, n / 1024 % 8), (b, R.SCRUB_LOG0_ROW, n % 1024),
    (b, R.SCRUB_LOG0_WORD, f.word), (b, R.SCRUB_LOG1_BIT, f.bit)]
  let s := if f.kind = 1 then (s.inc b R.SCRUB_CNT_CE).raise b R.WING_CAUSE_SCRUB_CE
    else if f.kind = 2 then (s.inc b R.SCRUB_CNT_UE).raise b R.WING_CAUSE_SCRUB_UE
    else (s.inc b R.SCRUB_CNT_TALLY).raise b R.WING_CAUSE_SCRUB_TALLY
  if s.posState d w p = 3 then s.shadowFail d w p
  else if f.kind = 1 ∧ !s.flag b R.FOLIO_CTRL_SCRUB_CE_ACT then s
  else s.suspect d w p

/-- The scrubber visits position `wp` (15 x wing + position) of die `d` (R119). -/
def State.scrubs (s : State) (d wp : Nat) : Bool :=
  bitOf (s.rd (cd s.act) R.WING_LOADED_LOADED) (wix d (wp / 15))
    && [0, 3, 4].contains (s.posState d (wp / 15) (wp % 15))
/-- The row the scrubber reads next, from SCRUB_WHERE on: position and row, and whether the pass has ended. -/
def State.scrubNext (s : State) (d wp row : Nat) : Option (Nat × Nat × Bool) :=
  if s.scrubs d wp then some (wp, row, false)
  else match (List.range 120).find? (fun x => decide (wp < x) && s.scrubs d x) with
  | some x => some (x, 0, false)
  | none => ((List.range 120).find? (s.scrubs d)).map (fun x => (x, 0, true))
/-- SCRUB_WHERE names a row; a completed pass is counted. -/
def State.scrubMove (s : State) (d : Nat) (x : Nat × Nat × Bool) : State :=
  let b := sd d
  let s := (((s.wr b R.SCRUB_WHERE_WING (x.1 / 15)).wr b R.SCRUB_WHERE_POS (x.1 % 15)).wr b R.SCRUB_WHERE_LEAF
    (x.2.1 / 1024)).wr b R.SCRUB_WHERE_ROW (x.2.1 % 1024)
  if x.2.2 then s.wr b R.SCRUB_PASS_PASSES (s.rd b R.SCRUB_PASS_PASSES + 1) else s

/-- SCRUB_READ: the scrubber of die `d` reads the next row; `upset` are cells that have changed by themselves, as wing,
row number and column (R119, R121). -/
def execScrubRead (d : Fin 4) (upset : List (Nat × Nat × Nat)) (s : State) : Host.Outcome State Fault Refusal :=
  let b := sd d
  let s := upset.foldl (fun s x => s.upsets d (x.1 % 8) [x.2]) s
  done (if s.rd b R.SCRUB_PERIOD_SECONDS = 0 then s
  else
    let wp := 15 * s.rd b R.SCRUB_WHERE_WING + s.rd b R.SCRUB_WHERE_POS
    match s.scrubNext d wp (1024 * s.rd b R.SCRUB_WHERE_LEAF + s.rd b R.SCRUB_WHERE_ROW) with
    | none => s
    | some x =>
      let s := s.scrubMove d x
      let n := x.1 % 15 * 8192 + x.2.1
      let r := s.readRow d (x.1 / 15) n
      let s := r.2.2.foldl (fun s f => s.scrubFind d (x.1 / 15) n 0 f) r.1
      if x.2.1 < 8191 then s.scrubMove d (x.1, x.2.1 + 1, false)
      else match (List.range 120).find? (fun y => decide (x.1 < y) && s.scrubs d y) with
        | some y => s.scrubMove d (y, 0, false)
        | none => s.scrubMove d (((List.range 120).find? (s.scrubs d)).getD x.1, 0, true))

/-! ### Takeover and re-admission -/

/-- A reload of logical folio `f` into `q` starts: 1 takeover, 2 re-admission (R126, R128). -/
def State.reloadStart (s : State) (d w op q f : Nat) : State :=
  let s := ((s.setPosState d w q 2).folioOp d w op q f 1).wr (wg d w) R.FOLIO_STAT_ERR 0
  (s.modWing (wix d w) (fun x => { x with halted := none })).blockSync d w false
/-- A reload can start: none runs in the wing, and the device serves (R126, R128, R140). -/
def State.canReload (s : State) (d w : Nat) : Bool := s.folioIdle d w && s.rd (cd s.act) R.PWR_STATE_CUR == 4

/-- Re-admission of the lowest AWAIT position (R128). -/
def State.readmit (s : State) (d w : Nat) : State :=
  match s.posIn d w 5 with
  | some q =>
    let f := (((s.wingx (wix d w)).awaits.find? (fun p => p.1 == q)).map (·.2)).getD 0
    s.reloadStart d w 2 q f
  | none => s
/-- The commands of FOLIO_CTRL that wait for the wing to be free (FOLIO_CTRL). -/
def State.folioNext (s : State) (d w : Nat) : State :=
  let b := wg d w
  if !s.canReload d w then s
  else match s.flag b R.FOLIO_CTRL_RETRY, (s.wingx (wix d w)).halted with
  | true, some (op, q, f) => (s.wr b R.FOLIO_CTRL_RETRY 0).reloadStart d w op q f
  | _, _ =>
    if s.flag b R.FOLIO_CTRL_READMIT && (s.posIn d w 5).isSome then (s.wr b R.FOLIO_CTRL_READMIT 0).readmit d w else s

/-- A reload stops, or a shadow run is abandoned: the target returns to the state it held before (R131, R136). -/
def State.reloadStop (s : State) (d w err : Nat) : State :=
  let b := wg d w
  let op := s.rd b R.FOLIO_STAT_OP
  let q := s.rd b R.FOLIO_STAT_TARGET
  let f := s.rd b R.FOLIO_STAT_FOLIO
  if op = 0 then s
  else
    let s := (s.setPosState d w q (if op = 1 then 1 else 5)).folioEnd d w
    let s := { s with shScale := Store.clear s.shScale ((wix d w * 15 + q) * 4) ((wix d w * 15 + q) * 4 + 4) }
    let s := s.modWing (wix d w) (fun x => { x with halted := some (op, q, f) })
    (((s.wr b R.FOLIO_STAT_ERR err).raise b R.WING_CAUSE_RELOAD_FAIL).blockSync d w false).folioNext d w

/-- FOLIO_TAKEOVER_START: the lowest SUSPECT folio takes the spare (R126, R134). -/
def execFolioTakeoverStart (d : Fin 4) (w : Fin 8) (s : State) : Host.Outcome State Fault Refusal :=
  let held := fun f => (s.wingx (wix d w)).halted.any (fun h => h.1 == 1 && h.2.2 == f)
  done (match s.posIn d w 1, (s.suspects d w).find? (fun f => !held f) with
  | some q, some f =>
    if s.flag (wg d w) R.FOLIO_CTRL_AUTO_TAKEOVER && s.canReload d w then s.reloadStart d w 1 q f else s
  | _, _ => s)

/-- The write of 1 to FOLIO_CTRL.READMIT. -/
def State.readmitWrite (s : State) (d w : Nat) : State := (s.wr (wg d w) R.FOLIO_CTRL_READMIT 1).folioNext d w
/-- The write of 1 to FOLIO_CTRL.RETRY. -/
def State.retryWrite (s : State) (d w : Nat) : State := (s.wr (wg d w) R.FOLIO_CTRL_RETRY 1).folioNext d w
/-- FOLIO_READMIT (R128). -/
def execFolioReadmit (d : Fin 4) (w : Fin 8) (s : State) : Host.Outcome State Fault Refusal := done (s.readmitWrite d w)
/-- FOLIO_RETRY (R131). -/
def execFolioRetry (d : Fin 4) (w : Fin 8) (s : State) : Host.Outcome State Fault Refusal := done (s.retryWrite d w)

/-- ROW_SWEEP_DONE: every row of the target has been driven alone; `upset` are cells that have changed by themselves
(R124, R129). -/
def execRowSweepDone (d : Fin 4) (w : Fin 8) (upset : List (Nat × Nat)) (s : State) : Host.Outcome State Fault Refusal :=
  let b := wg d w
  let s := s.upsets d w upset
  let q := s.rd b R.FOLIO_STAT_TARGET
  done (if s.folioIdle d w || s.rd b R.FOLIO_STAT_PHASE != 2 then s
  else
    let bad := ((List.range 8192).flatMap (fun r => (List.range 8).map (fun g => (r, g)))).find? (fun x =>
      s.rowSynd d w (q * 8192 + x.1) x.2 != 0)
    match bad with
    | none => s.wr b R.FOLIO_STAT_PHASE 3
    | some (r, g) =>
      let s := (s.capture b R.TALLY_LOG0_VALID.off 0 [(b, R.TALLY_LOG0_FOLIO, s.rd b R.FOLIO_STAT_FOLIO),
        (b, R.TALLY_LOG0_POS, q), (b, R.TALLY_LOG0_LEAF, r / 1024), (b, R.TALLY_LOG0_RG, r % 1024 / 32),
        (b, R.TALLY_LOG0_SEG, g), (b, R.TALLY_LOG0_PLANE, 0), (b, R.TALLY_LOG0_SYND, s.rowSynd d w (q * 8192 + r) g),
        (b, R.TALLY_LOG1_TAG, 0), (b, R.TALLY_LOG1_SWEEP, 1)]).raise b R.WING_CAUSE_TALLY
      (s.retire d w q 5).folioNext d w)

/-- No MVM, ACCRD, ACCCLR or SCALEGET of the wing that names `f` is in flight (R127). -/
def State.folioQuiet (s : State) (d w f : Nat) : Bool :=
  match (s.engine (wcix d w) 2).run with
  | none => true
  | some r =>
    if r.ins.op = 0x40 ∨ r.ins.op = 0x42 then !bitOf r.ins.ef (9 + f) else bits r.ins.ef 22 19 != f

/-- FOLIO_CUTOVER: at an operation boundary after the sweep, a takeover switches the map (R126, R127), and a
re-admission begins its shadow run (R128). -/
def execFolioCutover (d : Fin 4) (w : Fin 8) (s : State) : Host.Outcome State Fault Refusal :=
  let b := wg d w
  let op := s.rd b R.FOLIO_STAT_OP
  let q := s.rd b R.FOLIO_STAT_TARGET
  let f := s.rd b R.FOLIO_STAT_FOLIO
  let p := s.folioPos d w f
  done (if op = 0 ∨ s.rd b R.FOLIO_STAT_PHASE ≠ 3 ∨ !s.folioQuiet d w f then s
  else
    let s := s.accCopy d w p q
    if op = 1 then
      let s := ((s.setFolioPos d w f q).setPosState d w q 0).setPosState d w p 5
      let s := if s.rd b R.FMAP_HI_SPARE = q then s.wr b R.FMAP_HI_SPARE 15 else s
      let s := s.modWing (wix d w) (fun x => { x with awaits := x.awaits ++ [(p, f)], former := x.former ++ [q] })
      let s := (((s.folioEnd d w).raise b R.WING_CAUSE_TAKEOVER_DONE).formerSync d w).blockSync d w false
      if s.flag b R.FOLIO_CTRL_AUTO_READMIT && s.canReload d w then s.readmit d w else s.folioNext d w
    else
      let s := (List.range 4).foldl (fun s a => s.setScale d w f q a (s.kind d w f p a) (s.shift d w f p a)) s
      ((s.setPosState d w q 3).folioOp d w 2 q f 4).wr b R.SHADOW_CNT_COUNT 0)

/-- SHADOW_SWITCH: after 1,024 comparisons the shadow takes its folio at a boundary (R128); a shadow whose serving
position has failed takes it at once (R135). -/
def execShadowSwitch (d : Fin 4) (w : Fin 8) (s : State) : Host.Outcome State Fault Refusal :=
  let b := wg d w
  let q := s.rd b R.FOLIO_STAT_TARGET
  let f := s.rd b R.FOLIO_STAT_FOLIO
  let p := s.folioPos d w f
  let failed := s.posState d w p == 4
  done (if s.rd b R.FOLIO_STAT_OP ≠ 2 ∨ s.rd b R.FOLIO_STAT_PHASE ≠ 4 ∨ !s.folioQuiet d w f
      ∨ (s.rd b R.SHADOW_CNT_COUNT ≠ 1024 ∧ !failed) then s
  else
    let s := { s with shScale := Store.clear s.shScale ((wix d w * 15 + q) * 4) ((wix d w * 15 + q) * 4 + 4) }
    let s := (s.setFolioPos d w f q).setPosState d w q 0
    let s := s.modWing (wix d w) (fun x => { x with
      awaits := x.awaits.filter (fun y => y.1 != q), former := x.former.filter (fun y => y != p) })
    if failed then
      let s := (s.setPosState d w p 5).modWing (wix d w) (fun x => { x with awaits := x.awaits ++ [(p, f)] })
      let s := ((s.folioEnd d w).formerSync d w).blockSync d w false
      if s.flag b R.FOLIO_CTRL_AUTO_READMIT && s.canReload d w then s.readmit d w else s.folioNext d w
    else
      let s := (s.setPosState d w p 1).wr b R.FMAP_HI_SPARE p
      ((((s.folioEnd d w).raise b R.WING_CAUSE_READMIT_DONE).formerSync d w).blockSync d w false).folioNext d w)

/-! ### LEAF_PREC and the scale history -/

/-- A write of LEAF_PREC of folio `f`: a code 0b11 is not stored (R99). -/
def State.leafPrec (s : State) (d w f v : Nat) : State :=
  let b := wg d w
  let old := s.rd b (R.LEAF_PREC_L.at f)
  s.wr b (R.LEAF_PREC_L.at f) ((List.range 8).foldl (fun a l =>
    let x := bits v (2 * l + 1) (2 * l)
    if x = 3 then a else putBits a (2 * l + 1) (2 * l) x) old)
/-- LEAF_PREC_WRITE (R99). -/
def execLeafPrecWrite (d : Fin 4) (w : Fin 8) (f : Fin 14) (v : Word) (s : State) :
    Host.Outcome State Fault Refusal := done (s.leafPrec d w f v.toNat)

/-- Every entry of the scale history is cleared. -/
def State.histClearAll (s : State) (d w : Nat) : State := s.clearRegs (wg d w + 0x400) (wg d w + 0x800)
/-- A write of SHIST_WR (R151, R169). -/
def State.histWrite (s : State) (d w v : Nat) : State :=
  if bitOf v 16 then s.histClearAll d w
  else if bitOf v 15 then s.histSet d w (v % 256) (bits v 11 8) else s.histClear d w (v % 256)
/-- SHIST_CLEAR_ALL. -/
def execShistClearAll (d : Fin 4) (w : Fin 8) (s : State) : Host.Outcome State Fault Refusal := done (s.histClearAll d w)
/-- SHIST_SET. -/
def execShistSet (d : Fin 4) (w : Fin 8) (tag : Fin 256) (shift : Fin 16) (s : State) :
    Host.Outcome State Fault Refusal := done (s.histSet d w tag shift)
/-- SHIST_CLEAR. -/
def execShistClear (d : Fin 4) (w : Fin 8) (tag : Fin 256) (s : State) : Host.Outcome State Fault Refusal :=
  done (s.histClear d w tag)

end Sys2Proof.Machine
end

