-- ==== Sys2Proof/Machine/Move.lean ====
section
/-! DEFINITION. The move engine and the link engine of an agent: MOV, MOVT, RESHARD, WRREM and CREDREQ, the messages they
send and what their answers do (chapters 6, 7, 9 and 10). PARK and UNPARK are in Machine/Park.lean. -/

namespace Sys2Proof.Machine

/-! ### Running instructions -/

/-- The instruction that engine `e` of an agent runs. -/
def State.running (s : State) (a e : Nat) : Option EngRun := (s.engine a e).run
/-- Changes it. -/
def State.modRun (s : State) (a e : Nat) (f : EngRun → EngRun) : State :=
  s.modEng a e (fun q => { q with run := q.run.map f })

/-- Lines that a message carries. -/
def Msg.lines (m : Msg) : Nat := (m.data.length + 63) / 64
/-- MV_STAT shows the move engine of a wing. -/
def State.moveSync (s : State) (a : Nat) : State :=
  if isSq a then s
  else
    let b := agBase a
    match s.running a 4 with
    | none => (((s.wr b R.MV_STAT_OP 0).wr b R.MV_STAT_CREDWAIT 0).wr b R.MV_STAT_FETCHES 0).wr b R.MV_STAT_LEFT 0
    | some r =>
      let op := if 0x80 ≤ r.ins.op ∧ r.ins.op ≤ 0x84 then r.ins.op - 0x7F else 0
      let left := r.todo.foldl (fun n m => n + m.lines) 0 + (r.fetch ++ r.runs).foldl (fun n f => n + f.count) 0
      (((s.wr b R.MV_STAT_OP op).wrb b R.MV_STAT_CREDWAIT (r.todo.any (fun m => m.ty == 0x12))).wr b R.MV_STAT_FETCHES
        r.fetch.length).wr b R.MV_STAT_LEFT left

/-- Sends the messages of an engine in order, until a WRITE must wait for credits (R193). -/
def State.sendTodo (a e : Nat) : Nat → State → State
  | 0, s => s
  | k + 1, s =>
    match s.running a e with
    | none => s
    | some r =>
      match r.todo with
      | [] => s
      | m :: ms =>
        let s' := s.modRun a e (fun r => { r with todo := ms })
        if m.ty ≠ 0x12 then State.sendTodo a e k ((s'.mvCount m).send m)
        else match s'.trySend m with
          | some s' => State.sendTodo a e k s'
          | none => s
def State.sendAllTodo (s : State) (a e : Nat) : State :=
  match s.running a e with
  | some r => State.sendTodo a e r.todo.length s
  | none => s

/-- Sends FETCHes while fewer than eight are outstanding (R319). -/
def State.sendFetch (a : Nat) : Nat → State → State
  | 0, s => s
  | k + 1, s =>
    match s.running a 4 with
    | none => s
    | some r =>
      match r.runs with
      | [] => s
      | f :: fs =>
        if 8 ≤ r.fetch.length then s
        else
          let s := s.modRun a 4 (fun r => { r with runs := fs, fetch := r.fetch ++ [f] })
          State.sendFetch a k (s.send ⟨0x09, s.aliasNode a, 8, agNode a, agUnit a, f.addr % 2 ^ 32,
            f.addr / 2 ^ 32 % 256 + f.tag % 256 * 256 + 64 * f.count * 65536, [], 4 + 8 * r.ins.pc⟩)

/-! ### Transfers -/

/-- A transfer of lines: sources, destinations, and what governs them. `sk` 0 RR, 1 STACK, 2 MEM; `dk` 0 LOCAL, 1 WIN,
2 MEM. Sources are byte addresses; destinations are wing-local lines, window lines, or byte addresses. `tile` is the row
count of a transposition, 0 for none. -/
structure Xfer where
  sk : Nat
  srcs : List Nat
  dk : Nat
  dsts : List Nat
  node : Nat := 0
  wing : Nat := 0
  win : Nat := 0
  sig : Bool := false
  tile : Nat := 0
  kv : Option Nat := none
  deriving DecidableEq, Repr

/-- A source line of a STACK move lies in the wing's own stacks (R319, R34). -/
def State.stackLine (s : State) (d w addr : Nat) : Bool :=
  let f := addr / 2 ^ 21 % 16
  decide (addr / 2 ^ 28 = sdNode d * 256 + 16) && addr / 2 ^ 25 % 8 == w
    && (if f = 14 then s.rd (wg d w) R.FMAP_HI_SPARE != 15 else s.folioPos d w f != 15)
/-- A source line lies where SK says (R319). -/
def State.srcOk (s : State) (d w sk addr : Nat) : Bool :=
  if sk = 0 then ownBytes d w addr 64
  else if sk = 1 then s.stackLine d w addr
  else decide (0x4 * 2 ^ 32 ≤ addr ∧ addr + 64 ≤ 0x8 * 2 ^ 32)
/-- A destination line is one that DK allows (R320). -/
def dstOk (dk x : Nat) : Bool :=
  if dk = 2 then
    let reg := x / 2 ^ 32 % 16
    decide (x / 2 ^ 36 < 3) && (if reg = 0 then decide (x % 2 ^ 32 + 64 ≤ 2 ^ 24) else decide (4 ≤ reg ∧ reg < 8))
  else decide (x < 131072)
/-- The first and the last line of a list satisfy a check. -/
def ends (p : Nat → Bool) (l : List Nat) : Bool := l.head?.all p && l.getLast?.all p

/-- Row number in the wing of a STACK source address (R34, R35). -/
def State.stackRow (s : State) (d w addr : Nat) : Nat :=
  let f := addr / 2 ^ 21 % 16
  let p := if f = 14 then s.rd (wg d w) R.FMAP_HI_SPARE else s.folioPos d w f
  rowNo p (addr / 2 ^ 18 % 8) (addr / 2 ^ 8 % 1024)

/-- One source line: the data, and whether it is poisoned (R117, R188). `kept` is the row that the port read last. -/
def State.readLine (s : State) (d w sk addr : Nat) (kept : Option (Nat × List Byte × Bool)) :
    State × List Byte × Bool × Option (Nat × List Byte × Bool) :=
  if sk = 1 then
    let n := s.stackRow d w addr
    match kept with
    | some (m, data, bad) =>
      if m = n then (s, (data.drop (addr % 256)).take 64, bad, kept) else
        let r := s.readRow d w n
        let bad := r.2.2.any (fun f => f.kind != 1)
        (r.2.2.foldl (fun s f => s.scrubFind d w n 1 f) r.1, (r.2.1.drop (addr % 256)).take 64, bad, some (n, r.2.1, bad))
    | none =>
      let r := s.readRow d w n
      let bad := r.2.2.any (fun f => f.kind != 1)
      (r.2.2.foldl (fun s f => s.scrubFind d w n 1 f) r.1, (r.2.1.drop (addr % 256)).take 64, bad, some (n, r.2.1, bad))
  else
    let l := (addr - rrAddr d w 0) / 64
    (s.lineCheck d w l 5, s.lineData d w l, s.lineMarked d w l, none)

/-- Source lines in order. -/
def State.readLines (s : State) (d w sk : Nat) (l : List Nat) : State × List (List Byte × Bool) :=
  let r := l.foldl (fun (x : State × List (List Byte × Bool) × Option (Nat × List Byte × Bool)) addr =>
    let y := x.1.readLine d w sk addr x.2.2
    (y.1, x.2.1 ++ [(y.2.1, y.2.2.1)], y.2.2.2)) (s, [], none)
  (r.1, r.2.1)

/-- The output lines of a tile (R185): element (r, c) of every row r; poison of a row poisons every line. -/
def transpose (rows : List (List Byte × Bool)) : List (List Byte × Bool) :=
  let n := rows.length
  let size := 64 / n
  let bad := rows.any (·.2)
  (List.range n).map (fun c => (rows.flatMap (fun r => (r.1.drop (size * c)).take size), bad))

/-- Bytes for a destination offset, with poison, joined into messages of up to 4,096 bytes; a poisoned piece stands
alone (R224). -/
def joinRuns (l : List (Nat × List Byte × Bool)) : List (Nat × List Byte × Bool) :=
  (l.foldl (fun acc x =>
    match acc with
    | (o, data, bad) :: rest =>
      if o + data.length = x.1 ∧ !bad ∧ !x.2.2 ∧ data.length + x.2.1.length ≤ 4096 then (o, data ++ x.2.1, false) :: rest
      else x :: acc
    | [] => [x]) []).reverse

/-- The WRITEs or MEMWRs of pieces (byte offset in the window, or address; data; poison). `fin` where these are the last
of the operation: SIG or LAST is on the last one (R194, R320). -/
def State.xferMsgs (s : State) (a pc e : Nat) (x : Xfer) (l : List (Nat × List Byte × Bool)) (fin : Bool) : List Msg :=
  let runs := joinRuns l
  (runs.zipIdx).map (fun r =>
    let last := fin && r.2 + 1 == runs.length
    if x.dk = 1 then
      ⟨0x12, x.node, x.wing, agNode a, agUnit a,
        x.win * 2 ^ 28 + b2n (last && x.sig) * 2 ^ 19 + b2n r.1.2.2 * 2 ^ 18, r.1.1 / 4 % 2 ^ 21, r.1.2.1, e + 8 * pc⟩
    else
      let dn := if r.1.1 / 2 ^ 36 = 0 then s.aliasNode a else r.1.1 / 2 ^ 36
      ⟨0x08, dn, 8, agNode a, agUnit a, r.1.1 % 2 ^ 32,
        r.1.1 / 2 ^ 32 % 16 + dn * 16 + b2n r.1.2.2 * 256 + b2n last * 512, r.1.2.1, e + 8 * pc⟩)
/-- The WRITE without data that carries SIG for a transfer of no lines (R242, R321). -/
def Xfer.sigMsg (a pc : Nat) (x : Xfer) : List Msg :=
  if x.dk = 1 ∧ x.sig then
    [⟨0x12, x.node, x.wing, agNode a, agUnit a, x.win * 2 ^ 28 + 2 ^ 19, 0, [], 4 + 8 * pc⟩]
  else []

/-- Lines arrive at their destinations: written in the wing's banks, or queued as messages. -/
def State.putLines (s : State) (a d w : Nat) (pc : Nat) (x : Xfer) (l : List (Nat × List Byte × Bool)) (fin : Bool) : State :=
  if x.dk = 0 then
    let s := l.foldl (fun s y => s.lineWrite d w y.1 0 y.2.1 y.2.2) s
    s.wr (wg d w) R.MV_CNT_LINES (s.rd (wg d w) R.MV_CNT_LINES + l.length)
  else
    let l := if x.dk = 1 then l.map (fun y => (64 * y.1, y.2)) else l
    s.modRun a 4 (fun r => { r with todo := r.todo ++ s.xferMsgs a pc 4 x l fin })

/-- A LOCAL move of lines: a source line that an earlier line of the move has overwritten is read before or after that,
which the spec leaves open; the choice is a free value. -/
def State.localMove (s : State) (a d w pc : Nat) (x : Xfer) : State :=
  let old := s
  let r := (x.srcs.zip x.dsts).foldl
    (fun (y : State × List Nat × Option (Nat × List Byte × Bool)) (p : Nat × Nat) =>
      let l := (p.1 - rrAddr d w 0) / 64
      let c := if x.sk = 0 ∧ y.2.1.contains l then (y.1.draw 1) else (y.1, 0)
      let z := c.1.readLine d w x.sk p.1 y.2.2
      let data := if c.2 = 1 then (old.lineData d w l, old.lineMarked d w l) else (z.2.1, z.2.2.1)
      (z.1.putLines a d w pc x [(p.2, data)] false, p.2 :: y.2.1, z.2.2.2)) (s, [], none)
  r.1

/-- A transposition: tile by tile (R241, R323). -/
def State.tileMove (a d w pc : Nat) (x : Xfer) : Nat → List Nat → List Nat → State → State
  | 0, _, _, s => s
  | k + 1, srcs, dsts, s =>
    let y := s.readLines d w 0 (srcs.take x.tile)
    let out := (dsts.take x.tile).zip (transpose y.2)
    State.tileMove a d w pc x k (srcs.drop x.tile) (dsts.drop x.tile) (y.1.putLines a d w pc x out (k == 0))

/-- Runs of consecutive source lines, at most 64 lines each, as FETCHes; TAG counts from 0 (R319). -/
def fetchRuns (srcs : List Nat) : List Fetch :=
  let runs := ((srcs.zipIdx).foldl (fun (acc : List Fetch) x =>
    match acc with
    | f :: rest => if f.addr + 64 * f.count = x.1 ∧ f.count < 64 then { f with count := f.count + 1 } :: rest
      else ⟨0, x.1, x.2, 1⟩ :: acc
    | [] => [⟨0, x.1, x.2, 1⟩]) []).reverse
  (runs.zipIdx).map (fun r => { r.1 with tag := r.2 % 256 })

/-- A transfer that has passed its checks moves its lines. -/
def State.xferBody (s : State) (a d w pc : Nat) (x : Xfer) : State :=
  if x.srcs = [] then s.modRun a 4 (fun r => { r with todo := r.todo ++ x.sigMsg a pc })
  else if x.sk = 2 then State.sendFetch a 8 (s.modRun a 4 (fun r => { r with runs := fetchRuns x.srcs }))
  else if x.tile ≠ 0 then State.tileMove a d w pc x (x.srcs.length / x.tile) x.srcs x.dsts s
  else if x.dk = 0 then s.localMove a d w pc x
  else
    let y := s.readLines d w x.sk x.srcs
    y.1.putLines a d w pc x (x.dsts.zip y.2) true

/-! ### MOV and MOVT -/

/-- Wing-local line of a device address, or a line that does not exist. -/
def localLine (d w addr : Nat) : Nat := if rrAddr d w 0 ≤ addr then (addr - rrAddr d w 0) / 64 else 2 ^ 40
/-- A line number plus `j` strides. -/
def strided (base step n : Nat) : List Nat := (List.range n).map (fun j => base + j * step)

/-- The extension word of MOV and MOVT: source and destination stride, carrel. -/
def EngIns.srcStride (i : EngIns) : Nat := bits i.ext 20 0
def EngIns.dstStride (i : EngIns) : Nat := bits i.ext 41 21
/-- The transfer of a MOV or MOVT (R319, R320, R323). -/
def EngIns.xfer (i : EngIns) (d w : Nat) : Xfer :=
  let mov := i.op == 0x80
  let sk := if mov then bits i.ef 22 21 else 0
  let dk := if mov then bits i.ef 20 19 else bits i.ef 21 20
  let k := if mov then 0 else 1
  let tile := if mov then 0 else if bitOf i.ef 22 then 64 else 32
  let n := if mov then i.va else i.va * tile
  let base := if dk = 0 then localLine d w i.vc else i.vc
  let step := if dk = 2 then 64 * i.dstStride else i.dstStride
  { sk := sk, srcs := strided i.vb (64 * i.srcStride) n, dk := dk, dsts := strided base step n,
    node := bits i.ef (16 + k) (13 + k), wing := bits i.ef (12 + k) (10 + k), win := bits i.ef (9 + k) (6 + k),
    sig := bitOf i.ef (18 + k), tile := tile,
    kv := if bitOf i.ef (17 + k) then some (bits i.ext 49 42) else none }
/-- Check 1 of R321. -/
def State.xferAddr (s : State) (d w : Nat) (i : EngIns) (x : Xfer) : Bool :=
  i.vb % 64 == 0 && (if x.dk = 1 then decide (i.vc < 2 ^ 17) else i.vc % 64 == 0)
    && decide (i.srcStride ≤ 2 ^ 20 ∧ i.dstStride ≤ 2 ^ 20)
    && (if x.sk = 1 then x.srcs.all (s.srcOk d w 1) else ends (s.srcOk d w x.sk) x.srcs) && ends (dstOk x.dk) x.dsts

/-- The messages of a transfer find a route (R232). -/
def State.xferRoute (s : State) (a : Nat) (x : Xfer) : Bool :=
  (x.sk != 2 || s.reaches (agNode a) (s.aliasNode a))
    && (if x.dk = 1 then s.reaches (agNode a) x.node
        else if x.dk = 2 then
          let dn := x.dsts.headD 0 / 2 ^ 36
          s.reaches (agNode a) (if dn = 0 then s.aliasNode a else dn)
        else true)

/-- The running move engine instruction ends with a fault. -/
def State.moveFail (s : State) (a code : Nat) : State := s.modRun a 4 (fun r => r.fail code)

/-- Checks 2 and 3 of R321 and of R239, and the transfer itself; a remote KV transfer asks the destination die first
(R240). -/
def State.xferGo (s : State) (a d w pc : Nat) (x : Xfer) : State :=
  let first := x.dsts.headD 0
  let last := x.dsts.getLastD 0
  if x.dk = 1 ∧ (s.cred (ckey (agNode a) (agUnit a) x.node x.wing x.win)).isNone then s.moveFail a 0x19
  else if !s.xferRoute a x then s.moveFail a 0x1B
  else match x.kv with
  | none => s.xferBody a d w pc x
  | some c =>
    if x.srcs = [] then s.xferBody a d w pc x
    else if x.dk = 0 then
      if s.kvCovers d c w first first && s.kvCovers d c w last last then s.xferBody a d w pc x else s.moveFail a 0x1A
    else
      (s.modRun a 4 (fun r => { r with ack := true })).send
        ⟨0x15, x.node, x.wing, agNode a, agUnit a, x.win * 2 ^ 28 + c * 2 ^ 20 + first, last, [], 4 + 8 * pc⟩

/-- A MOV or MOVT starts (R321). With no line it makes no check after the first. -/
def State.movStart (s : State) (a : Nat) (i : EngIns) : State :=
  let d := wcDie a
  let w := wcWing a
  let x := i.xfer d w
  if !s.xferAddr d w i x then s.moveFail a 3
  else if x.srcs = [] then s.xferBody a d w i.pc x
  else s.xferGo a d w i.pc x

/-! ### RESHARD -/

/-- Check 1 of R239: reserved fields, XPOSE, DST_NODE, COUNT. -/
def planBad (e : List Nat) : Bool :=
  let g := fun i => e.getD i 0
  let x := bits (g 0) 30 29
  let n := bits (g 0) 27 24
  bitOf (g 0) 23 || bits (g 0) 7 0 != 0 || bits (g 1) 31 17 != 0 || bits (g 2) 31 21 != 0 || bits (g 3) 31 18 != 0
    || bits (g 4) 31 17 != 0 || bits (g 5) 31 21 != 0 || g 6 != 0 || g 7 != 0 || x == 3 || decide (n < 4 ∨ 8 ≤ n)
    || (x == 1 && g 3 % 32 != 0) || (x == 2 && g 3 % 64 != 0)
/-- The transfer of a plan-table entry (R238, R241). -/
def entryXfer (d w : Nat) (e : List Nat) : Xfer :=
  let g := fun i => e.getD i 0
  let n := bits (g 3) 17 0
  let node := bits (g 0) 27 24
  let wing := bits (g 0) 22 20
  { sk := 0, srcs := strided (rrAddr d w (64 * bits (g 1) 16 0)) (64 * bits (g 2) 20 0) n,
    dk := if node = sdNode d ∧ wing = w then 0 else 1, dsts := strided (bits (g 4) 16 0) (bits (g 5) 20 0) n,
    node := node, wing := wing, win := bits (g 0) 19 16, sig := bitOf (g 0) 28,
    tile := if bits (g 0) 30 29 = 1 then 32 else if bits (g 0) 30 29 = 2 then 64 else 0,
    kv := if bitOf (g 0) 31 then some (bits (g 0) 15 8) else none }
/-- Check 2 of R239. -/
def State.entryAddr (s : State) (d w : Nat) (e : List Nat) (x : Xfer) : Bool :=
  decide (bits (e.getD 2 0) 20 0 ≤ 2 ^ 20 ∧ bits (e.getD 5 0) 20 0 ≤ 2 ^ 20) && ends (s.srcOk d w 0) x.srcs
    && ends (dstOk x.dk) x.dsts

/-- The next entry of a RESHARD: it is read from the table, checked and run (R238, R239). -/
def State.entryStart (s : State) (a : Nat) (r : EngRun) : State :=
  let d := wcDie a
  let w := wcWing a
  let ea := (r.ins.vb + r.ins.vc) % 2 ^ 40 + 32 * r.next
  let s := s.lineCheck d w ((ea - rrAddr d w 0) / 64) 5
  let e := (List.range 8).map (fun i => s.ldw (ea + 4 * i) 4)
  let s := s.modRun a 4 (fun r => { r with next := r.next + 1, ent := e })
  let x := entryXfer d w e
  if planBad e then s.moveFail a 0x18
  else if !s.entryAddr d w e x then s.moveFail a 3
  else s.xferGo a d w r.ins.pc x

/-- The move engine goes on: what waits is sent, and the next entry of a RESHARD starts once nothing of the last one is
left. -/
def State.moveGo (a : Nat) : Nat → State → State
  | 0, s => s.moveSync a
  | k + 1, s =>
    let s := s.sendAllTodo a 4
    match s.running a 4 with
    | none => s.moveSync a
    | some r =>
      if r.ins.op = 0x82 ∧ r.todo = [] ∧ !r.ack ∧ r.next < r.stop then State.moveGo a k (s.entryStart a r)
      else s.moveSync a
/-- The engine's instruction goes on as far as it can. -/
def State.moveOn (s : State) (a : Nat) : State :=
  match s.running a 4 with
  | some r => State.moveGo a (r.stop - r.next + 1) s
  | none => s.moveSync a

/-- A RESHARD starts (R324). -/
def State.reshardStart (s : State) (a : Nat) (i : EngIns) : State :=
  let ea := (i.vb + i.vc) % 2 ^ 40
  if ea % 32 ≠ 0 ∨ (i.va ≠ 0 ∧ !ownBytes (wcDie a) (wcWing a) ea (32 * i.va)) then s.moveFail a 3
  else s.modRun a 4 (fun r => { r with stop := i.va })

/-- The transfer that a move engine instruction is in. -/
def EngRun.xfer (r : EngRun) (d w : Nat) : Xfer := if r.ins.op = 0x82 then entryXfer d w r.ent else r.ins.xfer d w

/-- KVACK_RECEIVE at wing `w`: the transfer goes on, or ends with KVRANGE (R240). -/
def execKvackReceive (d : Fin 4) (w : Fin 8) (s : State) : Host.Outcome State Fault Refusal :=
  done (match s.takeMsg (fun m => m.ty == 0x16 && m.dn == sdNode d && m.du == w.val) with
  | none => s
  | some (m, s) =>
    let a := wcix d w
    match s.running a 4 with
    | none => s
    | some r =>
      if !r.ack then s
      else
        let s := s.modRun a 4 (fun r => { r with ack := false })
        if bitOf r.estat 3 then s.moveOn a
        else if bitOf m.m0 0 then
          (s.xferBody a d w r.ins.pc (r.xfer d w)).moveOn a
        else (s.moveFail a 0x1A).moveOn a)

/-! ### WRREM and CREDREQ -/

/-- Pieces of `len` bytes from `addr` on, one per 64-byte line: offset from the start and length. -/
def linePieces : Nat → Nat → Nat → List (Nat × Nat)
  | 0, _, _ => []
  | fuel + 1, addr, len =>
    if len = 0 then []
    else
      let n := min len (64 - addr % 64)
      (addr, n) :: linePieces fuel (addr + n) (len - n)
/-- One piece of a WRREM's source: data, and whether it is poisoned (R189, R452). -/
def State.remPiece (s : State) (a addr len : Nat) : State × List Byte × Bool :=
  if isSq a then s.comRead (sqDie a) 6 (addr % 2 ^ 24) len
  else
    let d := wcDie a
    let w := wcWing a
    let l := (addr - rrAddr d w 0) / 64
    (s.lineCheck d w l 5, s.ldn addr len, s.lineMarked d w l)
/-- The source of a WRREM lies in its region (R359). -/
def remSrcOk (a addr len : Nat) : Bool :=
  if isSq a then
    (addr / 2 ^ 36 == agNode a || addr / 2 ^ 36 == 0) && addr / 2 ^ 32 % 16 == 0 && decide (addr % 2 ^ 32 + len ≤ 2 ^ 24)
  else ownBytes (wcDie a) (wcWing a) addr len
/-- The running link engine instruction ends with a fault. -/
def State.linkEngFail (s : State) (a code : Nat) : State := s.modRun a 5 (fun r => r.fail code)

/-- A WRREM starts (R359, R193). -/
def State.wrremStart (s : State) (a : Nat) (i : EngIns) : State :=
  let node := bits i.ef 22 19
  let x : Xfer := {
    sk := 0, srcs := [], dk := 1, dsts := [], node := node, wing := bits i.ef 18 16, win := bits i.ef 15 12,
    sig := bitOf i.ef 11 }
  if i.vb % 4 ≠ 0 ∨ i.vc % 4 ≠ 0 ∨ i.va % 4 ≠ 0 ∨ 8388608 < i.va ∨ (i.va ≠ 0 ∧ !remSrcOk a i.vb i.va) ∨ node < 4
    ∨ 8 ≤ node then s.linkEngFail a 3
  else if (s.cred (ckey (agNode a) (agUnit a) node x.wing x.win)).isNone then s.linkEngFail a 0x19
  else if !s.reaches (agNode a) node then s.linkEngFail a 0x1B
  else
    let r := (linePieces (i.va / 64 + 2) i.vb i.va).foldl (fun (y : State × List (Nat × List Byte × Bool)) p =>
      let z := y.1.remPiece a p.1 p.2
      (z.1, y.2 ++ [(i.vc + (p.1 - i.vb), z.2)])) (s, [])
    let l := if i.va = 0 then
        [⟨0x12, node, x.wing, agNode a, agUnit a, x.win * 2 ^ 28 + b2n x.sig * 2 ^ 19, i.vc / 4 % 2 ^ 21, [], 5 + 8 * i.pc⟩]
      else r.1.xferMsgs a i.pc 5 x r.2 true
    (r.1.modRun a 5 (fun r => { r with todo := l })).sendAllTodo a 5

/-- A CREDREQ starts (R356, R195). -/
def State.credreqStart (s : State) (a : Nat) (i : EngIns) : State :=
  let node := bits i.ef 22 19
  if 2 ^ 18 ≤ i.vc ∨ node < 4 ∨ 8 ≤ node then s.linkEngFail a 3
  else if !s.reaches (agNode a) node then s.linkEngFail a 0x1B
  else s.send ⟨0x10, node, bits i.ef 18 16, agNode a, agUnit a, bits i.ef 15 12 * 2 ^ 28 + i.vc, 0, [], 5 + 8 * i.pc⟩

/-! ### Credits that arrive -/

/-- A node and unit that is an Assal agent. -/
def isAgent (node unit : Nat) : Bool := decide (unit < 8 ∧ (node = 1 ∨ node = 2 ∨ (4 ≤ node ∧ node < 8)))
/-- The engines of an agent that hold WRITEs go on. -/
def State.flush (s : State) (node unit : Nat) : State :=
  if isAgent node unit then
    let a := nodeAgent node unit
    ((if isSq a then s else s.moveOn a).sendAllTodo a 5)
  else s

/-- CREDIT_GRANT_RECEIVE at unit `unit` of node `node`: the record opens or is topped up, and held WRITEs go on
(R193, R209). -/
def execCreditGrantReceive (node unit : Fin 16) (s : State) : Host.Outcome State Fault Refusal :=
  done (match s.takeMsg (fun m => m.ty == 0x11 && m.dn == node.val && m.du == unit.val) with
  | none => s
  | some (m, s) =>
    let k := ckey node unit m.sn m.su (bits m.m0 31 28)
    let ep := bits m.m0 27 20
    let add := bits (fromBytes (m.data.take 4)) 17 0
    let new : CredRec := { epoch := ep, base := bits m.m0 16 0, len := bits m.m1 17 0, credits := add, sent := 0 }
    let r := match s.cred k with
      | some r => if r.epoch = ep then { r with credits := r.credits + add } else new
      | none => new
    (s.setCred k (some r)).flush node unit)

/-- WRITEs of a window that a reclaim cuts short: they are not sent, a RESHARD leaves its other entries, and the
operation reports RECLAIMED (R196, R271, R328). -/
def State.cutShort (s : State) (a e rn rw win : Nat) : State :=
  s.modRun a e (fun r =>
    let keep := r.todo.filter (fun m => !(m.ty == 0x12 && m.dn == rn && m.du == rw && bits m.m0 31 28 == win))
    let x := r.xfer (wcDie a) (wcWing a)
    let more := (r.ack || !r.fetch.isEmpty || !r.runs.isEmpty) && x.dk == 1 && x.node == rn && x.wing == rw && x.win == win
    if keep.length = r.todo.length ∧ !more then r
    else { r with todo := keep, runs := [], estat := r.estat ||| 8, next := r.stop })

/-- RECLAIM_REQ_RECEIVE at unit `unit` of node `node` (R196): no further WRITE for the window, its credits are
discarded, and RECLAIM_ACK follows the last WRITE. -/
def execReclaimReqReceive (node unit : Fin 16) (s : State) : Host.Outcome State Fault Refusal :=
  done (match s.takeMsg (fun m => m.ty == 0x13 && m.dn == node.val && m.du == unit.val) with
  | none => s
  | some (m, s) =>
    let win := bits m.m0 31 28
    let k := ckey node unit m.sn m.su win
    let sent := match s.cred k with
      | some r => if r.epoch = bits m.m0 27 20 then r.sent else 0
      | none => 0
    let s := s.setCred k none
    let s := if isAgent node unit then
      let a := nodeAgent node unit
      [4, 5].foldl (fun s e => s.cutShort a e m.sn m.su win) s
    else s
    (s.send ⟨0x14, m.sn, m.su, node, unit, win * 2 ^ 28 + bits m.m0 27 20 * 2 ^ 20, sent % 2 ^ 18, [], 0⟩).flush node unit)

/-! ### The Control die's side -/

/-- FETCH_RECEIVE at die `n`: host memory is read and sent as FETCH_DATA; `hostErr` is the host's answer with an error
(R233, R42). -/
def execFetchReceive (n : Fin 2) (hostErr : Bool) (s : State) : Host.Outcome State Fault Refusal :=
  done (match s.takeMsg (fun m => m.ty == 0x09 && m.dn == cdNode n) with
  | none => s
  | some (m, s) =>
    let addr := m.m0 + bits m.m1 7 0 * 2 ^ 32
    let reg := addr / 2 ^ 32 % 16
    let ans := fun (s : State) (st : Nat) (data : List Byte) =>
      s.send ⟨0x0A, m.sn, m.su, cdNode n, 8, bits m.m1 15 8 * 256 + st, 0, data, 0⟩
    let bad := fun (k : Nat) => ans (s.addrErr n k (16 * m.sn + m.su) false addr) k []
    if reg < 4 ∨ 8 ≤ reg then bad 4
    else if hostErr then bad 5
    else match s.hostGet n addr (bits m.m1 28 16) with
      | some data => ans s 0 data
      | none => bad 6)

/-- Fetched lines arrive: they go to their destinations in order (R319, R320). -/
def State.fetched (s : State) (a d w : Nat) (r : EngRun) (f : Fetch) (m : Msg) : State :=
  let s := s.modRun a 4 (fun r => { r with fetch := r.fetch.erase f })
  if bits m.m0 7 0 ≠ 0 then s.moveFail a 3
  else if bitOf r.estat 3 then s
  else
    let x := r.ins.xfer d w
    let lines := (chunksOf 64 f.count m.data).map (fun c => (c, bitOf m.m1 8))
    let fin := (r.fetch.erase f).isEmpty && r.runs.isEmpty
    State.sendFetch a 8 (s.putLines a d w r.ins.pc x (((x.dsts.drop f.line).take f.count).zip lines) fin)

/-- MEMWR_RECEIVE at die `n`: lines land in Commons, or in host memory through an aperture (R320, R42); `hostErr` is the
host's error. -/
def execMemwrReceive (n : Fin 2) (hostErr : Bool) (s : State) : Host.Outcome State Fault Refusal :=
  done (match s.takeMsg (fun m => m.ty == 0x08 && m.dn == cdNode n) with
  | none => s
  | some (m, s) =>
    let addr := m.m0 + bits m.m1 7 0 * 2 ^ 32
    let reg := addr / 2 ^ 32 % 16
    let err := fun (k : Nat) => s.addrErr n k (16 * m.sn + m.su) true addr
    if reg = 0 then
      if m.m0 + m.data.length ≤ 2 ^ 24 then s.comWrite n 6 m.m0 m.data else err 2
    else if reg < 4 ∨ 8 ≤ reg then err 4
    else if hostErr then err 5
    else (s.hostPut n addr m.data).getD (err 6))

end Sys2Proof.Machine
end

