-- ==== Sys2Proof/Machine/Park.lean ====
section
/-! DEFINITION. PARK and UNPARK (chapters 7 and 9): the move engine's side, and the seal engine of the active Control
die, with park numbers, latest-park records and the segment. -/

namespace Sys2Proof.Machine

/-- The Control die that an agent's node 0x0 names. -/
def State.aliasDie (s : State) (a : Nat) : Nat := if s.aliasNode a = 2 then 1 else 0

/-- A PARK or UNPARK fault is logged in PARK_ERR (R243, R245). -/
def State.parkLog (s : State) (n kind d c : Nat) (unpark : Bool) : State :=
  let b := cd n
  let s' := s.capture b R.PARK_ERR_VALID.off 0 [(b, R.PARK_ERR_UNPARK, b2n unpark), (b, R.PARK_ERR_KIND, kind),
    (b, R.PARK_ERR_DIE, d), (b, R.PARK_ERR_CARREL, c)]
  if s.flag b R.PARK_ERR_VALID then s' else s'.sysEvent n R.SYS_CAUSE_PARK_ERR
/-- KIND of PARK_ERR for a fault code. -/
def parkKind : Nat → Nat
  | 0x20 => 1 | 0x1D => 2 | 0x1F => 3 | 0x1A => 4 | 0x21 => 5 | 0x22 => 6 | 0x23 => 7 | 0x1E => 8 | _ => 9
/-- The PARK or UNPARK that wing `w` of die `d` runs ends with a fault, which die `n` logs. -/
def State.parkFail (s : State) (n d w c code : Nat) (unpark : Bool) : State :=
  (s.moveFail (wcix d w) code).parkLog n (parkKind code) d c unpark

/-- A device address of an aperture of node 0x0, 64-byte aligned (R325, R326). -/
def apertureAddr (addr : Nat) : Bool := decide (addr % 64 = 0 ∧ 0x4 * 2 ^ 32 ≤ addr ∧ addr < 0x8 * 2 ^ 32)
/-- The carrel's reservation in wing `w`: BASE and COUNT; none without one there (R326). -/
def State.parkEntry (s : State) (d w c : Nat) : Option (Nat × Nat) :=
  if 255 < c then none
  else match s.kvEntry d c with
  | some (kw, base, cnt) => if kw = w then some (base, cnt) else none
  | none => none

/-- Header of a park segment (R243). -/
def parkHeader (d c slot blocks no : Nat) : List Byte :=
  toBytes 4 0x4B524150 ++ toBytes 1 1 ++ toBytes 1 d ++ toBytes 1 c ++ toBytes 1 slot ++ toBytes 4 blocks ++ toBytes 4 no
    ++ List.replicate 48 0
/-- IV of chunk `k` (R244). -/
def parkIv (no d c k : Nat) : List Byte := toBytes 4 no ++ toBytes 1 d ++ toBytes 1 c ++ [0, 0] ++ toBytes 4 k
/-- Byte offset of chunk `k` in the segment. -/
def chunkOff (k : Nat) : Nat := 64 + k * (65536 + 16)

/-- PARKDATA of the blocks of a reservation, up to and with the first poisoned one; the lines are checked as they are
read (R243, R188). -/
def State.parkBlocks (a d w pc c n base : Nat) : Nat → Nat → State → State
  | 0, _, s => s
  | k + 1, j, s =>
    let lines := (List.range 64).map (64 * (base + j) + ·)
    let bad := lines.any (s.lineMarked d w)
    let s' := lines.foldl (fun s l => s.lineCheck d w l 5) s
    let m : Msg := ⟨0x0B, cdNode n, 8, sdNode d, w, j, c + b2n bad * 256 + b2n (k == 0) * 512,
      s.ldn (rrAddr d w (4096 * (base + j))) 4096, 4 + 8 * pc⟩
    let s' := s'.modRun a 4 (fun r => { r with todo := r.todo ++ [m] })
    if bad then s' else State.parkBlocks a d w pc c n base k (j + 1) s'

/-- A PARK starts (R243, R325). -/
def State.parkStart (s : State) (a : Nat) (i : EngIns) : State :=
  let d := wcDie a
  let w := wcWing a
  let n := s.aliasDie a
  let c := i.va
  let b := cd n
  let slot := s.rd b R.PARK_CFG_SLOT
  let no := s.rd b R.PARK_NEXT_NO
  if !apertureAddr i.vb then s.moveFail a 3
  else match s.parkEntry d w c with
  | none => s.parkFail n d w c 0x1C false
  | some (base, cnt) =>
    if cnt < i.vc then s.parkFail n d w c 0x1A false
    else if i.vc = 0 then s
    else if !s.reaches (sdNode d) (cdNode n) then s.moveFail a 0x1B
    else if !s.slotOk n slot 1 then s.parkFail n d w c 0x1D false
    else if no = 0 then s.parkFail n d w c 0x1E false
    else
      let s := (s.keyDies n).foldl (fun s k => s.wr (cd k) R.PARK_NEXT_NO (no + 1)) (s.slotCharge n slot)
      let job : SealJob := {
        unpark := false, die := d, wing := w, carrel := c, blocks := i.vc, addr := i.vb, slot := slot,
        key := s.slotKey n slot, no := no, hdr := parkHeader d c slot i.vc no }
      let s := s.modCd n (fun x => { x with jobs := x.jobs ++ [job] })
      State.parkBlocks a d w i.pc c n base i.vc 0 (s.modRun a 4 (fun r => { r with sealing := true }))

/-- An UNPARK starts (R245, R326): its request goes to the seal engine. -/
def State.unparkStart (s : State) (a : Nat) (i : EngIns) : State :=
  let d := wcDie a
  let w := wcWing a
  let n := s.aliasDie a
  if !apertureAddr i.vb then s.moveFail a 3
  else match s.parkEntry d w i.va with
  | none => s.parkFail n d w i.va 0x1C true
  | some (base, _) =>
    if !s.reaches (sdNode d) (cdNode n) then s.moveFail a 0x1B
    else
      (s.modRun a 4 (fun r => { r with sealing := true, ent := [base] })).send
        ⟨0x0C, cdNode n, 8, sdNode d, w, i.vb % 2 ^ 32, i.vb / 2 ^ 32 + i.va * 256, [], 4 + 8 * i.pc⟩

/-! ### The seal engine -/

/-- Changes the first job that satisfies `p`, or removes it. -/
def updFirst (p : SealJob → Bool) (f : SealJob → Option SealJob) : List SealJob → List SealJob
  | [] => []
  | j :: js => if p j then (f j).toList ++ js else j :: updFirst p f js
/-- Changes a job of die `n`. -/
def State.modJob (s : State) (n : Nat) (p : SealJob → Bool) (f : SealJob → Option SealJob) : State :=
  s.modCd n (fun x => { x with jobs := updFirst p f x.jobs })
/-- Sets the latest-park record of a carrel and die, with its mirror (R243, R244, R246). -/
def State.setPark (s : State) (n d c no : Nat) : State :=
  (s.keyDies n).foldl (fun s k => s.modCd k (fun x => { x with parks := Store.put 0 x.parks (256 * d + c) no })) s

/-- A chunk of a PARK is sealed and written; the header goes with the first one (R243, R244). -/
def State.sealChunk (s : State) (n : Nat) (j : SealJob) (hostErr : Bool) : State × SealJob :=
  let c := gcmSeal j.key (parkIv j.no j.die j.carrel j.chunk) j.hdr j.got
  let j' := { j with got := [], chunk := j.chunk + 1 }
  if hostErr then (s, { j' with err := true })
  else
    let head := if j.chunk = 0 then s.hostPut n j.addr j.hdr else some s
    match head.bind (fun s => s.hostPut n (j.addr + chunkOff j.chunk) (c.1 ++ c.2)) with
    | some s => (s, j')
    | none => (head.getD s, { j' with err := true })

/-- PARKDATA_RECEIVE at die `n`: a block joins its chunk; a full or last chunk is encrypted and written (R243).
`hostErr`: the host refuses the write. A poisoned block ends the PARK. -/
def execParkdataReceive (n : Fin 2) (hostErr : Bool) (s : State) : Host.Outcome State Fault Refusal :=
  done (match s.takeMsg (fun m => m.ty == 0x0B && m.dn == cdNode n) with
  | none => s
  | some (m, s) =>
    let d := m.sn - 4
    let p := fun (j : SealJob) => !j.unpark && j.die == d && j.wing == m.su && !j.full
    match (s.cdx n).jobs.find? p with
    | none => s
    | some j =>
      if bitOf m.m1 8 then (s.modJob n p (fun _ => none)).parkFail n d m.su j.carrel 0x22 false
      else
        let last := bitOf m.m1 9
        let j := { j with got := j.got ++ m.data, full := last }
        let r := if last ∨ 65536 ≤ j.got.length then s.sealChunk n j hostErr else (s, j)
        r.1.modJob n p (fun _ => some r.2))

/-- PARK_COMPLETE at die `n`: the last host write of the oldest PARK whose blocks are all in has completed, or a write
has failed (R243). -/
def execParkComplete (n : Fin 2) (hostErr : Bool) (s : State) : Host.Outcome State Fault Refusal :=
  let p := fun (j : SealJob) => !j.unpark && (j.full || j.err)
  done (match (s.cdx n).jobs.find? p with
  | none => s
  | some j =>
    let s := s.modJob n p (fun _ => none)
    if j.err || hostErr then s.parkFail n j.die j.wing j.carrel 0x23 false
    else
      let a := wcix j.die j.wing
      ((s.setPark n j.die j.carrel j.no).modRun a 4 (fun r => { r with sealing := false })).moveOn a)

/-- The checks of R245 on a header: the fault code, none where it passes. -/
def State.unparkCheck (s : State) (n d c : Nat) (h : List Byte) : Option Nat :=
  let byte := fun i => (h.getD i 0).toNat
  let word := fun i => fromBytes ((h.drop i).take 4)
  let slot := s.rd (cd n) R.PARK_CFG_SLOT
  if word 0 ≠ 0x4B524150 ∨ byte 4 ≠ 1 ∨ (h.drop 16).any (· != 0) ∨ byte 5 ≠ d ∨ byte 6 ≠ c then some 0x20
  else if byte 7 ≠ slot ∨ !s.slotOk n slot 1 then some 0x1D
  else if word 12 ≠ Store.get 0 (s.cdx n).parks (256 * d + c) then some 0x1F
  else match s.kvEntry d c with
  | some (_, _, cnt) => if cnt < word 8 then some 0x1A else none
  | none => some 0x1A

/-- An UNPARK of the seal engine succeeds: the record clears (R246). -/
def State.unparkEnd (s : State) (n : Nat) (j : SealJob) : State :=
  let a := wcix j.die j.wing
  ((s.setPark n j.die j.carrel 0).modRun a 4 (fun r => { r with sealing := false, stop := j.blocks })).moveOn a

/-- UNPARKREQ_RECEIVE at die `n`: the header is read and checked (R245); `hostErr`: the host refuses the read. -/
def execUnparkreqReceive (n : Fin 2) (hostErr : Bool) (s : State) : Host.Outcome State Fault Refusal :=
  done (match s.takeMsg (fun m => m.ty == 0x0C && m.dn == cdNode n) with
  | none => s
  | some (m, s) =>
    let d := m.sn - 4
    let c := bits m.m1 15 8
    let addr := m.m0 + bits m.m1 7 0 * 2 ^ 32
    let fail := fun (s : State) code => s.parkFail n d m.su c code true
    match if hostErr then none else s.hostGet n addr 64 with
    | none => fail s 0x23
    | some h =>
      match s.unparkCheck n d c h with
      | some code => fail s code
      | none =>
        let slot := s.rd (cd n) R.PARK_CFG_SLOT
        let j : SealJob := {
          unpark := true, die := d, wing := m.su, carrel := c, blocks := fromBytes ((h.drop 8).take 4), addr := addr,
          slot := slot, key := s.slotKey n slot, no := fromBytes ((h.drop 12).take 4), hdr := h }
        let s := s.slotCharge n slot
        if j.blocks = 0 then s.unparkEnd n j else s.modCd n (fun x => { x with jobs := x.jobs ++ [j] }))

/-- UNPARK_CHUNK_VERIFIED at die `n`: the next chunk of the oldest UNPARK is read and its tag checked; a good chunk goes
to the move engine as FETCH_DATA, block by block, a bad one as status TAG (R246). -/
def execUnparkChunkVerified (n : Fin 2) (hostErr : Bool) (s : State) : Host.Outcome State Fault Refusal :=
  let p := fun (j : SealJob) => j.unpark
  done (match (s.cdx n).jobs.find? p with
  | none => s
  | some j =>
    let blocks := min 16 (j.blocks - 16 * j.chunk)
    let msg := fun (st : Nat) (data : List Byte) => (⟨0x0A, sdNode j.die, j.wing, cdNode n, 8, st, 0, data, 0⟩ : Msg)
    let bad := fun (s : State) st code =>
      ((s.modJob n p (fun _ => none)).parkLog n (parkKind code) j.die j.carrel true).send (msg st [])
    match if hostErr then none else s.hostGet n (j.addr + chunkOff j.chunk) (4096 * blocks + 16) with
    | none => bad s 5 0x23
    | some c =>
      match gcmOpen j.key (parkIv j.no j.die j.carrel j.chunk) j.hdr (c.take (4096 * blocks)) (c.drop (4096 * blocks)) with
      | none => bad s 0x10 0x21
      | some data =>
        let s := s.sendAll ((chunksOf 4096 blocks data).map (msg 0))
        if j.blocks ≤ 16 * (j.chunk + 1) then (s.modJob n p (fun _ => none)).unparkEnd n j
        else s.modJob n p (fun j => some { j with chunk := j.chunk + 1 }))

/-- A chunk's block lands in the reservation (R246). -/
def State.unparked (s : State) (a d w : Nat) (r : EngRun) (m : Msg) : State :=
  if bits m.m0 7 0 ≠ 0 then s.moveFail a (if bits m.m0 7 0 = 0x10 then 0x21 else 0x23)
  else
    let s := s.rrStore d w (4096 * (r.ent.headD 0 + r.next)) m.data false
    let s := s.wr (wg d w) R.MV_CNT_LINES (s.rd (wg d w) R.MV_CNT_LINES + 64)
    s.modRun a 4 (fun r => { r with next := r.next + 1 })

/-- FETCH_DATA_RECEIVE at wing `w`: fetched lines of a MOV (R319), or a block of an UNPARK (R246). -/
def execFetchDataReceive (d : Fin 4) (w : Fin 8) (s : State) : Host.Outcome State Fault Refusal :=
  done (match s.takeMsg (fun m => m.ty == 0x0A && m.dn == sdNode d && m.du == w.val) with
  | none => s
  | some (m, s) =>
    let a := wcix d w
    match s.running a 4 with
    | none => s
    | some r =>
      if r.fault ≠ 0 then s
      else if r.ins.op = 0x84 then (s.unparked a d w r m).moveOn a
      else match r.fetch.find? (fun f => f.tag == bits m.m0 15 8) with
      | some f => (s.fetched a d w r f m).moveOn a
      | none => s)

end Sys2Proof.Machine
end

