-- ==== Sys2Proof/Machine/SeqInstr.lean ====
section
/-! DEFINITION. Catalogue and power instructions of a sequencer (R336 to R338, R362 to R374), and the host's cancel
(R410). -/

namespace Sys2Proof.Machine

/-- CSEM of a format E instruction, where CSEN is 1 (R336). -/
def Ins.csemOpt (i : Ins) : Option Nat := if i.csen then some i.csem else none

/-- A sequencer issues a catalogue, power or security instruction; on the standby die most take NOTACTIVE before any
other check (R338). -/
def State.seqIssue (s : State) (a : Nat) (i : Ins) (legal : Bool) (regs : List Nat) (act : Bool) (go : State → State) :
    State :=
  s.issue a i (isSq a && !i.x && csemOk a i && legal) regs (fun s =>
    if act && !s.isActive (sqDie a) then s.trap a 0x30 else go s)
/-- The instruction completes with a status at once (R336). -/
def State.seqDone (s : State) (a : Nat) (i : Ins) (status : Nat) : State :=
  ((s.sW a i.a (BitVec.ofNat 32 status)).csemSig (sqDie a) (Ins.csemOpt i)).adv a false
/-- The instruction waits for its status. -/
def State.seqWait (s : State) (a : Nat) : State :=
  let pc := s.pc a
  (s.modAgent a (fun g => { g with stat := some pc })).adv a false
/-- Commons master code of a sequencer (COM_ERR_LOG). -/
def sqMaster (a : Nat) : Nat := 2 + a % 8 / 4

/-! ### Catalogue instructions -/

/-- Region 0x0 or an aperture of the issuing die, `len` bytes (R362, R380, R382). -/
def seqRange (n addr len : Nat) : Bool :=
  let region := addr / 2 ^ 32 % 16
  (addr / 2 ^ 36 == 0 || addr / 2 ^ 36 == cdNode n)
    && ((region == 0 && decide (addr % 2 ^ 32 + len ≤ 2 ^ 24)) || (decide (4 ≤ region ∧ region < 8) && decide (addr % 2 ^ 32 + len ≤ 2 ^ 32)))
/-- Bytes that a sequencer's instruction reads from such a range. -/
def State.seqGet (s : State) (n master addr len : Nat) : Option (State × List Byte) :=
  if addr / 2 ^ 32 % 16 = 0 then let r := s.comRead n master (addr % 2 ^ 24) len; some (r.1, r.2.1)
  else (s.hostGet n addr len).map (fun l => (s, l))
/-- A write of such a range. -/
def State.seqPut (s : State) (n master addr : Nat) (data : List Byte) : Option State :=
  if addr / 2 ^ 32 % 16 = 0 then some (s.comWrite n master (addr % 2 ^ 24) data) else s.hostPut n addr data
/-- An aperture did not serve the access: it is logged, and the instruction takes ADDR (R42, R56). -/
def State.seqAddr (s : State) (a : Nat) (write : Bool) (addr : Nat) : State :=
  (s.addrErr (sqDie a) 6 (unitCode (sqDie a) (a % 8)) write addr).trap a 3

/-- ENQ of the slip at `addr` to queue `q` (R362, R363). -/
def State.enq (s : State) (a : Nat) (i : Ins) (addr q : Nat) : State :=
  let n := sqDie a
  if addr % 64 ≠ 0 ∨ !seqRange n addr 64 then s.trap a 0x33
  else if 131072 ≤ q then s.trap a 0x31
  else if !s.qIsDev n q then s.trap a 0x32
  else if s.qSize n q = 0 then s.seqDone a i 2
  else if s.qSize n q ≤ sub32 (s.qProd n q) (s.qCons n q) then s.seqDone a i 1
  else match s.seqGet n (sqMaster a) addr 64 with
  | none => s.seqAddr a false addr
  | some (s, l) =>
    let dst := s.qBase n q + 64 * (s.qProd n q % s.qSize n q)
    match s.ringPut n (sqMaster a) dst l with
    | none => s.seqAddr a true dst
    | some s => (((s.qwPut n q 2 ((s.qProd n q + 1) % 2 ^ 32)).mirrored n).seqDone a i 0).catSync n

/-- ENQ (R362). -/
def execEnq (a : Fin 48) (i : Ins) (s : State) : Host.Outcome State Fault Refusal :=
  done (s.seqIssue a i (decide (i.b.val < 16) && i.ef 22 0 == 0) [i.a.val, 32 + i.b.val, i.c.val] true (fun s =>
    s.enq a i (s.adR a i.b).toNat (s.sR a i.c).toNat))

/-- A ready slip of queue `q` lies at ring position `pos` (R410). -/
def State.slipReady (s : State) (n q pos : Nat) : Bool :=
  let size := s.qSize n q
  !s.qIsCq n q && decide (pos < size)
    && decide ((pos + size - s.qCons n q % size) % size < sub32 (s.qProd n q) (s.qCons n q))
/-- Sets the CANCEL bit of the slip at a ring position, in the ring (R410). -/
def State.slipMark (s : State) (n q pos : Nat) : State :=
  let addr := s.qBase n q + 64 * pos
  match s.ringGet n 1 addr 4 with
  | some r => (r.1.ringPut n 1 addr (toBytes 4 (putBits (fromBytes r.2) 31 31 1))).getD r.1
  | none => s
/-- A held head that waits for WAIT_SEM is taken up again. -/
def State.headFree (s : State) (n q : Nat) : State :=
  let s := s.qfPut n q 7 18 18 0
  { s with waitq := s.waitq.filter (fun w => w.2 != headWaiter n q) }
/-- Sets the CANCEL bit of the slip at a ring position, in the ring and on chip (R410). -/
def State.slipCancel (s : State) (n q pos : Nat) : State :=
  let s := (s.slipMark n q pos).modCd n (fun x => { x with
    cancels := (q, pos) :: x.cancels.filter (· != (q, pos)) })
  if pos = s.qCons n q % s.qSize n q ∧ (s.headOf n q).isSome then s.headFree n q else s
/-- The cancel of queue `q`, position `pos`, with its result: 0 CANCELLED, 1 STOPPING, 2 NONE (R364, R410). -/
def State.catCancel (s : State) (n q pos : Nat) : State × Nat :=
  if s.slipReady n q pos then ((s.slipCancel n q pos).catSync n, 0)
  else
    match (List.range 8).find? (fun k => (s.runSlip n k).any (fun x => x.q == q && x.pos == pos)) with
    | some k => (s.stopReq (sqix n k), 1)
    | none => (s, 2)

/-- CANCEL (R364). -/
def execCancel (a : Fin 48) (i : Ins) (s : State) : Host.Outcome State Fault Refusal :=
  done (s.seqIssue a i (i.ef 22 0 == 0) [i.a.val, i.b.val, i.c.val] true (fun s =>
    let pos := (s.sR a i.b).toNat
    let q := (s.sR a i.c).toNat
    if 131072 ≤ q ∨ 65536 ≤ pos then s.trap a 0x31
    else
      let r := s.catCancel (sqDie a) q pos
      r.1.seqDone a i r.2))

/-- CANCEL_POS_WRITE: the host's cancel of the queue in CANCEL_Q (R410). -/
def execCancelPosWrite (n : Fin 2) (pos : Fin 65536) (s : State) : Host.Outcome State Fault Refusal :=
  done (if s.isActive n && !s.flag (cd n) R.CANCEL_STAT_BUSY then
    let r := s.catCancel n (s.rd (cd n) R.CANCEL_Q_QUEUE) pos
    r.1.wr (cd n) R.CANCEL_STAT_RESULT r.2
  else s)

/-- CMPL (R365). -/
def execCmpl (a : Fin 48) (i : Ins) (s : State) : Host.Outcome State Fault Refusal :=
  let nres := i.ef 2 0
  let legal := i.b.val == 0 && i.c.val == 0 && i.ef 22 16 == 0 && i.ef 7 3 == 0 && decide (nres ≤ 4)
    && decide (i.a.val + nres ≤ 32)
  done (s.seqIssue a i legal ((List.range nres).map (i.a.val + ·)) true (fun s =>
    let n := sqDie a
    match s.runSlip n (a % 8) with
    | none => s.trap a 0x34
    | some _ =>
      let res := (List.range nres).map (fun k => (s.sR a (i.a + k)).toNat)
      (((s.runComplete n (a % 8) 0 0 (i.ef 15 8) res 0 0).csemSig n (Ins.csemOpt i)).catSync n).adv a false))

/-! ### Power instructions -/

/-- The channel operand is no channel, or the odd half of a ganged pair (R337, R366). -/
def State.badChannel (s : State) (n g : Nat) : Bool := decide (47 < g) || (g % 2 == 1 && s.lgGang n (g - 1))

/-- LDSET with operation `op`: 0 OFF, 1 ON, 2 RELIMIT (R366 to R371). -/
def State.ldset (s : State) (a op : Nat) (i : Ins) : State :=
  let i : Ins := { i with low := BitVec.ofNat 37 (putBits i.low.toNat 18 17 op) }
  s.seqIssue a i (i.ef 16 0 == 0) ([i.a.val, i.b.val] ++ if op = 0 then [] else [i.c.val]) true (fun s =>
    let n := sqDie a
    let g := (s.sR a i.b).toNat
    let v := if op = 0 then 0 else (s.sR a i.c).toNat
    let gang := s.lgGang n g
    let ilim := bits v 7 0
    if s.badChannel n g then s.trap a 0x35
    else if op ≠ 0 ∧ (bits v 31 20 ≠ 0 ∨ 1000 < bits v 17 8 ∨ ilim < (if gang then 10 else 5)
        ∨ (if gang then 240 else 120) < ilim) then s.trap a 0x36
    else
      let q : LgReq := {
        op := if op = 2 then 3 else 1, ilim := ilim, mult := bits v 19 18, window := bits v 17 8,
        guar := i.ef 19 19 == 1, prio := i.ef 22 20, waiter := some (a, i.a), csem := Ins.csemOpt i }
      let s := s.seqWait a
      if op = 0 then s.lgOff n g q else if op = 1 then s.lgOn n g q else s.lgRelimit n g q)
/-- LDSET ON (R368). -/
def execLdsetOn (a : Fin 48) (i : Ins) (s : State) : Host.Outcome State Fault Refusal := done (s.ldset a 1 i)
/-- LDSET OFF (R370). -/
def execLdsetOff (a : Fin 48) (i : Ins) (s : State) : Host.Outcome State Fault Refusal := done (s.ldset a 0 i)
/-- LDSET RELIMIT (R371). -/
def execLdsetRelimit (a : Fin 48) (i : Ins) (s : State) : Host.Outcome State Fault Refusal := done (s.ldset a 2 i)

/-- The die whose ledger an LDGET reads: the active die's, which the standby mirrors (R372, R430). -/
def State.lgDie (s : State) (n : Nat) : Nat := s.active.getD n
/-- The channel state word (R372, R369). -/
def State.chanWord (s : State) (n g : Nat) : Nat :=
  let c := s.chc n g
  let m := s.lgDie n
  let e := s.lgEntry m g
  let pend := s.lgSt m e == 2 || (match (s.lgx m e).req with
    | some q => q.dfr && s.lgSt m e == 1
    | none => false)
  (if c.ff then 0xFF else bits c.fault 15 8) * 65536 + 32 * b2n (bitOf c.stat 7) + 16 * b2n (bitOf c.stat 13)
    + 8 * b2n (bitOf c.stat 11) + 4 * b2n (bitOf c.stat 10) + 2 * b2n pend + b2n (bitOf c.stat 15)
/-- The latest measured current in mA; both switches of a ganged pair (R372, R538). -/
def State.chanCurrent (s : State) (n g : Nat) : Nat :=
  let adc := (s.ldc n (g / 24)).adc
  5 * (Store.get 0 adc (g % 24) + if s.lgGang n g then Store.get 0 adc (g % 24 + 1) else 0)

/-- LDGET with selection `sel`: 0 STATE, 1 CURRENT, 2 GRANT (R372). -/
def State.ldget (s : State) (a sel : Nat) (i : Ins) : State :=
  let i : Ins := { i with low := BitVec.ofNat 37 (putBits i.low.toNat 22 20 sel) }
  s.seqIssue a i (i.c.val == 0 && i.ef 19 0 == 0) [i.a.val, i.b.val] false (fun s =>
    let n := sqDie a
    let g := (s.sR a i.b).toNat
    if s.badChannel n g then s.trap a 0x35
    else s.seqDone a i (if sel = 0 then s.chanWord n g else if sel = 1 then s.chanCurrent n g
      else s.lgHold (s.lgDie n) (s.lgEntry (s.lgDie n) g)))
/-- LDGET STATE (R372). -/
def execLdgetState (a : Fin 48) (i : Ins) (s : State) : Host.Outcome State Fault Refusal := done (s.ldget a 0 i)
/-- LDGET CURRENT (R372). -/
def execLdgetCurrent (a : Fin 48) (i : Ins) (s : State) : Host.Outcome State Fault Refusal := done (s.ldget a 1 i)
/-- LDGET GRANT (R372). -/
def execLdgetGrant (a : Fin 48) (i : Ins) (s : State) : Host.Outcome State Fault Refusal := done (s.ldget a 2 i)

/-- BUDREQ (R373). -/
def execBudreq (a : Fin 48) (i : Ins) (s : State) : Host.Outcome State Fault Refusal :=
  done (s.seqIssue a i (i.b.val == 0 && i.c.val == 0 && i.ef 12 0 == 0) [i.a.val] true (fun s =>
    let n := sqDie a
    let d := i.ef 18 17
    if !s.inService n (2 + d) then s.trap a 0x38
    else match s.lgFreeClaim n with
    | none => s.trap a 0x39
    | some e => (s.seqWait a).lgClaim n e d (i.ef 16 13)
        { op := 0, guar := i.ef 19 19 == 1, prio := i.ef 22 20, waiter := some (a, i.a), csem := Ins.csemOpt i }))
/-- BUDREL (R374). -/
def execBudrel (a : Fin 48) (i : Ins) (s : State) : Host.Outcome State Fault Refusal :=
  done (s.seqIssue a i (i.c.val == 0 && i.ef 22 0 == 0) [i.a.val, i.b.val] true (fun s =>
    let c := (s.sR a i.b).toNat
    if 31 < c then s.trap a 0x38
    else
      let r := s.lgUnclaim (sqDie a) (48 + c)
      r.1.seqDone a i r.2))

end Sys2Proof.Machine
end

