-- ==== Sys2Proof/Machine/Security.lean ====
section
/-! DEFINITION. The security island (chapter 16) and the security instructions (R376 to R382): identity, SEAL and
UNSEAL, accession records, zeroisation, life cycle, debug opening, MAC and the TRNG. -/

namespace Sys2Proof.Machine

/-! ### Derived values -/

/-- The ASCII codes of a label. -/
def ascii (x : String) : List Nat := x.toList.map Char.toNat
/-- ROOT as bytes (R606). -/
def rootKey : List Byte := toBE 32 Config.rootSecret.toNat
/-- The identity private key d_id (R607). -/
def idKey : Nat := fromBE (kdf rootKey (ascii "RFH8-IDENTITY") [] 40) % (n256 - 1) + 1
/-- The identity public key Q_id as X then Y (R607). -/
def idPub : List Byte := ecBytes (ecMul idKey (some g256))
/-- DEVICE_ID (R607). -/
def deviceId : List Byte := sha256 idPub
/-- BOOTNO of die `n`. -/
def State.bootNo (s : State) (n : Nat) : Nat := s.rd (cd n) R.SEC_BOOTNO_BOOTNO
/-- The key of a FRESH slot as die `n` derives it (R607, R610). -/
def State.freshKey (s : State) (n slot : Nat) : List Byte :=
  kdf rootKey (ascii "RFH8-SESSION") (toBytes 1 slot ++ toBytes 1 n ++ toBytes 4 (s.bootNo n)) 32
/-- The debug challenge of die `n` (R607, R624). -/
def State.dbgChal (s : State) (n : Nat) : List Byte :=
  kdf rootKey (ascii "RFH8-DEBUG") (toBytes 1 n ++ toBytes 4 (s.bootNo n) ++ toBytes 2 (s.cdx n).attempt) 32

/-- SEC_STAT.DBG_OPEN: opened under R624, or by the life-cycle state (R623). -/
def State.secSync (s : State) (n : Nat) : State :=
  let lc := s.rd (cd n) R.SEC_STAT_LC
  s.wrb (cd n) R.SEC_STAT_DBG_OPEN ((s.cdx n).dbgOpened || lc == 0 || lc == 1 || lc == 2 || lc == 4)

/-! ### RAND, SEAL and UNSEAL -/

/-- RAND (R376). -/
def execRand (a : Fin 48) (i : Ins) (s : State) : Host.Outcome State Fault Refusal :=
  done (s.seqIssue a i (i.c.val == 0 && i.ef 22 0 == 0) [i.a.val, i.b.val] false (fun s =>
    let st := s.rd (cd (sqDie a)) R.TRNG_STAT_STATE
    let s := if st = 2 then let r := s.draw 32; r.1.sW a i.a (BitVec.ofNat 32 r.2) else s.sW a i.a 0
    let s := s.sW a i.b (BitVec.ofNat 32 (if st = 2 then 0 else if st = 3 then 2 else 1))
    (s.csemSig (sqDie a) (Ins.csemOpt i)).adv a false))

/-- PURPOSE and KEYUSE of an operation on a slot, in that order; an empty slot takes KEYUSE (R380, R381, R609). -/
def State.slotFault (s : State) (n slot p : Nat) : Option Nat :=
  if s.flag (cd n) (R.SLOT_ATTR_VALID.at slot) && !s.slotHas n slot p then some 0x3B
  else if !s.slotLive n slot then some 0x3C
  else none

/-- The operands of SEAL and UNSEAL pass the SECADDR checks (R380): `slen` bytes from `src`, `dlen` to `dst`. -/
def secOk (n src slen dst dlen : Nat) : Bool :=
  let x := src % 2 ^ 36
  let y := dst % 2 ^ 36
  src % 4 == 0 && dst % 4 == 0 && seqRange n src slen && seqRange n dst dlen
    && !(decide (0 < slen ∧ 0 < dlen ∧ x < y + dlen ∧ y < x + slen))

/-- SEAL_NO of the next SEAL (R379). -/
def State.sealNext (s : State) (n : Nat) : Nat :=
  s.rd (cd n) R.SEAL_NEXT_LO_NO_LO + s.rd (cd n) R.SEAL_NEXT_HI_NO_HI * 2 ^ 32
/-- The count advances on both dies (R379). -/
def State.sealStep (s : State) (n : Nat) : State :=
  let v := s.sealNext n + 1
  (s.keyDies n).foldl (fun s k => (s.wr (cd k) R.SEAL_NEXT_LO_NO_LO v).wr (cd k) R.SEAL_NEXT_HI_NO_HI (v / 2 ^ 32)) s

/-- The header of a sealed blob (R378). -/
def blobHeader (no len : Nat) : List Byte := List.replicate 4 0 ++ toBytes 8 no ++ toBytes 4 len
/-- The blob of a SEAL. -/
def blobOf (key : List Byte) (no : Nat) (data : List Byte) : List Byte :=
  let h := blobHeader no data.length
  let r := gcmSeal key (h.take 12) h data
  h ++ r.1 ++ r.2

/-- SEAL of `len` bytes once its operands are checked (R378, R379). -/
def State.sealData (s : State) (a : Nat) (i : Ins) (slot src dst len : Nat) : State :=
  let n := sqDie a
  match s.seqGet n 4 src len with
  | none => s.seqAddr a false src
  | some r =>
    let s := (r.1.slotCharge n slot)
    match (s.sealStep n).seqPut n 4 dst (blobOf (s.slotKey n slot) (s.sealNext n) r.2) with
    | none => s.seqAddr a true dst
    | some s => s.seqDone a i 0

/-- SEAL (R378 to R380). -/
def execSeal (a : Fin 48) (i : Ins) (s : State) : Host.Outcome State Fault Refusal :=
  let legal := decide (i.b.val < 16 ∧ i.c.val < 16) && i.ef 17 0 == 0
  done (s.seqIssue a i legal [i.a.val, 32 + i.b.val, 32 + i.c.val] true (fun s =>
    let n := sqDie a
    let slot := i.ef 22 18
    let len := (s.sR a i.a).toNat
    let src := (s.adR a i.b).toNat
    let dst := (s.adR a i.c).toNat
    match s.slotFault n slot 1 with
    | some c => s.trap a c
    | none =>
      if 65536 < len ∨ len % 4 ≠ 0 ∨ !secOk n src len dst (len + 32) then s.trap a 0x3D
      else s.sealData a i slot src dst len))

/-- The status of an UNSEAL and its plaintext, from the blob's header and the bytes that follow (R381). -/
def unsealBlob (key hdr rest : List Byte) : Option (List Byte) :=
  let len := fromBytes (hdr.drop 12)
  gcmOpen key (hdr.take 12) hdr (rest.take len) ((rest.drop len).take 16)

/-- UNSEAL once its operands are checked (R381). -/
def State.unsealData (s : State) (a : Nat) (i : Ins) (slot src dst cap : Nat) : State :=
  let n := sqDie a
  match s.seqGet n 4 src 16 with
  | none => s.seqAddr a false src
  | some r =>
    let hdr := r.2
    let s := r.1.slotCharge n slot
    let len := fromBytes (hdr.drop 12)
    if hdr.take 4 ≠ List.replicate 4 0 ∨ len % 4 ≠ 0 then s.seqDone a i 0x11
    else if cap < len then s.seqDone a i 0x13
    else match s.seqGet n 4 (src + 16) (len + 16) with
    | none => s.seqAddr a false src
    | some r =>
      match unsealBlob (s.slotKey n slot) hdr r.2 with
      | none => r.1.seqDone a i 0x10
      | some pt => match r.1.seqPut n 4 dst pt with
        | none => s.seqAddr a true dst
        | some s => s.seqDone a i 0

/-- UNSEAL (R380, R381). -/
def execUnseal (a : Fin 48) (i : Ins) (s : State) : Host.Outcome State Fault Refusal :=
  let legal := decide (i.b.val < 16 ∧ i.c.val < 16) && i.ef 17 0 == 0
  done (s.seqIssue a i legal [i.a.val, 32 + i.b.val, 32 + i.c.val] true (fun s =>
    let n := sqDie a
    let slot := i.ef 22 18
    let cap := (s.sR a i.a).toNat
    let src := (s.adR a i.b).toNat
    let dst := (s.adR a i.c).toNat
    match s.slotFault n slot 1 with
    | some c => s.trap a c
    | none =>
      if 65536 < cap ∨ !secOk n src (cap + 32) dst cap then s.trap a 0x3D
      else s.unsealData a i slot src dst cap))

/-! ### Zeroisation -/

/-- Every live slot of die `n` is empty, and what used a slot ends (R619 step 1, R389, R93): PARK and UNPARK with KEY,
a MAC with KEYUSE. -/
def State.slotsClear (s : State) (n : Nat) : State :=
  let jobs := (s.cdx n).jobs
  let s := s.clearRegs (cd n + 0x5100) (cd n + 0x5180)
  let s := s.modCd n (fun x => { x with keys := [], jobs := [] })
  let s := jobs.foldl (fun s j => s.parkFail n j.die j.wing j.carrel 0x1D j.unpark) s
  if s.flag (cd n) R.MAC_CTRL_BUSY then
    ((s.wr (cd n) R.MAC_CTRL_BUSY 0).wr (cd n) R.MAC_CTRL_STATUS 0x3C).modCd n (fun x => { x with mac := none })
  else s
/-- A zeroisation starts on both dies (R619); one that runs already covers the new event (R629). -/
def State.zeroise (s : State) : State :=
  [0, 1].foldl (fun s n => (s.slotsClear n).wr (cd n) R.SEC_STAT_ZEROISING 1) s

/-- TAMPER_N_LOW: recognised low (R619). -/
def execTamperNLow (s : State) : Host.Outcome State Fault Refusal :=
  done (if s.pins.tamperN then s
  else
    let s := { s with pins := { s.pins with tamperN := true } }
    if !s.pins.vaon then s
    else
      let s := [0, 1].foldl (fun s n => (s.wr (cd n) R.SEC_STAT_TAMPER_IN 1).raise (cd n) R.SEC_CAUSE_TAMPER) s
      [0, 1].foldl (fun s n => s.modCd n (fun x => { x with pwren := true })) s.zeroise)
/-- TAMPER_N_RELEASE: TAMPER_N is high again (R619). -/
def execTamperNRelease (s : State) : Host.Outcome State Fault Refusal :=
  let s := { s with pins := { s.pins with tamperN := false } }
  done ([0, 1].foldl (fun s n => s.wr (cd n) R.SEC_STAT_TAMPER_IN 0) s)

/-! ### Life cycle -/

/-- LC_RES of die `n`. -/
def State.lcRes (s : State) (n v : Nat) : State := s.wr (cd n) R.LC_RES_RESULT v
/-- A transition from state `x` to `y` that LC_CMD may make, apart from its conditions (R622). -/
def lcStep (x y : Nat) : Bool := (x != 5 && y == 5) || (x == 0 && y == 1) || (x == 1 && y == 2) || (x == 2 && y == 3)
/-- The transition to state `y`: the fuses of both dies in service, the cause, and a zeroisation (R622). -/
def State.lcGo (s : State) (n y : Nat) : State :=
  let s := (s.keyDies n).foldl (fun s k => ((s.wr (cd k) R.SEC_STAT_LC y).raise (cd k) R.SEC_CAUSE_LC_CHANGE).secSync k) s
  s.zeroise
/-- An LC_CMD that is carried out (R622, R623). -/
def State.lcApply (s : State) (n key target : Nat) : State :=
  let lc := s.rd (cd n) R.SEC_STAT_LC
  if key ≠ 0x4C43 then s.lcRes n 0x10
  else if target = 7 then
    if lc ≠ 1 then s.lcRes n 0x11
    else if s.flag (cd n) R.SEC_STAT_PUBHASH_SET then s.lcRes n 0x12
    else
      let h := (List.range 12).map (fun k => s.rd (cd n) (R.PUB_HASH_BYTES.at k))
      ((s.keyDies n).foldl (fun s k =>
        (h.zipIdx.foldl (fun s p => s.wr (cd k) (R.PUB_HASH_BYTES.at p.2) p.1) s).wr (cd k) R.SEC_STAT_PUBHASH_SET 1) s).lcRes n 1
  else if !lcStep lc target then s.lcRes n 0x11
  else if target = 2 ∧ !s.flag (cd n) R.SEC_STAT_PUBHASH_SET then s.lcRes n 0x12
  else if target ≠ 5 ∧ s.rd (cd n) R.SEC_STAT_VGEN = 32 then s.lcRes n 0x13
  else (s.lcGo n target).lcRes n 1
/-- A write of LC_CMD on die `n` (R623): it acts on the active die, and waits for a zeroisation that runs. -/
def State.lcCmd (s : State) (n key target : Nat) : State :=
  if !s.isActive n then s.lcRes n 0x14
  else if s.flag (cd n) R.SEC_STAT_ZEROISING then s.modCd n (fun x => { x with lcWait := x.lcWait ++ [(key, target)] })
  else s.lcApply n key target

/-- LC_TRANSITION: LC_CMD with a state code (R622). -/
def execLcTransition (n : Fin 2) (key : Fin 65536) (target : Fin 8) (s : State) : Host.Outcome State Fault Refusal :=
  done (s.lcCmd n key target)
/-- LC_BLOW_PUBHASH: LC_CMD with TARGET 0x7 (R622). -/
def execLcBlowPubhash (n : Fin 2) (key : Fin 65536) (s : State) : Host.Outcome State Fault Refusal :=
  done (s.lcCmd n key 7)

/-- The vault records are erased; the write counts stay (R619 step 3, R613). -/
def eraseVault (l : Store VaultRec) : Store VaultRec := l.map (fun e => (e.1, { wear := e.2.wear + 1 }))
/-- Steps 2 and 3 of R619 on die `n`, with R621. -/
def State.zeroEnd (s : State) (n : Nat) : State :=
  if !s.flag (cd n) R.SEC_STAT_ZEROISING then s
  else
    let v := s.rd (cd n) R.SEC_STAT_VGEN
    let s := (s.wr (cd n) R.SEC_STAT_VGEN (min 32 (v + 1))).modCd n (fun x => { x with vault := eraseVault x.vault })
    let s := (s.wr (cd n) R.SEC_STAT_ZEROISING 0).raise (cd n) R.SEC_CAUSE_ZEROISED
    if s.rd (cd n) R.PWR_STATE_CUR = 1 then s.modCd n (fun x => { x with pwren := false }) else s
/-- LC_CMDs that waited are carried out, up to one that starts a zeroisation. -/
def State.lcRun (s : State) (n : Nat) : List (Nat × Nat) → State
  | [] => s.modCd n (fun x => { x with lcWait := [] })
  | c :: cs =>
    let s := s.lcApply n c.1 c.2
    if s.flag (cd n) R.SEC_STAT_ZEROISING then s.modCd n (fun x => { x with lcWait := cs }) else s.lcRun n cs
/-- ZEROISATION_DONE (R619): both dies' steps end together. -/
def execZeroisationDone (s : State) : Host.Outcome State Fault Refusal :=
  let s := (s.zeroEnd 0).zeroEnd 1
  done ([0, 1].foldl (fun s n => if s.flag (cd n) R.SEC_STAT_ZEROISING then s else s.lcRun n (s.cdx n).lcWait) s)

/-! ### Accession records -/

/-- The little-endian field of `k` bytes at offset `o`. -/
def fieldAt (r : List Byte) (o k : Nat) : Nat := fromBytes ((r.drop o).take k)
/-- All bytes of a range are zero. -/
def zeroAt (r : List Byte) (o k : Nat) : Bool := ((r.drop o).take k).all (· == 0)
def recKind (r : List Byte) : Nat := fieldAt r 5 1
def recEntries (r : List Byte) : Nat := fieldAt r 6 1
def recCounter (r : List Byte) : Nat := fieldAt r 8 2

/-- Step 1 of R616: the header's form (R614). -/
def recForm (r : List Byte) : Bool :=
  let e := recEntries r
  let t := fieldAt r 7 1
  decide (272 ≤ r.length) && fieldAt r 0 4 == 0x4E434341 && fieldAt r 4 1 == 1 && fieldAt r 12 4 == 272 + 48 * e
    && r.length == 272 + 48 * e && zeroAt r 11 1 && zeroAt r 0x7C 4 && decide (1 ≤ recCounter r ∧ recCounter r ≤ 1024)
    && ((recKind r == 1 && decide (1 ≤ e ∧ e ≤ 32) && t == 0) || (recKind r == 2 && e == 0 && decide (1 ≤ t ∧ t ≤ 5)))
/-- Byte offset of TAG. -/
def recTag (r : List Byte) : Nat := 0x80 + 48 * recEntries r
/-- PUB_HASH of die `n`. -/
def State.pubHash (s : State) (n : Nat) : List Byte :=
  (List.range 12).flatMap (fun k => toBytes 4 (s.rd (cd n) (R.PUB_HASH_BYTES.at k)))
/-- A signature of the publisher: the key hashes to the fused value and the signature verifies (R72, R616). -/
def State.signedOk (s : State) (n : Nat) (pub sig msg : List Byte) : Bool :=
  s.flag (cd n) R.SEC_STAT_PUBHASH_SET && sha384 pub == s.pubHash n && ecdsaOk pub sig msg
/-- The entries in plaintext, where the tag passes (R615). -/
def recOpen (r : List Byte) : Option (List (List Byte)) :=
  match ecMul idKey (ecPoint ((r.drop 0x30).take 64)), ecPoint ((r.drop 0x30).take 64) with
  | some (x, _), some _ =>
    let kek := kdf (toBE 32 x) (ascii "RFH8-ACCESSION") ((r.drop 8).take 2 ++ deviceId) 32
    let t := recTag r
    (gcmOpen kek ((r.drop 0x70).take 12) (r.take 0x80) ((r.take t).drop 0x80) ((r.drop t).take 16)).map
      (chunksOf 48 (recEntries r))
  | _, _ => none

def entSlot (e : List Byte) : Nat := fieldAt e 0 1
def entExpire (e : List Byte) : Bool := fieldAt e 1 1 == 1
def entPurpose (e : List Byte) : Nat := fieldAt e 2 1
def entErase (e : List Byte) : Bool := bitOf (fieldAt e 3 1) 0
def entFresh (e : List Byte) : Bool := bitOf (fieldAt e 3 1) 1
/-- The entry writes a vault record (R617 step 1). -/
def entVault (e : List Byte) : Bool := entErase e || entFresh e || !entExpire e
/-- Step 8 of R616 for one entry (R608, R615). -/
def entOk (e : List Byte) : Bool :=
  let p := entPurpose e
  decide (entSlot e < 32) && decide (fieldAt e 1 1 ≤ 1) && decide (p < 16) && decide (fieldAt e 3 1 < 4) && zeroAt e 6 10
    && (if entErase e then fieldAt e 3 1 == 1 && zeroAt e 1 2 && zeroAt e 4 44
        else p != 0 && !(bitOf p 3 && p != 8) && (!entExpire e || zeroAt e 4 2)
          && (!entFresh e || (entExpire e && p == 2 && zeroAt e 16 32)))

/-- The record may be applied in the current state (R616 step 4). -/
def State.recState (s : State) (n : Nat) (r : List Byte) : Bool :=
  let lc := s.rd (cd n) R.SEC_STAT_LC
  bitOf (fieldAt r 10 1) lc && !s.pins.tamperN && !s.flag (cd n) R.SEC_STAT_ZEROISING
    && (if recKind r = 2 then lc == 3 && fieldAt r 7 1 == 4 && s.rd (cd n) R.SEC_STAT_VGEN != 32 else decide (lc < 4))
/-- The status of a KDEC in the order of R616, and the entries of a record that passes. -/
def State.recCheck (s : State) (n : Nat) (r : List Byte) : Nat × List (List Byte) :=
  let t := recTag r
  let acc := s.rd (cd n) R.SEC_STAT_ACC_CTR
  if !recForm r then (1, [])
  else if !s.signedOk n ((r.drop (t + 16)).take 64) (r.drop (t + 80)) (r.take (t + 80)) then (2, [])
  else if (r.drop 0x10).take 32 ≠ deviceId then (3, [])
  else if !s.recState n r then (6, [])
  else if acc = 1024 then (5, [])
  else if recCounter r ≤ acc then (4, [])
  else match recOpen r with
  | none => (3, [])
  | some es =>
    if s.rd (cd n) R.SEC_STAT_VGEN = 32 ∧ es.any entVault then (6, [])
    else if es.all entOk && decide (es.map entSlot).Nodup then (0, es)
    else (1, [])

/-- An entry goes to the vault of die `k` in the bank that does not hold the current record (R611, R617). -/
def State.entStore (s : State) (k counter : Nat) (e : List Byte) : State :=
  let slot := entSlot e
  let b := match s.vaultBank k slot with
    | some b => 1 - b
    | none => 0
  s.vaultPut k (2 * slot + b) {
    good := true, counter := counter, vgen := s.rd (cd k) R.SEC_STAT_VGEN, empty := entErase e, expire := entExpire e,
    fresh := entFresh e, purpose := entPurpose e, uses := fieldAt e 4 2, key := (e.drop 16).take 32 }
/-- The attributes of a live slot. -/
def State.slotWrite (s : State) (k slot : Nat) (valid expire fresh : Bool) (purpose uses : Nat) (key : List Byte) : State :=
  let b := cd k
  let s := (s.wrb b (R.SLOT_ATTR_VALID.at slot) valid).wrb b (R.SLOT_ATTR_KIND.at slot) expire
  let s := (s.wrb b (R.SLOT_ATTR_FRESH.at slot) fresh).wr b (R.SLOT_ATTR_PURPOSE.at slot) purpose
  (s.wr b (R.SLOT_ATTR_USES.at slot) uses).modCd k (fun x => { x with keys := Store.put [] x.keys slot key })
/-- An entry goes to the live slot of die `k`; the active die `n` derives a FRESH key (R617 step 3). -/
def State.entLive (s : State) (n k : Nat) (e : List Byte) : State :=
  if entErase e then s.slotWrite k (entSlot e) false false false 0 0 []
  else s.slotWrite k (entSlot e) true (entExpire e) (entFresh e) (entPurpose e) (fieldAt e 4 2)
    (if entFresh e then s.freshKey n (entSlot e) else (e.drop 16).take 32)
/-- A record that passed is applied (R617). -/
def State.recApply (s : State) (n : Nat) (r : List Byte) (es : List (List Byte)) : State :=
  let dies := s.keyDies n
  let c := recCounter r
  let s := dies.foldl (fun s k => (es.filter entVault).foldl (fun s e => s.entStore k c e) s) s
  let s := dies.foldl (fun s k => s.wr (cd k) R.SEC_STAT_ACC_CTR c) s
  let s := dies.foldl (fun s k => es.foldl (fun s e => s.entLive n k e) s) s
  if recKind r = 2 then s.lcGo n (fieldAt r 7 1) else s
/-- KDEC_LOG and its cause (R616). -/
def State.kdecLog (s : State) (n st counter : Nat) : State :=
  (s.capture (cd n) R.KDEC_LOG_VALID.off 0 [(cd n, R.KDEC_LOG_STATUS, st), (cd n, R.KDEC_LOG_COUNTER, counter)]).raise (cd n)
    R.SEC_CAUSE_KDEC_FAIL
/-- A PARK or UNPARK uses one of the slots that the entries name (R388). -/
def State.slotBusy (s : State) (n : Nat) (es : List (List Byte)) : Bool :=
  (s.cdx n).jobs.any (fun j => (es.map entSlot).contains j.slot)
/-- KDEC of a record that has been read. -/
def State.kdec (s : State) (a : Nat) (i : Ins) (r : List Byte) : State :=
  let n := sqDie a
  let q := s.recCheck n r
  if q.1 = 0 then
    if s.slotBusy n q.2 then s else (s.recApply n r q.2).seqDone a i 0
  else (s.kdecLog n q.1 (if recForm r then recCounter r else 0)).seqDone a i q.1
/-- KDEC (R382, R616); with a slot in use it does not complete yet (R388). -/
def execKdec (a : Fin 48) (i : Ins) (s : State) : Host.Outcome State Fault Refusal :=
  done (s.seqIssue a i (decide (i.b.val < 16) && i.ef 22 0 == 0) [i.a.val, 32 + i.b.val, i.c.val] true (fun s =>
    let n := sqDie a
    let addr := (s.adR a i.b).toNat
    let len := (s.sR a i.c).toNat
    if addr % 4 ≠ 0 ∨ 4096 < len ∨ !seqRange n addr len then s.trap a 0x3D
    else match s.seqGet n 4 addr len with
    | none => s.seqAddr a false addr
    | some r => r.1.kdec a i r.2))

/-! ### Debug opening, MAC, TRNG -/

/-- DBG_CTRL.GO on die `n` (R624): three failures in one boot shut it. -/
def State.dbgGo (s : State) (n : Nat) : State :=
  let b := cd n
  let slot := s.rd b R.DBG_CTRL_SLOT
  if !s.isActive n ∨ 3 ≤ s.rd b R.DBG_CTRL_FAILS then s
  else
    let resp := (List.range 8).flatMap (fun k => toBytes 4 (s.rd b (R.DBG_RESP_BYTES.at k)))
    let ok := s.slotOk n slot 3 && hmac (s.slotKey n slot) (s.dbgChal n) == resp
    let s := s.modCd n (fun x => { x with attempt := (x.attempt + 1) % 65536 })
    if ok then
      let s := (((s.slotCharge n slot).wr b R.DBG_CTRL_RESULT 1).raise b R.SEC_CAUSE_DBG_OPEN)
      [0, 1].foldl (fun s k => (s.modCd k (fun x => { x with dbgOpened := true })).secSync k) s
    else ((s.inc b R.DBG_CTRL_FAILS).wr b R.DBG_CTRL_RESULT 2).raise b R.SEC_CAUSE_DBG_FAIL
/-- DBG_GO (R624). -/
def execDbgGo (n : Fin 2) (s : State) : Host.Outcome State Fault Refusal := done (s.dbgGo n)

/-- MAC_CTRL.GO on die `n` (R625). -/
def State.macGo (s : State) (n : Nat) : State :=
  let b := cd n
  let slot := s.rd b R.MAC_CTRL_SLOT
  let off := s.rd b R.MAC_SRC_OFF
  let len := s.rd b R.MAC_LEN_LEN
  if s.flag b R.MAC_CTRL_BUSY then s
  else if !s.isActive n then s.wr b R.MAC_CTRL_STATUS 0x30
  else match s.slotFault n slot 2 with
  | some c => s.wr b R.MAC_CTRL_STATUS c
  | none =>
    if 65536 < len ∨ 2 ^ 24 < off + len then s.wr b R.MAC_CTRL_STATUS 0x3D
    else
      let key := s.slotKey n slot
      (((s.slotCharge n slot).wr b R.MAC_CTRL_BUSY 1).wr b R.MAC_CTRL_STATUS 0).modCd n (fun x => { x with
        mac := some (key, off, len) })
/-- MAC_GO (R625). -/
def execMacGo (n : Fin 2) (s : State) : Host.Outcome State Fault Refusal := done (s.macGo n)
/-- MAC_DONE (R625). -/
def execMacDone (n : Fin 2) (s : State) : Host.Outcome State Fault Refusal :=
  done (match (s.cdx n).mac with
  | none => s
  | some (key, off, len) =>
    let r := s.comRead n 4 off len
    let m := hmac key r.2.1
    let s := (List.range 8).foldl (fun s k => s.wr (cd n) (R.MAC_OUT_BYTES.at k) (fieldAt m (4 * k) 4)) r.1
    ((s.wr (cd n) R.MAC_CTRL_STATUS 1).wr (cd n) R.MAC_CTRL_BUSY 0).modCd n (fun x => { x with mac := none }))

/-- TRNG_READY after `us` microseconds from power (R626). -/
def execTrngReady (n : Fin 2) (us : Fin 65536) (s : State) : Host.Outcome State Fault Refusal :=
  done (if s.rd (cd n) R.TRNG_STAT_STATE = 1 then (s.wr (cd n) R.TRNG_STAT_STATE 2).wr (cd n) R.TRNG_STAT_T_READY us
  else s)
/-- TRNG_HEALTH_FAIL of the repetition count or the adaptive proportion test (R626). -/
def execTrngHealthFail (n : Fin 2) (apt : Bool) (s : State) : Host.Outcome State Fault Refusal :=
  let st := s.rd (cd n) R.TRNG_STAT_STATE
  done (if st = 1 ∨ st = 2 then
    let s := s.inc (cd n) (if apt then R.TRNG_CNT_APT_FAIL else R.TRNG_CNT_RCT_FAIL)
    if st = 2 ∨ 3 ≤ (s.cdx n).trngTries then
      (s.wr (cd n) R.TRNG_STAT_STATE 3).raise (cd n) R.SEC_CAUSE_TRNG_FAIL
    else s.modCd n (fun x => { x with trngTries := x.trngTries + 1 })
  else s)

end Sys2Proof.Machine
end

