-- ==== Sys2Proof/Machine/Dma.lean ====
section
/-! DEFINITION. The interrupt tree's commands (R667, R671) and the host DMA engine (R674, R675, R683). -/

namespace Sys2Proof.Machine

/-! ### Stack-die summaries and INT_EOI -/

/-- The active die `n` reads SD_SUM of Stack die `d`, which answers where `ok` (R667). A die that is not polled reads 0. -/
def State.sdPoll (s : State) (n d : Nat) (ok : Bool) : State :=
  let b := cd n
  let polled := s.inService n (2 + d) && s.reaches (cdNode n) (sdNode d)
  let fails := fun (s : State) k => s.modCd n (fun x => { x with pollFail := Store.put 0 x.pollFail d k })
  if !polled then fails ((s.wr b (R.SD_GRP_VALID.at d) 0).wr b (R.SD_GRP_SUM.at d) 0) 0
  else if ok && (s.sdx d).up then fails ((s.wr b (R.SD_GRP_VALID.at d) 1).wr b (R.SD_GRP_SUM.at d) (s.sdSum d)) 0
  else
    let k := Store.get 0 (s.cdx n).pollFail d
    let s := fails (s.wr b (R.SD_GRP_VALID.at d) 0) (min 3 (k + 1))
    if k = 2 then s.sysEvent n R.SYS_CAUSE_SD_POLL else s
/-- SD_SUM_POLL of Stack die `d` by die `n`; `ok` is false where the read fails (R667). -/
def execSdSumPoll (n : Fin 2) (d : Fin 4) (ok : Bool) (s : State) : Host.Outcome State Fault Refusal :=
  done (if s.isActive n && (s.cdx n).mainUp && s.rd (cd n) R.INT_CTRL_SD_POLL != 0 then s.sdPoll n d ok else s)
/-- A write of INT_EOI on die `n` (R671). -/
def State.intEoi (s : State) (n : Nat) : State :=
  if s.flag (cd n) R.INT_CTRL_EDGE && s.flag (cd n) R.INT_STAT_ASSERTED then s.wr (cd n) R.INT_STAT_EOI_WIN 1 else s
/-- INT_EOI_WRITE (R671). -/
def execIntEoiWrite (n : Fin 2) (s : State) : Host.Outcome State Fault Refusal := done (s.intEoi n)
/-- EOI_WINDOW_END of die `n` (R671). -/
def execEoiWindowEnd (n : Fin 2) (s : State) : Host.Outcome State Fault Refusal :=
  done (s.wr (cd n) R.INT_STAT_EOI_WIN 0)

/-! ### DMA -/

/-- Channel `c` completes with ERR `err` (R674, R675). -/
def State.dmaEnd (s : State) (n c err : Nat) : State :=
  let b := cd n
  let s := ((s.wr b (R.DMA_STAT_BUSY.at c) 0).wr b (R.DMA_STAT_ERR.at c) err).wr b (R.DMA_CTRL_GO.at c) 0
  let s := (s.wr b (R.DMA_CTRL_ABORT.at c) 0).modCd n (fun x => { x with dma := Store.put none x.dma c none })
  let s := s.raiseIn b (cnt32 R.DMA_CAUSE_DONE)
    ((R.DMA_CAUSE_DONE, 2 ^ c) :: (if err = 0 then [] else [(R.DMA_CAUSE_ERR, 2 ^ c)]))
  if s.flag b (R.DMA_CTRL_SEMEN.at c) then s.semSignal (csem n (s.rd b (R.DMA_CTRL_SEM.at c))) 1 else s
/-- A range of node 0x0 that DMA may name: Commons, or one host aperture (R674). -/
def dmaRange (addr len : Nat) : Bool :=
  let reg := addr / 2 ^ 32 % 16
  addr / 2 ^ 36 == 0 && (if reg = 0 then decide (addr % 2 ^ 32 + len ≤ 2 ^ 24)
    else decide (4 ≤ reg ∧ reg < 8 ∧ addr % 2 ^ 32 + len ≤ 2 ^ 32))
/-- The destination names a reading room (R674). -/
def dmaStack (dst : Nat) : Bool := decide (4 ≤ dst / 2 ^ 36 ∧ dst / 2 ^ 36 < 8 ∧ dst / 2 ^ 32 % 16 = 0)
/-- The operands of channel `c`. -/
def State.dmaJob (s : State) (n c : Nat) : DmaJob :=
  let b := cd n
  { src := s.rd b (R.DMA_SRC_HI_ADDR.at c) * 2 ^ 32 + s.rd b (R.DMA_SRC_LO_ADDR.at c),
    dst := s.rd b (R.DMA_DST_HI_ADDR.at c) * 2 ^ 32 + s.rd b (R.DMA_DST_LO_ADDR.at c),
    len := s.rd b (R.DMA_LEN_LEN.at c), wing := s.rd b (R.DMA_CTRL_WING.at c), win := s.rd b (R.DMA_CTRL_WIN.at c),
    sig := s.flag b (R.DMA_CTRL_SIG.at c) }
/-- Check 1 of R675. -/
def dmaAddrOk (j : DmaJob) : Bool :=
  j.src % 4 == 0 && j.dst % 4 == 0 && j.len % 4 == 0 && dmaRange j.src j.len
    && (if dmaStack j.dst then decide (j.dst % 2 ^ 23 + j.len ≤ 2 ^ 23) else dmaRange j.dst j.len)
/-- The error that the operands of channel `c` give before any byte moves (R675), 0 for none. -/
def State.dmaCheck (s : State) (n : Nat) (j : DmaJob) : Nat :=
  if !dmaAddrOk j then 1
  else if dmaStack j.dst && (s.cred (ckey (cdNode n) 8 (j.dst / 2 ^ 36) j.wing j.win)).isNone then 2
  else 0
/-- DMA_CTRL(c).GO on die `n` (R674, R675, R49). -/
def State.dmaStart (s : State) (n c : Nat) : State :=
  let b := cd n
  if !s.isActive n || !(s.cdx n).mainUp || s.flag b (R.DMA_STAT_BUSY.at c) then s
  else
    let j := s.dmaJob n c
    let s := s.wr b (R.DMA_DONE_BYTES.at c) 0
    let e := s.dmaCheck n j
    if e ≠ 0 then s.dmaEnd n c e
    else if dmaStack j.dst && !s.reaches (cdNode n) (j.dst / 2 ^ 36) then (s.addrErr n 5 (unitCode n 8) true j.dst).dmaEnd n c 1
    else
      let s := ((s.wr b (R.DMA_STAT_BUSY.at c) 1).wr b (R.DMA_STAT_ERR.at c) 0).wr b (R.DMA_CTRL_GO.at c) 0
      s.modCd n (fun x => { x with dma := Store.put none x.dma c (some j) })
/-- Source bytes from a Commons range, in pieces of a line with the mark of an uncorrectable word (R452). -/
def State.dmaCommons (s : State) (n src len : Nat) : State × List (List Byte × Bool) :=
  (linePieces (len / 64 + 2) src len).foldl (fun (y : State × List (List Byte × Bool)) p =>
    let z := y.1.comRead n 0 (p.1 % 2 ^ 24) p.2
    (z.1, y.2 ++ [z.2])) (s, [])
/-- The first `len` source bytes of a copy, in pieces; none where host memory fails (R42, R675). -/
def State.dmaSource (s : State) (n src len : Nat) : State × Option (List (List Byte × Bool)) :=
  if src / 2 ^ 32 = 0 then let r := s.dmaCommons n src len; (r.1, some r.2)
  else match s.hostGet n src len with
    | some data => (s, some ((chunksOf 64 (len / 64 + 1) data).map (fun x => (x, false))))
    | none => (s.addrErr n 6 (unitCode n 8) false src, none)
/-- Bytes of the source that the copy itself writes are read before or after that, which the spec leaves open: each is a
free value. -/
def State.dmaFree (s : State) (n : Nat) (j : DmaJob) (data : List Byte) : State × List Byte :=
  match s.bufKey n j.src, s.bufKey n j.dst with
  | some a, some b =>
    if a ≠ b ∧ a < b + j.len ∧ b < a + j.len then
      (data.zipIdx).foldl (fun (y : State × List Byte) x =>
        if b ≤ a + x.2 ∧ a + x.2 < b + j.len then
          let r := y.1.draw 8
          (r.1, y.2 ++ [BitVec.ofNat 8 r.2])
        else (y.1, y.2 ++ [x.1])) (s, [])
    else (s, data)
  | _, _ => (s, data)
/-- Bytes arrive in Commons or host memory (R674, R42); the flag tells whether they did. -/
def State.dmaSink (s : State) (n dst : Nat) (data : List Byte) : State × Bool :=
  if dst / 2 ^ 32 = 0 then (s.comWrite n 0 dst data, true)
  else match s.hostPut n dst data with
    | some s => (s, true)
    | none => (s.addrErr n 6 (unitCode n 8) true dst, false)
/-- The first `m` bytes of a copy to memory; the flag tells whether host memory served. -/
def State.dmaCopy (s : State) (n c m : Nat) (j : DmaJob) : State × Bool :=
  let r := s.dmaSource n j.src m
  match r.2 with
  | none => (r.1, false)
  | some l =>
    let f := r.1.dmaFree n j (l.flatMap (·.1))
    let w := f.1.dmaSink n j.dst f.2
    (if w.2 then w.1.wr (cd n) (R.DMA_DONE_BYTES.at c) m else w.1, w.2)
/-- Offsets of pieces that follow each other from `o` on. -/
def offsetsFrom (o : Nat) : List (List Byte × Bool) → List (Nat × List Byte × Bool)
  | [] => []
  | x :: l => (o, x) :: offsetsFrom (o + x.1.length) l
/-- The WRITEs of a copy to a reading room (R674, R193, R224). -/
def dmaMsgs (n : Nat) (j : DmaJob) (l : List (List Byte × Bool)) : List Msg :=
  let runs := joinRuns (offsetsFrom (j.dst % 2 ^ 23) l)
  (runs.zipIdx).map (fun r =>
    ⟨0x12, j.dst / 2 ^ 36, j.wing, cdNode n, 8,
      j.win * 2 ^ 28 + b2n (j.sig && r.2 + 1 == runs.length) * 2 ^ 19 + b2n r.1.2.2 * 2 ^ 18, r.1.1 / 4 % 2 ^ 21, r.1.2.1, 0⟩)
/-- Sends WRITEs of channel `c` in order, while its record holds their credits and they stay within `room` bytes. -/
def State.dmaSend (n c : Nat) : Nat → List Msg → State → State × List Msg
  | _, [], s => (s, [])
  | room, m :: l, s =>
    if room < m.data.length then (s, m :: l)
    else match s.trySend m with
      | some s' =>
        let f := R.DMA_DONE_BYTES.at c
        State.dmaSend n c (room - m.data.length) l (s'.wr (cd n) f (s'.rd (cd n) f + m.data.length))
      | none => (s, m :: l)
/-- The copy of channel `c` to a reading room goes on, up to `room` bytes more: what is left, or none where host memory
failed. -/
def State.dmaStackGo (s : State) (n c room : Nat) (j : DmaJob) : State × Option (List Msg) :=
  if j.todo = [] ∧ s.rd (cd n) (R.DMA_DONE_BYTES.at c) = 0 then
    let r := s.dmaSource n j.src j.len
    match r.2 with
    | none => (r.1, none)
    | some l => let y := State.dmaSend n c room (dmaMsgs n j l) r.1; (y.1, some y.2)
  else let y := State.dmaSend n c room j.todo s; (y.1, some y.2)
/-- Channel `c` moves what it can, at most `room` bytes, and ends with `err` or waits for credits. -/
def State.dmaMove (s : State) (n c room err : Nat) (j : DmaJob) : State :=
  if dmaStack j.dst then
    let r := s.dmaStackGo n c room j
    match r.2 with
    | none => r.1.dmaEnd n c 3
    | some l =>
      if l = [] ∨ err ≠ 0 then r.1.dmaEnd n c err
      else r.1.modCd n (fun x => { x with dma := Store.put none x.dma c (some { j with todo := l }) })
  else
    let r := s.dmaCopy n c (min room j.len) j
    r.1.dmaEnd n c (if r.2 then err else 3)
/-- The job of channel `c` that runs. -/
def State.dmaRun (s : State) (n c : Nat) : Option DmaJob := Store.get none (s.cdx n).dma c
/-- DMA_CTRL(c).ABORT on die `n` after `moved` bytes (R675). -/
def State.dmaAbort (s : State) (n c moved : Nat) : State :=
  match s.dmaRun n c with
  | some j => s.dmaMove n c moved 4 j
  | none => s
/-- One write of GO, ABORT or both to DMA_CTRL(c) of die `n` (R674, R675, R683). -/
def State.dmaCtrl (s : State) (n c : Nat) (go abort : Bool) (moved : Nat) : State :=
  if !(s.cdx n).mainUp then s
  else if abort then
    if s.flag (cd n) (R.DMA_STAT_BUSY.at c) then s.dmaAbort n c moved
    else if go && s.isActive n then s.dmaEnd n c 4
    else s
  else if go then s.dmaStart n c
  else s
/-- DMA_GO of channel `c` of die `n`; `abort` where the same write sets ABORT (R674, R683). -/
def execDmaGo (n : Fin 2) (c : Fin 8) (abort : Bool) (s : State) : Host.Outcome State Fault Refusal :=
  done (s.dmaCtrl n c true abort 0)
/-- DMA_ABORT of channel `c` of die `n`, with the bytes that had moved by then (R675). -/
def execDmaAbort (n : Fin 2) (c : Fin 8) (moved : Fin (2 ^ 27)) (s : State) : Host.Outcome State Fault Refusal :=
  done (s.dmaCtrl n c false true moved)
/-- DMA_COMPLETE of channel `c` of die `n`: its bytes move and its last write completes, unless host memory fails after
some bytes (R674, R675); a copy to a reading room sends what its credits allow. -/
def execDmaComplete (n : Fin 2) (c : Fin 8) (failAt : Option Nat) (s : State) : Host.Outcome State Fault Refusal :=
  done (match s.dmaRun n c with
  | some j => match failAt with
    | some m => s.dmaMove n c m 3 j
    | none => s.dmaMove n c (2 ^ 27) 0 j
  | none => s)

end Sys2Proof.Machine
end

