-- ==== Sys2Proof/Machine/Image.lean ====
section
/-! DEFINITION. Serial NOR and the flash access port (R70, R76), colophons (R71, R72), the shelf list (R73 to R75),
and the weight image: its format, its load, and a folio reload's reads (R84 to R88, R123). -/

namespace Sys2Proof.Machine

/-! ### Flash -/

/-- Key of byte `a` of flash device `cs`. The byte is kept inverted, so that erased flash lists nothing. -/
def flKey (cs a : Nat) : Nat := 2 ^ 80 + cs * 2 ^ 32 + a
/-- Reads flash. -/
def State.flGet (s : State) (cs a len : Nat) : List Byte := (s.ldn (flKey cs a) len).map (fun x => ~~~x)
/-- Programs flash: a bit can only go from 1 to 0. -/
def State.flProgram (s : State) (cs a : Nat) (l : List Byte) : State :=
  s.stn (flKey cs a) (((s.ldn (flKey cs a) l.length).zip l).map (fun p => p.1 ||| ~~~p.2))
/-- Flash device `cs` answers. -/
def State.flashUp (s : State) (n cs : Nat) : Bool :=
  if cs = 0 then (s.cdx n).flash0 else s.flag (cd n) R.BOOT_STAT_FLASH1_PRESENT
/-- Device and offset of copy B of an object at `alt` on the primary where there is no backup (R70). -/
def State.copyB (s : State) (n off alt : Nat) : Nat × Nat := if s.flashUp n 1 then (1, off) else (0, alt)
/-- A range touches a slot. -/
def touches (cs a len : Nat) (slot : Nat × Nat) (size : Nat) : Bool :=
  cs == slot.1 && decide (a < slot.2 + size ∧ slot.2 < a + len)
/-- The range touches the adopted shelf list, the running firmware or the fallback model in service (R76). -/
def State.flProtected (s : State) (n cs a len : Nat) : Bool :=
  let b := cd n
  let sl := s.rd b R.BOOT_STAT_SL_SEL
  let fw := s.rd b R.BOOT_STAT_FW_SEL
  (sl == 1 && touches cs a len (0, 0) 0x40000) || (sl == 2 && touches cs a len (s.copyB n 0 0x40000) 0x40000)
    || (fw == 1 && touches cs a len (0, 0x100000) 0x200000)
    || (fw == 2 && touches cs a len (s.copyB n 0x100000 0x300000) 0x200000)
    || (s.rd b R.BOOT_STAT_PHASE == 8 && touches cs a len ((s.cdx n).fbCs, 0x1000000) 0x4000000)

/-- A write of FL_CMD with OP `op` (R76, FL_CMD): 1 read, 2 program, 3 sector erase, 4 block erase. -/
def State.flCmd (s : State) (n op cs len : Nat) : State :=
  let b := cd n
  if s.flag b R.FL_CMD_BUSY then s
  else
    let s := ((s.wr b R.FL_CMD_CS cs).wr b R.FL_CMD_LEN len).wr b R.FL_CMD_ERR 0
    let a := s.rd b R.FL_ADDR_ADDR
    let size := if op = 3 then 0x1000 else if op = 4 then 0x10000 else len
    let at_ := if op = 3 ∨ op = 4 then a - a % size else a
    if !s.isActive n || !s.flashUp n cs then s.wr b R.FL_CMD_ERR 3
    else if op ≠ 1 ∧ s.flProtected n cs at_ size then s.wr b R.FL_CMD_ERR 1
    else if 256 < len ∧ op < 3 then s.wr b R.FL_CMD_ERR 2
    else (s.wr b R.FL_CMD_BUSY 1).modCd n (fun x => { x with flop := some (op, cs, at_, size) })
/-- The page bytes in FL_BUF. -/
def State.flBuf (s : State) (n len : Nat) : List Byte :=
  ((List.range 64).flatMap (fun k => toBytes 4 (s.rd (cd n) (R.FL_BUF_DATA.at k)))).take len
/-- Bytes into FL_BUF, from its first on. -/
def State.flBufPut (s : State) (n : Nat) (l : List Byte) : State :=
  let all := l ++ (s.flBuf n 256).drop l.length
  (List.range 64).foldl (fun s k => s.wr (cd n) (R.FL_BUF_DATA.at k) (fieldAt all (4 * k) 4)) s
/-- The flash operation of die `n` ends: it has its effect, or a device error. -/
def State.flDone (s : State) (n : Nat) (ok : Bool) : State :=
  match (s.cdx n).flop with
  | none => s
  | some (op, cs, a, len) =>
    let s := (s.wr (cd n) R.FL_CMD_BUSY 0).modCd n (fun x => { x with flop := none })
    if !ok then s.wr (cd n) R.FL_CMD_ERR 2
    else if op = 1 then s.flBufPut n (s.flGet cs a len)
    else if op = 2 then s.flProgram cs a (s.flBuf n len)
    else s.clearMem (flKey cs a) (flKey cs (a + len))

/-- FL_READ (R76). -/
def execFlRead (n cs : Fin 2) (len : Fin 512) (s : State) : Host.Outcome State Fault Refusal := done (s.flCmd n 1 cs len)
/-- FL_PROGRAM (R76). -/
def execFlProgram (n cs : Fin 2) (len : Fin 512) (s : State) : Host.Outcome State Fault Refusal :=
  done (s.flCmd n 2 cs len)
/-- FL_ERASE_SECTOR: 4 KiB (R76). -/
def execFlEraseSector (n cs : Fin 2) (len : Fin 512) (s : State) : Host.Outcome State Fault Refusal :=
  done (s.flCmd n 3 cs len)
/-- FL_ERASE_BLOCK: 64 KiB (R76). -/
def execFlEraseBlock (n cs : Fin 2) (len : Fin 512) (s : State) : Host.Outcome State Fault Refusal :=
  done (s.flCmd n 4 cs len)
/-- FLASH_OP_DONE (R76); `ok` is false for a device error. -/
def execFlashOpDone (n : Fin 2) (ok : Bool) (s : State) : Host.Outcome State Fault Refusal := done (s.flDone n ok)

/-! ### Colophons -/

def colVersion (c : List Byte) : Nat := fieldAt c 8 4
def colLength (c : List Byte) : Nat := fieldAt c 0xC 4
def colSlot (c : List Byte) : Nat := fieldAt c 0x10 4 % 32
def colDigest (c : List Byte) : List Byte := (c.drop 0x20).take 48

/-- A colophon is valid for TYPE `ty`, apart from DIGEST (R71, R72); `room` is the size of its slot or image. -/
def State.colOk (s : State) (n : Nat) (c : List Byte) (ty room : Nat) : Bool :=
  let f := fieldAt c 0x10 4
  let t := fieldAt c 0x14 4
  c.length == 256 && fieldAt c 0 4 == 0x4C4F4352 && fieldAt c 4 2 == ty && fieldAt c 6 2 == 0x100
    && decide (colLength c + 256 ≤ room) && bits f 31 9 == 0 && bits f 7 5 == 0 && bitOf f 8 == decide (3 ≤ ty)
    && bits t 31 16 == 0x8B07 && bits t 7 0 == 0
    && decide (bits t 15 8 ≤ 16 * s.rd (cd n) R.STEP_MAJOR + s.rd (cd n) R.STEP_MINOR)
    && zeroAt c 0x50 48 && s.signedOk n ((c.drop 0x80).take 64) (c.drop 0xC0) (c.take 0xC0)
/-- DIGEST matches a body. -/
def digestOk (c body : List Byte) : Bool := sha384 body == colDigest c
/-- The colophon and body of an object in flash, where its colophon is valid; the digest is checked by the caller. -/
def State.flObject (s : State) (n cs off ty room : Nat) : Option (List Byte × List Byte) :=
  let c := s.flGet cs off 256
  if s.flashUp n cs && s.colOk n c ty room then some (c, s.flGet cs (off + 256) (colLength c)) else none

/-! ### The shelf list -/

/-- Bytes a record's value must have (R74); none for a type the device does not know. -/
def shelfLen (ty : Nat) : Option Nat :=
  match ty with
  | 0x8001 => some 1 | 0x8002 => some 4 | 0x8003 => some 8 | 0x8004 => some 2 | 0x0005 => some 34 | 0x0006 => some 1
  | 0x0007 => some 2 | 0x0008 => some 6 | 0x0009 => some 20 | 0x000A => some 4 | _ => none
/-- The effect of a known record (R74). -/
def shelfRec (sh : Shelf) (ty : Nat) (v : List Byte) : Shelf :=
  match ty with
  | 0x8001 => { sh with retire := fieldAt v 0 1 % 4 }
  | 0x8002 => { sh with fwMin := fieldAt v 0 4 }
  | 0x8003 => { sh with wdtTrap := fieldAt v 0 1 == 1, wdtMs := fieldAt v 4 4 }
  | 0x8004 => { sh with ledgerMax := fieldAt v 0 2 }
  | 0x0005 => { sh with power := (List.range 17).map (fun k => fieldAt v (2 * k) 2) }
  | 0x0006 => { sh with target := fieldAt v 0 1 }
  | 0x0007 => { sh with hostWait := fieldAt v 0 2 }
  | 0x0008 => { sh with rails := sh.rails ++ [⟨fieldAt v 0 1 % 4, fieldAt v 1 1 % 128, fieldAt v 2 2, fieldAt v 4 2⟩] }
  | 0x0009 => { sh with listen := (List.range 20).map (fun k => fieldAt v k 1) }
  | 0x000A => { sh with scrub := fieldAt v 0 4 }
  | _ => sh
/-- The records of a shelf-list body (R73, R74); none for an invalid one. `seen` are the known types so far. -/
def shelfParse : Nat → List Byte → List Nat → Shelf → Option Shelf
  | 0, _, _, _ => none
  | k + 1, l, seen, sh =>
    let ty := fieldAt l 0 2
    let len := fieldAt l 2 2
    if l.length < 4 + len then none
    else if ty = 0 then if len = 0 ∧ zeroAt l 4 l.length then some sh else none
    else
      let rest := l.drop (4 + (len + 3) / 4 * 4)
      match shelfLen ty with
      | none => if bitOf ty 15 then none else shelfParse k rest seen sh
      | some need =>
        if len < need ∨ (ty ≠ 8 ∧ seen.contains ty) ∨ (ty = 8 ∧ sh.rails.length = 16) then none
        else shelfParse k rest (ty :: seen) (shelfRec sh ty ((l.drop 4).take len))

/-- A copy of the shelf list that die `n` finds valid: VERSION and records (R72, R74). -/
def State.shelfCopy (s : State) (n : Nat) (p : Nat × Nat) : Option (Nat × Shelf) :=
  match s.flObject n p.1 p.2 1 0x40000 with
  | some (c, body) =>
    if digestOk c body then (shelfParse body.length body [] {}).map (fun sh => (colVersion c, sh)) else none
  | none => none

/-- Die `n` adopts a shelf list (R69, R75). -/
def State.shelfAdopt (s : State) (n : Nat) : State :=
  let b := cd n
  let x := s.shelfCopy n (0, 0)
  let y := s.shelfCopy n (s.copyB n 0 0x40000)
  let sel := match x, y with
    | some u, some v => if u.1 < v.1 then 2 else 1
    | some _, none => 1
    | none, some _ => 2
    | none, none => 0
  let sh : Shelf := ((if sel = 1 then x else if sel = 2 then y else none).map (·.2)).getD {}
  let s := ((s.wrb b R.BOOT_STAT_SL_A_BAD x.isNone).wrb b R.BOOT_STAT_SL_B_BAD y.isNone).wr b R.BOOT_STAT_SL_SEL sel
  let s := (s.wr b R.SL_VER_A_VERSION ((x.map (·.1)).getD 0)).wr b R.SL_VER_B_VERSION ((y.map (·.1)).getD 0)
  let s := s.wrb b R.BOOT_STAT_RETIRE_IGN (sh.retire == 3)
  let s := if (s.cdx n).flash0 then s else s.wr b R.BOOT_STAT_ERR 1
  s.modCd n (fun c => { c with shelf := { sh with retire := if sh.retire = 3 then 0 else sh.retire } })

/-! ### The weight image -/

/-- Image data is read at an offset; none where the read fails. -/
abbrev ImgGet := Nat → Nat → Option (List Byte)
/-- The host image at a device address. -/
def State.hostImg (s : State) (n base : Nat) : ImgGet := fun o len => s.hostGet n (base + o) len
/-- The fallback model of flash device `cs`. -/
def State.flashImg (s : State) (cs : Nat) : ImgGet := fun o len => some (s.flGet cs (0x1000000 + o) len)

/-- Section entries: die, wing, folio, leaf, first row, rows, data offset (R84). -/
def imgSecs (table : List Byte) : List (List Nat) :=
  (chunksOf 16 (table.length / 16) table).map (fun e =>
    [fieldAt e 0 1, fieldAt e 1 1, fieldAt e 2 1, fieldAt e 3 1, fieldAt e 4 2, fieldAt e 6 2, fieldAt e 8 4])
/-- Element `k` of a section entry. -/
def secAt (e : List Nat) (k : Nat) : Nat := e.getD k 0
def secWing (e : List Nat) : Nat := wix (secAt e 0) (secAt e 1)
/-- Stored bytes of the data region of an image with `count` sections; its chunks; its plaintext bytes (R84). -/
def imgStored (c : List Byte) (count : Nat) : Nat := colLength c - (4 + 16 * count)
def imgChunks (c : List Byte) (count : Nat) : Nat := (imgStored c count + 65551) / 65552
def imgPlain (c : List Byte) (count : Nat) : Nat := imgStored c count - 16 * imgChunks c count
/-- A section names only what exists, and its data lies in the data region (R86). -/
def imgSecOk (plain : Nat) (e : List Nat) : Bool :=
  decide (secAt e 0 < 4 ∧ secAt e 1 < 8 ∧ secAt e 2 < 14 ∧ secAt e 3 < 8 ∧ secAt e 4 + secAt e 5 ≤ 1024
    ∧ (secAt e 5 = 0 ∨ secAt e 6 + 256 * secAt e 5 ≤ plain))
/-- The section covers a row of a leaf. -/
def secCovers (e : List Nat) (wing f leaf row : Nat) : Bool :=
  secWing e == wing && secAt e 2 == f && secAt e 3 == leaf && decide (secAt e 4 ≤ row ∧ row < secAt e 4 + secAt e 5)
/-- Offset in the image, and stored bytes, of chunk `k`. -/
def chunkAt (c : List Byte) (count k : Nat) : Nat × Nat :=
  (256 + 4 + 16 * count + 65552 * k, min 65552 (imgStored c count - 65552 * k))
/-- The plaintext of a chunk as stored (R84). -/
def chunkOpen (key c stored : List Byte) (k : Nat) : Option (List Byte) :=
  let m := stored.length - 16
  gcmOpen key ((c.drop 0x18).take 8 ++ toBytes 4 k) (c.take 0x20) (stored.take m) (stored.drop m)

/-- A piece of a row is written. -/
def State.putPiece (s : State) (d w p leaf row o : Nat) (data : List Byte) : State :=
  let old := s.ldn (cellAddr d w p leaf row) 256
  s.writeRow d w (rowNo p leaf row) (old.take o ++ data ++ old.drop (o + data.length))
/-- What a chunk's plaintext holds of row `i` of a section: first byte of the row, and bytes. -/
def rowPart (e : List Nat) (k i : Nat) (plain : List Byte) : Nat × List Byte :=
  let r := secAt e 6 + 256 * i
  let a := max r (65536 * k)
  let z := min (r + 256) (65536 * k + plain.length)
  if a < z then (a - r, (plain.drop (a - 65536 * k)).take (z - a)) else (0, [])
/-- The rows of section `j` that chunk `k` carries are written, but for those a later section names (R85); `pos` gives
the position that is written. A wing is not loaded from its first write. -/
def State.putSection (s : State) (n : Nat) (secs : List (List Nat)) (j k p : Nat) (load : Bool) (plain : List Byte) : State :=
  let e := secs.getD j []
  (List.range (secAt e 5)).foldl (fun s i =>
    let row := secAt e 4 + i
    let x := rowPart e k i plain
    if x.2 = [] ∨ (secs.drop (j + 1)).any (fun l => secCovers l (secWing e) (secAt e 2) (secAt e 3) row) then s
    else
      let s := if load then s.wrMir n R.WING_LOADED_LOADED (maskOff (s.rd (cd n) R.WING_LOADED_LOADED) (2 ^ secWing e)) else s
      s.putPiece (secAt e 0) (secAt e 1) p (secAt e 3) row x.1 x.2) s
/-- A chunk's rows of every section are written (R85). -/
def State.putChunk (s : State) (n : Nat) (secs : List (List Nat)) (k : Nat) (plain : List Byte) : State :=
  (List.range secs.length).foldl (fun s j =>
    let e := secs.getD j []
    s.putSection n secs j k (s.folioPos (secAt e 0) (secAt e 1) (secAt e 2)) true plain) s
/-- The rows of a leaf that no section covers are zero rows (R85). -/
def State.zeroRows (s : State) (secs : List (List Nat)) (d w f p leaf : Nat) : State :=
  (List.range 1024).foldl (fun s row =>
    if secs.any (fun e => secCovers e (wix d w) f leaf row) then s
    else s.writeRow d w (rowNo p leaf row) (List.replicate 256 0)) s
/-- The uncovered rows of every leaf an image writes. -/
def State.zeroLeaves (s : State) (secs : List (List Nat)) : State :=
  secs.foldl (fun s e => if secAt e 5 = 0 then s
    else s.zeroRows secs (secAt e 0) (secAt e 1) (secAt e 2) (s.folioPos (secAt e 0) (secAt e 1) (secAt e 2)) (secAt e 3)) s
/-- WING_LOADED bits of the wings an image writes. -/
def secMask (secs : List (List Nat)) : Nat := secs.foldl (fun m e => if secAt e 5 = 0 then m else m ||| 2 ^ secWing e) 0

/-! ### The load from host memory -/

/-- BOOT_STAT.PHASE of both dies that have booted. -/
def State.setPhase (s : State) (v : Nat) : State :=
  [0, 1].foldl (fun s n => if (s.cdx n).locked then s.wr (cd n) R.BOOT_STAT_PHASE v else s) s
/-- Step 13 is complete: every Stack die whose fixed entry is held is in service (R64, R86). -/
def State.stacksReady (s : State) (n : Nat) : Bool :=
  (s.cdx n).stackOn && (List.range 4).all (fun d => s.rd (cd n) (R.GNT_B_STATE.at (80 + d)) != 1 || s.inService n (2 + d))
/-- A load stops (R86, R87). -/
def State.wimgFail (s : State) (n err : Nat) : State :=
  let b := cd n
  let s := if s.rd b R.BOOT_STAT_PHASE = 6 then s.setPhase (if s.rd b R.PWR_STATE_CUR = 4 then 7 else 5) else s
  let s := (((s.wr b R.WIMG_STAT_STATE 4).wr b R.WIMG_STAT_ERR err).wr b R.WIMG_CTRL_START 0).modCd n (fun x => { x with
    wload := none, fb := false })
  s.sysEvent n R.SYS_CAUSE_WIMG_END
/-- The device enters SERVE (R64 step 15, R67). -/
def State.enterServe (s : State) : State :=
  [0, 1].foldl (fun s n =>
    let b := cd n
    let c := s.rd b R.PWR_STATE_CUR
    if c = 4 then s
    else
      let r := s.draw 32
      (((r.1.wr b R.PWR_STATE_PREV c).wr b R.PWR_STATE_CUR 4).wr b R.PWR_STATE_IN_TRANS 0).wr b R.T_SERVE_US r.2) s
/-- A load ends well: the wings are loaded and the image is recorded; `k` 0 host image, 1 fallback (R85, R88, R123). -/
def State.wimgGood (s : State) (n k : Nat) (c : List Byte) (secs : List (List Nat)) : State :=
  let b := cd n
  let m := secMask secs
  let s := s.zeroLeaves secs
  let s := s.wrMir n R.WING_LOADED_LOADED (s.rd b R.WING_LOADED_LOADED ||| m)
  let dies := if s.mirOn n then [0, 1] else [n]
  let s := dies.foldl (fun s j => s.modCd j (fun x => { x with
    img := Store.put ([], 0) x.img k (colDigest c, colSlot c),
    wingFb := if k = 1 then x.wingFb ||| m else maskOff x.wingFb m })) s
  let s := (((s.wr b R.WIMG_STAT_STATE 3).wr b R.WIMG_STAT_ERR 0).wr b R.WIMG_CTRL_START 0).modCd n (fun x => { x with
    wload := none, fb := false })
  ((s.setPhase (7 + k)).enterServe).sysEvent n R.SYS_CAUSE_WIMG_END

/-- The checks of R86 on an image read by `get`: the error code, and the colophon with its sections. -/
def State.imgCheck (s : State) (n ty len : Nat) (get : ImgGet) : Nat × List Byte × List (List Nat) :=
  match get 0 260 with
  | none => (6, [], [])
  | some h =>
    let c := h.take 256
    let count := fieldAt h 256 4
    if !s.colOk n c ty len || colLength c + 256 != len || colLength c < 4 + 16 * count then (1, c, [])
    else if imgStored c count % 65552 ≠ 0 ∧ imgStored c count % 65552 ≤ 16 then (1, c, [])
    else if !s.slotOk n (colSlot c) 0 then (2, c, [])
    else match get 260 (16 * count) with
    | none => (6, c, [])
    | some t =>
      let secs := imgSecs t
      if secs.all (imgSecOk (imgPlain c count)) then (0, c, secs) else (5, c, [])
/-- A section names a Stack die that is not in service (R96). -/
def State.secsAbsent (s : State) (n : Nat) (secs : List (List Nat)) : Bool :=
  secs.any (fun e => secAt e 5 != 0 && !s.inService n (2 + secAt e 0))
/-- The load begins, or is refused (R86). -/
def State.wimgBegin (s : State) (n : Nat) (hostErr : Bool) : State :=
  let b := cd n
  let base := s.rd b R.WIMG_BASE_HI_ADDR * 2 ^ 32 + s.rd b R.WIMG_BASE_LO_ADDR * 64
  let s := s.wr b R.WIMG_DONE_BYTES 0
  if hostErr then s.wimgFail n 6
  else
    let x := s.imgCheck n 4 (s.rd b R.WIMG_LEN_LEN) (s.hostImg n base)
    if x.1 ≠ 0 then s.wimgFail n x.1
    else
      let c := x.2.1
      let s := (s.slotCharge n (colSlot c)).wr b R.WIMG_STAT_KEY_SLOT (colSlot c)
      if s.secsAbsent n x.2.2 then s.wimgFail n 9
      else
        let head := 4 + 16 * x.2.2.length
        let s := ((s.wr b R.WIMG_STAT_STATE 2).wr b R.WIMG_DONE_BYTES (256 + head)).setPhase 6
        s.modCd n (fun y => { y with wload := some { base := base, slot := colSlot c, col := c, secs := x.2.2,
                                                     body := ((s.hostImg n base) 256 head).getD [] } })

/-- A write of WIMG_CTRL.START (R86, R91). -/
def State.wimgStart (s : State) (n : Nat) (hostErr : Bool) : State :=
  let b := cd n
  let x := s.cdx n
  if !s.isActive n || s.rd b R.PWR_STATE_CUR == 3 || !x.hostUp && s.rd b R.PWR_STATE_CUR != 4 then s
  else if x.wload.isSome || x.fb || s.rd b R.WIMG_STAT_STATE == 1 then s
  else
    let s := (((s.wr b R.WIMG_CTRL_START 1).wr b R.WIMG_STAT_STATE 1).wr b R.WIMG_STAT_ERR 0).modCd n (fun x => { x with
      hostWait := false })
    if s.stacksReady n then s.wimgBegin n hostErr else s
/-- WIMG_START (R86); `hostErr` where the reads of the colophon and section table fail. -/
def execWimgStart (n : Fin 2) (hostErr : Bool) (s : State) : Host.Outcome State Fault Refusal := done (s.wimgStart n hostErr)
/-- WIMG_LOAD_BEGIN: a held START begins at step 13 (R86). -/
def execWimgLoadBegin (n : Fin 2) (hostErr : Bool) (s : State) : Host.Outcome State Fault Refusal :=
  done (if s.rd (cd n) R.WIMG_STAT_STATE == 1 && s.stacksReady n then s.wimgBegin n hostErr else s)
/-- A write of WIMG_CTRL.ABORT: the load, or a held START, stops, and so do folio reloads that read (R87, R131). -/
def State.wimgAbort (s : State) (n : Nat) : State :=
  if !s.isActive n then s
  else
    let s := if (s.cdx n).wload.isSome || (s.cdx n).fb || s.rd (cd n) R.WIMG_STAT_STATE == 1 then s.wimgFail n 8 else s
    (List.range 32).foldl (fun s i =>
      if s.rd (wg (i / 8) (i % 8)) R.FOLIO_STAT_PHASE = 1 then s.reloadStop (i / 8) (i % 8) 8 else s) s
/-- WIMG_ABORT (R87). -/
def execWimgAbort (n : Fin 2) (s : State) : Host.Outcome State Fault Refusal := done (s.wimgAbort n)

/-- A chunk of the load of die `n` arrives (R84, R85, R87, R93). -/
def State.wimgChunk (s : State) (n : Nat) (l : WLoad) (hostErr : Bool) : State :=
  let a := chunkAt l.col l.secs.length l.chunk
  let key := s.slotKey n l.slot
  match (if hostErr then none else s.hostImg n l.base a.1 a.2) with
  | none => s.wimgFail n 6
  | some stored =>
    if key = [] then s.wimgFail n 7
    else match chunkOpen key l.col stored l.chunk with
    | none => s.wimgFail n 3
    | some plain =>
      let s := (s.putChunk n l.secs l.chunk plain).wr (cd n) R.WIMG_DONE_BYTES (a.1 + a.2)
      s.modCd n (fun x => { x with wload := some { l with body := l.body ++ stored, chunk := l.chunk + 1 } })
/-- WIMG_CHUNK_DONE (R84). -/
def execWimgChunkDone (n : Fin 2) (hostErr : Bool) (s : State) : Host.Outcome State Fault Refusal :=
  done (match (s.cdx n).wload with
  | none => s
  | some l => if l.chunk < imgChunks l.col l.secs.length then s.wimgChunk n l hostErr else s)
/-- WIMG_LOAD_END: every chunk has arrived and the digest decides (R85, R87). -/
def execWimgLoadEnd (n : Fin 2) (s : State) : Host.Outcome State Fault Refusal :=
  done (match (s.cdx n).wload with
  | none => s
  | some l =>
    if l.chunk < imgChunks l.col l.secs.length then s
    else if digestOk l.col l.body then s.wimgGood n 0 l.col l.secs else s.wimgFail n 4)

/-! ### The fallback model -/

/-- A fallback load starts (R88); it waits for step 13 as a held START does. -/
def State.fbStart (s : State) (n : Nat) : State :=
  let x := s.cdx n
  if !s.isActive n || !x.locked || x.wload.isSome || x.fb || s.rd (cd n) R.WIMG_STAT_STATE == 1
      || s.rd (cd n) R.PWR_STATE_CUR == 3 then s
  else
    let s := s.modCd n (fun x => { x with fb := true, hostWait := false })
    (if s.stacksReady n then s.setPhase 6 else s).wr (cd n) R.BOOT_CTRL_FALLBACK 1
/-- FALLBACK_REQUEST (R88). -/
def execFallbackRequest (n : Fin 2) (s : State) : Host.Outcome State Fault Refusal := done (s.fbStart n)
/-- HOST_WAIT_EXPIRY (R88). -/
def execHostWaitExpiry (n : Fin 2) (s : State) : Host.Outcome State Fault Refusal :=
  done (if (s.cdx n).hostWait then s.fbStart n else s)
/-- The plaintext chunks of an image, with their numbers, of those that `need` selects; 4 a failed read, 1 a tag. -/
def imgOpenAll (get : ImgGet) (key c : List Byte) (count : Nat) (need : Nat → Bool) : Nat → Nat × List (Nat × List Byte)
  | 0 => (0, [])
  | k + 1 =>
    let r := imgOpenAll get key c count need k
    if r.1 ≠ 0 ∨ !need k then r
    else
      let a := chunkAt c count k
      match get a.1 a.2 with
      | none => (4, [])
      | some st => match chunkOpen key c st k with
        | none => (1, [])
        | some pl => (0, r.2 ++ [(k, pl)])
/-- The fallback model of device `cs` is written (R88, R85). -/
def State.fbLoad (s : State) (n cs : Nat) : State :=
  let get := s.flashImg cs
  let len := colLength (s.flGet cs 0x1000000 256) + 256
  let x := s.imgCheck n 3 (min len 0x4000000) get
  if x.1 ≠ 0 then s.wimgFail n x.1
  else
    let c := x.2.1
    let s := (s.slotCharge n (colSlot c)).wr (cd n) R.WIMG_STAT_KEY_SLOT (colSlot c)
    if s.secsAbsent n x.2.2 then s.wimgFail n 9
    else
      let r := imgOpenAll get (s.slotKey n (colSlot c)) c x.2.2.length (fun _ => true) (imgChunks c x.2.2.length)
      let s := (r.2.foldl (fun s p => s.putChunk n x.2.2 p.1 p.2) s).wr (cd n) R.WIMG_DONE_BYTES len
      if r.1 ≠ 0 then s.wimgFail n 3
      else if !digestOk c ((get 256 (colLength c)).getD []) then s.wimgFail n 4
      else (s.modCd n (fun y => { y with fbCs := cs })).wimgGood n 1 c x.2.2
/-- FALLBACK_LOAD_DONE: the primary device's copy, or the backup's where its colophon is invalid (R88). -/
def execFallbackLoadDone (n : Fin 2) (s : State) : Host.Outcome State Fault Refusal :=
  done (if (s.cdx n).fb && s.stacksReady n then
    let s := s.wr (cd n) R.BOOT_CTRL_FALLBACK 0
    s.fbLoad n (if (s.flObject n 0 0x1000000 3 0x4000000).isNone && s.flashUp n 1 then 1 else 0)
  else s)

/-! ### Folio reload -/

/-- Chunk `k` holds a row of logical folio `f` of a wing. -/
def needChunk (secs : List (List Nat)) (wing f k : Nat) : Bool :=
  secs.any (fun e => secWing e == wing && secAt e 2 == f && decide (secAt e 6 < 65536 * (k + 1) ∧
    65536 * k < secAt e 6 + 256 * secAt e 5 ∧ secAt e 5 ≠ 0))
/-- The rows of folio `f` are written into position `q`, and its other rows zeroed (R123). -/
def State.reloadRows (s : State) (n d w f q : Nat) (secs : List (List Nat)) (chunks : List (Nat × List Byte)) : State :=
  let s := (List.range 8).foldl (fun s leaf => s.zeroRows secs d w f q leaf) s
  chunks.foldl (fun s p => (List.range secs.length).foldl (fun s j =>
    let e := secs.getD j []
    if secWing e == wix d w && secAt e 2 == f then s.putSection n secs j p.1 q false p.2 else s) s) s
/-- The reads of a folio reload (R123): 2 IMAGE, 3 the key slot, 4 a failed read, 1 a tag. -/
def State.reloadRead (s : State) (n d w f q k : Nat) (get : ImgGet) : State :=
  let rec_ := Store.get ([], 0) (s.cdx n).img k
  match get 0 260 with
  | none => s.reloadStop d w 4
  | some h =>
    let c := h.take 256
    let count := fieldAt h 256 4
    if colDigest c ≠ rec_.1 then s.reloadStop d w 2
    else if !s.slotOk n rec_.2 0 then s.reloadStop d w 3
    else match get 260 (16 * count) with
    | none => s.reloadStop d w 4
    | some t =>
      let secs := imgSecs t
      let r := imgOpenAll get (s.slotKey n rec_.2) c count (needChunk secs (wix d w) f) (imgChunks c count)
      if r.1 ≠ 0 then s.reloadStop d w r.1
      else (s.reloadRows n d w f q secs r.2).wr (wg d w) R.FOLIO_STAT_PHASE 2
/-- FOLIO_RELOAD_DONE: the image's reads end and the row sweep starts (R123, R124, R131). -/
def execFolioReloadDone (d : Fin 4) (w : Fin 8) (hostErr : Bool) (s : State) : Host.Outcome State Fault Refusal :=
  let b := wg d w
  let n := s.act
  let f := s.rd b R.FOLIO_STAT_FOLIO
  let q := s.rd b R.FOLIO_STAT_TARGET
  let base := s.rd (cd n) R.WIMG_BASE_HI_ADDR * 2 ^ 32 + s.rd (cd n) R.WIMG_BASE_LO_ADDR * 64
  done (if s.folioIdle d w || s.rd b R.FOLIO_STAT_PHASE != 1 then s
  else if bitOf (s.cdx n).wingFb (wix d w) then s.reloadRead n d w f q 1 (s.flashImg (s.cdx n).fbCs)
  else if hostErr then s.reloadStop d w 4
  else s.reloadRead n d w f q 0 (s.hostImg n base))

end Sys2Proof.Machine
end

