-- ==== Sys2Proof/Machine/Audio.lean ====
section
/-! DEFINITION. Listening (chapter 15): level codes, the pocket stack and the keyword network, beams, segments and the
capture ring, playback, and the hardware mute. The work of a frame is in Machine/Listen.lean. -/

namespace Sys2Proof.Machine

/-- Die `n`'s listening state. -/
def State.aud (s : State) (n : Nat) : Audio := (s.cdx n).aud
/-- Changes it. -/
def State.modAud (s : State) (n : Nat) (f : Audio → Audio) : State := s.modCd n (fun x => { x with aud := f x.aud })
/-- The stage of die `n`. -/
def State.lsStage (s : State) (n : Nat) : Nat := s.rd (cd n) R.LS_STAT_STAGE
def State.lsMuted (s : State) (n : Nat) : Bool := s.flag (cd n) R.LS_STAT_MUTED
/-- Stage 0 runs (R571). -/
def State.stage0On (s : State) (n : Nat) : Bool :=
  s.isActive n && [2, 3, 4].contains (s.rd (cd n) R.PWR_STATE_CUR) && s.flag (cd n) R.LS_CTRL_LISTEN_EN && !s.lsMuted n

/-! ### Levels -/

/-- 160 samples of 16 bits. -/
def frameOf (l : List Nat) : List Nat := (List.range 160).map (fun i => l.getD i 0 % 65536)
/-- The exact level code of `n` samples with the sum of squares `sq` (R570): the largest c up to 255 for which
20 log10 of the mean square over 2^30 is at least c - 255. -/
def levelExact (sq n : Nat) : Nat :=
  if sq = 0 then 0
  else (((List.range 255).map (· + 1)).filter (fun c => decide (2 ^ 600 * n ^ 20 ≤ sq ^ 20 * 10 ^ (255 - c)))).length
/-- The sum of squares of samples. -/
def sumSq (l : List Nat) : Nat := l.foldl (fun a x => a + (sext 16 x).natAbs ^ 2) 0
/-- The level code the device computes: within 1 of the exact one (R570). -/
def State.level (s : State) (l : List Nat) : State × Nat :=
  let r := s.draw 8
  (r.1, min 255 (levelExact (sumSq l) l.length + r.2 % 3 - 1))

/-! ### The pocket stack -/

/-- First byte of a row of a leaf of die `n`'s pocket stack, and its key among the rows (R577). -/
def pkRow (n leaf row : Nat) : Nat := 2 ^ 92 + n * 2 ^ 20 + (leaf * 1024 + row) * 256
def pkKey (n leaf row : Nat) : Nat := 2 ^ 22 + n * 2048 + leaf * 1024 + row
/-- A row is written with fresh check and tally columns (R578). -/
def State.pkWrite (s : State) (n leaf row : Nat) (data : List Byte) : State :=
  { s with flips := Store.put [] s.flips (pkKey n leaf row) [] }.stn (pkRow n leaf row) data
/-- Cells that have changed by themselves. -/
def State.pkUpsets (s : State) (n : Nat) (l : List (Nat × Nat × Nat)) : State :=
  l.foldl (fun s x => if x.1 < 2 ∧ x.2.1 < 1024 ∧ x.2.2 < 2368 then
    s.flipAt (pkKey n x.1 x.2.1) (pkRow n x.1 x.2.1) x.2.2 else s) s
/-- LS_STAT.POCKET_OK follows LOADED and BAD. -/
def State.pocketSync (s : State) (n : Nat) : State :=
  s.wrb (cd n) R.LS_STAT_POCKET_OK (s.flag (cd n) R.POCKET_STAT_LOADED && !s.flag (cd n) R.POCKET_STAT_BAD)

/-- The rows layer `l` drives: leaf, and (row, input) pairs (R580). -/
def State.netRows (s : State) (n l : Nat) (x : List Int) : Nat × List (Nat × Int) :=
  let b := cd n
  let k := 32 * s.rd b (R.NET_A_RG_COUNT.at l)
  let first := 32 * s.rd b (R.NET_A_RG_FIRST.at l)
  (s.rd b (R.NET_A_LEAF.at l), ((List.range k).map (fun i => (first + i, x.getD i 0))).filter (fun p => decide (p.1 < 1024)))
/-- The output of layer `l` (R580). -/
def State.netLayer (s : State) (n l : Nat) (x : List Int) : List Int :=
  let b := cd n
  let r := s.netRows n l x
  let prec := if s.flag b (R.NET_B_PREC.at l) then 8 else 4
  (List.range (min (s.rd b (R.NET_A_OUTS.at l)) (2048 / prec))).map (fun j =>
    let acc := clampS 32 (r.2.foldl (fun a p => a + p.2 * s.weight (pkRow n r.1 p.1) prec j) 0)
    let y := clampS 8 (rneShift acc (s.rd b (R.NET_B_SHIFT.at l)))
    if s.flag b (R.NET_B_RELU.at l) then max y 0 else y)
/-- The tally mismatches of layer `l`: over its row groups, eight planes and eight segments (R577, R112). -/
def State.netTally (s : State) (n l : Nat) (x : List Int) : Nat :=
  let r := s.netRows n l x
  let pts := (List.range 32).flatMap (fun g => (List.range 8).flatMap (fun p => (List.range 8).map (fun seg => (g, p, seg))))
  if r.2.all (fun p => s.rowFlips (pkKey n r.1 p.1) == []) then 0
  else (pts.filter (fun q =>
    (r.2.foldl (fun a p => if p.1 / 32 = q.1 ∧ p.2 / ((2 ^ q.2.1 : Nat) : Int) % 2 = 1 then
      a + s.syndAt (pkKey n r.1 p.1) (pkRow n r.1 p.1) q.2.2 else a) 0) % 256 != 0)).length
/-- The layers `ls` in order: output of the last valid layer, and tally mismatches (R580). -/
def State.netRun (s : State) (n : Nat) (feats : List Int) : List Nat → Option (List Int) → Nat → Option (List Int) × Nat
  | [], prev, bad => (prev, bad)
  | l :: ls, prev, bad =>
    if s.flag (cd n) (R.NET_A_VALID.at l) then
      let x := if s.flag (cd n) (R.NET_A_SRC.at l) then prev.getD [] else feats
      s.netRun n feats ls (some (s.netLayer n l x)) (bad + s.netTally n l x)
    else s.netRun n feats ls prev bad
/-- The features of a frame from its band levels (R579). -/
def State.featOf (s : State) (n : Nat) (bands : List Nat) : List Int :=
  (List.range 40).map (fun i =>
    max (-128) (min 127 (((bands.getD i 0 % 256 : Nat) : Int) - (s.rd (cd n) R.KW_CFG_FEAT_OFS : Int))))
/-- The input vector: the last FEAT_FRAMES frames, oldest first (R579). -/
def State.featVec (s : State) (n : Nat) : List Int :=
  let k := s.rd (cd n) R.KW_CFG_FEAT_FRAMES
  let l := (s.aud n).feats.take k
  (l ++ List.replicate (k - l.length) (List.replicate 40 0)).reverse.flatten

/-- An entry of the keyword FIFO (R581); false where the FIFO is full. -/
def State.kwPush (s : State) (n cls score frame : Nat) : State × Bool :=
  let b := cd n
  let e := cls * 2 ^ 24 + score * 2 ^ 16 + frame % 65536
  if !s.flag b R.KW_POP_VALID then
    ((((s.wr b R.KW_POP_VALID 1).wr b R.KW_POP_CLASS cls).wr b R.KW_POP_SCORE score).wr b R.KW_POP_FRAME frame, true)
  else if (s.aud n).fifo.length < 7 then (s.modAud n (fun x => { x with fifo := x.fifo ++ [e] }), true)
  else (s, false)
/-- A read of KW_POP removes the oldest detection (R13, R581). -/
def State.kwPop (s : State) (n : Nat) : State × Nat :=
  let b := cd n
  let v := s.rd b R.KW_POP_VALID * 2 ^ 31 + s.rd b R.KW_POP_CLASS * 2 ^ 24 + s.rd b R.KW_POP_SCORE * 2 ^ 16
    + s.rd b R.KW_POP_FRAME
  let put := fun (s : State) (ok e : Nat) => (((s.wr b R.KW_POP_VALID ok).wr b R.KW_POP_CLASS (bits e 28 24)).wr b
    R.KW_POP_SCORE (bits e 23 16)).wr b R.KW_POP_FRAME (bits e 15 0)
  match (s.aud n).fifo with
  | [] => (put s 0 0, v)
  | e :: rest => (put (s.modAud n (fun x => { x with fifo := rest })) 1 e, v)
/-- KW_POP_READ (R581). -/
def execKwPopRead (n : Fin 2) (s : State) : Host.Outcome State Fault Refusal :=
  let r := s.kwPop n
  done { r.1 with rsp := .ok r.2 }

/-- The class that is detected in this frame, with its score: the best of classes 1 to 31, at its threshold in each of
the last KW_N frames (R581). -/
def State.kwClass (s : State) (n : Nat) : Option (Nat × Int) :=
  let b := cd n
  let a := s.aud n
  let k := s.rd b R.KW_CFG_KW_N
  match a.scores with
  | [] => none
  | now :: _ =>
    let at_ := fun (l : List Int) c => l.getD c 0
    let best := (List.range 30).foldl (fun m i => if at_ now m < at_ now (i + 2) then i + 2 else m) 1
    let th := s.rd b (R.KW_TH_TH.at best)
    let run := a.scores.take k
    if k = 0 ∨ th = 0 ∨ a.refr ≠ 0 ∨ run.length < k ∨ !run.all (fun l => decide ((th : Int) ≤ at_ l best)) then none
    else some (best, at_ now best)

/-! ### Blocks and segments -/

/-- A block enters the island buffer; a full buffer drops its oldest (R588). -/
def State.pushBlock (s : State) (n : Nat) (data : List Byte) : State :=
  if (s.aud n).blocks.length < 256 then s.modAud n (fun x => { x with blocks := x.blocks ++ [data] })
  else
    ((s.modAud n (fun x => { x with blocks := x.blocks.drop 1 ++ [data], drop := true })).inc (cd n) R.CAP_CNT_DROPPED).raise
      (cd n) R.LS_CAUSE_CAP_DROP
/-- Block `idx` of the current segment, with its header (R587). -/
def State.blockOut (s : State) (n kw idx flags frame : Nat) (samples : List Nat) : State :=
  let r := s.level samples
  let b := cd n
  let s := r.1
  let head := toBytes 4 (s.rd b R.LS_STAT_SEG * 65536 + idx % 65536)
    ++ toBytes 4 (kw * 2 ^ 24 + s.rd b R.LS_STAT_BEAM * 65536 + flags) ++ toBytes 4 frame
    ++ toBytes 4 (r.2 * 65536 + samples.length) ++ List.replicate 48 0
  s.pushBlock n (head ++ (samples ++ List.replicate (480 - samples.length) 0).flatMap (toBytes 2))
/-- The captured beam at an opening: the highest sum of the last three levels (R585). -/
def State.loudest (s : State) (n : Nat) : Nat :=
  let sum := fun b => ((Store.get [] (s.aud n).lv b).take 3).foldl (· + ·) 0
  let on := (List.range 8).filter (fun b => bitOf (s.rd (cd n) R.BF_EN_EN) b)
  on.foldl (fun m b => if sum m < sum b then b else m) (on.headD 0)
/-- The pre-roll blocks of an opening segment: `k` of `total`, oldest first (R585). -/
def State.preroll (s : State) (n kw next total : Nat) (frames : List (List Nat)) : List Nat → State
  | [] => s
  | k :: ks =>
    let l := (frames.drop (3 * k)).take 3
    let flags := 4 + (if k = 0 then 1 else 0) + (if l.any (fun f => f.getD 160 0 != 0) then 32 else 0)
    (s.blockOut n kw k flags ((next + 2 ^ 32 - 3 * (total - k)) % 2 ^ 32) (l.flatMap (·.take 160))).preroll n kw next total frames ks
/-- A segment opens (R585). -/
def State.openSeg (s : State) (n kw : Nat) : State :=
  let b := cd n
  let next := s.rd b R.LS_FRAME_FRAME
  let np := (s.rd b R.LS_TIME1_PREROLL + 2) / 3
  let s := (((s.wr b R.LS_STAT_SEG (s.rd b R.LS_STAT_SEG + 1)).wr b R.LS_STAT_STAGE 2).wr b R.LS_STAT_SEG_OPEN 1).wr b
    R.LS_STAT_BEAM (s.loudest n)
  let s := (s.inc b R.CAP_CNT_SEGMENTS).raise b R.LS_CAUSE_SEG_START
  let l := (s.aud n).mix.take (3 * np)
  let frames := (l ++ List.replicate (3 * np - l.length) (List.replicate 161 0)).reverse
  let s := s.preroll n kw next np frames (List.range np)
  s.modAud n (fun x => { x with
    comp := [],
    seg := some { kw := kw, idx := np, yields := s.flag b R.LS_CTRL_CAPTURE, flags := if np = 0 then 1 else 0, frame0 := next } })
/-- The segment ends, with the flag that says why (R585): 0 silence, 0x40 MUTED, 0x80 TRUNC, 0x200 STOPPED. -/
def State.endSeg (s : State) (n flag : Nat) : State :=
  match (s.aud n).seg with
  | none => s
  | some g =>
    let s := s.blockOut n g.kw g.idx (g.flags ||| 2 ||| flag ||| (if g.olap then 8 else 0)) g.frame0 g.cur
    (((s.wr (cd n) R.LS_STAT_STAGE 1).wr (cd n) R.LS_STAT_SEG_OPEN 0).raise (cd n) R.LS_CAUSE_SEG_END).modAud n (fun x =>
      { x with seg := none, comp := [] })

/-! ### Stage changes -/

/-- The beams start without history (R584). -/
def State.beamsFresh (s : State) (n : Nat) : State :=
  (s.wr (cd n) R.LS_STAT_FLOOR_DEF 1).modAud n (fun x => { x with beamAge := 0, lv := [], nb := [], comp := [] })
/-- The stage returns to 0, and every sample, feature and block is cleared (R576); in LISTEN the island goes off. -/
def State.stageZero (s : State) (n : Nat) : State :=
  let s := (s.wr (cd n) R.LS_STAT_STAGE 0).wr (cd n) R.LS_STAT_SEG_OPEN 0
  let s := s.modAud n (fun x => { x with
    voice := 0, quiet := 0, skip := 2, hist := [], mix := [], feats := [], scores := [], seg := none, blocks := [],
    drop := false, due := false, comp := [] })
  if s.rd (cd n) R.PWR_STATE_CUR = 2 then s.beamsFresh n else s
/-- Stage 1 starts and the front end processes the history (R573, R574); `history` holds the band levels of its frames,
newest first. -/
def State.stageOne (s : State) (n : Nat) (history : List (List Nat)) : State :=
  let s := s.wr (cd n) R.LS_STAT_STAGE 1
  let s := if s.rd (cd n) R.PWR_STATE_CUR = 2 then s.beamsFresh n else s
  s.modAud n (fun x => { x with
    quiet := 0, skip := 2, due := false, scores := [],
    mix := x.hist.map (· ++ [0]),
    feats := (x.hist.zipIdx).map (fun p => s.featOf n (history.getD p.2 [])) })

/-- KW_HOLD_EXPIRY: KW_HOLD ms without a voice frame (R573). -/
def execKwHoldExpiry (n : Fin 2) (s : State) : Host.Outcome State Fault Refusal :=
  done (if s.lsStage n == 1 && decide (s.rd (cd n) R.LS_TIME0_KW_HOLD ≤ 10 * (s.aud n).quiet) then s.stageZero n else s)
/-- A write of 1 to LS_CTRL.FORCE2 (R573). -/
def State.force2 (s : State) (n : Nat) (history : List (List Nat)) : State :=
  if !s.stage0On n || s.lsStage n == 2 then s
  else (if s.lsStage n = 0 then s.stageOne n history else s).openSeg n 0
/-- FORCE2; `history` as in AudioIn. -/
def execForce2 (n : Fin 2) (history : List (List Nat)) (s : State) : Host.Outcome State Fault Refusal :=
  done (s.force2 n history)

/-! ### The capture ring -/

/-- CAPTURE_BLOCK_MOVE: the oldest block goes into the ring while EN is 1 and the ring has room (R588). -/
def execCaptureBlockMove (n : Fin 2) (s : State) : Host.Outcome State Fault Refusal :=
  let b := cd n
  let size := 2 ^ s.rd b R.CAP_CTRL_SIZE_LOG
  let p := s.rd b R.CAP_PROD_IDX
  done (match (s.aud n).blocks with
  | [] => s
  | x :: rest =>
    if s.flag b R.CAP_CTRL_EN && (s.cdx n).mainUp && decide (sub32 p (s.rd b R.CAP_CONS_IDX) < size) then
      let w1 := fieldAt x 4 4 ||| (if (s.aud n).drop then 16 else 0)
      let data := x.take 4 ++ toBytes 4 w1 ++ x.drop 8
      let s := (s.modAud n (fun a => { a with blocks := rest, drop := false })).comWrite n 5
        (s.rd b R.CAP_BASE_OFF * 1024 + 1024 * (p % size)) data
      let s := s.wr b R.CAP_PROD_IDX (p + 1)
      if s.flag b R.CAP_SEM_SEMEN then
        let s := s.semSignal (csem n (s.rd b R.CAP_SEM_BLOCK_SEM)) 1
        if bitOf w1 0 then s.semSignal (csem n (s.rd b R.CAP_SEM_SEG_SEM)) 1 else s
      else s
    else s)
/-- A write of CAP_CONS, which neither passes CAP_PROD nor moves back (R588). -/
def State.capCons (s : State) (n v : Nat) : State :=
  let c := s.rd (cd n) R.CAP_CONS_IDX
  if sub32 v c ≤ sub32 (s.rd (cd n) R.CAP_PROD_IDX) c then s.wr (cd n) R.CAP_CONS_IDX v else s
/-- CAP_CONS_WRITE (R588). -/
def execCapConsWrite (n : Fin 2) (v : Word) (s : State) : Host.Outcome State Fault Refusal := done (s.capCons n v.toNat)

/-! ### The pocket load -/

/-- A write of POCKET_LD_CMD with GO (R578). -/
def State.pocketLoad (s : State) (n leaf first count : Nat) : State :=
  let b := cd n
  let src := s.rd b R.POCKET_LD_SRC_OFF * 64
  if s.flag b R.POCKET_STAT_BUSY then s
  else
    let s := ((s.wr b R.POCKET_LD_CMD_LEAF leaf).wr b R.POCKET_LD_CMD_FIRST_ROW first).wr b R.POCKET_LD_CMD_COUNT count
    if 2 ^ 24 < src + 256 * count then s.wr b R.POCKET_STAT_ERR 1
    else if 1024 < first + count then s.wr b R.POCKET_STAT_ERR 2
    else if s.lsStage n = 1 then s.wr b R.POCKET_STAT_ERR 3
    else
      (((s.wr b R.POCKET_STAT_ERR 0).wr b R.POCKET_STAT_BUSY 1).wr b R.POCKET_LD_CMD_GO 1).modAud n (fun x =>
        { x with load := some (src, leaf, first, count) })
/-- POCKET_LOAD (R578). -/
def execPocketLoad (n leaf : Fin 2) (first : Fin 1024) (count : Fin 2048) (s : State) : Host.Outcome State Fault Refusal :=
  done (s.pocketLoad n leaf first count)
/-- The rows of a pocket load, from Commons. -/
def State.pocketRows (s : State) (n src leaf row : Nat) : Nat → State
  | 0 => s
  | k + 1 =>
    let r := s.comRead n 5 src 256
    (r.1.pkWrite n leaf row r.2.1).pocketRows n (src + 256) leaf (row + 1) k
/-- POCKET_LOAD_DONE (R578); a stage-1 start that waits for it follows, with `history` as in AudioIn (R600). -/
def execPocketLoadDone (n : Fin 2) (history : List (List Nat)) (s : State) : Host.Outcome State Fault Refusal :=
  let b := cd n
  done (match (s.aud n).load with
  | none => s
  | some (src, leaf, first, count) =>
    let s := (s.pocketRows n src leaf first count).modAud n (fun x => { x with load := none, scores := [], woke := false })
    let s := ((((s.wr b R.POCKET_STAT_BUSY 0).wr b R.POCKET_LD_CMD_GO 0).wr b R.POCKET_STAT_LOADED 1).wr b
      R.POCKET_STAT_BAD 0).pocketSync n
    if (s.aud n).due && s.stage0On n && s.lsStage n == 0 then s.stageOne n history
    else s.modAud n (fun x => { x with due := false }))

/-! ### Playback -/

/-- The bit clock of a playback format in Hz (R590). -/
def bclk (rate fmt width : Nat) : Nat :=
  (if rate = 0 then 16000 else if rate = 1 then 24000 else 48000) * 2 ^ (fmt + 1) * (16 * (width + 1))
/-- A write of PB_CTRL: a format beyond 12.288 MHz, or one with a reserved code, is refused (R590). -/
def State.pbCtrl (s : State) (n v : Nat) : State :=
  let b := cd n
  let rate := bits v 3 2
  let fmt := bits v 5 4
  let log := bits v 12 8
  let bad := rate == 3 || fmt == 3 || decide (12288000 < bclk rate fmt (bits v 6 6)) || decide (log < 10 ∨ 20 < log)
  let s := (((s.wr b R.PB_CTRL_SLOT_MASK (bits v 23 16)).wr b R.PB_CTRL_PB_SIZE_LOG log).wr b R.PB_CTRL_PB_SEMEN
    (bits v 7 7)).wr b R.PB_CTRL_WIDTH (bits v 6 6)
  let s := (s.wr b R.PB_CTRL_FMT fmt).wr b R.PB_CTRL_RATE rate
  if bitOf v 0 && bad then (s.wr b R.PB_CTRL_EN 0).wr b R.PB_CTRL_ERR 1
  else (s.wr b R.PB_CTRL_EN (bits v 0 0)).wr b R.PB_CTRL_ERR 0
/-- PB_CTRL_WRITE (R590). -/
def execPbCtrlWrite (n : Fin 2) (v : Word) (s : State) : Host.Outcome State Fault Refusal := done (s.pbCtrl n v.toNat)
/-- A write of PB_PROD (R591). -/
def State.pbProd (s : State) (n v : Nat) : State :=
  let b := cd n
  if sub32 v (s.rd b R.PB_CONS_IDX) ≤ 2 ^ s.rd b R.PB_CTRL_PB_SIZE_LOG then s.wr b R.PB_PROD_IDX v else s
/-- PB_PROD_WRITE (R591). -/
def execPbProdWrite (n : Fin 2) (v : Word) (s : State) : Host.Outcome State Fault Refusal := done (s.pbProd n v.toNat)
/-- PB_SAMPLE_CONSUME: one frame of the output (R590, R591). -/
def execPbSampleConsume (n : Fin 2) (s : State) : Host.Outcome State Fault Refusal :=
  let b := cd n
  let c := s.rd b R.PB_CONS_IDX
  let size := 2 ^ s.rd b R.PB_CTRL_PB_SIZE_LOG
  done (if !s.flag b R.PB_CTRL_EN || !s.isActive n || !(s.cdx n).mainUp then s
  else if s.rd b R.PB_PROD_IDX = c then (s.inc b R.PB_CNT_UNDERRUN).raise b R.LS_CAUSE_PB_UNDERRUN
  else
    let s := (s.comRead n 5 ((s.rd b R.PB_BASE_OFF * 4096 + 2 * (c % size)) % 2 ^ 24) 2).1
    let s := s.wr b R.PB_CONS_IDX (c + 1)
    if (c + 1) % 512 = 0 ∧ s.flag b R.PB_CTRL_PB_SEMEN then s.semSignal (csem n (s.rd b R.PB_BASE_PB_SEM)) 1 else s)

/-! ### The hardware mute -/

/-- Both dies with VAON take the mute, or leave it. -/
def State.muteDies (s : State) (on : Bool) (f : State → Nat → State) : State :=
  if s.pins.vaon then [0, 1].foldl (fun s n =>
    f ((s.wrb (cd n) R.LS_STAT_MUTED on).raise (cd n) R.LS_CAUSE_MUTE_CHANGE) n) s
  else s
/-- MUTE_N goes low (R593, R512); in the release window it only starts the window again (R604). -/
def execMuteNLow (s : State) : Host.Outcome State Fault Refusal :=
  let was := s.pins.muted
  let s := { s with pins := { s.pins with muteN := true, muted := true } }
  let s := if (s.ldx 0).inReset then s else (s.wr (ld 0) R.LD_STAT_MUTE 1).wr (ld 0) R.LD_STAT_MICPWR_ON 0
  done (if was then s
  else s.muteDies true (fun s n => ((s.endSeg n 0x40).stageZero n).modAud n (fun x => { x with settle := 0 })))
/-- MUTE_N goes high: the release window starts (R594). LD_STAT.MUTE follows the pin (R512). -/
def execMuteNRise (s : State) : Host.Outcome State Fault Refusal :=
  let s := { s with pins := { s.pins with muteN := false } }
  done (if (s.ldx 0).inReset then s else s.wr (ld 0) R.LD_STAT_MUTE 0)
/-- MUTE_RELEASE: MUTE_N has been high for 50 ms (R594). -/
def execMuteRelease (s : State) : Host.Outcome State Fault Refusal :=
  if s.pins.muteN || !s.pins.muted then done s
  else
    let s := { s with pins := { s.pins with muted := false } }
    let s := if (s.ldx 0).inReset then s else s.wr (ld 0) R.LD_STAT_MICPWR_ON (s.rd (ld 0) R.MICPWR_CTRL_EN)
    done (s.muteDies false (fun s n => ((s.wr (cd n) R.LS_STAT_SETTLE 1).beamsFresh n).modAud n (fun x =>
      { x with settle := 2, skip := 2 })))

end Sys2Proof.Machine
end

