-- ==== Sys2Proof/Machine/Reset.lean ====
section
/-! DEFINITION. What power takes away and brings back: the main islands and boot domain of a Control die, a Stack die with
and without retention, the mirror's copy from one Control die to the other (R58, R82, R89, R432, R442). -/

namespace Sys2Proof.Machine

/-- Registers of Control die `n` in `l` take the values of the other die's. -/
def State.copyRegs (s : State) (n m : Nat) (l : List (Nat × Nat)) : State :=
  l.foldl (fun s r => { s with fld := Store.copyTo s.fld ((cd n + r.1) * 32) ((cd n + r.2) * 32) ((cd m + r.1) * 32) }) s
/-- Registers of die `n` in `l` go back to their reset values. -/
def State.dropRegs (s : State) (n : Nat) (l : List (Nat × Nat)) : State :=
  l.foldl (fun s r => s.clearRegs (cd n + r.1) (cd n + r.2)) s

/-! ### The mirror -/

/-- A request without its semaphore and its waiting instruction, which a successor does not have (R392). -/
def LgReq.quiet (q : LgReq) : LgReq := { q with waiter := none, csem := none }
/-- A ledger entry as the mirror holds it. -/
def LgX.quiet (x : LgX) : LgX :=
  { x with req := x.req.map LgReq.quiet, heldRel := x.heldRel.map LgReq.quiet, cmds := x.cmds.map (fun c => { c with req := c.req.quiet }) }
/-- Die `n`'s grants, claims and deferred requests as its partner's mirror holds them (R430). -/
def State.handLedger (s : State) (n : Nat) : State :=
  let x := s.cdx n
  (s.copyRegs n (1 - n) [(0x7034, 0x7038), (0x7200, 0x7500)]).modCd (1 - n) (fun y => { y with
    lg := x.lg.map (fun e => (e.1, LgX.quiet e.2)), lvl := x.lvl, lgSeq := x.lgSeq })
/-- The ledger, and the records whose write is not confirmed, pass to the partner's mirror while it is valid (R421,
R430). -/
def State.handMirror (s : State) (n : Nat) : State :=
  if s.isActive n && s.mirOn n then
    let recs := (s.cdx n).mirQ.filter (fun a => match a with | .record _ _ => true | _ => false)
    (s.handLedger n).modCd (1 - n) (fun y => { y with mirQ := y.mirQ ++ recs })
  else s
/-- The mirror stops (R416): VALID reads 0, and nothing waits for an acknowledgement. -/
def State.mirStop (s : State) : State :=
  let s := [0, 1].foldl (fun s n => (s.wr (cd n) R.MIRROR_STAT_VALID 0).modCd n (fun x => { x with copying := false })) s
  match s.active with
  | some n => s.mirFlush n
  | none => s
/-- A full copy of the mirrored state from die `n` to its partner (R430, R432), with the fuses of R618. -/
def State.fullCopy (s : State) (n : Nat) : State :=
  let m := 1 - n
  let x := s.cdx n
  let s := s.copyRegs n m [(0x20, 0x40), (0x180, 0x1A0), (0x1004, 0x100C), (0x4020, 0x402C), (0x4038, 0x403C),
    (0x5100, 0x5180), (0x10000, 0x10004), (0x10180, 0x10184), (0x10190, 0x10194), (0x10400, 0x10800)]
  let s := (s.wr (cd m) R.SEC_STAT_ACC_CTR (max (s.rd (cd n) R.SEC_STAT_ACC_CTR) (s.rd (cd m) R.SEC_STAT_ACC_CTR))).wr (cd m)
    R.SEC_STAT_VGEN (max (s.rd (cd n) R.SEC_STAT_VGEN) (s.rd (cd m) R.SEC_STAT_VGEN))
  let s := (s.wr (cd m) R.SEC_STAT_LC (max (s.rd (cd n) R.SEC_STAT_LC) (s.rd (cd m) R.SEC_STAT_LC))).secSync m
  let sram := fun (k : Nat) => (k + 1) * 2 ^ 36 + 2 ^ 32
  let s := { s with mem := Store.copyTo s.mem (sram n) (sram n + 2 ^ 32) (sram m) }
  (s.handLedger n).modCd m (fun y => { y with
    keys := x.keys, vault := (x.vault.foldl (fun v e => Store.put {} v e.1 { e.2 with
      vgen := if e.2.vgen = s.rd (cd n) R.SEC_STAT_VGEN then s.rd (cd m) R.SEC_STAT_VGEN else e.2.vgen,
      wear := (Store.get {} y.vault e.1).wear + 1 }) []),
    parks := x.parks, img := x.img, wingFb := x.wingFb, fbCs := x.fbCs, mirRuns := x.runs })

/-! ### Control dies -/

/-- The links of Control die `n`. -/
def cdLinks (n : Nat) : List Nat := [4 + 4 * n, 5 + 4 * n, 6 + 4 * n, 7 + 4 * n, 12]
/-- An end of link `l` loses power: the link is down, and what was to be sent waits (R219, R220). DOZE keeps the lanes in
use, and that a link had failed. -/
def State.linkDrop (s : State) (l : Nat) (doze : Bool) : State :=
  let s := if s.linkUp l then s.linkCause l R.LNK_CAUSE_LINK_DOWN else s
  let s := (linkEnds l).foldl (fun s k => ((s.setLinkBit (fUp k) k false).wr (fTrain k).1 (fTrain k).2
    (if doze ∧ s.rd (fTrain k).1 (fTrain k).2 = 3 then 3 else 0)).modLink k
    (fun p => { q := p.unacked.map (·.2.1) ++ p.q })) s
  let s := if doze then s
    else ((linkEnds l).foldl (fun s k => (s.setLinkBit (fSpare k) k false).wr (fLane k).1 (fLane k).2 0xF) s).setBoth
      (linkSpareFld l) false
  s.setBoth (linkUpFld l) false

/-- Register ranges of the main islands but for the ledger's table and the watchdog's kept fields. -/
def mainRanges : List (Nat × Nat) :=
  [(0x18, 0x40), (0x60, 0x180), (0x200, 0x320), (0x340, 0x380), (0x1000, 0x1030), (0x2000, 0x2008), (0x7000, 0x7034),
   (0x7040, 0x7200), (0x8000, 0x8034), (0x10000, 0x10800), (0x50000, 0x50200), (0x60000, 0x60018), (0x70000, 0x70004)]
/-- Die `n`'s agents, semaphores, memories and messages are gone; `bank7` tells whether Commons bank 7 goes too (R442,
R454). -/
def State.mainMem (s : State) (n : Nat) (bank7 : Bool) : State :=
  let base := (n + 1) * 2 ^ 36
  let s := (s.clearMem base (base + (if bank7 then 2 ^ 32 else 0xE00000))).clearMem (base + 2 ^ 32) (base + 3 * 2 ^ 32)
  let s := { s with comErr := Store.clear s.comErr (comWord n 0) (comWord n (if bank7 then 2 ^ 21 else 0x1C0000)) }
  let lo := csem n 0
  { s with
    agents := Store.clear s.agents (8 * n) (8 * n + 8), sems := Store.clear s.sems lo (lo + 8192),
    waitq := s.waitq.filter (fun w => !(decide (lo ≤ w.1) && decide (w.1 < lo + 8192))),
    inbox := s.inbox.filter (fun m => m.dn != cdNode n), ports := Store.clear s.ports (cdPort n 0) (cdPort n 5),
    creds := Store.clear s.creds (ckey (cdNode n) 0 0 0 0) (ckey (cdNode n + 1) 0 0 0 0) }
/-- Die `n`'s record without the state of its main islands. -/
def State.mainRec (s : State) (n : Nat) (sleep : Bool) : State :=
  s.modCd n (fun x => { ({} : CdX) with
    keys := x.keys, vault := x.vault, parks := x.parks, attempt := x.attempt, dbgOpened := x.dbgOpened,
    trngTries := x.trngTries, lcWait := x.lcWait, pwren := x.pwren, bootUp := x.bootUp, bootClk := x.bootClk,
    flash0 := x.flash0, shelf := x.shelf, fbCs := x.fbCs, wingFb := x.wingFb, img := x.img, factory := x.factory,
    restarted := x.restarted, yieldOut := x.yieldOut, flop := x.flop, wakeEn := x.wakeEn, alarm := x.alarm,
    held := x.held, hot := x.hot, sleepSeized := x.sleepSeized, sleepUnconf := x.sleepUnconf, aud := x.aud,
    mirQ := if s.isActive n then [] else x.mirQ, mirRuns := if s.isActive n then [] else x.mirRuns,
    lg := if sleep then x.lg else [], lvl := if sleep then x.lvl else [], lgSeq := if sleep then x.lgSeq else 0 })
/-- Die `n` does not hold the active role. -/
def State.dropRole (s : State) (n : Nat) : State := (s.wr (cd n) R.PAIR_STAT_ROLE 0).wr (cd n) R.BOOT_STAT_ROLE 0
/-- The main islands of die `n` lose power or are held in reset: by a sleep, which keeps the role and the ledger's table
(R59), or by a seizure or restart, which keeps Commons bank 7 and what the watchdog recorded (R437, R442). The partner's
mirror stands until the partner has taken over. -/
def State.mainDown (s : State) (n : Nat) (sleep : Bool) : State :=
  let b := cd n
  let s := if sleep then s else s.handMirror n
  let s := if s.mirOn n ∧ !s.isActive n then s.mirStop else s
  let s := ((cdLinks n).foldl (fun s l => s.linkDrop l false) s).dropRegs n mainRanges
  let s := if sleep then s.dropRegs n [(0x2008, 0x2014)]
    else ((((s.wr b R.WDT_STAT_RUNNING 0).wr b R.WDT_STAT_FROZEN 0).wr b R.WDT_STAT_TRAPPING 0).wr b R.WDT_STAT_LEFT 0).dropRegs
      n [(0x7034, 0x7038), (0x7200, 0x7500)]
  let s := (((s.wr b R.CLEAR_STAT_SEQMEM 0).wr b R.CLEAR_STAT_CATALOGUE 0).wr b R.CLEAR_STAT_COMMONS 0)
  let s := (((s.lbusShow n 0 false).lbusShow n 1 false).mainMem n sleep).mainRec n sleep
  if sleep then s else s.dropRole n

/-- The boot domain of die `n` loses power: its registers but for the fuses, the slots and the boot's findings (R64,
R610, R626). -/
def State.bootDown (s : State) (n : Nat) : State :=
  let b := cd n
  let loaded := s.rd b R.WING_LOADED_LOADED
  let fuse := (s.rd b R.SEC_STAT_LC, s.rd b R.SEC_STAT_PUBHASH_SET, s.rd b R.SEC_STAT_VGEN, s.rd b R.SEC_STAT_ACC_CTR)
  let no := s.bootNo n
  let wear := s.rd b R.VAULT_STAT_WEAR
  let s := s.dropRegs n [(0x180, 0x1A0), (0x4000, 0x4200), (0x5000, 0x5080), (0x5100, 0x5400)]
  let s := (((s.wr b R.SEC_STAT_LC fuse.1).wr b R.SEC_STAT_PUBHASH_SET fuse.2.1).wr b R.SEC_STAT_VGEN fuse.2.2.1).wr b
    R.SEC_STAT_ACC_CTR fuse.2.2.2
  let s := ((((s.wr b R.SEC_BOOTNO_BOOTNO no).wr b R.VAULT_STAT_WEAR wear).wr b R.WING_LOADED_LOADED loaded).wr b
    R.BOOT_STAT_DIE n).wrb b R.SEC_STAT_TAMPER_IN s.pins.tamperN
  (s.modCd n (fun x => { x with
    keys := [], parks := [], attempt := 0, dbgOpened := false, trngTries := 0, lcWait := [], bootUp := false,
    bootClk := false, flash0 := false, yielded := false, flop := none, locked := false })).secSync n

/-! ### Stack dies -/

/-- The registers of a wing of Stack die `d` go back to reset, but for what DOZE retains: the folio map and states, the
precisions (R62, R126). -/
def State.wingDown (s : State) (d w : Nat) (doze : Bool) : State :=
  let b := wg d w
  let s := if doze then ((s.clearRegs (b + 0x10) (b + 0x40)).clearRegs (b + 0x80) (b + 0x800)) else s.clearRegs b (b + 0x800)
  s.modWing (wix d w) (fun x =>
    if doze then { awaits := x.awaits, former := x.former, halted := x.halted } else {})
/-- Stack die `d` loses power, or all but the retention supply of its stacks (R58, R82). -/
def State.sdDown (s : State) (d : Nat) (doze : Bool) : State :=
  let b := sd d
  let a := sdNode d * 2 ^ 36
  let degr := s.rd b R.DEGRADED_WING
  let lanes := (List.range 4).map (fun p => (s.rd b (R.LNK_STAT_SPARE.at p), s.rd b (R.LNK_STAT_LANE.at p), s.rd b (R.LNK_STAT_TRAIN.at p)))
  let s := (s.clearRegs (b + 0x100) (b + 0x800)).wr b R.DEGRADED_WING (if doze then degr else 0)
  let s := if doze then lanes.zipIdx.foldl (fun s x => ((s.wr b (R.LNK_STAT_SPARE.at x.2) x.1.1).wr b (R.LNK_STAT_LANE.at x.2)
      x.1.2.1).wr b (R.LNK_STAT_TRAIN.at x.2) x.1.2.2) s
    else s
  let s := (List.range 8).foldl (fun s w => s.wingDown d w doze) s
  let s := s.clearMem a (a + (if doze then 2 ^ 32 else 2 ^ 33))
  let s := if doze then s
    else { s.clearMem (wpsKey d 0 0) (wpsKey (d + 1) 0 0) with flips := Store.clear s.flips (rowKey d 0 0) (rowKey (d + 1) 0 0) }
  let k := wcix d 0
  let s := { s with
    agents := Store.clear s.agents k (k + 8), sems := Store.clear s.sems (wsem d 0 0) (wsem (d + 1) 0 0),
    waitq := s.waitq.filter (fun x => !(decide (wsem d 0 0 ≤ x.1) && decide (x.1 < wsem (d + 1) 0 0))),
    inbox := s.inbox.filter (fun m => m.dn != sdNode d), ports := Store.clear s.ports (sdPort d 0) (sdPort (d + 1) 0),
    creds := Store.clear s.creds (ckey (sdNode d) 0 0 0 0) (ckey (sdNode d + 1) 0 0 0 0) }
  let s := { s with
    poison := Store.clear s.poison (rrLine d 0 0) (rrLine (d + 1) 0 0), parity := Store.clear s.parity (rrLine d 0 0) (rrLine (d + 1) 0 0),
    acc := Store.clear s.acc (accKey d 0 0 0 0) (accKey (d + 1) 0 0 0 0),
    shScale := Store.clear s.shScale (wix d 0 * 60) (wix (d + 1) 0 * 60) }
  s.modSd d (fun _ => {})
/-- The links of Stack die `d`. -/
def sdLinks (d : Nat) : List Nat := [d, (d + 3) % 4, 4 + d, 8 + d]
/-- Stack die `d` goes off, or to DOZE, with its links. -/
def State.sdOff (s : State) (d : Nat) (doze : Bool) : State :=
  ((sdLinks d).foldl (fun s l => s.linkDrop l doze) s).sdDown d doze

end Sys2Proof.Machine
end

