-- ==== Sys2Proof/Machine/Boot.lean ====
section
/-! DEFINITION. From battery to step 13 (R64): power to the islands, the boot domain, the shelf list, the claim of the
active role, the main islands, the rails of the Stack dies, their links and the sweep of their reading rooms. -/

namespace Sys2Proof.Machine

/-! ### Steps 1 to 6 -/

/-- Fields of CLK_SRC: the crystal, and LPCLK_IN, of die `n`. -/
def clkXt (n : Nat) : Fld := if n = 0 then R.CLK_SRC_CD0_XT else R.CLK_SRC_CD1_XT
def clkLp (n : Nat) : Fld := if n = 0 then R.CLK_SRC_CD0_LP else R.CLK_SRC_CD1_LP
/-- Both dies' CLK_SRC show a clock. -/
def State.clkShow (s : State) (f : Fld) (on : Bool) : State := (s.wrb (cd 0) f on).wrb (cd 1) f on
/-- Step 4 for die `n`: its boot domain is powered. -/
def State.bootOn (s : State) (n : Nat) : State :=
  (s.wr (cd n) R.BOOT_STAT_PHASE 0).modCd n (fun x => { x with pwren := true, bootUp := true })
/-- TAMPER_N is found low (R619). -/
def State.tamperAtPower (s : State) : State :=
  if s.pins.tamperN then
    let s := [0, 1].foldl (fun s n => (s.wr (cd n) R.SEC_STAT_TAMPER_IN 1).raise (cd n) R.SEC_CAUSE_TAMPER) s
    [0, 1].foldl (fun s n => s.modCd n (fun x => { x with pwren := true })) s.zeroise
  else s
/-- The always-on island of die `n` starts (R64 step 4, R732). -/
def State.islandOn (s : State) (n : Nat) (testmode lpclk : Bool) : State :=
  let b := cd n
  let s := ((s.wrb b R.PAD_STAT_TESTMODE testmode).wrb b R.PAD_STAT_LPCLK lpclk).clkShow (clkLp n) lpclk
  let s := ((s.wr b R.PWR_STATE_LAST_WAKE 0).wr b R.PWR_STATE_IN_TRANS 1).wrb b R.LS_STAT_MUTED s.pins.muted
  if testmode ∧ s.rd b R.SEC_STAT_LC < 2 then s.modCd n (fun x => { x with factory := true }) else s.bootOn n
/-- VBAT_RISE through 9.0 V with no VAON before it (R64 steps 1 to 4); `testmode` is TESTMODE when VAON rises, `lpclk`
tells whether LPCLK_IN is present. -/
def execVbatRise (testmode lpclk : Bool) (s : State) : Host.Outcome State Fault Refusal :=
  if s.pins.vbat then done s
  else
    let s := { s with pins := { s.pins with vbat := true, vaon := true } }
    let s := [0, 1].foldl (fun s d => if (s.ldx d).inReset then s.ldRelease d else s) s
    done (((s.islandOn 0 testmode lpclk).islandOn 1 testmode lpclk).tamperAtPower)

/-- Everything volatile of die `n` is gone; the fuses, the vault, BOOTNO and the pins' numbers stay. -/
def State.cdOff (s : State) (n : Nat) : State :=
  let s := (((s.mainDown n true).bootDown n).dropRegs n [(0, 0x4000), (0x4200, 0x5000), (0x5400, 0x80000)]).wr (cd n)
    R.WING_LOADED_LOADED 0
  let s := { s.clearMem (pkRow n 0 0) (pkRow n 2 0) with flips := Store.clear s.flips (pkKey n 0 0) (pkKey n 2 0) }
  (s.wr (cd n) R.PAIR_STAT_DIE n).modCd n (fun x => { vault := x.vault })
/-- VAON_LOSS: the device is OFF (R60). -/
def execVaonLoss (s : State) : Host.Outcome State Fault Refusal :=
  let s := [0, 1, 2, 3].foldl (fun s d => s.sdOff d false) s
  let s := ((s.cdOff 0).cdOff 1).ldReset 0 |>.ldReset 1
  done { s with pins := { s.pins with vbat := false, vaon := false } }

/-- A slot takes its vault record (R612, R610). -/
def State.vaultSlot (s : State) (n slot : Nat) : State :=
  match s.vaultBank n slot with
  | some b =>
    let r := s.vaultRec n (2 * slot + b)
    if r.empty then s.slotWrite n slot false false false 0 0 []
    else s.slotWrite n slot (!r.fresh) r.expire r.fresh r.purpose r.uses (if r.fresh then [] else r.key)
  | none =>
    let s := s.slotWrite n slot false false false 0 0 []
    if (s.vaultRec n (2 * slot)).good || (s.vaultRec n (2 * slot + 1)).good then s.raise (cd n) R.SEC_CAUSE_VAULT_ERR else s
/-- The vault is loaded into the slots, and BOOTNO rises (R612). -/
def State.vaultLoad (s : State) (n : Nat) : State :=
  let s := if s.pins.tamperN then s else (List.range 32).foldl (fun s slot => s.vaultSlot n slot) s
  s.wr (cd n) R.SEC_BOOTNO_BOOTNO (s.bootNo n + 1)
/-- BOOT_DOMAIN_CLOCKED of die `n` (R64 step 5): SFDP discovery finds the flash devices, the vault is loaded, and the
TRNG starts its tests (R626). -/
def execBootDomainClocked (n : Fin 2) (flash0 flash1 : Bool) (s : State) : Host.Outcome State Fault Refusal :=
  let x := s.cdx n
  done (if x.bootUp && !x.bootClk && !x.factory then
    let s := (s.modCd n (fun x => { x with bootClk := true, flash0 := flash0 })).wrb (cd n) R.BOOT_STAT_FLASH1_PRESENT flash1
    (((s.wr (cd n) R.BOOT_STAT_PHASE 1).clkShow (clkXt n) true).vaultLoad n).wr (cd n) R.TRNG_STAT_STATE 1
  else s)

/-! ### Step 8 -/

/-- The register fields that LISTEN_DEFAULTS fills (R597). -/
def State.listenDefaults (s : State) (n : Nat) : State :=
  let b := cd n
  let v := fun k => (s.cdx n).shelf.listen.getD k 0
  let s := ((s.wr b R.LS_FLOOR_FLOOR0 (v 0)).wr b R.LS_FLOOR_TH0 (v 1)).wr b R.LS_MIC_STAGE0_MIC (v 2)
  let s := ((s.wr b R.LS_MIC_KW_MIC0 (bits (v 3) 2 0)).wr b R.LS_MIC_KW_MIC1 (bits (v 3) 6 4)).wr b R.LS_MIC_MIC_EN (v 4)
  let s := ((s.wr b R.LS_CTRL_CAPTURE (v 5)).wr b R.LS_YIELD_YIELD_DB (v 6)).wr b R.LS_YIELD_YIELD_T (v 7)
  let s := ((s.wr b R.LS_MIC_PDM_RATE (v 8)).wr b R.LS_TIME1_ATTACK (v 9)).wr b R.LS_TIME0_KW_HOLD (v 10 + 256 * v 11)
  ((s.wr b R.LS_TIME0_END_MS (v 12 + 256 * v 13)).wr b R.LS_TIME1_MAXSEG (v 14)).wr b R.LS_TIME1_PREROLL (v 15)
/-- The bridge reads the OTP words of every channel of both Load dies (R541). -/
def State.otpReads (s : State) (n : Nat) : State :=
  [0, 1].foldl (fun s d => (List.range 24).foldl (fun s ch => s.lbEnq n d ⟨2, chIdx ch 0x66, 3, [], .otp ch⟩) s) s
/-- Channels that are on are to become grants at their detail read (R79). -/
def State.ledgerFind (s : State) (n : Nat) (addOnly : Bool) : State :=
  [0, 1].foldl (fun s d => s.modLdc n d (fun c => { c with recon := 2 ^ 24 - 1, reconAdd := addOnly })) s
/-- The ledger of die `n` starts at the ceiling of the shelf list (R79, R542, R544). -/
def State.ledgerStart (s : State) (n : Nat) : State :=
  let sh := (s.cdx n).shelf
  let s := (s.modCd n (fun x => { x with lgMax := sh.ledgerMax, lgLow := false })).wr (cd n) R.LG_SOFT_SOFT sh.ledgerMax
  let s := (List.range 17).foldl (fun s k => s.wr (cd n) (R.LG_PTAB_UNITS.at k) (sh.power.getD k 0)) s
  (s.wr (cd n) R.LG_CAP_CAP sh.ledgerMax).lgSync n
/-- Both ends of link `l` are powered. -/
def State.linkPowered (s : State) (l : Nat) : Bool :=
  (linkEnds l).all (fun k => if k < 16 then (s.sdx (k / 4)).up else (s.cdx ((k - 16) / 5)).mainUp)
/-- The links of `l` whose ends are powered train; one that has failed trains in full (R218, R220). -/
def State.trainLinks (s : State) (l : List Nat) (kind : Nat) : State :=
  l.foldl (fun s k =>
    let failed := (linkEnds k).any (fun e => s.rd (fTrain e).1 (fTrain e).2 == 3)
    if s.linkPowered k && !s.linkUp k then s.startTrain k (if failed then 1 else kind) else s) s
/-- Step 8 for die `n`: its main islands power up with their memories cleared (R64, R79, R82, R541, R597); `restart` for
a restart (R442). -/
def State.mainsUp (s : State) (n : Nat) (restart : Bool) : State :=
  let b := cd n
  let s := (s.dropRegs n mainRanges).mainMem n !restart
  let s := s.modCd n (fun x => { x with mainUp := true, held := false, restarted := restart })
  let s := ((s.wr b R.CLEAR_STAT_SEQMEM 1).wr b R.CLEAR_STAT_CATALOGUE 1).wr b R.CLEAR_STAT_COMMONS 1
  let s := (s.wr b R.BOOT_STAT_PHASE 3).ledgerStart n
  let s := (s.listenDefaults n).otpReads n
  let s := [0, 1].foldl (fun s d => s.setDieOn n (6 + d) (if (s.ldx d).inReset then 1 else 2)) s
  let s := if restart then s
    else
      let s := (List.range 4).foldl (fun s d => s.setDieOn n (2 + d) 1) (s.wr b R.CLEAR_STAT_RROOM 0)
      if s.isActive n then s.ledgerFind n true else s
  (s.lbSync n).trainLinks (cdLinks n) 1

/-! ### Step 7 -/

/-- Boot phase of die `n`. -/
def State.phase (s : State) (n : Nat) : Nat := s.rd (cd n) R.BOOT_STAT_PHASE
/-- The active role of this boot has been claimed. -/
def State.claimed (s : State) : Bool := decide (3 ≤ s.phase 0 ∨ 3 ≤ s.phase 1)
/-- RETIRE of the shelf list that die `n` adopted names it. -/
def State.retired (s : State) (n : Nat) : Bool := bitOf (s.cdx n).shelf.retire n
/-- A retired die keeps only its always-on island (R68). -/
def State.retireDie (s : State) (n : Nat) : State :=
  ((s.setDie n 1).wr (cd (1 - n)) R.PAIR_STAT_PARTNER 0).bootDown n
/-- The die that has not claimed goes on as standby, or is retired (R68). -/
def State.standbyUp (s : State) (n : Nat) : State :=
  if s.phase n = 2 ∧ (s.cdx n).bootClk then
    if s.retired n then s.retireDie n
    else ((s.mainsUp n false).wr (cd (1 - n)) R.PAIR_STAT_PARTNER 1).wr (cd n) R.PAIR_STAT_PARTNER 1
  else s
/-- The active die `n` derives the keys of the FRESH slots of both dies (R610). -/
def State.freshSlots (s : State) (n : Nat) : State :=
  [0, 1].foldl (fun s k => (List.range 32).foldl (fun s slot =>
    if s.flag (cd k) (R.SLOT_ATTR_FRESH.at slot) then
      (s.wr (cd k) (R.SLOT_ATTR_VALID.at slot) 1).modCd k (fun x => { x with
        keys := Store.put [] x.keys slot (s.freshKey n slot) })
    else s) s) s
/-- ROLE of both dies: die `n` is active. -/
def State.setRole (s : State) (n : Nat) : State :=
  let s := (s.wr (cd (1 - n)) R.PAIR_STAT_ROLE 0).wr (cd (1 - n)) R.BOOT_STAT_ROLE 0
  (s.wr (cd n) R.PAIR_STAT_ROLE 1).wr (cd n) R.BOOT_STAT_ROLE 1
/-- The epoch of die `n`; at 0xFFFF no takeover can follow (R434). -/
def State.setEpoch (s : State) (n e : Nat) : State :=
  (s.wr (cd n) R.PAIR_STAT_EPOCH e).wrb (cd n) R.PAIR_STAT_EPOCH_END (e == 65535)
/-- Die `n` is to send NEW in its heartbeats to both Load dies (R533). -/
def State.newHeartbeats (s : State) (n : Nat) : State :=
  [0, 1].foldl (fun s d => s.modLdc n d (fun c => { c with newPend := true, hbOk := false, owner := false })) s
/-- Die `n` claims the active role: the epoch becomes 1, and the main islands of both dies power up (R68, R64 steps 7 and
8, R610). -/
def State.claim (s : State) (n : Nat) : State :=
  let s := (((s.setEpoch 0 1).setEpoch 1 1).setRole n).wrb (cd n) R.PAIR_STAT_SEIZE_UNCONF (s.cdx n).sleepUnconf
  let s := (s.modCd n (fun x => { x with sleepUnconf := false })).freshSlots n
  ((s.mainsUp n false).newHeartbeats n).standbyUp (1 - n)
/-- Die `n` has its shelf list and may claim. -/
def State.mayClaim (s : State) (n : Nat) : Bool :=
  s.phase n == 2 && (s.cdx n).bootClk && !s.retired n && !(s.cdx n).sleepSeized && !s.claimed
/-- ACTIVE_CLAIM: CD0 claims; CD1 claims at once where RETIRE names CD0, or CD0 was seized during sleep (R68, R449). -/
def execActiveClaim (n : Fin 2) (s : State) : Host.Outcome State Fault Refusal :=
  done (if s.mayClaim n && (n.val == 0 || bitOf (s.cdx 1).shelf.retire 0 || (s.cdx 0).sleepSeized) then s.claim n else s)
/-- CD1_CLAIM_TIMEOUT: 60 ms have passed and CD0 has not claimed (R68). -/
def execCd1ClaimTimeout (s : State) : Host.Outcome State Fault Refusal :=
  done (if s.mayClaim 1 then s.claim 1 else s)
/-- SHELF_LIST_ADOPT of die `n` (R64 step 6, R75); a die that finds the role claimed goes on as standby. -/
def execShelfListAdopt (n : Fin 2) (s : State) : Host.Outcome State Fault Refusal :=
  done (if (s.cdx n).bootClk && s.phase n == 1 then
    let s := (s.shelfAdopt n).wr (cd n) R.BOOT_STAT_PHASE 2
    if s.claimed then s.standbyUp n else s
  else s)

/-! ### Steps 10 and 11 -/

/-- PERST_N rises: both endpoints whose dies have booted train (R65, R427). -/
def execPerstNRise (s : State) : Host.Outcome State Fault Refusal :=
  let s := { s with pins := { s.pins with perstN := false } }
  done ([0, 1].foldl (fun s n => s.modCd n (fun x => { x with hostTrain := x.mainUp && x.locked })) s)
/-- PERST_N_LOW is recognised: both endpoints are in fundamental reset (R716). -/
def execPerstNLow (s : State) : Host.Outcome State Fault Refusal :=
  let s := { s with pins := { s.pins with perstN := true } }
  done ([0, 1].foldl (fun s n => s.modCd n (fun x => { x with hostTrain := false, hostUp := false })) s)
/-- PCIE_LINK_UP: the link of die `n` is in L0 (R64 step 11, T_HOSTLINK). On the active die HOST_WAIT starts (R88). -/
def execPcieLinkUp (n : Fin 2) (s : State) : Host.Outcome State Fault Refusal :=
  let x := s.cdx n
  let b := cd n
  done (if x.hostTrain && !x.hostUp && !s.pins.perstN then
    let s := s.modCd n (fun x => { x with hostUp := true })
    let s := if s.rd b R.T_HOSTLINK_US = 0 then let r := s.draw 32; r.1.wr b R.T_HOSTLINK_US r.2 else s
    if s.isActive n ∧ s.rd b R.PWR_STATE_CUR < 3 then
      let s := if s.phase n = 4 then s.setPhase 5 else s
      s.modCd n (fun x => { x with hostWait := x.shelf.hostWait != 0 })
    else s
  else s)

/-! ### Steps 12 and 13 -/

/-- Rail `k` of die `n`'s shelf list: its Stack die. -/
def State.railDie (s : State) (n k : Nat) : Option Nat := ((s.cdx n).shelf.rails[k]?).map (·.die)
/-- The rails that name Stack die `d`. -/
def State.railsOf (s : State) (n d : Nat) : List Nat :=
  (List.range (s.cdx n).shelf.rails.length).filter (fun k => s.railDie n k == some d)
/-- STATE of rail `k`: 2 enabled, 3 good, 4 failed, 5 off. -/
def State.railState (s : State) (n k : Nat) : Nat := s.rd (cd n) (R.PMB_STAT_STATE.at k)
/-- PMB_STAT of rail `k` from its record. -/
def State.railShow (s : State) (n k st : Nat) : State :=
  match (s.cdx n).shelf.rails[k]? with
  | some r => ((s.wr (cd n) (R.PMB_STAT_ADDR.at k) r.addr).wr (cd n) (R.PMB_STAT_DIE.at k) r.die).wr (cd n) (R.PMB_STAT_STATE.at k) st
  | none => s
/-- The rails of Stack die `d` are off; `k` is the one that failed, if any (R700, R702). -/
def State.railsOff (s : State) (n d : Nat) (k : Option Nat) : State :=
  (s.railsOf n d).foldl (fun s j => s.railShow n j (if k = some j then 4 else 5)) s
/-- The fixed entry of Stack die `d` is released (R700). -/
def State.fixedFree (s : State) (n d : Nat) : State := (s.lgClear n (80 + d)).lgAfter n
/-- Stack die `d` stays unpowered (R96, R700, R75, R545). -/
def State.railFail (s : State) (n d : Nat) (k : Option Nat) : State :=
  (((s.railsOff n d k).fixedFree n d).setDie (2 + d) 1).wr (cd n) R.BOOT_STAT_ERR 4
/-- The rails of Stack die `d` are programmed and enabled (R699): `modes` are the answers to VOUT_MODE by rail. -/
def State.railsStart (s : State) (n d : Nat) (modes : List (Option Nat)) : State :=
  let l := s.railsOf n d
  if l = [] then s.wr (cd n) R.BOOT_STAT_ERR 4
  else
    let r := s.lgFixed n d
    if !r.2 then r.1.railFail n d none
    else match l.find? (fun k => match modes.getD k none with
        | some m => bits m 7 5 != 0
        | none => true) with
    | some k => r.1.railFail n d (some k)
    | none => l.foldl (fun s k => s.railShow n k 2) r.1
/-- Stack die `d` leaves reset and its links train: in full, or short at a wake from DOZE (R699, R218). -/
def State.dieOut (s : State) (n d : Nat) : State :=
  (s.modSd d (fun x => { x with up := true })).trainLinks (sdLinks d) (if s.rd (cd n) R.PWR_STATE_CUR = 3 then 2 else 1)

/-- A wake from DOZE is complete when every die that holds its fixed entry is swept (R62). -/
def State.dozeWakeCheck (s : State) (n : Nat) : State :=
  let wait := (List.range 4).any (fun d => s.lgSt n (80 + d) == 1 && !bitOf (s.rd (cd n) R.CLEAR_STAT_RROOM) d)
  if s.rd (cd n) R.PWR_STATE_CUR ≠ 3 ∨ !s.flag (cd n) R.PWR_STATE_IN_TRANS ∨ wait then s
  else
    let s := [0, 1].foldl (fun s k => ((s.wr (cd k) R.PWR_STATE_PREV 3).wr (cd k) R.PWR_STATE_CUR 4).wr (cd k)
      R.PWR_STATE_IN_TRANS 0) s
    if s.rd (cd n) R.PWR_REQ_STATUS = 1 then
      ((s.wr (cd n) R.PWR_REQ_STATUS 2).wr (cd n) R.PWR_REQ_GO 0).sysEvent n R.SYS_CAUSE_PWR_DONE
    else s

/-- STATUS_WORD of rail `k`, if it answers, in a bring-up (R699, R700). -/
def State.railPoll (s : State) (n k : Nat) (word : Option Nat) : State :=
  if s.railState n k ≠ 2 then s
  else match word, s.railDie n k with
  | some w, some d =>
    let s := s.wr (cd n) (R.PMB_STAT_STATUS.at k) w
    if bitOf w 11 || bitOf w 6 then s
    else
      let s := s.wr (cd n) (R.PMB_STAT_STATE.at k) 3
      if (s.railsOf n d).all (fun j => s.railState n j == 3) then s.dieOut n d else s
  | none, some d => s.railFail n d (some k)
  | _, none => s
/-- PMBUS_STATUS_POLL: the answers of the enabled rails, by record (R699). -/
def execPmbusStatusPoll (n : Fin 2) (words : List (Option Nat)) (s : State) : Host.Outcome State Fault Refusal :=
  done (if s.isActive n then
    ((List.range 16).foldl (fun s k => s.railPoll n k (words.getD k none)) s).dozeWakeCheck n
  else s)
/-- RAIL_FAIL_TIMEOUT: rail `k` is not good 20 ms after it was enabled (R700). -/
def execRailFailTimeout (n : Fin 2) (k : Fin 16) (s : State) : Host.Outcome State Fault Refusal :=
  done (if s.isActive n && s.railState n k == 2 then
    match s.railDie n k with
    | some d => (s.railFail n d (some k.val)).dozeWakeCheck n
    | none => s
  else s)

/-- Die `n` sends a message over its control link to Stack die `d`, behind a training that runs (R218). -/
def State.sendBehind (s : State) (n d : Nat) (m : Msg) : State :=
  let k := cdPort n d
  let t := s.rd (fTrain k).1 (fTrain k).2
  if t = 1 ∨ t = 2 then s.modLink k (fun p => { p with q := p.q ++ [m] }) else s.send m
/-- CLAIM from die `n` to Stack die `d` (R277). -/
def claimMsg (n d epoch : Nat) : Msg := workMsg n 8 d 8 epoch 4 0 (List.replicate 16 0)
/-- LOADPROG of `data`, at most 510 words, to the program store of a wing from word `first` on (R275, R288). -/
def loadMsg (n d w epoch first : Nat) (data : List Byte) : Msg :=
  workMsg n 8 d w epoch 2 0 (toBytes 4 (first + data.length / 8 * 4096) ++ List.replicate 12 0 ++ data)
/-- The staged WINGTEXT sections go to the wings of Stack die `d` that they name (R288). -/
def State.loadWings (s : State) (n d : Nat) : State :=
  let ep := s.rd (cd n) R.PAIR_STAT_EPOCH
  (s.cdx n).wingText.foldl (fun s e =>
    if bitOf (secAt e 0) d then
      let r := s.comRead n 7 (secAt e 4) (secAt e 3)
      let parts := chunksOf 4080 ((secAt e 3 + 4079) / 4080) r.2.1
      (List.range 8).foldl (fun s w =>
        if bitOf (secAt e 1) w then
          (parts.zipIdx).foldl (fun s p =>
            (s.modCd n (fun x => { x with loadsOut := x.loadsOut ++ [wix d w] })).sendBehind n d
              (loadMsg n d w ep (secAt e 2 / 8 + 510 * p.2) p.1)) s
        else s) r.1
    else s) s
/-- The accumulators of Stack die `d` are clear (R142). -/
def State.accWake (s : State) (d : Nat) : State :=
  { s with acc := Store.clear s.acc (accKey d 0 0 0 0) (accKey (d + 1) 0 0 0 0),
           shScale := Store.clear s.shScale (wix d 0 * 60) (wix (d + 1) 0 * 60) }
/-- Die `n` claims Stack die `d`, and at a power-up loads its wings' programs; their stores are kept through DOZE
(R277, R288, R255). -/
def State.claimDie (s : State) (n d : Nat) : State :=
  let s := s.modCd n (fun x => { x with claimsOut := x.claimsOut ++ [d], bringUp := x.bringUp ++ [d] })
  let s := s.sendBehind n d (claimMsg n d (s.rd (cd n) R.PAIR_STAT_EPOCH))
  if s.rd (cd n) R.PWR_STATE_CUR = 3 then s else s.loadWings n d
/-- READING_ROOM_SWEEP_DONE of Stack die `d` (R208, R142, R277). -/
def execReadingRoomSweepDone (d : Fin 4) (s : State) : Host.Outcome State Fault Refusal :=
  let n := s.act
  let old := s.rd (cd n) R.CLEAR_STAT_RROOM
  done (if (s.sdx d).up && !bitOf old d then
    let s := (s.rrSweep d).accWake d
    let s := [0, 1].foldl (fun s k => s.wr (cd k) R.CLEAR_STAT_RROOM (putBit old d true)) s
    (s.claimDie n d).dozeWakeCheck n
  else s)

end Sys2Proof.Machine
end

