-- ==== Sys2Proof/Machine/Power.lean ====
section
/-! DEFINITION. The power states (R58 to R63): entry to DOZE, STANDBY and LISTEN, the wakes, PWR_REQ, and step 12 of a
power-up. -/

namespace Sys2Proof.Machine

/-- Both dies' PWR_STATE shows that the device has reached state `v`. -/
def State.pwrShow (s : State) (v : Nat) : State :=
  [0, 1].foldl (fun s n => ((s.wr (cd n) R.PWR_STATE_PREV (s.rd (cd n) R.PWR_STATE_CUR)).wr (cd n) R.PWR_STATE_CUR v).wr
    (cd n) R.PWR_STATE_IN_TRANS 0) s
/-- PWR_REQ of die `n` ends with a status (PWR_REQ, R665). -/
def State.pwrEnd (s : State) (n status : Nat) : State :=
  ((s.wr (cd n) R.PWR_REQ_STATUS status).wr (cd n) R.PWR_REQ_GO 0).sysEvent n R.SYS_CAUSE_PWR_DONE

/-! ### STANDBY and LISTEN -/

/-- What listening keeps at entry to STANDBY: the stage-0 noise and its frame count; its registers go back to reset but
for N0, TH0_DEF and LS_FRAME (R572, R597). -/
def State.listenReset (s : State) (n : Nat) : State :=
  let b := cd n
  let keep := (s.rd b R.LS_FLOOR_N0, s.rd b R.LS_STAT_TH0_DEF, s.rd b R.LS_FRAME_FRAME)
  let s := s.clearRegs (b + 0x6000) (b + 0x6520)
  let s := ((s.wr b R.LS_FLOOR_N0 keep.1).wr b R.LS_STAT_TH0_DEF keep.2.1).wr b R.LS_FRAME_FRAME keep.2.2
  ((s.wrb b R.LS_STAT_MUTED s.pins.muted).modAud n (fun x => { noise := x.noise, settle := x.settle, skip := 2 })).listenDefaults n
/-- Listening of die `n` at entry to STANDBY or LISTEN (R585, R588, R599). -/
def State.listenSleep (s : State) (n : Nat) (standby : Bool) : State :=
  let b := cd n
  let s := ((s.endSeg n 0x200).wr b R.CAP_CTRL_EN 0).wr b R.PB_CTRL_EN 0
  if standby then s.listenReset n else if s.lsStage n = 0 then s.beamsFresh n else s
/-- The islands of die `n` go to sleep, with WAKE_EN and ALARM as copied (R58, R697). -/
def State.islandsSleep (s : State) (n en alarm : Nat) (standby : Bool) : State :=
  let s := ((s.listenSleep n standby).wr (cd n) R.WING_LOADED_LOADED 0).wr (cd n) R.PAIR_STAT_XLINK 0
  let s := (s.mainDown n true).bootDown n
  (if standby then s.clkShow (clkXt n) false else s).modCd n (fun x => { x with
    wakeEn := en, alarm := alarm, pwren := !standby })
/-- WAKE_EN of die `n` as bits. -/
def State.wakeBits (s : State) (n : Nat) : Nat :=
  let b := cd n
  s.rd b R.WAKE_EN_WAKEPIN + 2 * s.rd b R.WAKE_EN_ALARM + 4 * s.rd b R.WAKE_EN_KEYWORD + 8 * s.rd b R.WAKE_EN_LDEV
    + 16 * s.rd b R.WAKE_EN_ALARM_LISTEN
/-- Entry to STANDBY (1) or LISTEN (2) under the active die `n` (R58, R59, R61, R556, R701). -/
def State.sleep (s : State) (n t : Nat) : State :=
  let en := s.wakeBits n
  let alarm := s.rd (cd n) R.ALARM_TICKS
  let s := s.lgSleep n
  let s := if s.mirOn n then s.handLedger n else s
  let s := (List.range 4).foldl (fun s d => (s.setDie (2 + d) 1).sdOff d false) s
  ((s.islandsSleep n en alarm (t == 1)).islandsSleep (1 - n) en alarm (t == 1)).pwrShow t
/-- A wake from STANDBY or LISTEN begins: steps 4 to 15 of a power-up repeat (R63, R60, R89). -/
def State.sleepWake (s : State) (cause : Nat) : State :=
  let s := [0, 1].foldl (fun s n =>
    let b := cd n
    let s := ((s.wr b R.PWR_STATE_LAST_WAKE cause).wr b R.PWR_STATE_IN_TRANS 1).wr b R.PAIR_STAT_SEIZED 0
    let s := ((s.wr b R.PAIR_STAT_EPOCH_END 0).wr b R.PAIR_STAT_STALE 0).wr b R.PAIR_STAT_PARTNER 0
    let s := (s.wr b R.DIES_CD0 1).wr b R.DIES_CD1 1
    (s.modCd n (fun x => { x with held := false, missing := false, seizing := false })).bootOn n) s
  s.tamperAtPower
/-- ALARM expiry in STANDBY with ALARM_LISTEN: the device enters LISTEN (R60). -/
def State.standbyToListen (s : State) : State :=
  [0, 1].foldl (fun s n => (s.clkShow (clkXt n) true).modCd n (fun x => { x with pwren := true, alarm := 0 })) (s.pwrShow 2)

/-! ### DOZE -/

/-- Entry to DOZE under the active die `n` (R62, R585, R588, R701, R556). -/
def State.doze (s : State) (n : Nat) : State :=
  let s := s.endSeg n 0x200
  let s := (List.range 4).foldl (fun s d => if (s.sdx d).up then (s.setDie (2 + d) 1).sdOff d true else s) s
  let s := ((s.cdx n).shelf.rails.zipIdx).foldl (fun s r =>
    if s.railState n r.2 = 3 ∧ r.1.doze = 0 then s.railShow n r.2 5 else s) s
  let s := (s.lgDoze n).wr (cd n) R.LG_LEVEL_LEVEL 0
  let s := [0, 1].foldl (fun s k => (s.wr (cd k) R.CAP_CTRL_EN 0).modCd k (fun x => { x with
    stackOn := false, bringUp := [], claimsOut := [], loadsOut := [] })) s
  s.pwrShow 3
/-- Commons of die `n` is clear (R82). -/
def State.commonsClear (s : State) (n : Nat) : State :=
  let s := { s.clearMem (comAddr n 0) (comAddr n (2 ^ 32)) with comErr := Store.clear s.comErr (comWord n 0) (comWord n (2 ^ 21)) }
  s.wr (cd n) R.CLEAR_STAT_COMMONS 1
/-- The catalogue of die `n` at a wake from DOZE: queues in Commons restart and every carrel is FREE (R83, R414). -/
def State.catWake (s : State) (n : Nat) : State :=
  let inCom := fun (s : State) q => s.qf n q 1 3 0 == 0
  let s := (s.cdx n).heads.foldl (fun s h => if inCom s h.q then (s.dropHead n h.q).qfPut n h.q 7 19 18 0 else s) s
  let s := s.modCd n (fun x => { x with sels := x.sels.filter (fun q => !inCom s q) })
  ((s.ringsReset n).dropRegs n [(0x10400, 0x10800)]).catSync n
/-- The rails of a Stack die that is retained come back; a die whose entry no longer fits stays off (R701, R556). -/
def State.railsWake (s : State) (n d : Nat) : State :=
  if s.lgSt n (80 + d) ≠ 1 then s
  else
    let r := s.lgFixed n d
    if r.2 then (s.railsOf n d).foldl (fun s k => s.railShow n k 2) r.1 else r.1.railFail n d none
/-- A wake from DOZE begins (R62, R82, R83, R681). -/
def State.dozeWake (s : State) (n cause : Nat) : State :=
  let s := [0, 1].foldl (fun s k =>
    let s := (s.wr (cd k) R.PWR_STATE_LAST_WAKE cause).wr (cd k) R.PWR_STATE_IN_TRANS 1
    (((s.wr (cd k) R.CLEAR_STAT_RROOM 0).dropRegs k [(0x1000, 0x1030)]).commonsClear k).modCd k (fun x => { x with
      stackOn := x.locked && s.isActive k })) s
  let s := (s.catWake n).dropRegs (1 - n) [(0x10400, 0x10800)]
  ((List.range 4).foldl (fun s d => s.railsWake n d) s).dozeWakeCheck n

/-! ### Wake events -/

/-- A wake event: its bit in WAKE_EN, and its code in LAST_WAKE (R60, R92). -/
def State.wakeEvent (s : State) (bit cause : Nat) : State :=
  let n := s.act
  let cur := s.rd (cd n) R.PWR_STATE_CUR
  let en := if cur = 3 then s.wakeBits n else (s.cdx n).wakeEn
  if !s.pins.vaon || s.flag (cd n) R.PWR_STATE_IN_TRANS || !bitOf en bit then s
  else if cur = 3 then s.dozeWake n cause
  else if cur = 1 ∨ cur = 2 then s.sleepWake cause
  else s
/-- WAKE_N_LOW (R60). -/
def execWakeNLow (s : State) : Host.Outcome State Fault Refusal := done (s.wakeEvent 0 1)
/-- ALARM_EXPIRY (R60, ALARM): in STANDBY and LISTEN the value copied at entry counts. -/
def execAlarmExpiry (s : State) : Host.Outcome State Fault Refusal :=
  let n := s.act
  let cur := s.rd (cd n) R.PWR_STATE_CUR
  let set := if cur = 3 then s.rd (cd n) R.ALARM_TICKS != 0 else (s.cdx n).alarm != 0
  done (if !set || s.flag (cd n) R.PWR_STATE_IN_TRANS || !s.pins.vaon then s
  else if cur = 1 ∧ bitOf (s.cdx n).wakeEn 4 then s.standbyToListen
  else
    let s := if cur = 3 then s else [0, 1].foldl (fun s k => s.modCd k (fun x => { x with alarm := 0 })) s
    s.wakeEvent 1 2)
/-- LOAD_DIE_WAKE_EVENT: a channel fault of Load die `d`, or VBAT restored after under-voltage (R60). -/
def execLoadDieWakeEvent (d : Fin 2) (s : State) : Host.Outcome State Fault Refusal :=
  done (if (s.ldx d).inReset then s else s.wakeEvent 3 4)

/-! ### PWR_REQ -/

/-- A slip is ready or running, or an image load or a folio reload runs (R61, R132). -/
def State.busy (s : State) (n : Nat) : Bool :=
  let x := s.cdx n
  (s.qListed n).any (fun q => !s.qIsCq n q && s.qSize n q != 0 && s.qProd n q != s.qCons n q)
    || !x.disp.isEmpty || !x.runs.isEmpty || x.wload.isSome || x.fb || s.rd (cd n) R.WIMG_STAT_STATE == 1
    || (List.range 32).any (fun i =>
      let p := s.rd (wg (i / 8) (i % 8)) R.FOLIO_STAT_PHASE
      p == 1 || p == 2 || p == 3)
/-- A write of PWR_REQ with GO (R61, R62). -/
def State.pwrReq (s : State) (n t : Nat) : State :=
  let cur := s.rd (cd n) R.PWR_STATE_CUR
  let s := (s.wr (cd n) R.PWR_REQ_TARGET t).wr (cd n) R.PWR_REQ_GO 1
  if !s.isActive n then s.pwrEnd n 0x12
  else if s.flag (cd n) R.PWR_STATE_IN_TRANS then
    (if s.rd (cd n) R.PWR_REQ_STATUS = 1 then s else s.pwrEnd n 0x10)
  else if t < 1 ∨ 4 < t then s.pwrEnd n 0x11
  else if t = cur then s.pwrEnd n 2
  else if t = 4 then (s.wr (cd n) R.PWR_REQ_STATUS 1).dozeWake n 5
  else if s.busy n then s.pwrEnd n 0x10
  else if t = 3 then (s.doze n).pwrEnd n 2
  else ((s.sleep n t).wr (cd n) R.PWR_REQ_STATUS 2).wr (cd n) R.PWR_REQ_GO 0
/-- The command reaches a die whose main islands run. -/
def State.pwrCmd (s : State) (n t : Nat) : State := if (s.cdx n).mainUp then s.pwrReq n t else s
/-- PWR_REQ_DOZE (R62). -/
def execPwrReqDoze (n : Fin 2) (s : State) : Host.Outcome State Fault Refusal := done (s.pwrCmd n 3)
/-- PWR_REQ_STANDBY (R61). -/
def execPwrReqStandby (n : Fin 2) (s : State) : Host.Outcome State Fault Refusal := done (s.pwrCmd n 1)
/-- PWR_REQ_LISTEN (R61). -/
def execPwrReqListen (n : Fin 2) (s : State) : Host.Outcome State Fault Refusal := done (s.pwrCmd n 2)
/-- PWR_REQ_SERVE (R62). -/
def execPwrReqServe (n : Fin 2) (s : State) : Host.Outcome State Fault Refusal := done (s.pwrCmd n 4)

/-! ### Step 12 -/

/-- STACK_POWER_START of die `n` (R64 step 12, R545, R699, R75): `modes` are the answers to VOUT_MODE by record. A
power-up from OFF whose BOOT_TARGET is STANDBY or LISTEN enters that state instead (R60). -/
def execStackPowerStart (n : Fin 2) (modes : List (Option Nat)) (s : State) : Host.Outcome State Fault Refusal :=
  let x := s.cdx n
  let cur := s.rd (cd n) R.PWR_STATE_CUR
  done (if !s.isActive n || !x.locked || x.stackOn || !x.mainUp || 3 ≤ cur then s
  else if cur = 0 ∧ (x.shelf.target = 1 ∨ x.shelf.target = 2) then s.sleep n x.shelf.target
  else
    let s := s.modCd n (fun x => { x with stackOn := true })
    (List.range 4).foldl (fun s d => s.railsStart n d modes) s)

end Sys2Proof.Machine
end

