-- ==== Sys2Proof/Machine/Listen.lean ====
section
/-! DEFINITION. The work of one audio frame (R569 to R587): stage 0, the front end and keyword network of stage 1, the
beams, and the open segment. -/

namespace Sys2Proof.Machine

/-! ### Stage 0 -/

/-- The frame is not a voice frame: its level joins the noise (R572). -/
def State.noiseFrame (s : State) (n e : Nat) : State :=
  let l := (e :: (s.aud n).noise).take 200
  let s := s.modAud n (fun x => { x with voice := 0, quiet := x.quiet + 1, noise := l })
  if l.length = 200 then (s.wr (cd n) R.LS_FLOOR_N0 (l.foldl (· + ·) 0 / 200)).wr (cd n) R.LS_STAT_TH0_DEF 0 else s
/-- The voice test of a frame with level `e` (R572). -/
def State.isVoice (s : State) (n e es : Nat) : Bool :=
  let b := cd n
  let t0 := if s.flag b R.LS_STAT_TH0_DEF then s.rd b R.LS_FLOOR_FLOOR0 else s.rd b R.LS_FLOOR_N0
  (s.aud n).skip == 0 && decide (t0 + s.rd b R.LS_FLOOR_TH0 ≤ e) && decide (e ≤ es + 6)
/-- Stage 0 on a frame (R572, R573, R574, R600). -/
def State.stageZeroFrame (s : State) (n : Nat) (x : AudioIn) : State :=
  let b := cd n
  let mic := frameOf (x.mics.getD (s.rd b R.LS_MIC_STAGE0_MIC) [])
  let r := s.level mic
  let s := if r.1.isVoice n r.2 x.es then r.1.modAud n (fun a => { a with voice := a.voice + 1, quiet := 0 })
    else r.1.noiseFrame n r.2
  let s := s.modAud n (fun a => { a with skip := a.skip - 1, hist := (mic :: a.hist).take 32 })
  if s.lsStage n == 0 && s.flag b R.LS_CTRL_STAGE1_EN && decide (max 1 (s.rd b R.LS_TIME1_ATTACK) ≤ (s.aud n).voice) then
    if s.flag b R.POCKET_STAT_BUSY then s.modAud n (fun a => { a with due := true }) else s.stageOne n x.history
  else s

/-! ### Stage 1 -/

/-- The stage-1 mix of a frame: samples, then 1 where a sample was clipped (R579). -/
def State.mixOf (s : State) (n : Nat) (x : AudioIn) : List Nat :=
  let p := frameOf (x.mics.getD (s.rd (cd n) R.LS_MIC_KW_MIC0) [])
  let q := frameOf (x.mics.getD (s.rd (cd n) R.LS_MIC_KW_MIC1) [])
  (p.zip q).map (fun y => ((sext 16 y.1 + sext 16 y.2) / 2 % 65536).toNat) ++ [b2n (x.clipped != 0)]
/-- Floor of beam `c`: the mean of its last levels below its threshold, or FLOOR0 without history (R584). -/
def State.beamFloor (s : State) (n c : Nat) : Nat :=
  let l := Store.get [] (s.aud n).nb c
  if (s.aud n).beamAge < 25 ∨ l = [] then s.rd (cd n) R.LS_FLOOR_FLOOR0 else l.foldl (· + ·) 0 / l.length
/-- The last level of beam `c`. -/
def State.beamLevel (s : State) (n c : Nat) : Nat := (Store.get [] (s.aud n).lv c).headD 0
/-- The level of beam `c` is below its floor plus TH0. -/
def State.beamLow (s : State) (n c level : Nat) : Bool := decide (level < s.beamFloor n c + s.rd (cd n) R.LS_FLOOR_TH0)
/-- Beam `c` of a frame (R583, R584). -/
def State.beamFrame (s : State) (n c : Nat) (samples : List Nat) : State :=
  let r := s.level (frameOf samples)
  let s := r.1
  let old := Store.get [] (s.aud n).nb c
  let nb := if s.beamLow n c r.2 then (r.2 :: old).take 25 else old
  let s := s.modAud n (fun a => { a with
    lv := Store.put [] a.lv c ((r.2 :: Store.get [] a.lv c).take 3), nb := Store.put [] a.nb c nb })
  (s.wr (cd n) (R.LS_LEVEL_L.at c) r.2).wr (cd n) (R.LS_LEVEL_NB.at c) (s.beamFloor n c)
/-- The enabled beams of a frame (R583, R584). -/
def State.beamsFrame (s : State) (n : Nat) (x : AudioIn) : State :=
  let s := (List.range 8).foldl (fun s c =>
    if bitOf (s.rd (cd n) R.BF_EN_EN) c then s.beamFrame n c (x.beams.getD c []) else s) s
  let s := s.modAud n (fun a => { a with beamAge := min 25 (a.beamAge + 1) })
  if (s.aud n).beamAge = 25 then s.wr (cd n) R.LS_STAT_FLOOR_DEF 0 else s
/-- The mismatch of R582. -/
def State.pocketBad (s : State) (n bad frame : Nat) : State :=
  let b := cd n
  let s := ((s.wr b R.POCKET_STAT_LOADED 0).wr b R.POCKET_STAT_BAD 1).wr b R.POCKET_STAT_TALLY
    (min 255 (s.rd b R.POCKET_STAT_TALLY + bad))
  let s := ((s.raise b R.LS_CAUSE_POCKET_TALLY).pocketSync n).modAud n (fun a => { a with scores := [] })
  let cur := s.rd b R.PWR_STATE_CUR
  let en := if cur = 3 then s.flag b R.WAKE_EN_KEYWORD else bitOf (s.cdx n).wakeEn 2
  if (cur = 2 ∨ cur = 3) ∧ en ∧ !(s.aud n).woke then
    ((s.kwPush n 0 0 frame).1.modAud n (fun a => { a with woke := true })).wakeEvent 2 3
  else s
/-- A detection of class `c` (R581, R575, R573). -/
def State.kwDetect (s : State) (n c : Nat) (score : Int) (frame : Nat) : State :=
  let b := cd n
  let r := s.kwPush n c (score % 256).toNat frame
  let s := if r.2 then r.1 else r.1.inc b R.KW_CNT_LOST
  let s := (s.inc b R.KW_CNT_DETECT).raise b R.LS_CAUSE_KEYWORD
  let s := s.modAud n (fun a => { a with
    refr := 10 * s.rd b R.KW_CFG_REFRACT + 1, seg := a.seg.map (fun g => { g with flags := g.flags ||| 1024 }) })
  let s := if s.lsStage n = 1 ∧ s.flag b R.LS_CTRL_KW_TO2 then s.openSeg n c else s
  s.wakeEvent 2 3
/-- The keyword network on a frame (R580, R581, R582). -/
def State.netFrame (s : State) (n frame : Nat) : State :=
  let b := cd n
  let s := if !s.flag b R.POCKET_STAT_LOADED || s.flag b R.POCKET_STAT_BUSY || s.rd b R.KW_CFG_FEAT_FRAMES == 0 then s
    else
      let r := s.netRun n (s.featVec n) (List.range 8) none 0
      if r.2 ≠ 0 then s.pocketBad n r.2 frame
      else
        let s := s.modAud n (fun a => { a with scores := (((r.1.getD []).take 32) :: a.scores).take 15 })
        match s.kwClass n with
        | some (c, sc) => s.kwDetect n c sc frame
        | none => s
  s.modAud n (fun a => { a with refr := a.refr - 1 })
/-- Stage 1 on a frame (R579 to R584). -/
def State.stageOneFrame (s : State) (n frame : Nat) (x : AudioIn) : State :=
  let m := s.mixOf n x
  let s := s.modAud n (fun a => { a with mix := (m :: a.mix).take 258, feats := (s.featOf n x.bands :: a.feats).take 25 })
  ((s.beamsFrame n x).pkUpsets n x.upset).netFrame n frame

/-! ### The open segment -/

/-- Beams that have been louder than the captured one by YIELD_DB, counted by frames (R586). -/
def State.talkers (s : State) (n : Nat) : State :=
  let b := cd n
  let cap := s.rd b R.LS_STAT_BEAM
  let need := s.beamLevel n cap + s.rd b R.LS_YIELD_YIELD_DB
  s.modAud n (fun a => { a with comp := (List.range 8).foldl (fun m c =>
    let up := bitOf (s.rd b R.BF_EN_EN) c && c != cap && decide (need ≤ s.beamLevel n c)
    Store.put 0 m c (if up then Store.get 0 m c + 1 else 0)) a.comp })
/-- The competing beams: the loudest, the lower number winning a tie (R586). -/
def State.rival (s : State) (n : Nat) : Option Nat :=
  let t := s.rd (cd n) R.LS_YIELD_YIELD_T
  let l := (List.range 8).filter (fun c => t != 0 && decide (t ≤ Store.get 0 (s.aud n).comp c))
  match l with
  | [] => none
  | c :: cs => some (cs.foldl (fun m c => if s.beamLevel n m < s.beamLevel n c then c else m) c)
/-- The block in progress is complete. -/
def State.blockFull (s : State) (n : Nat) (g : Seg) (next : Nat) : State :=
  (s.blockOut n g.kw g.idx g.flags g.frame0 g.cur).modAud n (fun a => { a with
    seg := some { g with idx := g.idx + 1, cur := [], flags := 0, frame0 := next } })
/-- What a competing beam does to the segment from the next frame on (R586). -/
def State.compete (s : State) (n : Nat) : State :=
  match s.rival n, (s.aud n).seg with
  | some c, some g =>
    let s := if g.olap then s else s.raise (cd n) R.LS_CAUSE_OVERLAP
    let s := s.modAud n (fun a => { a with
      seg := some { g with olap := true, flags := g.flags ||| (if g.yields then 0x108 else 8),
                           quiet := if g.yields then 0 else g.quiet },
      comp := if g.yields then [] else a.comp })
    if g.yields then s.wr (cd n) R.LS_STAT_BEAM c else s
  | _, _ => s
/-- A frame of the open segment `g` (R585, R586, R587, R601); `low` tells whether the captured beam is below its
threshold. -/
def State.segFrame (s : State) (n frame : Nat) (low : Bool) (x : AudioIn) (g : Seg) : State :=
  let b := cd n
  let cap := s.rd b R.LS_STAT_BEAM
  let g := { g with
    frames := g.frames + 1, quiet := if low then g.quiet + 1 else 0, cur := g.cur ++ frameOf (x.beams.getD cap []),
    flags := g.flags ||| (if x.clipped = 0 then 0 else 32) }
  let s := (s.modAud n (fun a => { a with seg := some g })).talkers n
  if g.quiet ≠ 0 ∧ s.rd b R.LS_TIME0_END_MS ≤ 10 * g.quiet then s.endSeg n 0
  else if 10 * s.rd b R.LS_TIME1_MAXSEG ≤ g.frames then s.endSeg n 0x80
  else (if 480 ≤ g.cur.length then s.blockFull n g (frame + 1) else s).compete n

/-! ### The frame -/

/-- Stages 1 and 2 on a frame; a segment that opens in it starts with the next. -/
def State.upperFrame (s : State) (n frame : Nat) (x : AudioIn) : State :=
  let was := (s.aud n).seg.isSome
  let cap := s.rd (cd n) R.LS_STAT_BEAM
  let limit := s.beamFloor n cap + s.rd (cd n) R.LS_FLOOR_TH0
  let s := s.stageOneFrame n frame x
  match was, (s.aud n).seg with
  | true, some g => s.segFrame n frame (decide (s.beamLevel n cap < limit)) x g
  | _, _ => s
/-- A frame that listening hears. -/
def State.heardFrame (s : State) (n frame : Nat) (x : AudioIn) : State :=
  let b := cd n
  let stage := s.lsStage n
  let s := if x.clipped = 0 then s
    else (s.wr b R.LS_CLIP_SAMPLES (satAdd (s.rd b R.LS_CLIP_SAMPLES) x.clipped 65535)).raise b R.LS_CAUSE_CLIP
  let s := if s.stage0On n then s.stageZeroFrame n x
    else s.modAud n (fun a => { a with quiet := a.quiet + 1 })
  if stage ≠ 0 ∧ 2 ≤ s.rd b R.PWR_STATE_CUR then s.upperFrame n frame x else s
/-- AUDIO_FRAME_END of die `n`: a frame of 10 ms ends (R569, R572); a muted die discards it, and so does one in the
20 ms after a release (R593, R594). -/
def execAudioFrameEnd (n : Fin 2) (x : AudioIn) (s : State) : Host.Outcome State Fault Refusal :=
  let b := cd n
  let frame := s.rd b R.LS_FRAME_FRAME
  done (if !s.pins.vaon then s
  else
    let s := s.wr b R.LS_FRAME_FRAME (frame + 1)
    if !s.isActive n || s.lsMuted n then s
    else if (s.aud n).settle ≠ 0 then
      let s := s.modAud n (fun a => { a with settle := a.settle - 1, skip := a.skip - 1 })
      if (s.aud n).settle = 0 then s.wr b R.LS_STAT_SETTLE 0 else s
    else s.heardFrame n frame x)

end Sys2Proof.Machine
end

