-- ==== Sys2Proof/Machine/Pair.lean ====
section
/-! DEFINITION. The control pair (chapter 12): heartbeats, seizure, takeover, handover, restart and rejoin, and the sleeping
partners. -/

namespace Sys2Proof.Machine

/-- PARTNER of die `n`: 0 absent or out, 1 restarting, 2 standby, 3 active. -/
def State.partner (s : State) (n : Nat) : Nat := s.rd (cd n) R.PAIR_STAT_PARTNER
/-- Writes it. -/
def State.setPartner (s : State) (n v : Nat) : State := s.wr (cd n) R.PAIR_STAT_PARTNER v
def State.epoch (s : State) (n : Nat) : Nat := s.rd (cd n) R.PAIR_STAT_EPOCH
/-- Die `n` is the standby of an active partner that has admitted it (R443). -/
def State.isStandby (s : State) (n : Nat) : Bool := s.partner n == 3 && s.partner (1 - n) == 2

/-! ### Takeover -/

/-- A command of the ledger that awaits answers is written again by the new active die (R557). -/
def State.lgReissue (s : State) (n e : Nat) : State :=
  let l := (s.lgx n e).cmds
  l.foldl (fun s c => s.lgWrite n e c.why (if c.why = 0 then 1 else if c.why = 2 ∨ c.why = 4 then 2 else 3) c.req c.amt c.code)
    (s.modLg n e (fun x => { x with cmds := [] }))
/-- The ledger adopts the mirrored table (R438 step 6, R557). -/
def State.ledgerAdopt (s : State) (n : Nat) : State :=
  ((List.range 48).foldl (fun s e => s.lgReissue n e) s).lgAfter n
/-- The ledger is rebuilt from the channels' states (R440). -/
def State.ledgerRebuild (s : State) (n : Nat) : State :=
  let s := (s.dropRegs n [(0x7034, 0x7038), (0x7200, 0x7500)]).modCd n (fun x => { x with lg := [], lvl := [] })
  let s := (List.range 4).foldl (fun s d => if s.inService n (2 + d) then
    let s := (s.lgFixed n d).1
    s.modLvl n d (fun x => { x with pend := some (s.lgBaseLvl n d), timer := false })
  else s) s
  let s := ((s.wr (cd n) R.PAIR_STAT_STALE 1).raise (cd n) R.PAIR_CAUSE_STALE_MIRROR).wr (cd n) R.CAT_CTRL_DISPATCH_EN 0
  s.ledgerFind n false
/-- CLAIM goes to a Stack die in service, and a die that is swept and not in service is brought up (R438 step 5). -/
def State.claimOne (s : State) (n d : Nat) : State :=
  if s.inService n (2 + d) then
    if s.cdReaches n d then
      (s.modCd n (fun x => { x with claimsOut := x.claimsOut ++ [d] })).send (claimMsg n d (s.epoch n))
    else s.setDieOn n (2 + d) 1
  else if (s.sdx d).up && bitOf (s.rd (cd n) R.CLEAR_STAT_RROOM) d then s.claimDie n d
  else s
/-- Step 12 goes on under die `n`: its rails as they stand. -/
def State.railsAdopt (s : State) (n : Nat) : State :=
  let s := s.modCd n (fun x => { x with stackOn := (s.cdx (1 - n)).stackOn || (List.range 4).any (fun d => (s.sdx d).up) })
  if (s.cdx n).stackOn then
    ((s.cdx n).shelf.rails.zipIdx).foldl (fun s r => s.railShow n r.2 (if (s.sdx r.1.die).up then 3 else 5)) s
  else s
/-- The records whose write the new active die cannot confirm (R421). -/
def State.mirRecords (s : State) (n : Nat) : List (Slip × List Nat) :=
  (s.cdx n).mirQ.filterMap (fun a => match a with
    | .record x w => some (x, w)
    | _ => none)
/-- Steps 6 to 8 of a takeover (R438, R421, R603, R724). -/
def State.takeoverRest (s : State) (n : Nat) : State :=
  let recs := s.mirRecords n
  let s := s.modCd n (fun x => { x with mirQ := [], xcheckOff := false })
  let s := if (s.cdx n).tkoStale then s.ledgerRebuild n else s.ledgerAdopt n
  let s := (s.catTakeover n recs).railsAdopt n
  let s := (((s.endSeg n 0x200).stageZero n).beamsFresh n).wr (cd n) R.GPIO_OE_OE 0
  s.modCd n (fun x => { x with
    hostWait := x.hostUp && s.phase n == 5 && x.shelf.hostWait != 0 })
/-- Step 3: the epoch rises and die `n` is active (R433, R438). -/
def State.takeRole (s : State) (n : Nat) : State :=
  let e := s.epoch n + 1
  let s := (s.setRole n).setEpoch n e
  let s := if (s.cdx (1 - n)).mainUp then s else s.setEpoch (1 - n) e
  let s := (s.wr (cd n) R.MIRROR_STAT_VALID 0).setPartner (1 - n) 3
  (s.setDie n 2).setDie (1 - n) 1
/-- A takeover by die `n` from step 3 on (R438); with the epoch at its end none can occur (R434). -/
def State.takeover (s : State) (n : Nat) : State :=
  if s.epoch n = 65535 then s
  else
    let s := s.handMirror (1 - n)
    let s := (s.takeRole n).wr (cd n) R.PAIR_STAT_STALE 0
    let s := [0, 1].foldl (fun s d => s.lbHeartbeat n d (s.epoch n)) s
    let s := (List.range 4).foldl (fun s d => s.claimOne n d) s
    (s.modCd n (fun x => { x with tko := true })).takeoverRest n

/-- An accepted REJOIN starts the full copy (R443). -/
def State.rejoinGo (s : State) (n : Nat) : State := s.modCd n (fun x => { x with rejoin := false, copying := true })
/-- TAKEOVER_COMPLETE (R438 step 9); a REJOIN that came during it is served (R466). -/
def execTakeoverComplete (n : Fin 2) (s : State) : Host.Outcome State Fault Refusal :=
  done (if (s.cdx n).tko then
    let r := s.draw 32
    let s := ((r.1.wr (cd n) R.PAIR_T_US r.2).inc (cd n) R.PAIR_CNT_TAKEOVERS).raise (cd n) R.PAIR_CAUSE_TAKEOVER
    let s := s.modCd n (fun x => { x with tko := false })
    if (s.cdx n).rejoin && s.flag (cd n) R.PAIR_CTRL_REJOIN_AUTO then s.rejoinGo n else s
  else s)

/-! ### Seizure -/

/-- Die `n` sends SEIZE to its partner (R437). -/
def State.seize (s : State) (n : Nat) (standby : Bool) : State :=
  let b := cd n
  let stale := !s.mirOn n
  let s := ((s.inc b R.PAIR_CNT_SEIZURES).inc b R.PAIR_STAT_SEIZED).raise b R.PAIR_CAUSE_SEIZED_PARTNER
  s.modCd n (fun x => { x with seizing := true, tkoStale := stale, xcheckOff := x.xcheckOff || standby })
/-- A trigger of R436 concerns die `n`'s partner. -/
def State.trigger (s : State) (n cause : Nat) : State :=
  let x := s.cdx n
  if !x.mainUp || !x.locked || x.seizing || x.tko then s
  else if s.isStandby n then
    if s.epoch n = 65535 then s else (s.wr (cd n) R.PAIR_STAT_LAST_CAUSE cause).seize n true
  else if s.isActive n && s.partner n == 2 then (s.wr (cd n) R.PAIR_STAT_LAST_CAUSE cause).seize n false
  else s
/-- Folio reloads whose image reads are outstanding stop (R733). -/
def State.reloadsStop (s : State) : State :=
  (List.range 32).foldl (fun s i =>
    if s.rd (wg (i / 8) (i % 8)) R.FOLIO_STAT_PHASE = 1 then s.reloadStop (i / 8) (i % 8) 4 else s) s
/-- The seizure is confirmed, or goes on as though it were (R437); the standby takes over. -/
def State.seized (s : State) (n : Nat) (unconf : Bool) : State :=
  let m := 1 - n
  let s := (s.modCd n (fun x => { x with seizing := false })).wrb (cd n) R.PAIR_STAT_SEIZE_UNCONF unconf
  let s := s.setPartner n (if s.rd (cd n) R.PAIR_STAT_SEIZED = 3 then 0 else 1)
  if s.isActive n then (s.mirStop.setDie m 1).modCd m (fun x => { x with held := false })
  else s.reloadsStop.takeover n
/-- The seizure of a sleeping partner's always-on side ends (R448). -/
def State.sleepSeizeEnd (s : State) (n : Nat) (unconf : Bool) : State :=
  s.modCd n (fun x => { x with seizing := false, sleepUnconf := unconf })
/-- The device sleeps: STANDBY or LISTEN, and no wake has begun. -/
def State.asleep (s : State) (n : Nat) : Bool :=
  let c := s.rd (cd n) R.PWR_STATE_CUR
  s.pins.vaon && (c == 1 || c == 2) && !s.flag (cd n) R.PWR_STATE_IN_TRANS

/-- SEIZE_RECEIVE by die `n`: its main islands are held in reset (R437). An active die that has sent SEIZE itself keeps
its role (R464). -/
def execSeizeReceive (n : Fin 2) (s : State) : Host.Outcome State Fault Refusal :=
  done (if !(s.cdx (1 - n)).seizing || s.asleep n || (s.isActive n && (s.cdx n).seizing) then s
  else (if (s.cdx n).mainUp then s.mainDown n false else s).modCd n (fun x => { x with held := true }))
/-- SEIZE_CONFIRM_RECEIVE by die `n` (R437, R448). -/
def execSeizeConfirmReceive (n : Fin 2) (s : State) : Host.Outcome State Fault Refusal :=
  done (if !(s.cdx n).seizing then s
  else if s.asleep n then if (s.cdx (1 - n)).sleepSeized then s.sleepSeizeEnd n false else s
  else if (s.cdx (1 - n)).held then s.seized n false else s)
/-- SEIZE_CONFIRM_TIMEOUT of die `n`: 100 us, or two sleep periods (R437, R448). -/
def execSeizeConfirmTimeout (n : Fin 2) (s : State) : Host.Outcome State Fault Refusal :=
  done (if !(s.cdx n).seizing then s
  else if s.asleep n then s.sleepSeizeEnd n true else s.seized n true)
/-- PAIR_CTRL.SEIZE written on die `n` (PAIR_CTRL). -/
def State.pairSeize (s : State) (n : Nat) : State :=
  if s.isActive n && s.partner n == 2 && !(s.cdx n).seizing then s.seize n false else s
/-- PAIR_SEIZE (R437). -/
def execPairSeize (n : Fin 2) (s : State) : Host.Outcome State Fault Refusal := done (s.pairSeize n)

/-! ### Heartbeats and triggers -/

/-- The device is in DOZE or SERVE, or on its way there, and die `n`'s main islands run. -/
def State.beats (s : State) (n : Nat) : Bool := s.pins.vaon && (s.cdx n).mainUp
/-- PAIR_HEARTBEAT_SEND of die `n`: the beats that arrive, on the pair line and on the cross link (R428). -/
def execPairHeartbeatSend (n : Fin 2) (line cross : Bool) (s : State) : Host.Outcome State Fault Refusal :=
  let b := cd (1 - n)
  done (if s.beats n && (s.cdx (1 - n)).bootUp then
    let s := if line then s.wr b R.PAIR_STAT_PAIRLINE 1 else s
    if cross && s.linkUp 12 then s.wr b R.PAIR_STAT_XLINK 1 else s
  else s)
/-- PAIR_HEARTBEAT_LOSS seen by die `n`: neither path has delivered a beat for 1 ms (R428, R436). -/
def execPairHeartbeatLoss (n : Fin 2) (s : State) : Host.Outcome State Fault Refusal :=
  done (if s.beats n && decide (2 ≤ s.partner n) then
    ((s.wr (cd n) R.PAIR_STAT_XLINK 0).wr (cd n) R.PAIR_STAT_PAIRLINE 0).trigger n 1
  else s)
/-- HEARTBEAT_PATH_SILENCE seen by die `n` on one path while the other beats (R429). -/
def execHeartbeatPathSilence (n : Fin 2) (cross : Bool) (s : State) : Host.Outcome State Fault Refusal :=
  let b := cd n
  done (if !s.beats n || !s.flag b R.PAIR_STAT_XLINK || !s.flag b R.PAIR_STAT_PAIRLINE then s
  else if cross then (s.mirStop.wr b R.PAIR_STAT_XLINK 0).raise b R.PAIR_CAUSE_XLINK_DOWN
  else (s.wr b R.PAIR_STAT_PAIRLINE 0).raise b R.PAIR_CAUSE_PAIRLINE_FAULT)
/-- WDT_IN_PULSE of 2 us or more at die `n`, from its partner's WDT_OUT (R436, R463). -/
def execWdtInPulse (n : Fin 2) (s : State) : Host.Outcome State Fault Refusal :=
  done (if (s.cdx (1 - n)).wdtOut then s.trigger n 2 else s)
/-- PEER_RESET_SIGNAL at die `n`: the partner's main islands have entered reset (R436). -/
def execPeerResetSignal (n : Fin 2) (s : State) : Host.Outcome State Fault Refusal :=
  let y := s.cdx (1 - n)
  done (if y.bootUp && !y.mainUp && !y.held then s.trigger n 3 else s)

/-! ### Handover, restart and rejoin -/

/-- PAIR_CTRL.HANDOVER written on die `n` (R439): dispatch stops. -/
def State.pairHandover (s : State) (n : Nat) : State :=
  if s.isActive n && s.partner n == 2 && !(s.cdx n).seizing && decide (s.epoch n < 65535) then
    s.modCd n (fun x => { x with handover := true })
  else s
/-- PAIR_HANDOVER (R439). -/
def execPairHandover (n : Fin 2) (s : State) : Host.Outcome State Fault Refusal := done (s.pairHandover n)
/-- YIELD_RECEIVE by the standby `n`: from a planned handover, whose sender restarts without counting a seizure (R439), or
from a die in BOOTFAIL (R81). -/
def execYieldReceive (n : Fin 2) (s : State) : Host.Outcome State Fault Refusal :=
  let m := 1 - n.val
  let y := s.cdx m
  done (if !(s.cdx n).mainUp || !(s.cdx n).locked || s.isActive n || (s.cdx n).seizing || s.epoch n == 65535 then s
  else if y.handover then
    let stale := !s.mirOn n
    let s := (s.mainDown m false).modCd n (fun x => { x with tkoStale := stale })
    ((s.wr (cd n) R.PAIR_STAT_LAST_CAUSE 4).setPartner n 1).takeover n
  else if y.yieldOut then
    let s := (s.modCd m (fun x => { x with yieldOut := false, yielded := true })).modCd n (fun x => { x with tkoStale := true })
    ((s.wr (cd n) R.PAIR_STAT_LAST_CAUSE 4).setPartner n 1).takeover n
  else s)
/-- BOOTFAIL_YIELD: die `n` claimed the role, ended step 9 in BOOTFAIL, and its partner's boot is complete (R81). -/
def execBootfailYield (n : Fin 2) (s : State) : Host.Outcome State Fault Refusal :=
  done (if s.phase n == 14 && s.isActive n && (s.cdx (1 - n)).locked then s.modCd n (fun x => { x with yieldOut := true })
  else s)

/-- SEIZE_RELEASE_TIMER of die `n`: 1 ms after the seizing die's takeover (R442). -/
def execSeizeReleaseTimer (n : Fin 2) (s : State) : Host.Outcome State Fault Refusal :=
  done (if (s.cdx n).held && s.isActive (1 - n) && !(s.cdx (1 - n)).tko then s.modCd n (fun x => { x with held := false })
  else s)
/-- Die `n` restarts if it is out of reset, cool, and not out for good (R442, R445). -/
def State.dieRestart (s : State) (n : Nat) : State :=
  let x := s.cdx n
  if x.bootUp && x.bootClk && !x.mainUp && decide (3 ≤ s.phase n) && !x.held && !x.hot && !(s.cdx (1 - n)).seizing
      && s.rd (cd (1 - n)) R.PAIR_STAT_SEIZED != 3 then
    s.mainsUp n true
  else s
/-- DIE_RESTART of die `n`: steps 8 and 9 of the power-up run again (R442). -/
def execDieRestart (n : Fin 2) (s : State) : Host.Outcome State Fault Refusal := done (s.dieRestart n)
/-- REJOIN_RECEIVE by the active die `n` (R443, R466). -/
def execRejoinReceive (n : Fin 2) (s : State) : Host.Outcome State Fault Refusal :=
  done (if s.isActive n && (s.cdx (1 - n)).joinOut then
    let s := s.modCd (1 - n) (fun x => { x with joinOut := false })
    if s.flag (cd n) R.PAIR_CTRL_REJOIN_AUTO && !(s.cdx n).tko then s.rejoinGo n
    else s.modCd n (fun x => { x with rejoin := true })
  else s)
/-- PAIR_CTRL.REJOIN written on die `n` (R443). -/
def State.pairRejoin (s : State) (n : Nat) : State :=
  if s.isActive n && (s.cdx n).rejoin && !(s.cdx n).tko then s.rejoinGo n else s
/-- PAIR_REJOIN (R443). -/
def execPairRejoin (n : Fin 2) (s : State) : Host.Outcome State Fault Refusal := done (s.pairRejoin n)
/-- Stack dies that only the relay through the rejoined die reaches are claimed (R438). -/
def State.claimLate (s : State) (n : Nat) : State :=
  (List.range 4).foldl (fun s d =>
    if (s.sdx d).up && bitOf (s.rd (cd n) R.CLEAR_STAT_RROOM) d && !s.inService n (2 + d) && !(s.cdx n).bringUp.contains d
        && s.cdReaches n d then
      (s.modCd n (fun x => { x with claimsOut := x.claimsOut ++ [d], bringUp := x.bringUp ++ [d] })).send
        (claimMsg n d (s.epoch n))
    else s) s
/-- FULL_COPY_DONE: the last part of die `n`'s full copy is acknowledged (R432, R443, R618). -/
def execFullCopyDone (n : Fin 2) (s : State) : Host.Outcome State Fault Refusal :=
  let m := 1 - n.val
  done (if (s.cdx n).copying && s.isActive n && s.linkUp 12 && (s.cdx m).mainUp then
    let back := s.partner n != 2
    let s := ((s.fullCopy n).setEpoch m (s.epoch n)).modCd n (fun x => { x with copying := false })
    let s := (s.wr (cd n) R.MIRROR_STAT_VALID 1).wr (cd m) R.MIRROR_STAT_VALID 1
    let s := (((s.setPartner n 2).setPartner m 3).setDie m 2).claimLate n
    if back then s.raise (cd n) R.PAIR_CAUSE_REJOINED else s
  else s)

/-! ### Sleeping partners -/

/-- SLEEP_HEARTBEAT_SEND of die `n`: the beat arrives, and its partner listens in windows again (R446, R447). -/
def execSleepHeartbeatSend (n : Fin 2) (s : State) : Host.Outcome State Fault Refusal :=
  done (if s.asleep n && !(s.cdx n).sleepSeized then
    (s.wr (cd (1 - n)) R.PAIR_STAT_PAIRLINE 1).modCd (1 - n) (fun x => { x with missing := false })
  else s)
/-- SLEEP_BEAT_MISS seen by die `n` (R447). -/
def execSleepBeatMiss (n : Fin 2) (s : State) : Host.Outcome State Fault Refusal :=
  done (if s.asleep n && !(s.cdx n).sleepSeized then
    ((s.inc (cd n) R.PAIR_CNT_HB_MISS).raise (cd n) R.PAIR_CAUSE_SLEEP_DRIFT).modCd n (fun x => { x with missing := true })
  else s)
/-- SLEEP_PARTNER_LOST seen by die `n`: the partner's always-on side is seized; the standby takes the role with the epoch
raised by 1 (R447, R448, R434). -/
def execSleepPartnerLost (n : Fin 2) (s : State) : Host.Outcome State Fault Refusal :=
  let b := cd n
  done (if s.asleep n && (s.cdx n).missing && !(s.cdx n).sleepSeized && (s.isActive n || s.epoch n != 65535) then
    let s := (((s.wr b R.PAIR_STAT_LAST_CAUSE 5).wr b R.PAIR_STAT_PAIRLINE 0).inc b R.PAIR_CNT_SEIZURES).inc b R.PAIR_STAT_SEIZED
    let s := (s.raise b R.PAIR_CAUSE_SEIZED_PARTNER).modCd n (fun x => { x with missing := false, seizing := true })
    if s.isActive n then s else (s.setRole n).setEpoch n (s.epoch n + 1)
  else s)
/-- SLEEP_SEIZE_RECEIVE by die `n`: beats, heartbeats and stage 0 stop (R448). -/
def execSleepSeizeReceive (n : Fin 2) (s : State) : Host.Outcome State Fault Refusal :=
  done (if s.asleep n && (s.cdx (1 - n)).seizing then
    ((s.endSeg n 0x200).stageZero n).modCd n (fun x => { x with sleepSeized := true })
  else s)

end Sys2Proof.Machine
end

