-- ==== Sys2Proof/Machine/Watch.lean ====
section
/-! DEFINITION. The end of boot (R77, R78, R80, R81, R287, R288, R442 to R444) and the watchdog (R455 to R463). -/

namespace Sys2Proof.Machine

/-! ### The program image -/

/-- Section entries of a firmware body: KIND, DIES, WINGS, reserved byte, DEST, LEN, DATA_OFF (R287). -/
def fwSecs (body : List Byte) : List (List Nat) :=
  (List.range (fieldAt body 0 4)).map (fun k =>
    let o := 0x10 + 16 * k
    [fieldAt body o 1, fieldAt body (o + 1) 1, fieldAt body (o + 2) 1, fieldAt body (o + 3) 1, fieldAt body (o + 4) 4,
      fieldAt body (o + 8) 4, fieldAt body (o + 12) 4])
/-- Bytes the section's target holds, from DEST on (R254, R33, R255). -/
def fwRoom (e : List Nat) : Nat :=
  if secAt e 0 = 1 then 0x10000 else if secAt e 0 = 2 then 0x1000000 else 0x8000
/-- A section passes the checks of R288; `data` is the size of the data region. -/
def fwSecOk (data : Nat) (e : List Nat) : Bool :=
  let wing := secAt e 0 == 3
  decide (1 ≤ secAt e 0 ∧ secAt e 0 ≤ 3) && secAt e 3 == 0 && (wing || (secAt e 1 == 0 && secAt e 2 == 0))
    && decide (secAt e 1 < 16) && secAt e 4 % 8 == 0 && secAt e 5 % 8 == 0 && decide (secAt e 4 + secAt e 5 ≤ fwRoom e)
    && (!wing || decide (secAt e 5 ≤ 0x2000)) && decide (secAt e 6 + secAt e 5 ≤ data)
/-- Bytes of the WINGTEXT sections. -/
def fwStaged (secs : List (List Nat)) : Nat := secs.foldl (fun a e => if secAt e 0 = 3 then a + secAt e 5 else a) 0
/-- A firmware body has the form of R287 and passes the checks of R288. -/
def fwBodyOk (body : List Byte) : Bool :=
  let count := fieldAt body 0 4
  decide (0x10 + 16 * count ≤ body.length) &&
    (let secs := fwSecs body
     zeroAt body 0xC 4 && decide (fieldAt body 4 4 ≤ 8191 ∧ fieldAt body 8 4 ≤ 8191)
      && secs.all (fwSecOk (body.length - (0x10 + 16 * count))) && decide (fwStaged secs ≤ 0x200000))
/-- The firmware object in a slot, with its VERSION, where its colophon is valid and not below FW_MIN; the second part
tells whether its digest and form are good too. -/
def State.fwCopy (s : State) (n : Nat) (p : Nat × Nat) : Option (List Byte × List Byte) :=
  s.flObject n p.1 p.2 2 0x200000
/-- The body of a firmware object is good (R72, R77, R288). -/
def fwGood (x : List Byte × List Byte) : Bool := digestOk x.1 x.2 && fwBodyOk x.2
/-- A section's data. -/
def fwData (body : List Byte) (e : List Nat) : List Byte :=
  (body.drop (0x10 + 16 * fieldAt body 0 4 + secAt e 6)).take (secAt e 5)
/-- One section is loaded (R288); `stage` for one that may be staged: a restart stages no WINGTEXT (R442). -/
def State.fwSection (s : State) (n : Nat) (stage : Bool) (data : List Byte) (e : List Nat) : State :=
  if secAt e 0 = 1 then
    (List.range 8).foldl (fun s k => s.stn (sqMem n k 0 + secAt e 4) data) s
  else if secAt e 0 = 2 then s.comWrite n 7 (secAt e 4) data
  else if stage then
    let o := (s.cdx n).wingText.foldl (fun a w => a + secAt w 3) 0xE00000
    (s.comWrite n 7 o data).modCd n (fun x => { x with
      wingText := x.wingText ++ [[secAt e 1, secAt e 2, secAt e 4, secAt e 5, o]] })
  else s
/-- A firmware body is loaded (R77, R288). -/
def State.fwLoad (s : State) (n : Nat) (body : List Byte) : State :=
  let stage := !(s.cdx n).restarted
  (fwSecs body).foldl (fun s e => s.fwSection n stage (fwData body e) e)
    (s.modCd n (fun x => { x with wingText := [], bootEntry := fieldAt body 4 4, nmiEntry := fieldAt body 8 4 }))

/-! ### Boot completes -/

/-- The watchdog of die `n` starts, with MODE and TIMEOUT of the WDT record (R455, R78). -/
def State.wdtStart (s : State) (n : Nat) : State :=
  let b := cd n
  let sh := (s.cdx n).shelf
  let s := (s.wrb b R.WDT_CFG_MODE sh.wdtTrap).wr b R.WDT_CFG_TIMEOUT sh.wdtMs
  ((s.wr b R.WDT_STAT_RUNNING 1).wr b R.WDT_STAT_LEFT (s.rd b R.WDT_CFG_TIMEOUT * 1000)).modCd n (fun x => { x with
    kicked := false })
/-- Sequencer `k` of die `n` starts at a word of its memory. -/
def State.sqStart (s : State) (n k entry : Nat) : State :=
  ((s.sqFresh n k).setPc (sqix n k) entry).setAgState (sqix n k) 1
/-- Two dies that have completed their boot are a pair: the active die gives its standby the full copy (R64 step 9,
R432). -/
def State.pairUp (s : State) : State :=
  match s.active with
  | some a =>
    if (s.cdx 0).locked && (s.cdx 1).locked then
      ((s.setPartner a 2).setPartner (1 - a) 3).modCd a (fun x => { x with copying := true })
    else s
  | none => s
/-- A die that completes its boot beside a partner that is already at work asks to rejoin, or takes the role where the
partner does not hold it (R443, R444, R449, R81). -/
def State.bootLate (s : State) (n : Nat) (restart : Bool) : State :=
  let m := 1 - n
  if s.isActive m && (s.cdx m).locked then s.modCd n (fun x => { x with joinOut := true })
  else if restart && !s.isActive m && !s.isActive n then
    (s.modCd n (fun x => { x with tkoStale := true })).takeover n
  else s
/-- PHASE of die `n` as its boot completes: step 10, or where its partner stands. -/
def State.bootPhase (s : State) (n : Nat) : Nat :=
  let p := s.phase (1 - n)
  if 4 ≤ p ∧ p ≤ 8 then p else 4
/-- SQ0 of die `n` starts verified firmware of VERSION `ver` from copy `sel` (R78, R455). -/
def State.bootComplete (s : State) (n sel ver : Nat) : State :=
  let x := s.cdx n
  let b := cd n
  let s := ((s.wr b R.BOOT_STAT_FW_SEL sel).wr b R.FW_VER_VERSION ver).wr b R.BOOT_STAT_PHASE (s.bootPhase n)
  let s := (s.wdtStart n).sqStart n 0 x.bootEntry
  let s := s.modCd n (fun x => { x with
    locked := true, hostTrain := !s.pins.perstN, restarted := false, sleepSeized := false, yielded := false })
  if x.restarted || x.sleepSeized || (sel == 3 && !s.isActive n) then s.bootLate n x.restarted
  else (s.setDie n 2).pairUp
/-- Copies in the order they are tried: the higher VERSION first, and A before B at a tie (R77). -/
def fwOrder (a b : Option (Nat × List Byte × List Byte)) : List (Nat × List Byte × List Byte) :=
  match a, b with
  | some x, some y => if colVersion x.2.1 < colVersion y.2.1 then [y, x] else [x, y]
  | some x, none => [x]
  | none, some y => [y]
  | none, none => []
/-- Marks copy `k` (1 A, 2 B) bad. -/
def State.fwBad (s : State) (n k : Nat) : State :=
  s.wr (cd n) (if k = 1 then R.BOOT_STAT_FW_A_BAD else R.BOOT_STAT_FW_B_BAD) 1
/-- The copies are tried in order (R77, R78); `err` is reported when none qualifies. -/
def State.fwTry (s : State) (n err : Nat) : List (Nat × List Byte × List Byte) → State
  | [] => (s.wr (cd n) R.BOOT_STAT_PHASE 14).wr (cd n) R.BOOT_STAT_ERR err
  | x :: l =>
    if fwGood x.2 then (s.fwLoad n x.2.2).bootComplete n x.1 (colVersion x.2.1)
    else (s.fwBad n x.1).fwTry n err l
/-- FIRMWARE_LOAD_DONE of die `n`: step 9 (R77, R78). -/
def execFirmwareLoadDone (n : Fin 2) (s : State) : Host.Outcome State Fault Refusal :=
  let a := s.fwCopy n (0, 0x100000)
  let b := s.fwCopy n (s.copyB n 0x100000 0x300000)
  let min := (s.cdx n).shelf.fwMin
  let keep := fun (o : Option (List Byte × List Byte)) k => match o with
    | some x => if min ≤ colVersion x.1 then some (k, x) else none
    | none => none
  let low := [a, b].any (fun o => match o with
    | some x => decide (colVersion x.1 < min) && digestOk x.1 x.2
    | none => false)
  done (if (s.cdx n).mainUp && s.phase n == 3 && !(s.cdx n).locked then
    let s := (s.wr (cd n) R.BOOT_STAT_FW_SEL 0).wr (cd n) R.FW_VER_VERSION 0
    let s := (s.wrb (cd n) R.BOOT_STAT_FW_A_BAD (keep a 1).isNone).wrb (cd n) R.BOOT_STAT_FW_B_BAD (keep b 2).isNone
    s.fwTry n (if low then 3 else 2) (fwOrder (keep a 1) (keep b 2))
  else s)
/-- The image in Commons, colophon first, passes as firmware (R80, R72, R77). -/
def State.hostFw (s : State) (n : Nat) : State × Option (List Byte × List Byte) :=
  let r := s.comRead n 7 0 256
  let c := r.2.1
  if r.1.colOk n c 2 0x1000000 && decide ((r.1.cdx n).shelf.fwMin ≤ colVersion c) then
    let r' := r.1.comRead n 7 256 (colLength c)
    (r'.1, if fwGood (c, r'.2.1) && !r.2.2 && !r'.2.2 then some (c, r'.2.1) else none)
  else (r.1, none)
/-- BOOT_CTRL.HOSTFW of die `n` (R80). -/
def State.hostFwVerify (s : State) (n : Nat) : State :=
  if (s.cdx n).mainUp && s.phase n == 14 then
    let r := s.hostFw n
    match r.2 with
    | some x => ((r.1.fwLoad n x.2).bootComplete n 3 (colVersion x.1)).wr (cd n) R.BOOT_CTRL_HOSTFW 0
    | none => (r.1.wr (cd n) R.BOOT_STAT_ERR 5).wr (cd n) R.BOOT_CTRL_HOSTFW 0
  else s
/-- HOSTFW_VERIFY (R80). -/
def execHostfwVerify (n : Fin 2) (s : State) : Host.Outcome State Fault Refusal := done (s.hostFwVerify n)

/-! ### The watchdog -/

/-- Expiry in HANDOVER mode (R460). -/
def State.wdtPulse (s : State) (n : Nat) : State :=
  let b := cd n
  let s := ((s.wr b R.WDT_STAT_EXPIRED 1).inc b R.WDT_CNT_EXPIRIES).wr b R.WDT_STAT_LEFT 0
  (s.wr b R.WDT_STAT_RUNNING 0).modCd n (fun x => { x with wdtOut := true })
/-- Expiry in TRAP mode (R461, R272). -/
def State.wdtTrap (s : State) (n : Nat) : State :=
  let b := cd n
  let pc := s.pc (sqix n 0)
  let s := ((s.wr b R.WDT_STAT_EXPIRED 1).inc b R.WDT_CNT_EXPIRIES).wr b R.WDT_STAT_LEFT 0
  let s := (((s.wr b R.TRAP_SAVE_VALID 1).wr b R.TRAP_SAVE_PC pc).wr b R.WDT_STAT_TRAPPING 1).wr b R.WDT_STAT_RUNNING 0
  s.sqStart n 0 (s.cdx n).nmiEntry
/-- The watchdog of die `n` counts. -/
def State.wdtRuns (s : State) (n : Nat) : Bool := s.flag (cd n) R.WDT_STAT_RUNNING && !s.flag (cd n) R.WDT_STAT_TRAPPING
/-- A write of WDT_KICK by a sequencer of die `n` (R456, R461). -/
def State.wdtKick (s : State) (n v : Nat) : State :=
  let b := cd n
  if !s.wdtRuns n then s
  else if v = 0x57A7 then
    (s.wr b R.WDT_STAT_LEFT (s.rd b R.WDT_CFG_TIMEOUT * 1000)).modCd n (fun x => { x with kicked := true })
  else
    let s := s.inc b R.WDT_CNT_BADKICK
    if s.flag b R.WDT_CFG_MODE then s.wdtTrap n else s.wdtPulse n
/-- WDT_KICK by a sequencer, by its number among both dies' sixteen (R456). -/
def execWdtKick (a : Fin 16) (v : Word) (s : State) : Host.Outcome State Fault Refusal :=
  done (s.wdtKick (a.val / 8) (v.toNat % 2 ^ 32))
/-- WDT_EXPIRY_HANDOVER of die `n` (R460). -/
def execWdtExpiryHandover (n : Fin 2) (s : State) : Host.Outcome State Fault Refusal :=
  done (if s.wdtRuns n && !s.flag (cd n) R.WDT_CFG_MODE && !s.flag (cd n) R.WDT_STAT_FROZEN then s.wdtPulse n else s)
/-- WDT_PULSE_END of die `n`, 10 us after its expiry (R460). -/
def execWdtPulseEnd (n : Fin 2) (s : State) : Host.Outcome State Fault Refusal :=
  done (if (s.cdx n).wdtOut then
    let alone := decide (s.partner n < 2)
    let s := s.modCd n (fun x => { x with wdtOut := false })
    if alone then s.mainDown n false else s
  else s)
/-- WDT_EXPIRY_TRAP of die `n` (R461). -/
def execWdtExpiryTrap (n : Fin 2) (s : State) : Host.Outcome State Fault Refusal :=
  done (if s.wdtRuns n && s.flag (cd n) R.WDT_CFG_MODE && !s.flag (cd n) R.WDT_STAT_FROZEN then s.wdtTrap n else s)
/-- WDT_HARD_TIMER_END of die `n`: its main islands reset, and it restarts (R461, R442). -/
def execWdtHardTimerEnd (n : Fin 2) (s : State) : Host.Outcome State Fault Refusal :=
  done (if s.flag (cd n) R.WDT_STAT_TRAPPING then s.mainDown n false else s)

end Sys2Proof.Machine
end

