-- ==== Sys2Proof/Machine/Thermal.lean ====
section
/-! DEFINITION. Rails that are lost (R702), thermal shutdown (R721, R729) and the low-power clock (R719). -/

namespace Sys2Proof.Machine

/-- The claims and the fixed entry of Stack die `d` are released, and requests that still wait are refused (R702, R552). -/
def State.lgDieOut (s : State) (n d : Nat) : State :=
  let s := (s.lgClaims n d (fun e => s.lgSt n e != 0)).foldl (fun s e =>
    let s := match (s.lgx n e).req with
      | some q => if s.lgSt n e = 2 then s else s.lgReply n e q 2
      | none => s
    (s.lgClear n e).lgUnwait n e) s
  let lv := s.rd (cd n) R.LG_LEVEL_LEVEL
  ((s.modLvl n d (fun _ => {})).wr (cd n) R.LG_LEVEL_LEVEL (putBits lv (4 * d + 3) (4 * d) 0)).fixedFree n d
/-- Stack die `d` is held in reset until the next wake (R702 steps 2 to 4, R721). -/
def State.sdLost (s : State) (d : Nat) : State :=
  let n := s.act
  let s := (s.setDie (2 + d) 1).sdOff d false
  (if s.active.isSome then s.lgDieOut n d else s).modCd n (fun x => { x with
    bringUp := x.bringUp.filter (· != d), claimsOut := x.claimsOut.filter (· != d),
    loadsOut := x.loadsOut.filter (fun w => w / 8 != d) })
/-- STATUS_WORD of rail `k`, if it answers: a rail that was good and is lost takes its die out (R702). -/
def State.railScan (s : State) (n k : Nat) (word : Option Nat) : State :=
  match word, s.railDie n k with
  | some w, some d =>
    let good := s.railState n k == 3
    let s := s.wr (cd n) (R.PMB_STAT_STATUS.at k) w
    if good && (bitOf w 11 || bitOf w 6) then (s.railsOff n d (some k)).sdLost d else s
  | _, _ => s
/-- PMB_ALERT_SCAN by die `n`, in DOZE or SERVE once no bring-up runs: the answers by record (R702, R726). -/
def execPmbAlertScan (n : Fin 2) (words : List (Option Nat)) (s : State) : Host.Outcome State Fault Refusal :=
  let go := s.isActive n && (s.cdx n).mainUp && decide (3 ≤ s.rd (cd n) R.PWR_STATE_CUR)
    && !s.flag (cd n) R.PWR_STATE_IN_TRANS && (List.range 16).all (fun k => s.railState n k != 2)
  done (if go then (List.range 16).foldl (fun s k => s.railScan n k (words.getD k none)) s else s)
/-- THERMAL_SHUTDOWN of a Control die (0, 1) or of Stack die `k - 2` (R721). -/
def execThermalShutdown (k : Fin 6) (s : State) : Host.Outcome State Fault Refusal :=
  done (if k.val < 2 then
    if (s.cdx k).mainUp then
      ((s.mainDown k false).modCd k (fun x => { x with hot := true })).inc (cd k) R.CD_TEMP_TSD_CNT
    else s
  else if (s.sdx (k - 2)).up then s.sdLost (k - 2) else s)
/-- THERMAL_COOLED: Control die `n` is below 110 C, and restarts if nothing else holds it (R721, R729). -/
def execThermalCooled (n : Fin 2) (s : State) : Host.Outcome State Fault Refusal :=
  done (if (s.cdx n).hot then (s.modCd n (fun x => { x with hot := false })).dieRestart n else s)

/-- The always-on island of die `n` takes LPCLK_IN, or its RC oscillator, as its clock (R719). -/
def State.lpclk (s : State) (n : Nat) (on : Bool) : State :=
  if s.pins.vaon then (s.clkShow (clkLp n) on).wrb (cd n) R.PAD_STAT_LPCLK on else s
/-- LPCLK_LOSS seen by die `n` (R719). -/
def execLpclkLoss (n : Fin 2) (s : State) : Host.Outcome State Fault Refusal := done (s.lpclk n false)
/-- LPCLK_RETURN seen by die `n` (R719). -/
def execLpclkReturn (n : Fin 2) (s : State) : Host.Outcome State Fault Refusal := done (s.lpclk n true)

end Sys2Proof.Machine
end

