-- ==== Sys2Proof/Machine/WingRegs.lean ====
section
/-! DEFINITION. Reads and writes of the registers of a wing and of a Stack die (R37), with the live values and the
actions of the registers that have them. -/

namespace Sys2Proof.Machine

/-- A 32-bit read of offset `o` of wing `w`'s block: SEM_VAL is live, CREQ_POP pops (R195, R199). -/
def State.wingRead (s : State) (d w o : Nat) : State × Nat :=
  let b := wg d w
  if o = R.SEM_VAL_VALUE.off then (s, Store.get 0 s.sems (wsem d w (s.rd b R.SEM_SEL_SEM)))
  else if o = R.CREQ_POP_VALID.off then s.creqPop d w
  else (s, s.regRead b wingRegs o)

/-- A 32-bit write of offset `o` of wing `w`'s block, under the access codes, with its action (R99, R128, R131, R151,
R179). -/
def State.wingWrite (s : State) (d w o v : Nat) : State :=
  let b := wg d w
  if o = R.FOLIO_CTRL_RETRY.off then
    let s := (s.wrb b R.FOLIO_CTRL_SCRUB_CE_ACT (bitOf v 2)).wrb b R.FOLIO_CTRL_AUTO_READMIT (bitOf v 1)
    let s := s.wrb b R.FOLIO_CTRL_AUTO_TAKEOVER (bitOf v 0)
    let s := if bitOf v 9 then s.retryWrite d w else s
    if bitOf v 8 then s.readmitWrite d w else s
  else if 0x40 ≤ o ∧ o < 0x78 then s.leafPrec d w ((o - 0x40) / 4) v
  else if o = R.SHIST_WR_ALL.off then s.histWrite d w v
  else if o = R.SLOT_CTRL_LOAD.off then (if bitOf v R.SLOT_CTRL_LOAD.lo then s.slotLoad d w else s)
  else s.regStore b wingRegs false o v

/-- A 32-bit read of offset `o` of Stack die `d`'s own registers; SD_SUM is live (R666). -/
def State.sdRead (s : State) (d o : Nat) : Nat :=
  if o = R.SD_SUM_WO.off then s.sdSum d else s.regRead (sd d) sdRegs o

/-- A 32-bit write of offset `o` of Stack die `d`'s own registers by unit `unit` of die `n`: KV_CMD and LEVEL only from
the die that holds the accepted epoch (R204, LEVEL). The answer is in `rsp`. -/
def State.sdWrite (s : State) (n unit d o v : Nat) : State :=
  if o = R.KV_CMD_OP.off then s.kvWrite n unit d (bits v R.KV_CMD_OP.hi R.KV_CMD_OP.lo) (bits v R.KV_CMD_CARREL.hi R.KV_CMD_CARREL.lo)
  else if o = R.LEVEL_LEVEL.off then
    if s.rd (sd d) R.SD_EPOCH_NODE = cdNode n then
      { (s.wr (sd d) R.LEVEL_LEVEL v).wr (sd d) R.LEVEL_IN_FORCE (bits v R.LEVEL_LEVEL.hi R.LEVEL_LEVEL.lo) with rsp := .ok 0 }
    else { s.addrErr n 4 (unitCode n unit) true (logAddr n unit (0x20000 + 0x8000 * d + o) (sd d + o)) with rsp := .error 4 }
  else { s.regStore (sd d) sdRegs false o v with rsp := .ok 0 }

end Sys2Proof.Machine
end

