-- ==== Sys2Proof/Machine/CdRegs.lean ====
section
/-! DEFINITION. Reads and writes of the registers of a Control die (R4 to R13, R38, R684): the fields under their access
codes, the values that are live, the registers whose write acts, and the writes that the mirror copies (R430). -/

namespace Sys2Proof.Machine

/-- Band levels of the frames of the stage-0 history, newest first, as FORCE2 takes them (R574). -/
abbrev BusHist := List (List Nat)

/-! ### Blocks -/

/-- The blocks of R684, as offset ranges of region 0x3 and BAR0. -/
def cdBlocks : List (Nat × Nat) := [
  (0x0, 0x54), (0x60, 0x70), (0x100, 0x148), (0x180, 0x194), (0x194, 0x19C), (0x200, 0x288), (0x2A0, 0x300), (0x300, 0x380),
  (0x1000, 0x1030), (0x2000, 0x2014), (0x3000, 0x3018), (0x4000, 0x4200), (0x5000, 0x5340), (0x6000, 0x6514),
  (0x7000, 0x7500), (0x8000, 0x8034), (0x10000, 0x10800), (0x50000, 0x50108), (0x60000, 0x60018), (0x70000, 0x70004)]
/-- An offset lies in a block. -/
def inBlock (o : Nat) : Bool := cdBlocks.any (fun b => decide (b.1 ≤ o ∧ o < b.2))

/-! ### Reads -/

/-- A word of a byte string shown by consecutive registers. -/
def wordOf (l : List Byte) (i : Nat) : Nat := fromBytes ((l.drop (4 * i)).take 4)
/-- DBG_RUN (R676): the sequencers that step, and those that are halted or asked to halt. -/
def State.dbgRunRead (s : State) (n : Nat) : Nat :=
  if !s.dbgOpen n then 0
  else
    let mask := fun (p : Nat → Bool) => (List.range 8).foldl (fun a k => if p k then a + 2 ^ k else a) 0
    mask (fun k => (s.agent (sqix n k)).step != 0) * 65536
      + mask (fun k => s.agState (sqix n k) == 5 || (s.agent (sqix n k)).dbgHalt)
/-- INT_STAT: the pin as sensed, and the pending groups (R669). -/
def State.intStatRead (s : State) (n v : Nat) : Nat :=
  let pin := s.flag (cd 0) R.INT_STAT_ASSERTED || s.flag (cd 1) R.INT_STAT_ASSERTED
  putBits (putBits v 30 30 (b2n pin)) 15 0 (s.gsr n &&& s.rd (cd n) R.INT_EN_EN)
/-- GPIO_IN: pins that the active die drives show its levels; the others are inputs, whose levels are free values. -/
def State.gpioRead (s : State) : State × Nat :=
  let r := s.draw 16
  let oe := s.rd (cd s.act) R.GPIO_OE_OE
  (r.1, (s.rd (cd s.act) R.GPIO_OUT_OUT &&& oe) + maskOff r.2 oe)
/-- CD_TEMP: a measured temperature, a free value; WARN above 110 C, in 1/16 C. -/
def State.tempRead (s : State) (n : Nat) : State × Nat :=
  let r := s.draw 16
  (r.1, b2n (decide (sext 16 r.2 > 1760)) * 2 ^ 31 + s.rd (cd n) R.CD_TEMP_TSD_CNT * 65536 + r.2)
/-- WDT_STAT.LEFT while the watchdog runs: a free value that has not risen (R457). -/
def State.wdtRead (s : State) (n v : Nat) : State × Nat :=
  let left := s.rd (cd n) R.WDT_STAT_LEFT
  if s.flag (cd n) R.WDT_STAT_RUNNING && !s.flag (cd n) R.WDT_STAT_FROZEN then
    let r := s.draw 24
    let s := r.1.wr (cd n) R.WDT_STAT_LEFT (r.2 % (left + 1))
    (s, putBits v 23 0 (s.rd (cd n) R.WDT_STAT_LEFT))
  else (s, v)

/-- PAIR_CTRL: actions that have not ended read 1 (R437, R439). -/
def State.pairCtrlRead (s : State) (n : Nat) : Nat :=
  8 * b2n (s.cdx n).handover + 4 * b2n (s.isActive n && (s.cdx n).seizing) + 2 * s.rd (cd n) R.PAIR_CTRL_REJOIN_AUTO
/-- The wake pin in PAD_STAT is a level from outside: a free value. -/
def State.padRead (s : State) (v : Nat) : State × Nat := let r := s.draw 1; (r.1, putBits v 6 6 r.2)

/-- A 32-bit read of offset `o` of the registers of Control die `n`. -/
def State.cdRead (s : State) (n o : Nat) : State × Nat :=
  let v := s.regRead (cd n) cdRegs o
  if o = 0x1000 then (s, s.gsr n)
  else if o = 0x100C then (s, s.intStatRead n v)
  else if o = 0x308 then s.gpioRead
  else if o = 0x320 then s.padRead v
  else if o = 0x324 then s.tempRead n
  else if o = 0x18C then
    (s, Store.get 0 (s.cdx n).parks (256 * s.rd (cd n) R.PARK_SEL_DIE + s.rd (cd n) R.PARK_SEL_CARREL))
  else if o = 0x2008 then s.wdtRead n v
  else if o = 0x3004 then (s, s.pairCtrlRead n)
  else if 0x5040 ≤ o ∧ o < 0x5080 then (s, wordOf idPub ((o - 0x5040) / 4))
  else if 0x5200 ≤ o ∧ o < 0x5220 then (s, wordOf (s.dbgChal n) ((o - 0x5200) / 4))
  else if o = 0x6214 then s.kwPop n
  else if o = 0x70000 then (s, s.dbgRunRead n)
  else (s, v)

/-! ### Writes -/

/-- Cause bits in `m` that were 1, that the write of `v` clears, and that the hardware sets in the same cycle: they stay
1, and COUNT rises by one (R11, R672). `old` is the state before the write. -/
def State.sameSet (s old : State) (b : Nat) (l : List RegDesc) (o v m : Nat) : State :=
  match findReg l o with
  | some (r, i) =>
    let cs := r.fields.filter (fun p => p.2 = .w1c)
    let hit := fun (p : Fld × Acc) => old.rd b (p.1.at i) &&& bits (v &&& m) p.1.hi p.1.lo
    if r.fields.any (fun p => p.1.hi = 31 ∧ p.1.lo = 24 ∧ p.2 = .ro) && cs.any (fun p => hit p != 0) then
      (cs.foldl (fun s p => s.wr b (p.1.at i) (s.rd b (p.1.at i) ||| hit p)) s).inc b (cnt32 ⟨r.off, 31, 24, 0, r.stride⟩)
    else s
  | none => s
/-- A write to a register by its access codes, with `m` as in `sameSet`. -/
def State.plainWrite (s : State) (b : Nat) (l : List RegDesc) (lock : Bool) (o v m : Nat) : State :=
  (s.regStore b l lock o v).sameSet s b l o v m
/-- A write of the registers of die `n` by their access codes; RWL fields lock at boot completion (R10). -/
def State.cdPlain (s : State) (n o v m : Nat) : State := s.plainWrite (cd n) cdRegs (s.cdx n).locked o v m

/-- Offsets whose writes the mirror copies (R44, R430, R431). -/
def mirrorOff (o : Nat) : Bool :=
  decide (0x20 ≤ o ∧ o < 0x40) || o == 0x180 || o == 0x1004 || o == 0x1008 || decide (0x4020 ≤ o ∧ o < 0x402C)
    || o == 0x10000 || o == 0x10180 || o == 0x10190
/-- The mirror copies a write of the active die. -/
def State.mirWrite (s : State) (n o : Nat) : State :=
  if mirrorOff o && s.isActive n && s.mirOn n then s.copyRegs n (1 - n) [(o, o + 4)] else s

/-- PAIR_CTRL (R437, R439, R443). -/
def State.pairCtrl (s : State) (n v : Nat) : State :=
  let s := s.wrb (cd n) R.PAIR_CTRL_REJOIN_AUTO (bitOf v 1)
  let s := if bitOf v 0 then s.pairRejoin n else s
  let s := if bitOf v 3 then s.pairHandover n else s
  if bitOf v 2 then s.pairSeize n else s
/-- BOOT_CTRL (R80, R88). -/
def State.bootCtrl (s : State) (n v : Nat) : State :=
  let s := if bitOf v 1 then s.hostFwVerify n else s
  if bitOf v 0 then s.fbStart n else s
/-- WIMG_CTRL: ABORT wins over START in one write (R91). -/
def State.wimgCtrl (s : State) (n v : Nat) (hostErr : Bool) : State :=
  if bitOf v 1 then s.wimgAbort n else if bitOf v 0 then s.wimgStart n hostErr else s
/-- FL_CMD: OP 1 to 4 start an operation. -/
def State.flWrite (s : State) (n v : Nat) : State :=
  if 1 ≤ bits v 3 0 ∧ bits v 3 0 ≤ 4 then s.flCmd n (bits v 3 0) (bits v 17 17) (bits v 16 8)
  else if s.flag (cd n) R.FL_CMD_BUSY then s
  else (s.wr (cd n) R.FL_CMD_CS (bits v 17 17)).wr (cd n) R.FL_CMD_LEN (bits v 16 8)
/-- LS_CTRL: LISTEN_EN cleared ends an open segment (R585); FORCE2 acts (R573). -/
def State.lsCtrl (s : State) (n v : Nat) (hist : BusHist) : State :=
  let was := s.flag (cd n) R.LS_CTRL_LISTEN_EN
  let s := s.cdPlain n 0x6000 (maskOff v 0x100) 0
  let s := if was && !bitOf v 0 then s.endSeg n 0x200 else s
  if bitOf v 8 then s.force2 n hist else s
/-- LS_MIC: a PDM_RATE of 3 is ignored; a new rate or stage-0 microphone restarts the decimators (R568, R572). -/
def State.lsMic (s : State) (n v : Nat) : State :=
  let rate := s.rd (cd n) R.LS_MIC_PDM_RATE
  let mic := s.rd (cd n) R.LS_MIC_STAGE0_MIC
  let s := s.cdPlain n 0x6008 v 0
  let s := if bits v 21 20 = 3 then s.wr (cd n) R.LS_MIC_PDM_RATE rate else s
  if s.rd (cd n) R.LS_MIC_PDM_RATE = rate ∧ s.rd (cd n) R.LS_MIC_STAGE0_MIC = mic then s
  else s.modAud n (fun x => { x with skip := 2 })
/-- CAP_CTRL: a size outside 4 to 11 leaves EN 0. -/
def State.capCtrl (s : State) (n v : Nat) : State :=
  let s := s.cdPlain n 0x6400 v 0
  if 4 ≤ bits v 8 4 ∧ bits v 8 4 ≤ 11 then s else s.wr (cd n) R.CAP_CTRL_EN 0
/-- A write of the listening block (chapter 15). -/
def State.lsWrite (s : State) (n o v m : Nat) (hist : BusHist) : State :=
  if o = 0x6000 then s.lsCtrl n v hist
  else if o = 0x6008 then s.lsMic n v
  else if o = 0x6210 then
    let f := s.rd (cd n) R.KW_CFG_FEAT_FRAMES
    let s := s.cdPlain n o v m
    if 25 < bits v 20 16 then s.wr (cd n) R.KW_CFG_FEAT_FRAMES f else s
  else if 0x6300 ≤ o ∧ o < 0x6340 ∧ o % 8 = 0 then
    let f := R.NET_A_RG_COUNT.at ((o - 0x6300) / 8)
    let c := s.rd (cd n) f
    let s := s.cdPlain n o v m
    if 32 < bits v 21 16 then s.wr (cd n) f c else s
  else if o = 0x6344 then
    let s := s.cdPlain n o (v % 2 ^ 31) 0
    if bitOf v 31 then s.pocketLoad n (bits v 21 21) (bits v 20 11) (bits v 10 0) else s
  else if o = 0x6400 then s.capCtrl n v
  else if o = 0x6410 then s.capCons n v
  else if o = 0x6500 then s.pbCtrl n v
  else if o = 0x6508 then s.pbProd n v
  else s.cdPlain n o v m

/-- A write of the security block (chapter 16). -/
def State.secWrite (s : State) (n o v m : Nat) : State :=
  if o = 0x5010 then s.lcCmd n (bits v 31 16) (bits v 2 0)
  else if o = 0x5240 then
    let s := s.wr (cd n) R.DBG_CTRL_SLOT (bits v 20 16)
    if bitOf v 31 then s.dbgGo n else s
  else if o = 0x5308 then
    if s.flag (cd n) R.MAC_CTRL_BUSY then s
    else
      let s := s.wr (cd n) R.MAC_CTRL_SLOT (bits v 20 16)
      if bitOf v 31 then s.macGo n else s
  else s.cdPlain n o v m

/-- Q_CMD, CANCEL_POS and CARREL_CMD (R395, R410, R412, R413), and the rest of the catalogue block. -/
def State.catWrite (s : State) (n o v m : Nat) : State :=
  let s :=
    if o = 0x10014 then (if bits v 1 0 = 1 then s.qRead n else if bits v 1 0 = 2 then s.qWrite n else s)
    else if o = 0x10044 then
      if s.isActive n && !s.flag (cd n) R.CANCEL_STAT_BUSY then
        let r := s.catCancel n (s.rd (cd n) R.CANCEL_Q_QUEUE) (bits v 15 0)
        r.1.wr (cd n) R.CANCEL_STAT_RESULT r.2
      else s
    else if o = 0x10060 then
      (if bits v 9 8 = 1 then s.carrelCreate n (bits v 7 0) (bits v 14 12)
        else if bits v 9 8 = 2 then s.carrelRelease n (bits v 7 0) else s)
    else (s.cdPlain n o v m).mirWrite n o
  s.catSync n

/-- LB_LOCK(d), LB_HBTEST and the rest of the bridge block. -/
def State.lbRegWrite (s : State) (n init o v m : Nat) : State :=
  if o = 0x8020 ∨ o = 0x8024 then
    let d := (o - 0x8020) / 4
    let s := if bitOf v 1 then s.lbLockRel n d init else s
    if bitOf v 0 then s.lbLockReq n d init else s
  else if o = 0x8030 then
    let s := if bitOf v 0 then s.hbTestHold n 0 else s
    if bitOf v 1 then s.hbTestHold n 1 else s
  else s.cdPlain n o v m

/-- DMA_CTRL(c): the fields are stored, then GO and ABORT act (R674, R675, R683). -/
def State.dmaWrite (s : State) (n c v moved : Nat) : State :=
  (s.cdPlain n (0x50014 + 32 * c) (v % 2 ^ 30) 0).dmaCtrl n c (bitOf v 31) (bitOf v 30) moved
/-- DBG_RUN (R676): halts, then resumptions, then steps; ignored while debug is closed. -/
def State.dbgRunWrite (s : State) (n v : Nat) : State :=
  let each := fun (s : State) (m : Nat) (f : State → Nat → State) =>
    (List.range 8).foldl (fun s k => if bitOf m k then f s k else s) s
  let s := each s (bits v 7 0) (fun s k => s.dbgHaltSq n k)
  let s := each s (bits v 15 8) (fun s k => s.dbgResumeSq n k)
  each s (bits v 23 16) (fun s k => s.dbgStepSq n k)

/-- A write below offset 0x5000. -/
def State.sysWrite (s : State) (n init o v m : Nat) (hostErr : Bool) : State :=
  if o = 0x44 then
    if bitOf v 8 then s.pwrReq n (bits v 2 0) else s.wr (cd n) R.PWR_REQ_TARGET (bits v 2 0)
  else if o = 0x1010 then s.intEoi n
  else if o = 0x2004 then (if init / 16 = n + 1 ∧ init % 16 < 8 then s.wdtKick n v else s)
  else if o = 0x3004 then s.pairCtrl n v
  else if o = 0x4018 then s.bootCtrl n v
  else if o = 0x402C then s.wimgCtrl n v hostErr
  else if o = 0x4044 then s.flWrite n v
  else (s.cdPlain n o v m).mirWrite n o

/-- A 32-bit write of offset `o` of the registers of Control die `n` by initiator `init`. -/
def State.cdWrite (s : State) (n init o v m : Nat) (hostErr : Bool) (moved : Nat) (hist : BusHist) : State :=
  if !(s.cdx n).mainUp then s
  else if o < 0x5000 then s.sysWrite n init o v m hostErr
  else if o < 0x6000 then s.secWrite n o v m
  else if o < 0x7000 then s.lsWrite n o v m hist
  else if o = 0x7004 then s.lgSoftWrite n v
  else if o = 0x7008 then s.lgSagWrite n v
  else if 0x8000 ≤ o ∧ o < 0x8034 then s.lbRegWrite n init o v m
  else if 0x10000 ≤ o ∧ o < 0x10800 then s.catWrite n o v m
  else if 0x50000 ≤ o ∧ o < 0x50100 ∧ o % 32 = 0x14 then s.dmaWrite n ((o - 0x50000) / 32) v moved
  else if o = 0x70000 then s.dbgRunWrite n v
  else s.cdPlain n o v m

end Sys2Proof.Machine
end

