-- ==== Sys2Proof/Machine/Vector.lean ====
section
/-! DEFINITION. The vector unit (chapter 9): registers of 64 lanes with a poison bit per half, loads and stores,
BF16 and I16 arithmetic, reductions, functions, conversions and table look-up. -/

namespace Sys2Proof.Machine

/-- The lanes of a v register. -/
def State.vR (s : State) (a i : Nat) : List Nat :=
  match Store.get [] (s.agent a).v i with
  | [] => List.replicate 64 0
  | l => l
/-- The poison bits of a v register: bit h for half h. -/
def State.vP (s : State) (a i : Nat) : Nat := Store.get 0 (s.agent a).vp i
/-- Writes a v register and its poison bits. -/
def State.vPut (s : State) (a i : Nat) (l : List Nat) (p : Nat) : State :=
  s.modAgent a (fun g => { g with
    v := Store.put [] g.v i (if l.all (· == 0) then [] else l), vp := Store.put 0 g.vp i (p % 4) })

/-- Lane values written by an instruction: lane `i` gets `f i` where that is some value. The poison bit of each half
written is `src`, the OR over the source halves read, with the half's own bit where a lane of it stays (R309). -/
def State.vWrite (s : State) (a i : Nat) (f : Nat → Option Nat) (src : Bool) : State :=
  let old := s.vR a i
  let op := s.vP a i
  let half := fun h =>
    let ls := (List.range 32).map (32 * h + ·)
    if ls.all (fun l => (f l).isNone) then bitOf op h
    else src || (bitOf op h && ls.any (fun l => (f l).isNone))
  s.vPut a i ((List.range 64).map (fun l => (f l).getD (old.getD l 0) % 65536)) (b2n (half 0) + 2 * b2n (half 1))

/-- Poison in one of the halves that hold lanes below `n` of register `i`. -/
def State.vBad (s : State) (a i n : Nat) : Bool :=
  (decide (0 < n) && bitOf (s.vP a i) 0) || (decide (32 < n) && bitOf (s.vP a i) 1)

/-- The result of a vector instruction: NONFINITE counts (VEC_CNT, R308). -/
def State.vecEnd (s : State) (d w : Nat) (i : EngIns) (nf : Bool) : State × EngRun :=
  (if nf then s.inc (wg d w) R.VEC_CNT_NONFIN else s, { ins := i, estat := 4 * b2n nf })

/-! ### Loads and stores -/

/-- The lines of a VLD or VST: none where a check fails (R310, R184). -/
def vlines (d w : Nat) (i : EngIns) : Option (List Nat) :=
  let ea := (i.vb + i.vc) % 2 ^ 40
  let stride := if bits i.ef 22 21 = 1 then bits i.ext 20 0 else 1
  let n := bits i.ef 20 19
  let ls := (List.range n).map (fun j => ea + 64 * j * stride)
  if ea % 64 ≠ 0 ∨ 2 ^ 20 < stride ∨ ls.any (fun x => !ownBytes d w x 64) then none
  else some (ls.map (fun x => (x - rrAddr d w 0) / 64))

/-- The 32 lanes of a line. -/
def lineLanes (data : List Byte) : List Nat := bfElems data
/-- VLD starts (R310). -/
def State.vldStart (s : State) (d w a : Nat) (i : EngIns) : State × EngRun :=
  match vlines d w i with
  | none => (s, { ins := i, fault := 3 })
  | some ls =>
    let bad := ls.map (fun l => s.lineMarked d w l)
    let data := ls.map (fun l => s.lineData d w l)
    let s := ls.foldl (fun s l => s.lineCheck d w l 3) s
    if ls = [] then (s, { ins := i })
    else if bits i.ef 22 21 = 2 then
      let by_ := data.headD []
      let p := b2n (bad.headD false)
      (s.vPut a i.a ((List.range 64).map (fun l => wrapTo 16 (sext 8 (by_.getD l 0).toNat))) (3 * p), { ins := i })
    else
      let lanes := data.flatMap lineLanes
      let old := s.vR a i.a
      let p1 := if ls.length = 2 then bad.getD 1 false else bitOf (s.vP a i.a) 1
      (s.vPut a i.a ((List.range 64).map (fun l => lanes.getD l (old.getD l 0))) (b2n (bad.headD false) + 2 * b2n p1),
        { ins := i })
/-- VST starts (R310). -/
def State.vstStart (s : State) (d w a : Nat) (i : EngIns) : State × EngRun :=
  match vlines d w i with
  | none => (s, { ins := i, fault := 3 })
  | some ls =>
    ((ls.zipIdx).foldl (fun s x =>
      let bad := bitOf (s.vP a i.a) x.2
      let s := s.lineWrite d w x.1 0 (((s.vR a i.a).drop (32 * x.2)).take 32 |>.flatMap (toBytes 2)) bad
      if bad then s.inc (wg d w) R.VEC_CNT_POISONED else s) s, { ins := i })

/-! ### Arithmetic -/

/-- A product shifted with rounding (R312). -/
def rsh (x : Int) (n : Nat) : Int := if n = 0 then x else (x + ((2 ^ (n - 1) : Nat) : Int)) / ((2 ^ n : Nat) : Int)
/-- An I16 lane. -/
def i16 (x : Nat) : Int := sext 16 x
/-- A saturated I16 lane. -/
def toI16 (x : Int) : Nat := wrapTo 16 (clampS 16 x)
/-- The sign of a BF16 sum that is exactly zero: + where nothing added is negative; the spec states none otherwise,
and it is a free value (notes/assumptions/4.md). -/
def zeroSign (x y : Fv) (free : Bool) : Bool := (x.neg || y.neg) && free
/-- The larger of two BF16 values; a NaN operand gives a NaN, +0 is larger than -0 (R312). -/
def fmaxBf (x y : Fv) : Fv :=
  match x, y with
  | .nan, _ => .nan
  | _, .nan => .nan
  | _, _ =>
    let diff := match x, y with
      | .inf a, .inf b => decide (a ≠ b ∧ b = true)
      | .inf a, _ => !a
      | _, .inf b => b
      | _, _ => match x.add y.negate false with
        | .num n m _ => if m = 0 then !x.neg else !n
        | _ => true
    if diff then x else y

/-- One BF16 lane: 0x62 VADD, 0x63 VMUL, 0x64 VFMA, 0x65 VMAX. -/
def bfLane (op : Nat) (a b d : Nat) (free : Bool) : Nat :=
  let x := bf a
  let y := bf b
  if op = 0x62 then (x.add y (zeroSign x y free)).toBf
  else if op = 0x63 then (x.mul y).toBf
  else if op = 0x64 then
    let p := x.mul y
    (p.add (bf d) (zeroSign p (bf d) free)).toBf
  else (fmaxBf x y).toBf
/-- One I16 lane. -/
def i16Lane (op sh : Nat) (a b d : Nat) : Nat :=
  if op = 0x62 then toI16 (i16 a + i16 b)
  else if op = 0x63 then toI16 (rsh (i16 a * i16 b) sh)
  else if op = 0x64 then toI16 (i16 d + rsh (i16 a * i16 b) sh)
  else toI16 (max (i16 a) (i16 b))

/-- VADD, VMUL, VFMA and VMAX start (R312). -/
def State.arithStart (s : State) (d w a : Nat) (i : EngIns) : State × EngRun :=
  let n := bits i.ef 22 16
  let ty := bitOf i.ef 15
  let sb := bitOf i.ef 14
  let va := s.vR a i.b
  let vb := if sb then List.replicate 64 (i.vc % 65536) else s.vR a i.c
  let vd := s.vR a i.a
  let free := fun l => (Config.freeBits (s.fresh + l)).toNat % 2 == 1
  let lane := fun l =>
    if ty then i16Lane i.op (bits i.ef 13 10) (va.getD l 0) (vb.getD l 0) (vd.getD l 0)
    else bfLane i.op (va.getD l 0) (vb.getD l 0) (vd.getD l 0) (free l)
  let res := (List.range 64).map (fun l => if l < n then some (lane l) else none)
  let src := s.vBad a i.b n || (!sb && s.vBad a i.c n) || (i.op == 0x64 && s.vBad a i.a n)
  let nf := !ty && res.any (fun r => r.any nonfin16)
  let s := if ty then s else { s with fresh := s.fresh + 64 }
  (s.vWrite a i.a (fun l => res.getD l none) src).vecEnd d w i nf

/-! ### Reductions and functions -/

/-- One level of the FP32 tree of VSUM (R313). -/
def pairSum : List Nat → List Nat
  | x :: y :: r => add32 x y :: pairSum r
  | l => l
/-- VSUM starts (R313). -/
def State.vsumStart (s : State) (d w a : Nat) (i : EngIns) : State × EngRun :=
  let n := bits i.ef 22 16
  let ty := bitOf i.ef 15
  let wide := bitOf i.ef 14
  let v := s.vR a i.b
  let lanes := (List.range 64).map (fun l => if l < n then v.getD l 0 else 0)
  let total : Nat :=
    if ty then wrapTo 32 (lanes.foldl (fun t x => t + i16 x) 0)
    else ((List.range 6).foldl (fun l _ => pairSum l) (lanes.map (fun x => (bf x).to32))).headD 0
  let narrow := if ty then toI16 (sext 32 total) else (f32 total).toBf
  let nf := !ty && (if wide then nonfin32 total else nonfin16 narrow)
  (s.vWrite a i.a (fun l =>
    if wide then (if l = 0 then some (total % 65536) else if l = 1 then some (total / 65536) else none)
    else if l = 0 then some narrow else none) (s.vBad a i.b n)).vecEnd d w i nf

/-- VEXP 0x67, VRSQ 0x68 and VRCP 0x69 start (R314). -/
def State.funcStart (s : State) (d w a : Nat) (i : EngIns) : State × EngRun :=
  let n := bits i.ef 22 16
  let v := s.vR a i.b
  let g := if i.op = 0x67 then fExp else if i.op = 0x68 then fRsq else fRcp
  let res := (List.range 64).map (fun l => if l < n then some ((g (bf (v.getD l 0))).toBf) else none)
  (s.vWrite a i.a (fun l => res.getD l none) (s.vBad a i.b n)).vecEnd d w i (res.any (fun r => r.any nonfin16))

/-! ### Conversions -/

/-- BF16 to I16 (R315): the value, and whether it sets NONFINITE. -/
def bfToI16 (x : Nat) (sh : Int) : Nat × Bool :=
  match bf x with
  | .nan => (0, true)
  | .inf n => (if n then 0x8000 else 0x7FFF, true)
  | y => (toI16 (y.scale sh).rne, false)
/-- FP32 with subnormals as zero. -/
def f32z (x : Nat) : Fv := decodeF 24 true x

/-- VCVT starts, with its operation (R315). -/
def State.vcvtStart (s : State) (d w a : Nat) (i : EngIns) : State × EngRun :=
  let n := bits i.ef 22 16
  let op := bits i.ef 15 14
  let sh := sext 5 (bits i.ef 13 9)
  let h := 32 * bits i.ef 8 8
  let v := s.vR a i.b
  let half := h / 32
  let src := if op = 3 then decide (0 < n) && bitOf (s.vP a i.b) half
    else if op = 2 then s.vBad a i.b (2 * n) else s.vBad a i.b n
  let one : Nat → Nat × Bool := fun k =>
    if op = 0 then bfToI16 (v.getD k 0) sh
    else if op = 1 then
      let r := ((dyadic (i16 (v.getD k 0)) 0 false).scale sh).toBf
      (r, nonfin16 r)
    else if op = 2 then
      let r := ((f32z (v.getD (2 * k) 0 + 65536 * v.getD (2 * k + 1) 0)).scale sh).toBf
      (r, nonfin16 r)
    else
      let r := ((bf (v.getD (h + k) 0)).scale sh).encode 24 true
      (r, nonfin32 r)
  let res := (List.range n).map one
  let f : Nat → Option Nat := fun l =>
    if op = 2 then (if h ≤ l ∧ l < h + n then some (res.getD (l - h) (0, false)).1 else none)
    else if op = 3 then
      if l < 2 * n then
        let x := (res.getD (l / 2) (0, false)).1
        some (if l % 2 = 0 then x % 65536 else x / 65536)
      else none
    else if l < n then some (res.getD l (0, false)).1 else none
  (s.vWrite a i.a f src).vecEnd d w i (res.any (·.2))

/-- One byte of VQNT (R316). -/
def qntByte (x sc : Nat) : Nat × Bool :=
  match (bf x).mul (bf sc) with
  | .nan => (0, true)
  | .inf n => (wrapTo 8 (if n then -127 else 127), false)
  | y => (wrapTo 8 (max (-127) (min 127 y.rne)), false)
/-- VQNT starts (R316). -/
def State.vqntStart (s : State) (d w a : Nat) (i : EngIns) : State × EngRun :=
  let n := bits i.ef 22 16
  let sb := bitOf i.ef 14
  let h := 32 * bits i.ef 8 8
  let v := s.vR a i.b
  let sc := s.vR a i.c
  let res := (List.range n).map (fun k => qntByte (v.getD k 0) (if sb then i.vc % 65536 else sc.getD k 0))
  let byte := fun k => (res.getD k (0, false)).1
  let f : Nat → Option Nat := fun l =>
    if h ≤ l ∧ l < h + (n + 1) / 2 then
      let k := 2 * (l - h)
      some (byte k + 256 * (if k + 1 < n then byte (k + 1) else 0))
    else none
  let src := s.vBad a i.b n || (!sb && s.vBad a i.c n)
  (s.vWrite a i.a f src).vecEnd d w i (res.any (·.2))

/-- VTBL starts (R317). -/
def State.vtblStart (s : State) (d w a : Nat) (i : EngIns) : State × EngRun :=
  let n := bits i.ef 22 16
  let t2 := bitOf i.ef 15
  let v := s.vR a i.b
  let tab := s.vR a i.c ++ s.vR a (i.c + 1)
  let idx := fun l => v.getD l 0 % (if t2 then 128 else 64)
  let bad := (List.range n).any (fun l => let e := idx l; bitOf (s.vP a (i.c + e / 64)) (e % 64 / 32))
  (s.vWrite a i.a (fun l => if l < n then some (tab.getD (idx l) 0) else none) (s.vBad a i.b n || bad)).vecEnd d w i false

/-- A vector instruction starts. -/
def State.vecStart (s : State) (d w a : Nat) (i : EngIns) : State × EngRun :=
  if i.op = 0x60 then s.vldStart d w a i
  else if i.op = 0x61 then s.vstStart d w a i
  else if i.op ≤ 0x65 then s.arithStart d w a i
  else if i.op = 0x66 then s.vsumStart d w a i
  else if i.op ≤ 0x69 then s.funcStart d w a i
  else if i.op = 0x6A then s.vcvtStart d w a i
  else if i.op = 0x6B then s.vqntStart d w a i
  else s.vtblStart d w a i

end Sys2Proof.Machine
end

