-- ==== Sys2Proof/Machine/Engines.lean ====
section
/-! DEFINITION. The engines of an agent (R260, R261, R263, R268): issue with its decode checks, queues, starts and
completions, for the CIM, vector, move and link instructions and for a wing's LD and ST. -/

namespace Sys2Proof.Machine

/-! ### A wing's LD and ST -/

/-- An address error that Stack die `d` reports to the die its alias names (R32, R56). -/
def State.sdErr (s : State) (d w kind : Nat) (write : Bool) (addr : Nat) : State :=
  s.send ⟨0x04, s.aliasNode (wcix d w), 0, sdNode d, w, addr % 2 ^ 32,
    addr / 2 ^ 32 % 256 + kind * 256 + b2n write * 2048, [], 0⟩

/-- Why a wing's LD or ST cannot reach an address (R256): the KIND of R56; none where it can. -/
def wingKind (d w addr size : Nat) (write : Bool) : Option Nat :=
  let node := addr / 2 ^ 36
  let reg := addr / 2 ^ 32 % 16
  let o := addr % 2 ^ 32
  if node = 3 ∨ 10 ≤ node then some 1
  else if node ≠ sdNode d then some 4
  else if 4 ≤ reg then some 1
  else if reg = 0 then (if 2 ^ 26 < o + size then some 2 else if ownBytes d w addr size then none else some 4)
  else if reg = 1 then some 4
  else if 0x4000 ≤ o then some 2
  else if size ≠ 4 then some 3
  else if reg = 2 then (if o / 0x800 = w then none else some 4)
  else if write then some 4 else none

/-- A wing's LD starts: `vb` its address, `va` its width (R256, R342, R344, R345). -/
def State.wldStart (s : State) (d w a : Nat) (i : EngIns) : State × EngRun :=
  let o := i.vb % 2 ^ 32
  let reg := i.vb / 2 ^ 32 % 16
  if i.vb % i.va ≠ 0 then (s.sdErr d w 3 false i.vb, { ins := i, fault := 3 })
  else match wingKind d w i.vb i.va false with
  | some k => (s.sdErr d w k false i.vb, { ins := i, fault := 3 })
  | none =>
    let dst := i.dst.getD 0
    if reg = 0 then
      let l := (i.vb - rrAddr d w 0) / 64
      let bad := s.lineMarked d w l
      let s := s.lineCheck d w l 3
      (s.regW a dst (s.ldw i.vb i.va), { ins := i, estat := 2 * b2n bad })
    else if reg = 2 then
      let r := s.wingRead d w (o % 0x800)
      (r.1.regW a dst r.2, { ins := i })
    else (s.regW a dst (s.sdRead d o), { ins := i })
/-- A wing's ST starts: `vc` its data. -/
def State.wstStart (s : State) (d w : Nat) (i : EngIns) : State × EngRun :=
  if i.vb % i.va ≠ 0 then (s.sdErr d w 3 true i.vb, { ins := i, fault := 3 })
  else match wingKind d w i.vb i.va true with
  | some k => (s.sdErr d w k true i.vb, { ins := i, fault := 3 })
  | none =>
    if i.vb / 2 ^ 32 % 16 = 0 then (s.rrStore d w (i.vb - rrAddr d w 0) (toBytes i.va i.vc) false, { ins := i })
    else (s.wingWrite d w (i.vb % 2 ^ 32 % 0x800) i.vc, { ins := i })

/-! ### Starting and completing -/

/-- A CIM or vector instruction starts. -/
def State.unitStart (s : State) (a : Nat) (i : EngIns) : State × EngRun :=
  let d := wcDie a
  let w := wcWing a
  if i.op = 0x0A then s.wldStart d w a i
  else if i.op = 0x0B then s.wstStart d w i
  else if i.op = 0x40 then s.mvmStart d w i
  else if i.op = 0x41 then s.accrdStart d w i
  else if i.op = 0x42 then s.accclrStart d w i
  else if i.op = 0x43 then s.scalegetStart d w a i
  else s.vecStart d w a i

/-- Engine `e` starts an instruction. -/
def State.engStart (s : State) (a e : Nat) (i : EngIns) : State :=
  let s := s.modEng a e (fun q => { q with run := some { ins := i } })
  if e ≤ 3 then
    let r := s.unitStart a i
    r.1.modEng a e (fun q => { q with run := some r.2 })
  else if e = 5 then (if i.op = 0xA4 then s.credreqStart a i else s.wrremStart a i)
  else
    (if i.op = 0x82 then s.reshardStart a i
      else if i.op = 0x83 then s.parkStart a i
      else if i.op = 0x84 then s.unparkStart a i
      else s.movStart a i).moveOn a

/-- The queue of engine `e` is full: its eight entries wait behind the one that runs (R260). -/
def State.engFull (s : State) (a e : Nat) : Bool := decide (8 ≤ (s.engine a e).q.length)
/-- An instruction enters engine `e`, and starts at once on an idle one. -/
def State.engPush (s : State) (a e : Nat) (i : EngIns) : State :=
  if (s.engine a e).run.isNone && (s.engine a e).q.isEmpty then s.engStart a e i
  else s.modEng a e (fun q => { q with q := q.q ++ [i] })
/-- The next instruction of an idle engine starts (R261). -/
def State.engNext (s : State) (a e : Nat) : State :=
  match (s.engine a e).q with
  | i :: rest => (s.modEng a e (fun q => { q with q := rest })).engStart a e i
  | [] => s

/-- What an MVM reports at its completion: tally mismatches and the comparison of a shadow run (R112, R114, R128). -/
def State.cimReport (s : State) (a : Nat) (r : EngRun) : State :=
  if isSq a then s else (s.tallyVerdict (wcDie a) (wcWing a) r.hits).shadowDone (wcDie a) (wcWing a) r.shadow
/-- What waited for an engine goes on: FENCE, a boundary, the end of a program. -/
def State.engAfter (s : State) (a : Nat) : State := ((s.fenceCheck a).boundary a).progCheck a
/-- A finished instruction of engine `e` completes (R263, R268, R271). -/
def State.engDone (s : State) (a e : Nat) (r : EngRun) : State :=
  let s := (s.orEstat a r.estat).cimReport a r
  let s := s.modEng a e (fun q => { q with run := none })
  let s := if r.ins.csen then s.semSignal (agSem a r.ins.csem) 1 else s
  let s := if r.fault ≠ 0 then s.engFault a e r.fault r.ins.pc else s
  ((s.engNext a e).moveSync a).engAfter a

/-- ENGINE_INSTR_COMPLETE: the instruction that engine `e` runs has nothing left to do (R263). -/
def execEngineInstrComplete (a : Fin 48) (e : Fin 6) (s : State) : Host.Outcome State Fault Refusal :=
  done (match s.running a e with
  | some r => if r.finished then s.engDone a e r else s
  | none => s)

/-! ### Issue -/

/-- An instruction for a queue, with the registers it names as they read at issue (R260). -/
def State.mkIns (s : State) (a op : Nat) (i : Ins) (va vb vc : Nat) (dst : Option Nat) : EngIns :=
  { op := op, pc := s.pc a, csen := i.csen, csem := i.csem, ef := i.low.toNat % 2 ^ 23, ext := i.xw, dst := dst,
    a := i.a, b := i.b, c := i.c, va := va, vb := vb, vc := vc }
/-- Issue to engine `e`: the agent stalls while the queue is full (R260). -/
def State.engIssue (s : State) (a e : Nat) (i : Ins) (legal : Bool) (regs : List Nat) (mk : State → EngIns) : State :=
  let legal := legal && csemOk a i
  if legal && s.pR a i.pred && s.engFull a e && !(s.agent a).pcBad && decide (s.pc a + b2n i.x < pmWords a) then s
  else s.issueAdv a i legal regs (fun s => s.engPush a e (mk s))
/-- Instructions with the effective address ad[B] + s[C] (R298). -/
def State.eaIns (s : State) (a op : Nat) (i : Ins) (va : Nat) (dst : Option Nat) : EngIns :=
  s.mkIns a op i va (s.adR a i.b).toNat (s.sR a i.c).toNat dst

/-- MVM (R302); `upset` are cells of the wing's stacks that have changed by themselves (R113). -/
def execMvm (a : Fin 48) (i : Ins) (upset : List (Nat × Nat)) (s : State) : Host.Outcome State Fault Refusal :=
  let legal := !isSq a && i.x && i.a.val == 0 && decide (i.b.val < 16) && i.ef 2 1 != 3 && i.ef 0 0 == 0 && i.e 63 24 == 0
  done ((if isSq a then s else s.upsets (wcDie a) (wcWing a) upset).engIssue a 2 i legal [32 + i.b.val, i.c.val] (fun s =>
    { s.eaIns a 0x40 i 0 none with
      vx := (List.range 14).map (fun f => s.rd (wg (wcDie a) (wcWing a)) (R.LEAF_PREC_L.at f)) }))
/-- ACCRD (R303). -/
def execAccrd (a : Fin 48) (i : Ins) (s : State) : Host.Outcome State Fault Refusal :=
  let legal := !isSq a && i.x && i.a.val == 0 && decide (i.b.val < 16) && i.ef 16 15 != 3 && i.ef 14 0 == 0 && i.e 63 21 == 0
  done (s.engIssue a 2 i legal [32 + i.b.val, i.c.val] (fun s => s.eaIns a 0x41 i 0 none))
/-- ACCCLR (R306). -/
def execAccclr (a : Fin 48) (i : Ins) (s : State) : Host.Outcome State Fault Refusal :=
  done (s.engIssue a 2 i (!isSq a && !i.x && i.noRegs && i.ef 6 0 == 0) [] (fun s => s.mkIns a 0x42 i 0 0 0 none))
/-- SCALEGET (R307). -/
def execScaleget (a : Fin 48) (i : Ins) (s : State) : Host.Outcome State Fault Refusal :=
  let legal := !isSq a && !i.x && i.b.val == 0 && i.c.val == 0 && i.ef 16 0 == 0
  done (s.engIssue a 2 i legal [i.a] (fun s =>
    s.mkIns a 0x43 i 0 0 0 (if i.a.val = 0 then none else some i.a.val)))

/-- A vector load or store. -/
def State.vmemIssue (s : State) (a op : Nat) (i : Ins) : State :=
  let mode := i.ef 22 21
  let legal := !isSq a && decide (i.b.val < 16) && i.x == (mode == 1) && mode != 3 && i.ef 20 19 != 3 && i.ef 18 0 == 0
    && i.e 63 21 == 0 && (mode != 2 || (op == 0x60 && i.ef 20 19 != 2))
  s.engIssue a 3 i legal [32 + i.b.val, i.c.val] (fun s => s.eaIns a op i 0 none)
/-- VLD (R310); with MODE widen it is VLD_WIDEN. -/
def execVld (a : Fin 48) (i : Ins) (s : State) : Host.Outcome State Fault Refusal := done (s.vmemIssue a 0x60 i)
/-- VLD with MODE widen (R310). -/
def execVldWiden (a : Fin 48) (i : Ins) (s : State) : Host.Outcome State Fault Refusal :=
  done (s.vmemIssue a 0x60 { i with low := BitVec.ofNat 37 (putBits i.low.toNat 22 21 2) })
/-- VST (R310). -/
def execVst (a : Fin 48) (i : Ins) (s : State) : Host.Outcome State Fault Refusal := done (s.vmemIssue a 0x61 i)

/-- Instructions on v registers: s[C] is read where SB says so (R308, R312, R316). -/
def State.vecIssue (s : State) (a op : Nat) (i : Ins) (legal : Bool) (useS : Bool) : State :=
  s.engIssue a 3 i (!isSq a && !i.x && legal) (if useS then [i.c.val] else []) (fun s =>
    s.mkIns a op i 0 0 (s.sR a i.c).toNat none)
/-- VADD, VMUL, VFMA, VMAX. -/
def State.arithIssue (s : State) (a op : Nat) (i : Ins) : State :=
  let shOk := i.ef 13 10 == 0 || (i.ef 15 15 == 1 && (op == 0x63 || op == 0x64))
  s.vecIssue a op i (decide (i.ef 22 16 ≤ 64) && shOk && i.ef 9 0 == 0) (i.ef 14 14 == 1)
/-- VADD (R312). -/
def execVadd (a : Fin 48) (i : Ins) (s : State) : Host.Outcome State Fault Refusal := done (s.arithIssue a 0x62 i)
/-- VMUL (R312). -/
def execVmul (a : Fin 48) (i : Ins) (s : State) : Host.Outcome State Fault Refusal := done (s.arithIssue a 0x63 i)
/-- VFMA (R312). -/
def execVfma (a : Fin 48) (i : Ins) (s : State) : Host.Outcome State Fault Refusal := done (s.arithIssue a 0x64 i)
/-- VMAX (R312). -/
def execVmax (a : Fin 48) (i : Ins) (s : State) : Host.Outcome State Fault Refusal := done (s.arithIssue a 0x65 i)
/-- VSUM (R313). -/
def execVsum (a : Fin 48) (i : Ins) (s : State) : Host.Outcome State Fault Refusal :=
  done (s.vecIssue a 0x66 i (i.c.val == 0 && decide (i.ef 22 16 ≤ 64) && i.ef 13 0 == 0) false)
/-- VEXP, VRSQ, VRCP. -/
def State.funcIssue (s : State) (a op : Nat) (i : Ins) : State :=
  s.vecIssue a op i (i.c.val == 0 && decide (i.ef 22 16 ≤ 64) && i.ef 15 0 == 0) false
/-- VEXP (R314). -/
def execVexp (a : Fin 48) (i : Ins) (s : State) : Host.Outcome State Fault Refusal := done (s.funcIssue a 0x67 i)
/-- VRSQ (R314). -/
def execVrsq (a : Fin 48) (i : Ins) (s : State) : Host.Outcome State Fault Refusal := done (s.funcIssue a 0x68 i)
/-- VRCP (R314). -/
def execVrcp (a : Fin 48) (i : Ins) (s : State) : Host.Outcome State Fault Refusal := done (s.funcIssue a 0x69 i)
/-- VCVT with conversion `op` (R315). -/
def State.cvtIssue (s : State) (a op : Nat) (i : Ins) : State :=
  let i : Ins := { i with low := BitVec.ofNat 37 (putBits i.low.toNat 15 14 op) }
  let legal := i.c.val == 0 && decide (i.ef 22 16 ≤ if 2 ≤ op then 32 else 64) && (decide (2 ≤ op) || i.ef 8 8 == 0)
    && i.ef 7 0 == 0
  s.vecIssue a 0x6A i legal false
/-- VCVT from BF16 to I16 (R315). -/
def execVcvtBf16ToI16 (a : Fin 48) (i : Ins) (s : State) : Host.Outcome State Fault Refusal := done (s.cvtIssue a 0 i)
/-- VCVT from I16 to BF16 (R315). -/
def execVcvtI16ToBf16 (a : Fin 48) (i : Ins) (s : State) : Host.Outcome State Fault Refusal := done (s.cvtIssue a 1 i)
/-- VCVT from FP32 to BF16 (R315). -/
def execVcvtFp32ToBf16 (a : Fin 48) (i : Ins) (s : State) : Host.Outcome State Fault Refusal := done (s.cvtIssue a 2 i)
/-- VCVT from BF16 to FP32 (R315). -/
def execVcvtBf16ToFp32 (a : Fin 48) (i : Ins) (s : State) : Host.Outcome State Fault Refusal := done (s.cvtIssue a 3 i)
/-- VQNT (R316). -/
def execVqnt (a : Fin 48) (i : Ins) (s : State) : Host.Outcome State Fault Refusal :=
  let legal := decide (i.ef 22 16 ≤ 64) && i.ef 15 15 == 0 && i.ef 13 9 == 0 && i.ef 7 0 == 0
  done (s.vecIssue a 0x6B i legal (i.ef 14 14 == 1))
/-- VTBL (R317). -/
def execVtbl (a : Fin 48) (i : Ins) (s : State) : Host.Outcome State Fault Refusal :=
  let legal := decide (i.ef 22 16 ≤ 64) && i.ef 14 0 == 0 && !(i.ef 15 15 == 1 && i.c.val == 31)
  done (s.vecIssue a 0x6C i legal false)

/-- The extension word of MOV and MOVT, and the fields that belong to a window or to KV (R299): reserved bits, a carrel
without KV, window fields without WIN. -/
def moveExtOk (i : Ins) (win kv sig : Bool) (fields node : Nat) : Bool :=
  i.x && decide (i.b.val < 16 ∧ i.c.val < 16) && i.e 63 50 == 0 && (kv || i.e 49 42 == 0)
    && (if win then decide (4 ≤ node ∧ node < 8) else !sig && fields == 0)
/-- MOV (R319 to R322). -/
def execMov (a : Fin 48) (i : Ins) (s : State) : Host.Outcome State Fault Refusal :=
  let sk := i.ef 22 21
  let dk := i.ef 20 19
  let kv := i.ef 17 17 == 1
  let legal := !isSq a && sk != 3 && dk != 3 && !(sk == 2 && dk == 2) && !(kv && dk == 2) && i.ef 5 0 == 0
    && moveExtOk i (dk == 1) kv (i.ef 18 18 == 1) (i.ef 16 6) (i.ef 16 13)
  done (s.engIssue a 4 i legal [i.a.val, 32 + i.b.val, 32 + i.c.val] (fun s =>
    s.mkIns a 0x80 i (s.sR a i.a).toNat (s.adR a i.b).toNat (s.adR a i.c).toNat none))
/-- MOVT (R323). -/
def execMovt (a : Fin 48) (i : Ins) (s : State) : Host.Outcome State Fault Refusal :=
  let dk := i.ef 21 20
  let legal := !isSq a && decide (dk < 2) && i.ef 6 0 == 0
    && moveExtOk i (dk == 1) (i.ef 18 18 == 1) (i.ef 19 19 == 1) (i.ef 17 7) (i.ef 17 14)
  done (s.engIssue a 4 i legal [i.a.val, 32 + i.b.val, 32 + i.c.val] (fun s =>
    s.mkIns a 0x81 i (s.sR a i.a).toNat (s.adR a i.b).toNat (s.adR a i.c).toNat none))
/-- RESHARD (R324). -/
def execReshard (a : Fin 48) (i : Ins) (s : State) : Host.Outcome State Fault Refusal :=
  done (s.engIssue a 4 i (!isSq a && !i.x && decide (i.b.val < 16) && i.ef 22 0 == 0) [i.a.val, 32 + i.b.val, i.c.val]
    (fun s => s.eaIns a 0x82 i (s.sR a i.a).toNat none))
/-- PARK (R325). -/
def execPark (a : Fin 48) (i : Ins) (s : State) : Host.Outcome State Fault Refusal :=
  done (s.engIssue a 4 i (!isSq a && !i.x && decide (i.b.val < 16) && i.ef 22 0 == 0) [i.a.val, 32 + i.b.val, i.c.val]
    (fun s => s.eaIns a 0x83 i (s.sR a i.a).toNat none))
/-- UNPARK (R326). -/
def execUnpark (a : Fin 48) (i : Ins) (s : State) : Host.Outcome State Fault Refusal :=
  done (s.engIssue a 4 i (!isSq a && !i.x && decide (i.b.val < 16) && i.c.val == 0 && i.ef 22 0 == 0)
    [i.a.val, 32 + i.b.val] (fun s => s.eaIns a 0x84 i (s.sR a i.a).toNat none))
/-- CREDREQ (R356). -/
def execCredreq (a : Fin 48) (i : Ins) (s : State) : Host.Outcome State Fault Refusal :=
  done (s.engIssue a 5 i (!i.x && i.a.val == 0 && i.b.val == 0 && i.ef 11 0 == 0) [i.c.val] (fun s =>
    s.mkIns a 0xA4 i 0 0 (s.sR a i.c).toNat none))
/-- WRREM (R359). -/
def execWrrem (a : Fin 48) (i : Ins) (s : State) : Host.Outcome State Fault Refusal :=
  done (s.engIssue a 5 i (!i.x && decide (i.b.val < 16) && i.ef 10 0 == 0) [i.a.val, 32 + i.b.val, i.c.val] (fun s =>
    s.eaIns a 0xA7 i (s.sR a i.a).toNat none))

/-- A wing's LD or ST (R344): address and data are read at issue, POST changes ad[B] at issue. -/
def State.wingMem (s : State) (a : Nat) (i : Ins) (st : Bool) : State :=
  let r := memReg i
  let full := memLegal i && s.pR a i.pred && s.engFull a 3 && !(s.agent a).pcBad && decide (s.pc a < pmWords a)
  if full then s
  else s.issueAdv a i (memLegal i) [r, 32 + i.b.val, i.c.val] (fun s =>
    let data := if r < 32 then (s.sR a r).toNat else (s.adR a (r - 32)).toNat
    let e : EngIns := {
      op := if st then 0x0B else 0x0A, pc := s.pc a, csen := false, csem := 0, ef := 0, ext := 0,
      dst := if st ∨ r = 0 then none else some r, a := i.a, b := i.b, c := i.c, va := memBytes (i.f 36 34),
      vb := (s.effAddr a i).toNat, vc := data }
    (s.postAddr a i).engPush a 3 e)

end Sys2Proof.Machine
end

