-- ==== Sys2Proof/Machine/Bus.lean ====
section
/-! DEFINITION. Accesses to device addresses by initiators on a Control die (R30 to R49, R54, R56): LD and ST of a
sequencer (R256, R342 to R345), register writes of debug and of the host, and targets that do not answer. -/

namespace Sys2Proof.Machine

/-- How an access on the bus ends: with data and whether it carries an uncorrectable error; with an error of a KIND,
logged by the caller or already logged; or its target does not answer. -/
inductive BusRes where
  | ok (v : Nat) (bad : Bool)
  | err (kind : Nat)
  | logged (kind : Nat)
  | wait
  deriving DecidableEq, Repr

/-- Commons master code of unit `u` of a Control die (R450). -/
def unitMaster (u : Nat) : Nat := if u < 4 then 2 else if u < 8 then 3 else if u = 0xB then 8 else 7
/-- Error KIND of an access of `size` bytes to a region of a Control die, where the address alone decides (R4, R32,
R38). -/
def cdRange (region o size : Nat) : Option Nat :=
  if region = 0 then (if o + size ≤ 2 ^ 24 then none else some 2)
  else if region = 1 then (if o + size ≤ 2 ^ 22 then none else some 2)
  else if region = 2 then (if o + size ≤ 2 ^ 19 then none else some 2)
  else if region = 3 then
    (if !inBlock o || decide (0x20000 ≤ o ∧ o < 0x50000) then some 2 else if size ≠ 4 ∨ o % 4 ≠ 0 then some 3 else none)
  else if 4 ≤ region ∧ region < 8 then none
  else some 1
/-- The same for a Stack die; regions 0x0 and 0x1 refuse every initiator of this chapter (R33, R36, R37). -/
def sdRange (region o size : Nat) : Option Nat :=
  if region = 0 then (if o + size ≤ 2 ^ 26 then some 4 else some 2)
  else if region = 1 then (if o + size ≤ 2 ^ 28 ∧ bits o 24 21 ≠ 15 then some 4 else some 2)
  else if region = 2 ∨ region = 3 then
    (if 0x4000 ≤ o then some 2 else if size ≠ 4 ∨ o % 4 ≠ 0 then some 3 else none)
  else some 1

/-! ### Control dies -/

/-- A read of a region of Control die `m` by an initiator on that die. -/
def State.ownRead (s : State) (m unit region o size : Nat) (x : BusIn) : State × BusRes :=
  match cdRange region o size with
  | some k => (s, .err k)
  | none =>
    if region = 0 then
      let r := (s.comUpsets m x.upset).comRead m (unitMaster unit) o size
      (r.1, .ok (fromBytes r.2.1) r.2.2)
    else if region = 3 then let r := s.cdRead m o; (r.1, .ok r.2 false)
    else if region < 3 then (s, .ok (s.ldw ((m + 1) * 2 ^ 36 + region * 2 ^ 32 + o) size) false)
    else match s.hostGet m (region * 2 ^ 32 + o) size with
      | none => (s, .err 6)
      | some l => if x.hostErr || !(s.cdx m).hostUp then (s, .err 5) else (s, .ok (fromBytes l) false)
/-- A sequencer's memory accepts writes: it is halted by debug, or idle and not given programs (R40). -/
def State.sqMemOpen (s : State) (m k : Nat) : Bool :=
  s.agState (sqix m k) == 5 || (s.agState (sqix m k) == 0 && !bitOf (s.rd (cd m) R.CAT_CTRL_SQ_EN) k)
/-- A write of `size` bytes to a region of Control die `m` by an initiator on that die (R39, R40, R42). -/
def State.ownWrite (s : State) (m unit region o size v : Nat) (x : BusIn) : State × BusRes :=
  match cdRange region o size with
  | some k => (s, .err k)
  | none =>
    if region = 0 then
      ((s.comUpsets m x.upset).comWrite m (unitMaster unit) o (toBytes size v), .ok 0 false)
    else if region = 1 then (s, .err 4)
    else if region = 2 then
      if s.sqMemOpen m (o / 0x10000) then (s.stw ((m + 1) * 2 ^ 36 + 2 * 2 ^ 32 + o) size v, .ok 0 false) else (s, .err 4)
    else if region = 3 then
      (s.cdWrite m (unitCode m unit) o (v % 2 ^ 32) x.same x.hostErr x.moved x.hist, .ok 0 false)
    else match s.hostPut m (region * 2 ^ 32 + o) (toBytes size v) with
      | none => (s, .err 6)
      | some s' => if x.hostErr || !(s.cdx m).hostUp then (s, .err 5) else (s', .ok 0 false)

/-- An access to the partner die finds it: the cross link is up, and it answers (R49). -/
def State.partnerRes (s : State) (n : Nat) : Option BusRes :=
  if !s.linkUp 12 then some (.err 5) else if !(s.cdx (1 - n)).mainUp then some .wait else none
/-- A read of the partner's regions by a unit of die `n` (R41, R42). -/
def State.partnerRead (s : State) (n unit region o size : Nat) (x : BusIn) : State × BusRes :=
  match cdRange region o size, s.partnerRes n with
  | some k, _ => (s, .err k)
  | none, some r => (s, r)
  | none, none => if region = 0 then (s, .err 4) else s.ownRead (1 - n) unit region o size x
/-- A write to the partner: only its control pair block (R41). -/
def State.partnerWrite (s : State) (n unit region o size v : Nat) (x : BusIn) : State × BusRes :=
  match cdRange region o size, s.partnerRes n with
  | some k, _ => (s, .err k)
  | none, some r => (s, r)
  | none, none =>
    if region = 3 ∧ 0x3000 ≤ o ∧ o < 0x3018 then
      (s.cdWrite (1 - n) (unitCode n unit) o (v % 2 ^ 32) x.same x.hostErr x.moved x.hist, .ok 0 false)
    else (s, .err 4)

/-! ### Stack dies -/

/-- An access to Stack die `d` finds it (R49). -/
def State.stackRes (s : State) (n d : Nat) : Option BusRes :=
  if s.rd (cd n) (diesFld (2 + d)) = 0 || !s.reaches (cdNode n) (sdNode d) then some (.err 5)
  else if !(s.sdx d).up then some .wait else none
/-- A read of a Stack die's registers. -/
def State.stackRead (s : State) (n d region o size : Nat) : State × BusRes :=
  match sdRange region o size, s.stackRes n d with
  | some k, _ => (s, .err k)
  | none, some r => (s, r)
  | none, none =>
    if region = 2 then let r := s.wingRead d (o / 0x800) (o % 0x800); (r.1, .ok r.2 false)
    else (s, .ok (s.sdRead d o) false)
/-- A write of a Stack die's registers. -/
def State.stackWrite (s : State) (n unit d region o size v same : Nat) : State × BusRes :=
  match sdRange region o size, s.stackRes n d with
  | some k, _ => (s, .err k)
  | none, some r => (s, r)
  | none, none =>
    if region = 2 then
      ((s.wingWrite d (o / 0x800) (o % 0x800) (v % 2 ^ 32)).sameSet s (wg d (o / 0x800)) wingRegs (o % 0x800) v same, .ok 0 false)
    else
      let s' := s.sdWrite n unit d o (v % 2 ^ 32)
      match s'.rsp with
      | .error k => (s', .logged k)
      | _ => (s'.sameSet s (sd d) sdRegs o v same, .ok 0 false)

/-! ### Load dies, and the whole map -/

/-- A read of a Load die by the bridge: staged reads wait and are reissued (R530). -/
def State.loadRead (s : State) (n unit d region o size : Nat) : State × BusRes :=
  if region ≠ 3 then (s, .err 1)
  else if size ≠ 2 then (s, .err 3)
  else
    let s' := s.lbRead n d unit o
    match s'.rsp with
    | .ok v => (s', .ok v false)
    | .retry => (s', .wait)
    | .error k => (s', .logged k)
/-- A write to a Load die by the bridge. -/
def State.loadWrite (s : State) (n unit d region o size v : Nat) : State × BusRes :=
  if region ≠ 3 then (s, .err 1)
  else if size ≠ 2 then (s, .err 3)
  else
    let s' := s.lbWrite n d unit o [v % 65536]
    match s'.rsp with
    | .error k => (s', .logged k)
    | _ => (s', .ok 0 false)
/-- A read of `size` bytes at a device address by unit `unit` of die `n` (R30, R31). -/
def State.busRead (s : State) (n unit addr size : Nat) (x : BusIn) : State × BusRes :=
  let node := addr / 2 ^ 36
  let region := addr / 2 ^ 32 % 16
  let o := addr % 2 ^ 32
  if node = 0 ∨ node = cdNode n then s.ownRead n unit region o size x
  else if node = cdNode (1 - n) then s.partnerRead n unit region o size x
  else if 4 ≤ node ∧ node < 8 then s.stackRead n (node - 4) region o size
  else if node = 8 ∨ node = 9 then s.loadRead n unit (node - 8) region o size
  else (s, .err 1)
/-- A write of `size` bytes at a device address by unit `unit` of die `n`. -/
def State.busWrite (s : State) (n unit addr size v : Nat) (x : BusIn) : State × BusRes :=
  let node := addr / 2 ^ 36
  let region := addr / 2 ^ 32 % 16
  let o := addr % 2 ^ 32
  if node = 0 ∨ node = cdNode n then s.ownWrite n unit region o size v x
  else if node = cdNode (1 - n) then s.partnerWrite n unit region o size v x
  else if 4 ≤ node ∧ node < 8 then s.stackWrite n unit (node - 4) region o size v x.same
  else if node = 8 ∨ node = 9 then s.loadWrite n unit (node - 8) region o size v
  else (s, .err 1)
/-- An address that names a Load die. -/
def loadNode (addr : Nat) : Bool := addr / 2 ^ 36 == 8 || addr / 2 ^ 36 == 9

/-! ### LD and ST -/

/-- The access waits for its target: the MEM engine of the sequencer holds it (R256); outside the L-bus it ends in
NO_RESPONSE_TIMEOUT (R49). -/
def State.seqHold (s : State) (a : Nat) (write : Bool) (m : MemOp) : State :=
  let s := s.modAgent a (fun g => { g with memOps := g.memOps ++ [m] })
  if loadNode m.addr then s
  else s.modCd (sqDie a) (fun y => { y with waitAcc := y.waitAcc ++ [(a % 8, write, m.addr)] })
/-- An access of a sequencer ends in an error (R56, R256, R343). -/
def State.seqErr (s : State) (a : Nat) (write : Bool) (kind addr pc : Nat) : State :=
  (s.addrErr (sqDie a) kind (unitCode (sqDie a) (a % 8)) write addr).engFault a 1 3 pc
/-- A load of a sequencer into register `r` (R256, R342, R345). -/
def State.seqLoad (s : State) (a r addr size pc : Nat) (x : BusIn) : State :=
  let y := s.busRead (sqDie a) (a % 8) addr size x
  match y.2 with
  | .ok v bad => let s := y.1.regW a r (v % 2 ^ 40); if bad then s.orEstat a 2 else s
  | .err k => y.1.seqErr a false k addr pc
  | .logged _ => y.1.engFault a 1 3 pc
  | .wait => y.1.seqHold a false ⟨addr, size, some r, pc⟩
/-- A store of a sequencer: posted, but for a Load die, where the agent stalls until the bridge's answer (R256, R343). -/
def State.seqStore (s : State) (a addr size v pc : Nat) (x : BusIn) : State :=
  let y := s.busWrite (sqDie a) (a % 8) addr size v x
  match y.2 with
  | .ok _ _ => if loadNode addr then y.1.modAgent a (fun g => { g with ldStore := some pc }) else y.1
  | .err k => y.1.seqErr a true k addr pc
  | .logged _ => if loadNode addr then y.1.trapAt a 0 3 pc 0 else y.1.engFault a 1 3 pc
  | .wait => y.1.seqHold a true ⟨addr, size, none, pc⟩
/-- A sequencer issues LD or ST: EA must be a multiple of the width (R342); POST changes ad[B] before the loaded value
arrives. -/
def State.seqMem (s : State) (a : Nat) (i : Ins) (st : Bool) (x : BusIn) : State :=
  let r := memReg i
  s.issue a i (memLegal i) [r, 32 + i.b.val, i.c.val] (fun s =>
    let ea := (s.effAddr a i).toNat
    let size := memBytes (i.f 36 34)
    let pc := s.pc a
    let v := if r < 32 then (s.sR a r).toNat else (s.adR a (r - 32)).toNat
    if ea % size ≠ 0 then s.trap a 3
    else
      let s := (s.postAddr a i).adv a i.x
      if st then s.seqStore a ea size v pc x else s.seqLoad a r ea size pc x)
/-- Stored words of the line that a wing's access reads have changed by themselves (R187). -/
def State.lineUpsets (s : State) (a : Nat) (i : Ins) (l : List (Nat × Nat)) : State :=
  let ea := (s.effAddr a i).toNat
  if ea / 2 ^ 32 = sdNode (wcDie a) * 16 ∧ ea % 2 ^ 32 < 2 ^ 26 then
    let k := wcDie a * 2 ^ 20 + ea % 2 ^ 32 / 64
    l.foldl (fun s p => { s with parity := Store.put 0 s.parity k (Store.get 0 s.parity k ^^^ 2 ^ (p.1 % 16)) }) s
  else s

/-- LD (R342). -/
def execLd (a : Fin 48) (i : Ins) (x : BusIn) (s : State) : Host.Outcome State Fault Refusal :=
  done (if isSq a then s.seqMem a i false x else (s.lineUpsets a i x.upset).wingMem a i false)
/-- ST (R342). -/
def execSt (a : Fin 48) (i : Ins) (x : BusIn) (s : State) : Host.Outcome State Fault Refusal :=
  done (if isSq a then s.seqMem a i true x else s.wingMem a i true)

/-! ### Register writes of debug and of the host -/

/-- A write by a unit that has no fault to take ends: `log` is its address as it is logged (R49, R56). -/
def State.busEnd (y : State × BusRes) (n unit log : Nat) : State :=
  match y.2 with
  | .ok _ _ => { y.1 with rsp := .ok 0 }
  | .err k => { y.1.addrErr n k (unitCode n unit) true log with rsp := .error k }
  | .logged k => { y.1 with rsp := .error k }
  | .wait => y.1.modCd n (fun c => { c with waitAcc := c.waitAcc ++ [(unit, true, log)] })
/-- A write by debug of die `n`, while it is open. -/
def State.debugWrite (s : State) (n addr size v : Nat) (x : BusIn) : State :=
  if s.dbgOpen n && (s.cdx n).mainUp then State.busEnd (s.busWrite n 0xA addr size v x) n 0xA addr else s
/-- A host write to the proxy window of Stack die `d` (R46, R668). -/
def State.proxyWrite (s : State) (n d o size v : Nat) (x : BusIn) : State :=
  let y := if o < 0x4000 then s.stackWrite n 0xB d 3 o size v x.same else s.stackWrite n 0xB d 2 (o - 0x4000) size v x.same
  let s := State.busEnd y n 0xB (cd n + 0x20000 + 0x8000 * d + o)
  match y.2 with
  | .ok _ _ => s.sdPoll n d true
  | _ => s
/-- A host write to BAR0 of the active die (R38, R45 to R47). -/
def State.bar0Write (s : State) (n o size v : Nat) (x : BusIn) : State :=
  if 0x20000 ≤ o ∧ o < 0x40000 then s.proxyWrite n ((o - 0x20000) / 0x8000) (o % 0x8000) size v x
  else if 0x40000 ≤ o ∧ o < 0x50000 then
    let d := (o - 0x40000) / 0x8000
    if 2 ≤ d then s else State.busEnd (s.loadWrite n 0xB d 3 (o % 0x8000) size v) n 0xB (cd n + o)
  else State.busEnd (s.ownWrite n 0xB 3 o size v x) n 0xB (cd n + o)
/-- A host write to a doorbell (R47); the standby discards and counts it (R427). -/
def State.bellWrite (s : State) (n o size v : Nat) : State :=
  if size ≠ 4 ∨ o % 4 ≠ 0 then State.busEnd (s, .err 3) n 0xB (cd n + o)
  else (s.doorbell n ((o - 0x80000) / 4) (v % 2 ^ 32)).catSync n
/-- What an endpoint without the active role takes (R81, R427): PAIR_CTRL; after a yield in BOOTFAIL its boot block. -/
def State.standbyTakes (s : State) (n o size : Nat) : Bool :=
  size == 4 && (o == 0x3004 || ((s.cdx n).yielded && decide (0x4000 ≤ o ∧ o < 0x4200 ∧ o % 4 = 0)))
/-- A host write to BAR2 (`region` 0x0) or BAR0 (`region` 0x3) of die `n`'s endpoint (R46, R427, R450). -/
def State.hostWrite (s : State) (n region o size v : Nat) (x : BusIn) : State :=
  if !(s.cdx n).hostUp then s
  else if region = 0 ∧ o + size ≤ 2 ^ 24 then
    if s.isActive n || (s.cdx n).yielded then State.busEnd (s.ownWrite n 0xB 0 o size v x) n 0xB (comAddr n o)
    else State.busEnd (s, .err 4) n 0xB (comAddr n o)
  else if region ≠ 3 ∨ 0x100000 < o + size then s
  else if 0x80000 ≤ o then s.bellWrite n o size v
  else if s.isActive n then s.bar0Write n o size v x
  else if s.standbyTakes n o size then State.busEnd (s.ownWrite n 0xB 3 o size v x) n 0xB (cd n + o)
  else State.busEnd (s, .err 4) n 0xB (cd n + o)
/-- REGISTER_WRITE: a write of `size` bytes by debug at a device address, or by the host at a BAR0 offset in region 0x3
or a BAR2 offset in region 0x0 of `addr` (R9). -/
def execRegisterWrite (n : Fin 2) (host : Bool) (addr : DevAddr) (size : Fin 65) (v : Nat) (x : BusIn) (s : State) :
    Host.Outcome State Fault Refusal :=
  let a := addr.toNat
  done (if host then s.hostWrite n (a / 2 ^ 32 % 16) (a % 2 ^ 32) size v x else s.debugWrite n a size v x)

/-- NO_RESPONSE_TIMEOUT: 50 us after the oldest access that waits on die `n` was issued, it ends with NO_RESPONSE
(R49, R52). -/
def execNoResponseTimeout (n : Fin 2) (s : State) : Host.Outcome State Fault Refusal :=
  done (match (s.cdx n).waitAcc with
  | [] => s
  | (u, write, addr) :: rest =>
    let s := (s.modCd n (fun c => { c with waitAcc := rest })).addrErr n 5 (unitCode n u) write addr
    let s := { s with rsp := .error 5 }
    let a := sqix n u
    if 8 ≤ u then s
    else match (s.agent a).memOps.find? (fun m => m.addr == addr) with
      | some m => (s.modAgent a (fun g => { g with memOps := g.memOps.erase m })).engFault a 1 3 m.pc
      | none => s)

end Sys2Proof.Machine
end

