-- ==== Sys2Proof/Machine/Flags.lean ====
section
/-! DEFINITION. The conditions of CMP and the halves of a product (R339, R340). Assal has no flag register: CMP writes a
predicate register, and no scalar instruction sets anything on overflow. -/

namespace Sys2Proof.Machine

/-- The condition COND of CMP: 0 EQ, 1 NE, 2 LT, 3 GE, 4 LTU, 5 GEU (R339, R340). -/
def cond {w : Nat} (c : Nat) (x y : BitVec w) : Bool :=
  match c with
  | 0 => x == y
  | 1 => x != y
  | 2 => x.slt y
  | 3 => !x.slt y
  | 4 => x.ult y
  | _ => !x.ult y

/-- The low half of a product, or the high half, signed or unsigned (R339). -/
def mulHalf (uns hi : Bool) (x y : Word) : Word :=
  if hi then
    if uns then BitVec.ofNat 32 (x.toNat * y.toNat / 2 ^ 32) else BitVec.ofInt 32 (x.toInt * y.toInt / 2 ^ 32)
  else x * y

end Sys2Proof.Machine
end

