-- ==== Sys2Proof/Machine/Scalar.lean ====
section
/-! DEFINITION. The scalar instructions without memory access: ADD to CMP, and LI (R339 to R341). -/

namespace Sys2Proof.Machine

/-- ADD and SUB: the checks and register fields of R339; `neg` subtracts (R340). -/
def State.addSub (s : State) (a : Nat) (imm : Bool) (i : Ins) (neg : Bool) : State :=
  let ad := bitOf i.sub 4
  let legal := !i.x && i.sub % 16 == 0 && i.riOk imm && (!ad || (decide (i.a.val < 16) && decide (i.b.val < 16)))
  let rs := (if ad then [32 + i.a.val, 32 + i.b.val] else [i.a.val, i.b.val]) ++ (if imm then [] else [i.c.val])
  s.issueAdv a i legal rs (fun s =>
    if ad then
      let y := (s.srcC a imm i).signExtend 40
      let x := s.adR a i.b
      s.adW a i.a (if neg then x - y else x + y)
    else
      let y := s.srcC a imm i
      let x := s.sR a i.b
      s.sW a i.a (if neg then x - y else x + y))

/-- AND, OR, XOR, SHL, SHR and MUL: `f` computes on the two operands; SUB may hold the bits of `sub`. -/
def State.alu (s : State) (a : Nat) (imm : Bool) (i : Ins) (subOk : Bool) (f : Word → Word → Word) : State :=
  let legal := !i.x && subOk && i.riOk imm
  s.issueAdv a i legal ([i.a.val, i.b.val] ++ (if imm then [] else [i.c.val])) (fun s =>
    s.sW a i.a (f (s.sR a i.b) (s.srcC a imm i)))

/-- ADD (R340). -/
def execAdd (a : Fin 48) (imm : Bool) (i : Ins) (s : State) : Host.Outcome State Fault Refusal :=
  done (s.addSub a imm i false)
/-- SUB (R340). -/
def execSub (a : Fin 48) (imm : Bool) (i : Ins) (s : State) : Host.Outcome State Fault Refusal :=
  done (s.addSub a imm i true)
/-- MUL: the low or high half of the product (R339, R340). -/
def execMul (a : Fin 48) (imm : Bool) (i : Ins) (s : State) : Host.Outcome State Fault Refusal :=
  done (s.alu a imm i (decide (i.sub < 4) && i.sub != 2) (mulHalf (bitOf i.sub 1) (bitOf i.sub 0)))
/-- AND (R340). -/
def execAnd (a : Fin 48) (imm : Bool) (i : Ins) (s : State) : Host.Outcome State Fault Refusal :=
  done (s.alu a imm i (i.sub == 0) (· &&& ·))
/-- OR (R340). -/
def execOr (a : Fin 48) (imm : Bool) (i : Ins) (s : State) : Host.Outcome State Fault Refusal :=
  done (s.alu a imm i (i.sub == 0) (· ||| ·))
/-- XOR (R340). -/
def execXor (a : Fin 48) (imm : Bool) (i : Ins) (s : State) : Host.Outcome State Fault Refusal :=
  done (s.alu a imm i (i.sub == 0) (· ^^^ ·))
/-- SHL: by the operand modulo 32 (R340). -/
def execShl (a : Fin 48) (imm : Bool) (i : Ins) (s : State) : Host.Outcome State Fault Refusal :=
  done (s.alu a imm i (i.sub == 0) (fun x y => x <<< (y.toNat % 32)))
/-- SHR: logical, or arithmetic with ARITH, by the operand modulo 32 (R339, R340). -/
def execShr (a : Fin 48) (imm : Bool) (i : Ins) (s : State) : Host.Outcome State Fault Refusal :=
  done (s.alu a imm i (decide (i.sub < 2)) (fun x y =>
    if bitOf i.sub 0 then x.sshiftRight (y.toNat % 32) else x >>> (y.toNat % 32)))

/-- CMP writes p[A] (R339, R340). -/
def execCmp (a : Fin 48) (imm : Bool) (i : Ins) (s : State) : Host.Outcome State Fault Refusal :=
  let ad := bitOf i.sub 4
  let c := i.sub % 8
  let legal := !i.x && !bitOf i.sub 3 && decide (c < 6) && i.riOk imm && decide (i.a.val < 8)
    && (!ad || (!imm && decide (i.b.val < 16) && decide (i.c.val < 16)))
  let rs := if ad then [32 + i.b.val, 32 + i.c.val] else i.b.val :: (if imm then [] else [i.c.val])
  done (s.issueAdv a i legal rs (fun s =>
    s.pW a i.a (if ad then cond c (s.adR a i.b) (s.adR a i.c) else cond c (s.sR a i.b) (s.srcC a imm i))))

/-- LI (R341). -/
def execLi (a : Fin 48) (i : Ins) (s : State) : Host.Outcome State Fault Refusal :=
  let ad := bitOf i.sub 0
  let legal := decide (i.sub < 2) && i.b.val == 0 && i.c.val == 0 && (ad || !i.x) && (!ad || decide (i.a.val < 16))
    && decide (i.xw < 256)
  done (s.issueAdv a i legal [if ad then 32 + i.a.val else i.a.val] (fun s =>
    if ad then s.adW a i.a (BitVec.ofNat 40 (i.imm.toNat + i.xw % 256 * 2 ^ 32))
    else s.sW a i.a i.imm))

end Sys2Proof.Machine
end

