-- ==== Sys2Proof/Machine/Dispatch.lean ====
section
/-! DEFINITION. The meaning of every command: one arm per constructor, one call per arm. -/

namespace Sys2Proof.Machine

/-- The effect of a command on everything but the queue. -/
def exec (i : Instr) (s : State) : Host.Outcome State Fault Refusal :=
  match i with
  | .registerWrite n host addr size v x => Sys2Proof.Machine.execRegisterWrite n host addr size v x s
  | .vbatRise testmode lpclk => Sys2Proof.Machine.execVbatRise testmode lpclk s
  | .vaonLoss => Sys2Proof.Machine.execVaonLoss s
  | .bootDomainClocked n flash0 flash1 => Sys2Proof.Machine.execBootDomainClocked n flash0 flash1 s
  | .shelfListAdopt n => Sys2Proof.Machine.execShelfListAdopt n s
  | .activeClaim n => Sys2Proof.Machine.execActiveClaim n s
  | .cd1ClaimTimeout => Sys2Proof.Machine.execCd1ClaimTimeout s
  | .firmwareLoadDone n => Sys2Proof.Machine.execFirmwareLoadDone n s
  | .bootfailYield n => Sys2Proof.Machine.execBootfailYield n s
  | .hostfwVerify n => Sys2Proof.Machine.execHostfwVerify n s
  | .fallbackRequest n => Sys2Proof.Machine.execFallbackRequest n s
  | .hostWaitExpiry n => Sys2Proof.Machine.execHostWaitExpiry n s
  | .fallbackLoadDone n => Sys2Proof.Machine.execFallbackLoadDone n s
  | .perstNRise => Sys2Proof.Machine.execPerstNRise s
  | .perstNLow => Sys2Proof.Machine.execPerstNLow s
  | .pcieLinkUp n => Sys2Proof.Machine.execPcieLinkUp n s
  | .stackPowerStart n modes => Sys2Proof.Machine.execStackPowerStart n modes s
  | .pmbusStatusPoll n words => Sys2Proof.Machine.execPmbusStatusPoll n words s
  | .railFailTimeout n k => Sys2Proof.Machine.execRailFailTimeout n k s
  | .readingRoomSweepDone d => Sys2Proof.Machine.execReadingRoomSweepDone d s
  | .wimgStart n hostErr => Sys2Proof.Machine.execWimgStart n hostErr s
  | .wimgAbort n => Sys2Proof.Machine.execWimgAbort n s
  | .wimgLoadBegin n hostErr => Sys2Proof.Machine.execWimgLoadBegin n hostErr s
  | .wimgChunkDone n hostErr => Sys2Proof.Machine.execWimgChunkDone n hostErr s
  | .wimgLoadEnd n => Sys2Proof.Machine.execWimgLoadEnd n s
  | .pwrReqDoze n => Sys2Proof.Machine.execPwrReqDoze n s
  | .pwrReqStandby n => Sys2Proof.Machine.execPwrReqStandby n s
  | .pwrReqListen n => Sys2Proof.Machine.execPwrReqListen n s
  | .pwrReqServe n => Sys2Proof.Machine.execPwrReqServe n s
  | .wakeNLow => Sys2Proof.Machine.execWakeNLow s
  | .alarmExpiry => Sys2Proof.Machine.execAlarmExpiry s
  | .loadDieWakeEvent d => Sys2Proof.Machine.execLoadDieWakeEvent d s
  | .flRead n cs len => Sys2Proof.Machine.execFlRead n cs len s
  | .flProgram n cs len => Sys2Proof.Machine.execFlProgram n cs len s
  | .flEraseSector n cs len => Sys2Proof.Machine.execFlEraseSector n cs len s
  | .flEraseBlock n cs len => Sys2Proof.Machine.execFlEraseBlock n cs len s
  | .flashOpDone n ok => Sys2Proof.Machine.execFlashOpDone n ok s
  | .add a imm ins => Sys2Proof.Machine.execAdd a imm ins s
  | .sub a imm ins => Sys2Proof.Machine.execSub a imm ins s
  | .mul a imm ins => Sys2Proof.Machine.execMul a imm ins s
  | .and a imm ins => Sys2Proof.Machine.execAnd a imm ins s
  | .or a imm ins => Sys2Proof.Machine.execOr a imm ins s
  | .xor a imm ins => Sys2Proof.Machine.execXor a imm ins s
  | .shl a imm ins => Sys2Proof.Machine.execShl a imm ins s
  | .shr a imm ins => Sys2Proof.Machine.execShr a imm ins s
  | .cmp a imm ins => Sys2Proof.Machine.execCmp a imm ins s
  | .li a ins => Sys2Proof.Machine.execLi a ins s
  | .ld a ins x => Sys2Proof.Machine.execLd a ins x s
  | .st a ins x => Sys2Proof.Machine.execSt a ins x s
  | .b a ins => Sys2Proof.Machine.execB a ins s
  | .bc a ins => Sys2Proof.Machine.execBc a ins s
  | .call a ins => Sys2Proof.Machine.execCall a ins s
  | .callRemote a ins => Sys2Proof.Machine.execCallRemote a ins s
  | .ret a ins => Sys2Proof.Machine.execRet a ins s
  | .loop a ins => Sys2Proof.Machine.execLoop a ins s
  | .yield a ins => Sys2Proof.Machine.execYield a ins s
  | .halt a ins => Sys2Proof.Machine.execHalt a ins s
  | .trap a ins => Sys2Proof.Machine.execTrap a ins s
  | .mvm a ins upset => Sys2Proof.Machine.execMvm a ins upset s
  | .accrd a ins => Sys2Proof.Machine.execAccrd a ins s
  | .accclr a ins => Sys2Proof.Machine.execAccclr a ins s
  | .scaleget a ins => Sys2Proof.Machine.execScaleget a ins s
  | .vld a ins => Sys2Proof.Machine.execVld a ins s
  | .vldWiden a ins => Sys2Proof.Machine.execVldWiden a ins s
  | .vst a ins => Sys2Proof.Machine.execVst a ins s
  | .vadd a ins => Sys2Proof.Machine.execVadd a ins s
  | .vmul a ins => Sys2Proof.Machine.execVmul a ins s
  | .vfma a ins => Sys2Proof.Machine.execVfma a ins s
  | .vmax a ins => Sys2Proof.Machine.execVmax a ins s
  | .vsum a ins => Sys2Proof.Machine.execVsum a ins s
  | .vexp a ins => Sys2Proof.Machine.execVexp a ins s
  | .vrsq a ins => Sys2Proof.Machine.execVrsq a ins s
  | .vrcp a ins => Sys2Proof.Machine.execVrcp a ins s
  | .vcvtBf16ToI16 a ins => Sys2Proof.Machine.execVcvtBf16ToI16 a ins s
  | .vcvtI16ToBf16 a ins => Sys2Proof.Machine.execVcvtI16ToBf16 a ins s
  | .vcvtFp32ToBf16 a ins => Sys2Proof.Machine.execVcvtFp32ToBf16 a ins s
  | .vcvtBf16ToFp32 a ins => Sys2Proof.Machine.execVcvtBf16ToFp32 a ins s
  | .vqnt a ins => Sys2Proof.Machine.execVqnt a ins s
  | .vtbl a ins => Sys2Proof.Machine.execVtbl a ins s
  | .mov a ins => Sys2Proof.Machine.execMov a ins s
  | .movt a ins => Sys2Proof.Machine.execMovt a ins s
  | .reshard a ins => Sys2Proof.Machine.execReshard a ins s
  | .park a ins => Sys2Proof.Machine.execPark a ins s
  | .parkComplete n hostErr => Sys2Proof.Machine.execParkComplete n hostErr s
  | .unpark a ins => Sys2Proof.Machine.execUnpark a ins s
  | .unparkChunkVerified n hostErr => Sys2Proof.Machine.execUnparkChunkVerified n hostErr s
  | .semsig a ins => Sys2Proof.Machine.execSemsig a ins s
  | .semsigRemote a ins => Sys2Proof.Machine.execSemsigRemote a ins s
  | .semwait a ins => Sys2Proof.Machine.execSemwait a ins s
  | .semwt a ins => Sys2Proof.Machine.execSemwt a ins s
  | .semwtTimeout a => Sys2Proof.Machine.execSemwtTimeout a s
  | .semaphoreWaitDone k => Sys2Proof.Machine.execSemaphoreWaitDone k s
  | .fence a ins => Sys2Proof.Machine.execFence a ins s
  | .credreq a ins => Sys2Proof.Machine.execCredreq a ins s
  | .credgrant a ins => Sys2Proof.Machine.execCredgrant a ins s
  | .credrecl a ins => Sys2Proof.Machine.execCredrecl a ins s
  | .wrrem a ins => Sys2Proof.Machine.execWrrem a ins s
  | .enq a ins => Sys2Proof.Machine.execEnq a ins s
  | .cancel a ins => Sys2Proof.Machine.execCancel a ins s
  | .cmpl a ins => Sys2Proof.Machine.execCmpl a ins s
  | .ldsetOn a ins => Sys2Proof.Machine.execLdsetOn a ins s
  | .ldsetOff a ins => Sys2Proof.Machine.execLdsetOff a ins s
  | .ldsetRelimit a ins => Sys2Proof.Machine.execLdsetRelimit a ins s
  | .ldgetState a ins => Sys2Proof.Machine.execLdgetState a ins s
  | .ldgetCurrent a ins => Sys2Proof.Machine.execLdgetCurrent a ins s
  | .ldgetGrant a ins => Sys2Proof.Machine.execLdgetGrant a ins s
  | .budreq a ins => Sys2Proof.Machine.execBudreq a ins s
  | .budrel a ins => Sys2Proof.Machine.execBudrel a ins s
  | .rand a ins => Sys2Proof.Machine.execRand a ins s
  | .seal a ins => Sys2Proof.Machine.execSeal a ins s
  | .unseal a ins => Sys2Proof.Machine.execUnseal a ins s
  | .kdec a ins => Sys2Proof.Machine.execKdec a ins s
  | .engineInstrComplete a e => Sys2Proof.Machine.execEngineInstrComplete a e s
  | .trapDrainDone a => Sys2Proof.Machine.execTrapDrainDone a s
  | .stopTimeout a => Sys2Proof.Machine.execStopTimeout a s
  | .workStart d => Sys2Proof.Machine.execWorkStart d s
  | .workLoadprog d => Sys2Proof.Machine.execWorkLoadprog d s
  | .workStop d => Sys2Proof.Machine.execWorkStop d s
  | .workClaim d => Sys2Proof.Machine.execWorkClaim d s
  | .wingProgramStart d w => Sys2Proof.Machine.execWingProgramStart d w s
  | .doneReceive n => Sys2Proof.Machine.execDoneReceive n s
  | .stopNorouteTimeout a num => Sys2Proof.Machine.execStopNorouteTimeout a num s
  | .folioTakeoverStart d w => Sys2Proof.Machine.execFolioTakeoverStart d w s
  | .folioReloadDone d w hostErr => Sys2Proof.Machine.execFolioReloadDone d w hostErr s
  | .rowSweepDone d w upset => Sys2Proof.Machine.execRowSweepDone d w upset s
  | .folioCutover d w => Sys2Proof.Machine.execFolioCutover d w s
  | .folioReadmit d w => Sys2Proof.Machine.execFolioReadmit d w s
  | .shadowSwitch d w => Sys2Proof.Machine.execShadowSwitch d w s
  | .folioRetry d w => Sys2Proof.Machine.execFolioRetry d w s
  | .scrubRead d upset => Sys2Proof.Machine.execScrubRead d upset s
  | .leafPrecWrite d w f v => Sys2Proof.Machine.execLeafPrecWrite d w f v s
  | .shistClearAll d w => Sys2Proof.Machine.execShistClearAll d w s
  | .shistSet d w tag shift => Sys2Proof.Machine.execShistSet d w tag shift s
  | .shistClear d w tag => Sys2Proof.Machine.execShistClear d w tag s
  | .slotPlanLoad d w => Sys2Proof.Machine.execSlotPlanLoad d w s
  | .slotPlanApply d w => Sys2Proof.Machine.execSlotPlanApply d w s
  | .slotPlanStuck d w => Sys2Proof.Machine.execSlotPlanStuck d w s
  | .noslotTimeout d w => Sys2Proof.Machine.execNoslotTimeout d w s
  | .patrolScrubRead d w b upset => Sys2Proof.Machine.execPatrolScrubRead d w b upset s
  | .creditGrantReceive node unit => Sys2Proof.Machine.execCreditGrantReceive node unit s
  | .writeReceive d w => Sys2Proof.Machine.execWriteReceive d w s
  | .writeLanded d w => Sys2Proof.Machine.execWriteLanded d w s
  | .creditReqReceive d w => Sys2Proof.Machine.execCreditReqReceive d w s
  | .creqPopRead d w => Sys2Proof.Machine.execCreqPopRead d w s
  | .reclaimReqReceive node unit => Sys2Proof.Machine.execReclaimReqReceive node unit s
  | .reclaimAckReceive d w => Sys2Proof.Machine.execReclaimAckReceive d w s
  | .reclaimComplete d w c => Sys2Proof.Machine.execReclaimComplete d w c s
  | .reclaimTimeout d w c => Sys2Proof.Machine.execReclaimTimeout d w c s
  | .kvSetpool n unit d => Sys2Proof.Machine.execKvSetpool n unit d s
  | .kvReserve n unit d c => Sys2Proof.Machine.execKvReserve n unit d c s
  | .kvRelease n unit d c => Sys2Proof.Machine.execKvRelease n unit d c s
  | .laneFail l lane => Sys2Proof.Machine.execLaneFail l lane s
  | .shortTrainingDone l ok => Sys2Proof.Machine.execShortTrainingDone l ok s
  | .linkFullTrainingDone l ok => Sys2Proof.Machine.execLinkFullTrainingDone l ok s
  | .packetReceive k hdr payload crc => Sys2Proof.Machine.execPacketReceive k hdr payload crc s
  | .ackReceive k seq crcOk => Sys2Proof.Machine.execAckReceive k seq crcOk s
  | .nakReceive k seq crcOk => Sys2Proof.Machine.execNakReceive k seq crcOk s
  | .tokenReceive k vc count crcOk => Sys2Proof.Machine.execTokenReceive k vc count crcOk s
  | .retrainReceive k crcOk => Sys2Proof.Machine.execRetrainReceive k crcOk s
  | .ackSendTimer k => Sys2Proof.Machine.execAckSendTimer k s
  | .replayTimeout k => Sys2Proof.Machine.execReplayTimeout k s
  | .routeReceive d => Sys2Proof.Machine.execRouteReceive d s
  | .fetchReceive n hostErr => Sys2Proof.Machine.execFetchReceive n hostErr s
  | .fetchDataReceive d w => Sys2Proof.Machine.execFetchDataReceive d w s
  | .memwrReceive n hostErr => Sys2Proof.Machine.execMemwrReceive n hostErr s
  | .kvchkReceive d w => Sys2Proof.Machine.execKvchkReceive d w s
  | .kvackReceive d w => Sys2Proof.Machine.execKvackReceive d w s
  | .parkdataReceive n hostErr => Sys2Proof.Machine.execParkdataReceive n hostErr s
  | .unparkreqReceive n hostErr => Sys2Proof.Machine.execUnparkreqReceive n hostErr s
  | .telemSend d temp droop => Sys2Proof.Machine.execTelemSend d temp droop s
  | .qCmdRead n => Sys2Proof.Machine.execQCmdRead n s
  | .qCmdWrite n => Sys2Proof.Machine.execQCmdWrite n s
  | .doorbellWrite n q v => Sys2Proof.Machine.execDoorbellWrite n q v s
  | .queueSelect n => Sys2Proof.Machine.execQueueSelect n s
  | .headSlipArrive n err words => Sys2Proof.Machine.execHeadSlipArrive n err words s
  | .slipDispatch n => Sys2Proof.Machine.execSlipDispatch n s
  | .cancelPosWrite n pos => Sys2Proof.Machine.execCancelPosWrite n pos s
  | .carrelCreate n c w => Sys2Proof.Machine.execCarrelCreate n c w s
  | .carrelRelease n c => Sys2Proof.Machine.execCarrelRelease n c s
  | .mirrorAckReceive n => Sys2Proof.Machine.execMirrorAckReceive n s
  | .pairHeartbeatSend n line cross => Sys2Proof.Machine.execPairHeartbeatSend n line cross s
  | .pairHeartbeatLoss n => Sys2Proof.Machine.execPairHeartbeatLoss n s
  | .wdtInPulse n => Sys2Proof.Machine.execWdtInPulse n s
  | .peerResetSignal n => Sys2Proof.Machine.execPeerResetSignal n s
  | .takeoverComplete n => Sys2Proof.Machine.execTakeoverComplete n s
  | .seizeReceive n => Sys2Proof.Machine.execSeizeReceive n s
  | .seizeConfirmReceive n => Sys2Proof.Machine.execSeizeConfirmReceive n s
  | .seizeConfirmTimeout n => Sys2Proof.Machine.execSeizeConfirmTimeout n s
  | .pairHandover n => Sys2Proof.Machine.execPairHandover n s
  | .pairSeize n => Sys2Proof.Machine.execPairSeize n s
  | .yieldReceive n => Sys2Proof.Machine.execYieldReceive n s
  | .dieRestart n => Sys2Proof.Machine.execDieRestart n s
  | .seizeReleaseTimer n => Sys2Proof.Machine.execSeizeReleaseTimer n s
  | .rejoinReceive n => Sys2Proof.Machine.execRejoinReceive n s
  | .pairRejoin n => Sys2Proof.Machine.execPairRejoin n s
  | .fullCopyDone n => Sys2Proof.Machine.execFullCopyDone n s
  | .sleepHeartbeatSend n => Sys2Proof.Machine.execSleepHeartbeatSend n s
  | .sleepBeatMiss n => Sys2Proof.Machine.execSleepBeatMiss n s
  | .sleepPartnerLost n => Sys2Proof.Machine.execSleepPartnerLost n s
  | .sleepSeizeReceive n => Sys2Proof.Machine.execSleepSeizeReceive n s
  | .wdtKick a v => Sys2Proof.Machine.execWdtKick a v s
  | .wdtExpiryHandover n => Sys2Proof.Machine.execWdtExpiryHandover n s
  | .wdtPulseEnd n => Sys2Proof.Machine.execWdtPulseEnd n s
  | .wdtExpiryTrap n => Sys2Proof.Machine.execWdtExpiryTrap n s
  | .wdtHardTimerEnd n => Sys2Proof.Machine.execWdtHardTimerEnd n s
  | .chCmdOn d ch slow => Sys2Proof.Machine.execChCmdOn d ch slow s
  | .chCmdOff d ch => Sys2Proof.Machine.execChCmdOff d ch s
  | .chCmdRelimit d ch => Sys2Proof.Machine.execChCmdRelimit d ch s
  | .inrushWindowEnd d ch => Sys2Proof.Machine.execInrushWindowEnd d ch s
  | .inrushLearnDone d ch ms => Sys2Proof.Machine.execInrushLearnDone d ch ms s
  | .shortTrip d ch also => Sys2Proof.Machine.execShortTrip d ch also s
  | .otTrip d ch temp also => Sys2Proof.Machine.execOtTrip d ch temp also s
  | .i2tPeriodEnd d ch meanSq cur atLimit => Sys2Proof.Machine.execI2tPeriodEnd d ch meanSq cur atLimit s
  | .retryWaitEnd d ch => Sys2Proof.Machine.execRetryWaitEnd d ch s
  | .goodTimeExpiry d ch => Sys2Proof.Machine.execGoodTimeExpiry d ch s
  | .uvDetect d => Sys2Proof.Machine.execUvDetect d s
  | .uvRestartQualify d => Sys2Proof.Machine.execUvRestartQualify d s
  | .uvRestartNext d => Sys2Proof.Machine.execUvRestartNext d s
  | .ldLowVbatReset d => Sys2Proof.Machine.execLdLowVbatReset d s
  | .openLoadOnDetect d ch => Sys2Proof.Machine.execOpenLoadOnDetect d ch s
  | .offstateDiagTest d openLoad shortBat => Sys2Proof.Machine.execOffstateDiagTest d openLoad shortBat s
  | .stuckOnDetect d ch => Sys2Proof.Machine.execStuckOnDetect d ch s
  | .feedcutClear d groups => Sys2Proof.Machine.execFeedcutClear d groups s
  | .aggOverDetect d => Sys2Proof.Machine.execAggOverDetect d s
  | .limpHbTimeout d => Sys2Proof.Machine.execLimpHbTimeout d s
  | .limpNAssert => Sys2Proof.Machine.execLimpNAssert s
  | .limpExit d n => Sys2Proof.Machine.execLimpExit d n s
  | .adcTrig d => Sys2Proof.Machine.execAdcTrig d s
  | .adcPeriodicTimer d => Sys2Proof.Machine.execAdcPeriodicTimer d s
  | .adcConversionDone d code => Sys2Proof.Machine.execAdcConversionDone d code s
  | .adcStatRead d => Sys2Proof.Machine.execAdcStatRead d s
  | .otpProg d => Sys2Proof.Machine.execOtpProg d s
  | .otpProgDone d mask => Sys2Proof.Machine.execOtpProgDone d mask s
  | .lbusBridgeWrite n d unit off words => Sys2Proof.Machine.execLbusBridgeWrite n d unit off words s
  | .lbusBridgeRead n d unit off => Sys2Proof.Machine.execLbusBridgeRead n d unit off s
  | .lbusWriteFrame d n frame crc => Sys2Proof.Machine.execLbusWriteFrame d n frame crc s
  | .lbusReadFrame d n frame crc => Sys2Proof.Machine.execLbusReadFrame d n frame crc s
  | .lbusHbFrame d n frame crc => Sys2Proof.Machine.execLbusHbFrame d n frame crc s
  | .lbusAckReceive n d frame crc => Sys2Proof.Machine.execLbusAckReceive n d frame crc s
  | .lbusDataReceive n d frame crc => Sys2Proof.Machine.execLbusDataReceive n d frame crc s
  | .lbusResendTimeout n d => Sys2Proof.Machine.execLbusResendTimeout n d s
  | .stagedDataExpiry n e => Sys2Proof.Machine.execStagedDataExpiry n e s
  | .lbLockReq n d unit => Sys2Proof.Machine.execLbLockReq n d unit s
  | .lbLockRel n d unit => Sys2Proof.Machine.execLbLockRel n d unit s
  | .lbLockExpiry n d => Sys2Proof.Machine.execLbLockExpiry n d s
  | .lbusHbTimer n fresh => Sys2Proof.Machine.execLbusHbTimer n fresh s
  | .lbusPoll n d => Sys2Proof.Machine.execLbusPoll n d s
  | .telemetryRead n => Sys2Proof.Machine.execTelemetryRead n s
  | .sagLoopAdjust n tenMs => Sys2Proof.Machine.execSagLoopAdjust n tenMs s
  | .shedReleaseDone n e => Sys2Proof.Machine.execShedReleaseDone n e s
  | .levelWrite n d level ok => Sys2Proof.Machine.execLevelWrite n d level ok s
  | .levelLowerRelease n d => Sys2Proof.Machine.execLevelLowerRelease n d s
  | .lgSoftWrite n v => Sys2Proof.Machine.execLgSoftWrite n v s
  | .lgSagWrite n v => Sys2Proof.Machine.execLgSagWrite n v s
  | .audioFrameEnd n x => Sys2Proof.Machine.execAudioFrameEnd n x s
  | .kwHoldExpiry n => Sys2Proof.Machine.execKwHoldExpiry n s
  | .force2 n history => Sys2Proof.Machine.execForce2 n history s
  | .captureBlockMove n => Sys2Proof.Machine.execCaptureBlockMove n s
  | .capConsWrite n v => Sys2Proof.Machine.execCapConsWrite n v s
  | .pocketLoad n leaf first count => Sys2Proof.Machine.execPocketLoad n leaf first count s
  | .pocketLoadDone n history => Sys2Proof.Machine.execPocketLoadDone n history s
  | .kwPopRead n => Sys2Proof.Machine.execKwPopRead n s
  | .muteNLow => Sys2Proof.Machine.execMuteNLow s
  | .muteNRise => Sys2Proof.Machine.execMuteNRise s
  | .muteRelease => Sys2Proof.Machine.execMuteRelease s
  | .pbCtrlWrite n v => Sys2Proof.Machine.execPbCtrlWrite n v s
  | .pbProdWrite n v => Sys2Proof.Machine.execPbProdWrite n v s
  | .pbSampleConsume n => Sys2Proof.Machine.execPbSampleConsume n s
  | .tamperNLow => Sys2Proof.Machine.execTamperNLow s
  | .lcTransition n key target => Sys2Proof.Machine.execLcTransition n key target s
  | .lcBlowPubhash n key => Sys2Proof.Machine.execLcBlowPubhash n key s
  | .dbgGo n => Sys2Proof.Machine.execDbgGo n s
  | .macGo n => Sys2Proof.Machine.execMacGo n s
  | .trngReady n us => Sys2Proof.Machine.execTrngReady n us s
  | .trngHealthFail n apt => Sys2Proof.Machine.execTrngHealthFail n apt s
  | .monitorReset d supply => Sys2Proof.Machine.execMonitorReset d supply s
  | .monitorRelease d => Sys2Proof.Machine.execMonitorRelease d s
  | .hbtestHold n d => Sys2Proof.Machine.execHbtestHold n d s
  | .hbtestTimeout n d => Sys2Proof.Machine.execHbtestTimeout n d s
  | .feedcutTestAssert d groups => Sys2Proof.Machine.execFeedcutTestAssert d groups s
  | .sdSumPoll n d ok => Sys2Proof.Machine.execSdSumPoll n d ok s
  | .intEoiWrite n => Sys2Proof.Machine.execIntEoiWrite n s
  | .eoiWindowEnd n => Sys2Proof.Machine.execEoiWindowEnd n s
  | .dmaGo n c abort => Sys2Proof.Machine.execDmaGo n c abort s
  | .dmaAbort n c moved => Sys2Proof.Machine.execDmaAbort n c moved s
  | .dmaComplete n c failAt => Sys2Proof.Machine.execDmaComplete n c failAt s
  | .dbgHalt n mask => Sys2Proof.Machine.execDbgHalt n mask s
  | .dbgResume n mask => Sys2Proof.Machine.execDbgResume n mask s
  | .dbgStep n mask => Sys2Proof.Machine.execDbgStep n mask s
  | .pmbAlertScan n words => Sys2Proof.Machine.execPmbAlertScan n words s
  | .thermalShutdown k => Sys2Proof.Machine.execThermalShutdown k s
  | .thermalCooled n => Sys2Proof.Machine.execThermalCooled n s
  | .lpclkLoss n => Sys2Proof.Machine.execLpclkLoss n s
  | .lpclkReturn n => Sys2Proof.Machine.execLpclkReturn n s
  | .heartbeatPathSilence n cross => Sys2Proof.Machine.execHeartbeatPathSilence n cross s
  | .noResponseTimeout n => Sys2Proof.Machine.execNoResponseTimeout n s
  | .channelCool d ch temp => Sys2Proof.Machine.execChannelCool d ch temp s
  | .ledgerWindowTimer n e => Sys2Proof.Machine.execLedgerWindowTimer n e s
  | .zeroisationDone => Sys2Proof.Machine.execZeroisationDone s
  | .tamperNRelease => Sys2Proof.Machine.execTamperNRelease s
  | .limpNRelease => Sys2Proof.Machine.execLimpNRelease s
  | .macDone n => Sys2Proof.Machine.execMacDone n s

end Sys2Proof.Machine
end

