-- ==== Sys2Proof/Safety.lean ====
section
/-! DEFINITION. What a safe state is, and the words the statements use for what a command leaves alone: the canonical
form of the memories, the outputs that follow the state at the end of every command,
    and the key ranges of registers. -/

namespace Sys2Proof.Machine

/-- The memories of a state are in canonical form. -/
def Memory.wf (m : List Host.Cell) : Bool := Store.wf (0 : Byte) m

/-- Keys that the end of a command writes: INT_N of both dies with its count, the watchdogs' freeze, the pads. -/
def settleKeys : List Nat :=
  [0, 1].flatMap (fun n => [R.INT_STAT_ASSERTED, R.INT_CNT_ASSERTS, R.WDT_STAT_FROZEN, R.PAD_STAT_PERST,
    R.PAD_STAT_TAMPER, R.PAD_STAT_LIMP, R.PAD_STAT_MUTE, R.PAD_STAT_WDT_IN].map (fkey (cd n)))

/-- Key `k` belongs to a register at an address from `lo` up to `hi`. -/
def inRegs (lo hi k : Nat) : Prop := lo * 32 ≤ k ∧ k < hi * 32

/-- From `s` to `t` no register field changes but those with a key in `W` and the outputs that follow the state
(`settleKeys`). -/
def State.fieldsBut (W : Nat → Prop) (s t : State) : Prop :=
  ∀ d k, ¬ W k → k ∉ settleKeys → Store.get d t.fld k = Store.get d s.fld k

/-- The outputs that follow the state do follow it: on both Control dies INT_N is driven exactly while the condition of
R669 holds, the watchdog's count is frozen exactly while it runs and debug halts a sequencer of its die (R457), and
while VAON is present PAD_STAT shows the pins. -/
def State.settled (s : State) : Prop :=
  ∀ n : Fin 2,
    s.flag (cd n) R.INT_STAT_ASSERTED = s.intCond n ∧
    s.flag (cd n) R.WDT_STAT_FROZEN =
      (s.flag (cd n) R.WDT_STAT_RUNNING && (List.range 8).any (fun k => s.rd (cd n) (R.SQ_STAT_STATE.at k) == 5)) ∧
    (s.pins.vaon = true →
      s.flag (cd n) R.PAD_STAT_PERST = s.pins.perstN ∧ s.flag (cd n) R.PAD_STAT_TAMPER = s.pins.tamperN ∧
      s.flag (cd n) R.PAD_STAT_LIMP = s.pins.limpN ∧ s.flag (cd n) R.PAD_STAT_MUTE = s.pins.muteN ∧
      s.flag (cd n) R.PAD_STAT_WDT_IN = (s.cdx (1 - n)).wdtOut)

/-- The port of Control die `n` to Load die `d` holds a request made for `own`, in flight or waiting (R531). -/
def State.lbHas (s : State) (n d : Nat) (own : LbOwn) : Bool :=
  (s.lbPort n d).out.any (fun x => x.2.own == own) || (s.lbPort n d).q.any (fun r => r.own == own)

/-- Agent `a` issues instruction `i`, which touches the registers `regs`,
    and nothing keeps it from executing: the agent
runs and does not wait, its PC and every word of the instruction lie in its program memory,
    no register of `regs` has a
pending write, and the predicate it names reads 1 (R259, R265, R284). -/
abbrev State.issues (s : State) (a : Nat) (i : Ins) (regs : List Nat) : Prop :=
  s.ready a = true ∧ (s.agent a).pcBad = false ∧ s.pc a + b2n i.x < pmWords a ∧ regs.any (s.regPending a) = false ∧
    s.pR a i.pred.val = true

/-- From `s` to `t` agent `a` has gone on past instruction `i` in order: where no loop runs and the next word lies in the
program memory, the PC is one word on, two with an extension word (R281, R349). -/
abbrev State.wentOn (s t : State) (a : Nat) (i : Ins) : Prop :=
  (s.agent a).loops = [] → s.pc a + 1 + b2n i.x < pmWords a → t.pc a = s.pc a + 1 + b2n i.x

/-- Message `m` is on its way: it waits at its die, or a link port holds it, to be sent or unacknowledged (R226,
    R230). -/
def State.carries (s : State) (m : Msg) : Bool :=
  s.inbox.contains m || (List.range 26).any (fun k =>
    (s.port k).q.contains m || (s.port k).unacked.any (fun x => x.2.1 == m))

/-! ### What a command may change -/

/-- The parts of the state beside the register fields. -/
inductive Part where
  | mem
  | chans
  | lds
  | cds
  | agents
  | waitq
  | comErr
  | fresh
  | sems
  | ports
  | inbox
  | creds
  | poison
  | parity
  | acc
  | shScale
  | flips
  | wings
  | sds
  | pins
  | rsp
  | pending
  deriving DecidableEq, Repr

/-- `s` and `t` agree in a part. -/
def State.same (s t : State) : Part → Prop
  | .mem => t.mem = s.mem
  | .chans => t.chans = s.chans
  | .lds => t.lds = s.lds
  | .cds => t.cds = s.cds
  | .agents => t.agents = s.agents
  | .waitq => t.waitq = s.waitq
  | .comErr => t.comErr = s.comErr
  | .fresh => t.fresh = s.fresh
  | .sems => t.sems = s.sems
  | .ports => t.ports = s.ports
  | .inbox => t.inbox = s.inbox
  | .creds => t.creds = s.creds
  | .poison => t.poison = s.poison
  | .parity => t.parity = s.parity
  | .acc => t.acc = s.acc
  | .shScale => t.shScale = s.shScale
  | .flips => t.flips = s.flips
  | .wings => t.wings = s.wings
  | .sds => t.sds = s.sds
  | .pins => t.pins = s.pins
  | .rsp => t.rsp = s.rsp
  | .pending => t.pending = s.pending

/-- Where a command works, by which the frame statements group the commands: on one Load die; on registers and records of
one die; on one agent; on a die with messages or memories; on several units. -/
inductive Area where
  | loadDie
  | control
  | agent
  | linked
  | wide
  deriving DecidableEq, Repr

/-- The area of a command. -/
def areaOf : Instr → Area
  | .chCmdOn .. | .chCmdOff .. | .chCmdRelimit .. | .inrushWindowEnd .. | .inrushLearnDone .. | .shortTrip ..
  | .otTrip .. | .i2tPeriodEnd .. | .retryWaitEnd .. | .goodTimeExpiry .. | .uvDetect .. | .uvRestartQualify ..
  | .uvRestartNext .. | .ldLowVbatReset .. | .openLoadOnDetect .. | .offstateDiagTest .. | .stuckOnDetect ..
  | .feedcutClear .. | .aggOverDetect .. | .limpHbTimeout .. | .limpNAssert .. | .limpExit .. | .adcTrig ..
  | .adcPeriodicTimer .. | .adcConversionDone .. | .adcStatRead .. | .otpProg .. | .otpProgDone ..
  | .lbusWriteFrame .. | .lbusReadFrame .. | .lbusHbFrame .. | .monitorReset .. | .monitorRelease ..
  | .feedcutTestAssert .. | .channelCool .. | .limpNRelease .. => .loadDie
  | .bootDomainClocked .. | .bootfailYield .. | .fallbackRequest .. | .hostWaitExpiry .. | .perstNRise ..
  | .perstNLow .. | .pcieLinkUp .. | .wimgStart .. | .wimgLoadBegin .. | .flRead .. | .flProgram ..
  | .flEraseSector .. | .flEraseBlock .. | .flashOpDone .. | .folioTakeoverStart .. | .folioReadmit ..
  | .folioRetry .. | .leafPrecWrite .. | .shistClearAll .. | .shistSet .. | .shistClear .. | .slotPlanLoad ..
  | .slotPlanApply .. | .slotPlanStuck .. | .noslotTimeout .. | .patrolScrubRead .. | .writeLanded ..
  | .creqPopRead .. | .reclaimComplete .. | .reclaimTimeout .. | .kvSetpool .. | .kvReserve .. | .kvRelease ..
  | .retrainReceive .. | .qCmdRead .. | .qCmdWrite .. | .queueSelect .. | .pairHeartbeatSend ..
  | .pairHeartbeatLoss .. | .wdtInPulse .. | .peerResetSignal .. | .takeoverComplete .. | .pairHandover ..
  | .pairSeize .. | .seizeReleaseTimer .. | .rejoinReceive .. | .pairRejoin .. | .sleepHeartbeatSend ..
  | .sleepBeatMiss .. | .sleepPartnerLost .. | .sleepSeizeReceive .. | .wdtExpiryHandover ..
  | .lbusBridgeWrite .. | .lbusBridgeRead .. | .stagedDataExpiry .. | .lbLockReq .. | .lbusHbTimer ..
  | .lbusPoll .. | .telemetryRead .. | .lgSagWrite .. | .kwHoldExpiry .. | .force2 .. | .captureBlockMove ..
  | .capConsWrite .. | .pocketLoad .. | .kwPopRead .. | .muteNLow .. | .muteNRise .. | .muteRelease ..
  | .pbCtrlWrite .. | .pbProdWrite .. | .pbSampleConsume .. | .dbgGo .. | .macGo .. | .trngReady ..
  | .trngHealthFail .. | .hbtestHold .. | .hbtestTimeout .. | .sdSumPoll .. | .intEoiWrite ..
  | .eoiWindowEnd .. | .dbgResume .. | .lpclkLoss .. | .lpclkReturn .. | .tamperNRelease .. | .macDone .. => .control
  | .add .. | .sub .. | .mul .. | .and .. | .or .. | .xor .. | .shl .. | .shr .. | .cmp .. | .li .. | .b ..
  | .bc .. | .call .. | .ret .. | .loop .. | .trap .. | .semwtTimeout .. | .fence .. | .dbgHalt .. => .agent
  | .fallbackLoadDone .. | .wimgAbort .. | .wimgChunkDone .. | .wimgLoadEnd .. | .semsig ..
  | .semaphoreWaitDone .. | .ldgetState .. | .ldgetCurrent .. | .ldgetGrant .. | .rand .. | .workStart ..
  | .workLoadprog .. | .wingProgramStart .. | .folioReloadDone .. | .rowSweepDone .. | .folioCutover ..
  | .shadowSwitch .. | .scrubRead .. | .writeReceive .. | .creditReqReceive .. | .reclaimAckReceive ..
  | .laneFail .. | .shortTrainingDone .. | .linkFullTrainingDone .. | .packetReceive .. | .ackReceive ..
  | .nakReceive .. | .tokenReceive .. | .ackSendTimer .. | .replayTimeout .. | .routeReceive ..
  | .fetchReceive .. | .memwrReceive .. | .kvchkReceive .. | .parkdataReceive .. | .telemSend ..
  | .doorbellWrite .. | .slipDispatch .. | .mirrorAckReceive .. | .dieRestart .. | .fullCopyDone ..
  | .wdtKick .. | .wdtExpiryTrap .. | .pocketLoadDone .. | .tamperNLow .. | .lcTransition ..
  | .lcBlowPubhash .. | .dbgStep .. | .thermalCooled .. | .heartbeatPathSilence .. | .noResponseTimeout ..
  | .zeroisationDone .. => .linked
  | .registerWrite .. | .vbatRise .. | .vaonLoss .. | .shelfListAdopt .. | .activeClaim ..
  | .cd1ClaimTimeout .. | .firmwareLoadDone .. | .hostfwVerify .. | .stackPowerStart .. | .pmbusStatusPoll ..
  | .railFailTimeout .. | .readingRoomSweepDone .. | .pwrReqDoze .. | .pwrReqStandby .. | .pwrReqListen ..
  | .pwrReqServe .. | .wakeNLow .. | .alarmExpiry .. | .loadDieWakeEvent .. | .ld .. | .st .. | .callRemote ..
  | .yield .. | .halt .. | .mvm .. | .accrd .. | .accclr .. | .scaleget .. | .vld .. | .vldWiden .. | .vst ..
  | .vadd .. | .vmul .. | .vfma .. | .vmax .. | .vsum .. | .vexp .. | .vrsq .. | .vrcp .. | .vcvtBf16ToI16 ..
  | .vcvtI16ToBf16 .. | .vcvtFp32ToBf16 .. | .vcvtBf16ToFp32 .. | .vqnt .. | .vtbl .. | .mov .. | .movt ..
  | .reshard .. | .park .. | .parkComplete .. | .unpark .. | .unparkChunkVerified .. | .semsigRemote ..
  | .semwait .. | .semwt .. | .credreq .. | .credgrant .. | .credrecl .. | .wrrem .. | .enq .. | .cancel ..
  | .cmpl .. | .ldsetOn .. | .ldsetOff .. | .ldsetRelimit .. | .budreq .. | .budrel .. | .seal .. | .unseal ..
  | .kdec .. | .engineInstrComplete .. | .trapDrainDone .. | .stopTimeout .. | .workStop .. | .workClaim ..
  | .doneReceive .. | .stopNorouteTimeout .. | .creditGrantReceive .. | .reclaimReqReceive ..
  | .fetchDataReceive .. | .kvackReceive .. | .unparkreqReceive .. | .headSlipArrive .. | .cancelPosWrite ..
  | .carrelCreate .. | .carrelRelease .. | .seizeReceive .. | .seizeConfirmReceive .. | .seizeConfirmTimeout ..
  | .yieldReceive .. | .wdtPulseEnd .. | .wdtHardTimerEnd .. | .lbusAckReceive .. | .lbusDataReceive ..
  | .lbusResendTimeout .. | .lbLockRel .. | .lbLockExpiry .. | .sagLoopAdjust .. | .shedReleaseDone ..
  | .levelWrite .. | .levelLowerRelease .. | .lgSoftWrite .. | .audioFrameEnd .. | .dmaGo .. | .dmaAbort ..
  | .dmaComplete .. | .pmbAlertScan .. | .thermalShutdown .. | .ledgerWindowTimer .. => .wide

/-- The parts of the state that a command may change. -/
def partsOf : Instr → List Part
  | .leafPrecWrite .. | .shistClearAll .. | .shistSet .. | .shistClear .. | .noslotTimeout ..
  | .retrainReceive .. | .qCmdRead .. | .pairHeartbeatSend .. | .goodTimeExpiry .. | .openLoadOnDetect ..
  | .offstateDiagTest .. | .feedcutClear .. | .aggOverDetect .. | .limpExit .. | .otpProg .. | .lbLockReq ..
  | .lgSagWrite .. | .capConsWrite .. | .pbCtrlWrite .. | .pbProdWrite .. | .trngReady .. | .hbtestHold ..
  | .hbtestTimeout .. | .feedcutTestAssert .. | .intEoiWrite .. | .eoiWindowEnd .. | .dbgResume ..
  | .lpclkLoss .. | .lpclkReturn .. => []
  | .wdtExpiryTrap .. | .dbgStep .. => [.agents]
  | .bootDomainClocked .. | .bootfailYield .. | .fallbackRequest .. | .hostWaitExpiry .. | .wimgStart ..
  | .wimgLoadBegin .. | .flRead .. | .flProgram .. | .flEraseSector .. | .flEraseBlock .. | .queueSelect ..
  | .pairHeartbeatLoss .. | .wdtInPulse .. | .peerResetSignal .. | .pairHandover .. | .pairSeize ..
  | .seizeReleaseTimer .. | .rejoinReceive .. | .pairRejoin .. | .sleepHeartbeatSend .. | .sleepBeatMiss ..
  | .sleepPartnerLost .. | .wdtExpiryHandover .. | .stagedDataExpiry .. | .lbusHbTimer .. | .lbusPoll ..
  | .telemetryRead .. | .kwHoldExpiry .. | .pocketLoad .. | .dbgGo .. | .macGo .. | .trngHealthFail ..
  | .sdSumPoll .. => [.cds]
  | .chCmdOn .. | .chCmdOff .. | .chCmdRelimit .. | .inrushWindowEnd .. | .inrushLearnDone .. | .shortTrip ..
  | .otTrip .. | .i2tPeriodEnd .. | .retryWaitEnd .. | .uvDetect .. | .uvRestartQualify .. | .uvRestartNext ..
  | .stuckOnDetect .. | .limpHbTimeout .. | .channelCool .. => [.chans]
  | .adcTrig .. | .adcPeriodicTimer .. | .adcConversionDone .. | .otpProgDone .. | .lbusHbFrame .. => [.lds]
  | .muteNRise .. | .tamperNRelease .. | .limpNRelease .. => [.pins]
  | .ackReceive .. | .tokenReceive .. | .ackSendTimer .. => [.ports]
  | .kvSetpool .. | .kvReserve .. | .kvRelease .. | .adcStatRead .. => [.rsp]
  | .folioTakeoverStart .. | .folioReadmit .. | .folioRetry .. | .slotPlanLoad .. | .slotPlanApply ..
  | .slotPlanStuck .. => [.wings]
  | .add .. | .sub .. | .mul .. | .and .. | .or .. | .xor .. | .shl .. | .shr .. | .cmp .. | .li .. | .b ..
  | .bc .. | .call .. | .ret .. | .loop .. | .trap .. | .semwtTimeout .. | .fence .. | .dbgHalt .. => [.agents,
    .waitq]
  | .wingProgramStart .. => [.agents, .wings]
  | .wdtKick .. | .lcTransition .. | .lcBlowPubhash .. | .zeroisationDone .. => [.cds, .agents]
  | .pcieLinkUp .. | .takeoverComplete .. | .sleepSeizeReceive .. | .force2 .. => [.cds, .fresh]
  | .perstNRise .. | .perstNLow .. | .muteRelease .. => [.cds, .pins]
  | .lbusBridgeWrite .. | .lbusBridgeRead .. | .kwPopRead .. => [.cds, .rsp]
  | .ldLowVbatReset .. | .lbusWriteFrame .. | .monitorReset .. | .monitorRelease .. => [.chans, .lds]
  | .limpNAssert .. => [.chans, .pins]
  | .reclaimAckReceive .. => [.inbox, .wings]
  | .lbusReadFrame .. => [.lds, .fresh]
  | .flashOpDone .. | .doorbellWrite .. => [.mem, .cds]
  | .reclaimComplete .. | .reclaimTimeout .. => [.sems, .wings]
  | .shadowSwitch .. => [.shScale, .wings]
  | .creqPopRead .. => [.wings, .rsp]
  | .folioCutover .. => [.acc, .shScale, .wings]
  | .semsig .. | .ldgetState .. | .ldgetCurrent .. | .ldgetGrant .. => [.agents, .waitq, .sems]
  | .tamperNLow .. => [.cds, .agents, .pins]
  | .slipDispatch .. => [.cds, .agents, .waitq]
  | .muteNLow .. => [.cds, .fresh, .pins]
  | .wimgAbort .. => [.cds, .shScale, .wings]
  | .wimgChunkDone .. => [.mem, .cds, .flips]
  | .qCmdWrite .. => [.mem, .cds, .waitq]
  | .rowSweepDone .. => [.mem, .flips, .wings]
  | .patrolScrubRead .. => [.poison, .parity, .wings]
  | .writeReceive .. | .creditReqReceive .. => [.sems, .inbox, .wings]
  | .laneFail .. | .shortTrainingDone .. | .linkFullTrainingDone .. | .packetReceive .. | .nakReceive ..
  | .replayTimeout .. | .routeReceive .. | .fetchReceive .. | .kvchkReceive .. => [.agents, .sems, .ports, .inbox]
  | .rand .. => [.agents, .waitq, .fresh, .sems]
  | .lbLockRel .. | .lbLockExpiry .. | .noResponseTimeout .. => [.cds, .agents, .waitq, .rsp]
  | .railFailTimeout .. | .ldsetOn .. | .ldsetOff .. | .ldsetRelimit .. | .budreq .. | .budrel ..
  | .sagLoopAdjust .. | .shedReleaseDone .. | .levelWrite .. | .levelLowerRelease .. | .lgSoftWrite ..
  | .ledgerWindowTimer .. => [.cds, .agents, .waitq, .sems]
  | .parkdataReceive .. => [.mem, .cds, .agents, .inbox]
  | .macDone .. => [.mem, .cds, .comErr, .fresh]
  | .fallbackLoadDone .. | .wimgLoadEnd .. => [.mem, .cds, .fresh, .flips]
  | .memwrReceive .. => [.mem, .comErr, .fresh, .inbox]
  | .pbSampleConsume .. => [.mem, .comErr, .fresh, .sems]
  | .folioReloadDone .. => [.mem, .shScale, .flips, .wings]
  | .telemSend .. => [.agents, .sems, .ports, .inbox, .sds]
  | .workStart .. => [.agents, .sems, .ports, .inbox, .wings]
  | .semsigRemote .. | .credgrant .. => [.agents, .waitq, .sems, .ports, .inbox]
  | .lbusAckReceive .. | .lbusDataReceive .. | .lbusResendTimeout .. => [.cds, .agents, .waitq, .sems, .rsp]
  | .pmbusStatusPoll .. => [.cds, .agents, .waitq, .sems, .sds]
  | .vbatRise .. => [.chans, .lds, .cds, .agents, .pins]
  | .workLoadprog .. => [.mem, .agents, .sems, .ports, .inbox]
  | .semaphoreWaitDone .. => [.mem, .cds, .agents, .waitq, .sems]
  | .pocketLoadDone .. => [.mem, .cds, .comErr, .fresh, .flips]
  | .carrelCreate .. | .carrelRelease .. | .mirrorAckReceive .. | .captureBlockMove ..
  | .heartbeatPathSilence .. => [.mem, .cds, .comErr, .fresh, .sems]
  | .scrubRead .. => [.mem, .fresh, .shScale, .flips, .wings]
  | .writeLanded .. => [.mem, .sems, .poison, .parity, .wings]
  | .credrecl .. => [.agents, .waitq, .sems, .ports, .inbox, .wings]
  | .stopNorouteTimeout .. => [.mem, .agents, .waitq, .comErr, .fresh, .sems]
  | .fullCopyDone .. => [.mem, .cds, .agents, .sems, .ports, .inbox]
  | .wakeNLow .. | .alarmExpiry .. | .loadDieWakeEvent .. => [.mem, .cds, .agents, .waitq, .comErr, .sems]
  | .headSlipArrive .. => [.mem, .cds, .waitq, .comErr, .fresh, .sems]
  | .enq .. | .cmpl .. | .seal .. | .unseal .. | .kdec .. => [.mem, .cds, .agents, .waitq, .comErr, .fresh, .sems]
  | .audioFrameEnd .. => [.mem, .cds, .agents, .waitq, .comErr, .fresh, .sems, .flips]
  | .doneReceive .. => [.mem, .cds, .agents, .waitq, .comErr, .fresh, .sems, .inbox]
  | .dmaGo .. | .dmaAbort .. | .dmaComplete .. => [.mem, .cds, .agents, .comErr, .fresh, .sems, .ports, .inbox,
    .creds]
  | .firmwareLoadDone .. | .hostfwVerify .. => [.mem, .cds, .agents, .waitq, .comErr, .fresh, .sems, .ports, .inbox]
  | .dieRestart .. | .thermalCooled .. => [.mem, .cds, .agents, .waitq, .comErr, .sems, .ports, .inbox, .creds]
  | .seizeReceive .. | .yieldReceive .. | .wdtPulseEnd .. | .wdtHardTimerEnd .. => [.mem, .cds, .agents, .waitq,
    .comErr, .fresh, .sems, .ports, .inbox, .creds]
  | .shelfListAdopt .. | .activeClaim .. | .cd1ClaimTimeout .. => [.mem, .cds, .agents, .waitq, .comErr, .sems,
    .ports, .inbox, .creds, .wings]
  | .creditGrantReceive .. | .reclaimReqReceive .. | .fetchDataReceive .. | .kvackReceive .. => [.mem, .agents,
    .fresh, .sems, .ports, .inbox, .creds, .poison, .parity, .shScale, .wings]
  | .seizeConfirmReceive .. | .seizeConfirmTimeout .. => [.mem, .cds, .agents, .waitq, .comErr, .fresh, .sems,
    .ports, .inbox, .shScale, .wings]
  | .parkComplete .. | .unparkChunkVerified .. | .unparkreqReceive .. => [.mem, .cds, .agents, .fresh, .sems,
    .ports, .inbox, .creds, .poison, .parity, .shScale, .wings]
  | .callRemote .. | .yield .. | .halt .. | .semwait .. | .semwt .. | .cancel .. | .trapDrainDone ..
  | .stopTimeout .. | .workStop .. | .workClaim .. | .cancelPosWrite .. => [.mem, .cds, .agents, .waitq, .comErr,
    .fresh, .sems, .ports, .inbox, .creds, .wings, .sds]
  | .readingRoomSweepDone .. => [.mem, .cds, .agents, .comErr, .fresh, .sems, .ports, .inbox, .poison, .parity,
    .acc, .shScale, .wings]
  | .accrd .. | .accclr .. | .scaleget .. | .vld .. | .vldWiden .. | .vst .. | .vadd .. | .vmul .. | .vfma ..
  | .vmax .. | .vsum .. | .vexp .. | .vrsq .. | .vrcp .. | .vcvtBf16ToI16 .. | .vcvtI16ToBf16 ..
  | .vcvtFp32ToBf16 .. | .vcvtBf16ToFp32 .. | .vqnt .. | .vtbl .. | .mov .. | .movt .. | .reshard .. | .park ..
  | .unpark .. | .credreq .. | .wrrem .. => [.mem, .cds, .agents, .waitq, .comErr, .fresh, .sems, .ports, .inbox,
    .creds, .poison, .parity, .acc, .shScale, .wings]
  | .pmbAlertScan .. => [.mem, .cds, .agents, .waitq, .sems, .ports, .inbox, .creds, .poison, .parity, .acc,
    .shScale, .flips, .wings, .sds]
  | .mvm .. => [.mem, .cds, .agents, .waitq, .comErr, .fresh, .sems, .ports, .inbox, .creds, .poison, .parity,
    .acc, .shScale, .flips, .wings]
  | .engineInstrComplete .. => [.mem, .cds, .agents, .waitq, .comErr, .fresh, .sems, .ports, .inbox, .creds,
    .poison, .parity, .acc, .shScale, .wings, .sds]
  | .stackPowerStart .. | .pwrReqDoze .. | .pwrReqStandby .. | .pwrReqListen .. | .pwrReqServe ..
  | .thermalShutdown .. => [.mem, .cds, .agents, .waitq, .comErr, .fresh, .sems, .ports, .inbox, .creds, .poison,
    .parity, .acc, .shScale, .flips, .wings, .sds]
  | .registerWrite .. | .ld .. | .st .. => [.mem, .cds, .agents, .waitq, .comErr, .fresh, .sems, .ports, .inbox,
    .creds, .poison, .parity, .acc, .shScale, .flips, .wings, .sds, .rsp]
  | .vaonLoss .. => [.mem, .chans, .lds, .cds, .agents, .waitq, .comErr, .fresh, .sems, .ports, .inbox, .creds,
    .poison, .parity, .acc, .shScale, .flips, .wings, .sds, .pins]

/-- `t` agrees with `s` in every part that the command may not change. -/
def keeps (c : Instr) (s t : State) : Prop := ∀ p : Part, p ∉ partsOf c → s.same t p

/-- From `s` to `t` no register of an agent changes but the s registers in `S`,
    the ad registers in `A` and the predicates
in `P` of agent `a`, and no other agent changes at all (R257). -/
def State.agentBut (s t : State) (a : Nat) (S A P : Nat → Prop) : Prop :=
  (∀ b, b ≠ a → t.agent b = s.agent b) ∧ (∀ r, ¬ S r → t.sR a r = s.sR a r) ∧ (∀ r, ¬ A r → t.adR a r = s.adR a r) ∧
    (∀ r, ¬ P r → t.pR a r = s.pR a r) ∧ (t.agent a).v = (s.agent a).v ∧ (t.agent a).vp = (s.agent a).vp

end Sys2Proof.Machine
end

