-- ==== Sys2Proof/Certificates/Slice0/Obligations.lean ====
section
/-! DEFINITION. The statements about the block. A statement about what commands do gives, for each command it names, the
conditions on the state and the operands under which the command has its own effect, and concludes that exec answers a
next state with that effect. -/

section
open Sys2Proof Sys2Proof.Machine

/-- ON, OFF and RELIMIT of a load channel. The three channel commands (R476 to R478, R480, R483). -/
def Obligations.ChannelCommandsSwitch : Prop :=
    (∀ (d : Fin 2) (ch : Fin 24) (slow : Bool) (s : State),
      s.flag (ld d) R.LD_STAT_LIMP = false →
      s.flag (ld d) R.LD_STAT_UV = false →
      (if s.ganged d ch then 10 else 5) ≤ s.crd d ch R.CH_ILIM_ILIM →
      s.crd d ch R.CH_INRUSH_WINDOW ≤ 1000 →
      s.oddHalf d ch = false →
      ¬ (s.cflag d ch R.CH_STAT_LATCHED = true ∧ s.isHot d ch = true) →
      s.cflag d ch R.CH_STAT_ON = false →
      s.cflag d ch R.CH_STAT_RETRY_WAIT = false →
      s.cflag d ch R.CH_STAT_RESTART_PEND = false →
      ∃ t, exec (.chCmdOn d ch slow) s = .next t ∧
        t.crd d ch R.CH_STAT_ON = 1 ∧
        t.crd d ch R.CH_STAT_OUT = 1 ∧
        t.crd d ch R.CH_STAT_LATCHED = 0 ∧
        t.crd d ch R.CH_FAULT_RETRIES = 0 ∧
        t.crd d ch R.CH_STAT_INRUSH = (if s.crd d ch R.CH_INRUSH_WINDOW = 0 then s.crd d ch R.CH_STAT_INRUSH else 1) ∧
        (t.chan (cix d ch)).lim = s.limCap d ch (s.crd d ch R.CH_ILIM_ILIM) ∧
        (t.chan (cix d ch)).slow = slow) ∧
    (∀ (d : Fin 2) (ch : Fin 24) (s : State),
      s.flag (ld d) R.LD_STAT_LIMP = false →
      s.oddHalf d ch = false →
      ∃ t, exec (.chCmdOff d ch) s = .next t ∧
        t.crd d ch R.CH_STAT_ON = 0 ∧
        t.crd d ch R.CH_STAT_OUT = 0 ∧
        t.crd d ch R.CH_STAT_INRUSH = 0 ∧
        t.crd d ch R.CH_STAT_RETRY_WAIT = 0 ∧
        t.crd d ch R.CH_STAT_RESTART_PEND = 0 ∧
        t.crd d ch R.CH_FAULT_RETRIES = 0 ∧
        t.crd d ch R.CH_STAT_LATCHED = s.crd d ch R.CH_STAT_LATCHED) ∧
    (∀ (d : Fin 2) (ch : Fin 24) (s : State),
      s.flag (ld d) R.LD_STAT_LIMP = false →
      (if s.ganged d ch then 10 else 5) ≤ s.crd d ch R.CH_ILIM_ILIM →
      s.crd d ch R.CH_INRUSH_WINDOW ≤ 1000 →
      s.oddHalf d ch = false →
      ∃ t, exec (.chCmdRelimit d ch) s = .next t ∧
        (t.chan (cix d ch)).lim = s.limCap d ch (s.crd d ch R.CH_ILIM_ILIM) ∧
        t.crd d ch R.CH_STAT_ON = s.crd d ch R.CH_STAT_ON ∧
        t.crd d ch R.CH_STAT_OUT = s.crd d ch R.CH_STAT_OUT ∧
        s.limCap d ch (s.crd d ch R.CH_ILIM_ILIM) < s.crd d ch R.CH_ILIM_ILIM → t.crd d ch R.CH_STAT_CLAMPED = 1)

/-- What a channel does when one of its times ends or a test answers. Times and tests of one channel (R480, R481,
R489 to R491, R498). -/
def Obligations.ChannelTimersAndDiagnosis : Prop :=
    (∀ (d : Fin 2) (ch : Fin 24) (s : State),
      s.cflag d ch R.CH_STAT_INRUSH = true →
      ∃ t, exec (.inrushWindowEnd d ch) s = .next t ∧
        t.crd d ch R.CH_STAT_INRUSH = 0 ∧
        t.cflag d ch R.CH_CAUSE_INRUSH_END = true ∧
        t.crd d ch R.CH_STAT_ON = s.crd d ch R.CH_STAT_ON) ∧
    (∀ (d : Fin 2) (ch : Fin 24) (ms : Nat) (s : State),
      (s.chan (cix d ch)).learning = true →
      ∃ t, exec (.inrushLearnDone d ch ms) s = .next t ∧
        t.crd d ch R.CH_LEARN_VALID = 1 ∧
        (t.chan (cix d ch)).hist = (ms % 1024 :: (s.chan (cix d ch)).hist).take 4 ∧
        (t.chan (cix d ch)).learning = false ∧
        t.crd d ch R.CH_LEARN_LMAX = ((t.chan (cix d ch)).hist.foldl max 0) % 1024) ∧
    (∀ (d : Fin 2) (ch : Fin 24) (s : State),
      s.cflag d ch R.CH_STAT_RETRY_WAIT = true →
      s.isHot d ch = false →
      ∃ t, exec (.retryWaitEnd d ch) s = .next t ∧
        t.crd d ch R.CH_STAT_ON = 1 ∧
        t.crd d ch R.CH_STAT_OUT = 1 ∧
        t.crd d ch R.CH_STAT_RETRY_WAIT = 0 ∧
        t.crd d ch R.CH_FAULT_RETRIES = (min (s.crd d ch R.CH_FAULT_RETRIES + 1) 15)) ∧
    (∀ (d : Fin 2) (ch : Fin 24) (temp : Nat) (s : State),
      s.oddHalf d ch = false →
      s.cflag d ch R.CH_STAT_RETRY_WAIT = true →
      (s.chan (cix d ch)).waitDone = true →
      (s.wiring d ch).1 = 0 →
      ∃ t, exec (.channelCool d ch temp) s = .next t ∧
        t.crd d ch R.CH_STAT_ON = 1 ∧
        t.crd d ch R.CH_STAT_OUT = 1 ∧
        t.crd d ch R.CH_STAT_RETRY_WAIT = 0 ∧
        t.crd d ch R.CH_STAT_HOT = 0 ∧
        t.crd d ch R.CH_TEMP_T = temp % 4096 ∧
        (t.chan (cix d ch)).warm = false) ∧
    (∀ (d : Fin 2) (ch : Fin 24) (s : State),
      s.crd d ch R.CH_RETRY2_GOOD ≠ 0 →
      s.cflag d ch R.CH_STAT_OUT = true →
      ∃ t, exec (.goodTimeExpiry d ch) s = .next t ∧
        t.crd d ch R.CH_FAULT_RETRIES = 0 ∧
        t.crd d ch R.CH_FAULT_CODE = s.crd d ch R.CH_FAULT_CODE) ∧
    (∀ (d : Fin 2) (ch : Fin 24) (s : State),
      s.cflag d ch R.CH_STAT_OUT = true →
      s.cflag d ch R.CH_STAT_INRUSH = false →
      s.oddHalf d ch = false →
      ∃ t, exec (.openLoadOnDetect d ch) s = .next t ∧
        t.crd d ch R.CH_FAULT_CODE = 4 ∧
        t.cflag d ch R.CH_CAUSE_OL_ON = true ∧
        t.crd d ch R.CH_STAT_OUT = s.crd d ch R.CH_STAT_OUT ∧
        t.crd d ch R.CH_STAT_ON = s.crd d ch R.CH_STAT_ON)

/-- Trips of a channel, and under-voltage and restart of a Load die. The three trips with retry strategy 0 (R484,
R485, R487 to R489); Under-voltage and the staggered restart (R495, R496). -/
def Obligations.TripsAndUnderVoltage : Prop :=
    (∀ (d : Fin 2) (ch : Fin 24) (also : Nat) (s : State),
      s.oddHalf d ch = false →
      s.cflag d ch R.CH_STAT_ON = true →
      s.cflag d ch R.CH_STAT_OUT = true →
      s.crd d ch R.CH_RETRY_STRAT = 0 →
      ∃ t, exec (.shortTrip d ch also) s = .next t ∧
        t.crd d ch R.CH_STAT_ON = 0 ∧
        t.crd d ch R.CH_STAT_OUT = 0 ∧
        t.crd d ch R.CH_STAT_LATCHED = 1 ∧
        t.crd d ch R.CH_FAULT_CODE = 1 ∧
        t.cflag d ch R.CH_CAUSE_SHORT = true ∧
        t.crd d ch R.CH_CNT_TRIPS = min (s.crd d ch R.CH_CNT_TRIPS + 1) 255) ∧
    (∀ (d : Fin 2) (ch : Fin 24) (temp also : Nat) (s : State),
      s.oddHalf d ch = false →
      s.cflag d ch R.CH_STAT_ON = true →
      s.cflag d ch R.CH_STAT_OUT = true →
      s.crd d ch R.CH_RETRY_STRAT = 0 →
      ∃ t, exec (.otTrip d ch temp also) s = .next t ∧
        t.crd d ch R.CH_STAT_ON = 0 ∧
        t.crd d ch R.CH_STAT_OUT = 0 ∧
        t.crd d ch R.CH_STAT_LATCHED = 1 ∧
        t.crd d ch R.CH_FAULT_CODE = 2 ∧
        t.cflag d ch R.CH_CAUSE_OT = true ∧
        t.crd d ch R.CH_STAT_HOT = 1 ∧
        t.crd d ch R.CH_TEMP_T = temp % 4096 ∧
        (t.chan (cix d ch)).warm = true) ∧
    (∀ (d : Fin 2) (ch : Fin 24) (meanSq cur : Nat) (lim : Bool) (s : State),
      s.oddHalf d ch = false →
      s.cflag d ch R.CH_STAT_ON = true →
      s.cflag d ch R.CH_STAT_OUT = true →
      s.crd d ch R.CH_RETRY_STRAT = 0 →
      (s.wiring d ch).1 ≠ 0 →
      ((s.wiring d ch).2 * 4000000 : Int) < (s.chan (cix d ch)).q + ((meanSq : Int) - ((10 * (s.wiring d ch).1 * (10 * (s.wiring d ch).1) : Nat) : Int)) * (s.crd d ch R.CH_I2T_PER_PER : Int) →
      ∃ t, exec (.i2tPeriodEnd d ch meanSq cur lim) s = .next t ∧
        t.crd d ch R.CH_STAT_ON = 0 ∧
        t.crd d ch R.CH_STAT_OUT = 0 ∧
        t.crd d ch R.CH_STAT_LATCHED = 1 ∧
        t.crd d ch R.CH_FAULT_CODE = 3 ∧
        t.cflag d ch R.CH_CAUSE_I2T = true ∧
        t.crd d ch R.CH_CUR_I = min cur 4095) ∧
    (∀ (d : Fin 2) (s : State),
      s.flag (ld d) R.LD_STAT_UV = false →
      ∃ t, exec (.uvDetect d) s = .next t ∧
        t.rd (ld d) R.LD_STAT_UV = 1 ∧
        t.rd (ld d) R.LD_STAT_RESTARTING = 0 ∧
        t.rd (ld d) R.UV_CNT_SHUTDOWNS = min (s.rd (ld d) R.UV_CNT_SHUTDOWNS + 1) 65535 ∧
        t.flag (ld d) R.LD_CAUSE_UV = true ∧
        (∀ c : Fin 24, s.isSafety d c = false → s.oddHalf d c = false → s.cflag d c R.CH_STAT_ON = true →
          t.crd d c R.CH_STAT_ON = 0 ∧ t.crd d c R.CH_STAT_OUT = 0 ∧ t.crd d c R.CH_STAT_RESTART_PEND = 1 ∧ t.crd d c R.CH_FAULT_CODE = 9 ∧
          t.crd d c R.CH_FAULT_RETRIES = s.crd d c R.CH_FAULT_RETRIES) ∧
        (∀ c : Fin 24, s.isSafety d c = true → t.crd d c R.CH_STAT_ON = s.crd d c R.CH_STAT_ON)) ∧
    (∀ (d : Fin 2) (s : State),
      s.flag (ld d) R.LD_STAT_UV = true →
      ∃ t, exec (.uvRestartQualify d) s = .next t ∧
        t.rd (ld d) R.LD_STAT_UV = 0 ∧
        t.flag (ld d) R.LD_CAUSE_UV_RESTORED = true ∧
        (∀ c : Fin 24, s.nextRestart d = some c.val → t.crd d c R.CH_STAT_ON = 1 ∧ t.crd d c R.CH_STAT_OUT = 1 ∧ t.crd d c R.CH_STAT_RESTART_PEND = 0) ∧
        t.flag (ld d) R.LD_STAT_RESTARTING = (List.range 24).any (fun c => t.cflag d c R.CH_STAT_RESTART_PEND)) ∧
    (∀ (d : Fin 2) (s : State),
      s.flag (ld d) R.LD_STAT_RESTARTING = true →
      ∃ t, exec (.uvRestartNext d) s = .next t ∧
        (∀ c : Fin 24, s.nextRestart d = some c.val → t.crd d c R.CH_STAT_ON = 1 ∧ t.crd d c R.CH_STAT_OUT = 1 ∧ t.crd d c R.CH_STAT_RESTART_PEND = 0) ∧
        t.flag (ld d) R.LD_STAT_RESTARTING = (List.range 24).any (fun c => t.cflag d c R.CH_STAT_RESTART_PEND))

/-- Resets of a Load die, and the entry to and exit from limp-home. Resets of a Load die (R473, R497, R508, R509,
R641); Limp-home (R95, R508, R511). -/
def Obligations.LoadDieResetAndLimpHome : Prop :=
    (∀ (d : Fin 2) (s : State),
      ∃ t, exec (.ldLowVbatReset d) s = .next t ∧
        (t.ldx d).inReset = false ∧
        (t.ldx d).otp = (s.ldx d).otp ∧
        t.rd (ld d) R.LD_STAT_LIMP = 1 ∧
        t.rd (ld d) R.LD_STAT_SRC = (if s.pins.limpN then 3 else 1) ∧
        t.rd (ld d) R.LD_RSTCAUSE_POR = 1 ∧
        (∀ c : Fin 24, t.crd d c R.CH_OTP_A_VAL = Store.get 0 (s.ldx d).otp (3 * c) % 65536 ∧ t.crd d c R.CH_STAT_LIMP = 1) ∧
        (∀ c : Fin 24, t.oddHalf d c = false → bits (t.crd d c R.CH_OTP_A_VAL) 15 14 = 1 → bits (t.crd d c R.CH_OTP_B_VAL) 15 8 ≠ 0 → t.crd d c R.CH_STAT_ON = 1) ∧
        (∀ c : Fin 24, t.oddHalf d c = false → bits (t.crd d c R.CH_OTP_A_VAL) 15 14 ≠ 1 → t.crd d c R.CH_STAT_ON = 0)) ∧
    (∀ (d : Fin 2) (supply : Bool) (s : State),
      ∃ t, exec (.monitorReset d supply) s = .next t ∧
        (t.ldx d).inReset = true ∧
        (t.ldx d).otp = (s.ldx d).otp ∧
        t.flag (ld d) R.LD_RSTCAUSE_VREG = supply ∧
        t.flag (ld d) R.LD_RSTCAUSE_CLKMON = !supply ∧
        (t.ldx d).owner = none ∧
        (∀ c : Fin 24, t.crd d c R.CH_STAT_ON = 0 ∧ t.crd d c R.CH_STAT_OUT = 0)) ∧
    (∀ (d : Fin 2) (s : State),
      (s.ldx d).inReset = true →
      ∃ t, exec (.monitorRelease d) s = .next t ∧
        (t.ldx d).inReset = false ∧
        t.rd (ld d) R.LD_STAT_LIMP = 1 ∧
        t.rd (ld d) R.LD_STAT_SRC = (if s.pins.limpN then 3 else 1) ∧
        (∀ c : Fin 24, t.crd d c R.CH_OTP_A_VAL = Store.get 0 (s.ldx d).otp (3 * c) % 65536 ∧ t.crd d c R.CH_STAT_LIMP = 1)) ∧
    (∀ (d : Fin 2) (s : State),
      (s.ldx d).inReset = false →
      s.flag (ld d) R.LD_STAT_LIMP = false →
      ∃ t, exec (.limpHbTimeout d) s = .next t ∧
        t.rd (ld d) R.LD_STAT_LIMP = 1 ∧
        t.rd (ld d) R.LD_STAT_SRC = 4 ∧
        t.flag (ld d) R.LD_CAUSE_LIMP_ENTRY = true ∧
        (∀ c : Fin 24, t.crd d c R.CH_STAT_LIMP = 1) ∧
        t.rd (ld d) R.HB_STAT_AGE = max 30 (s.rd (ld d) R.HB_STAT_AGE) % 256) ∧
    (∀ (d : Fin 2) (s : State),
      (s.ldx d).inReset = false →
      s.flag (ld d) R.LD_STAT_LIMP = false →
      ∃ t, exec (.limpNAssert) s = .next t ∧
        t.pins.limpN = true ∧
        t.rd (cd 0) R.PAD_STAT_LIMP = 1 ∧
        t.rd (cd 1) R.PAD_STAT_LIMP = 1 ∧
        t.rd (ld d) R.LD_STAT_LIMP_N = 1 ∧
        t.rd (ld d) R.LD_STAT_LIMP = 1 ∧
        t.rd (ld d) R.LD_STAT_SRC = 2 ∧
        t.flag (ld d) R.LD_CAUSE_LIMP_ENTRY = true) ∧
    (∀ (s : State),
      ∃ t, exec (.limpNRelease) s = .next t ∧
        t.pins.limpN = false ∧
        t.rd (cd 0) R.PAD_STAT_LIMP = 0 ∧
        t.rd (cd 1) R.PAD_STAT_LIMP = 0 ∧
        t.rd (ld 0) R.LD_STAT_LIMP_N = 0 ∧
        t.rd (ld 1) R.LD_STAT_LIMP_N = 0 ∧
        t.rd (ld 0) R.LD_STAT_LIMP = s.rd (ld 0) R.LD_STAT_LIMP ∧
        t.rd (ld 1) R.LD_STAT_LIMP = s.rd (ld 1) R.LD_STAT_LIMP) ∧
    (∀ (d n : Fin 2) (s : State),
      s.flag (ld d) R.LD_STAT_LIMP = true →
      s.pins.limpN = false →
      s.rd (ld d) R.HB_STAT_AGE < 30 →
      s.isActive n = true →
      ∃ t, exec (.limpExit d n) s = .next t ∧
        t.rd (ld d) R.LD_STAT_LIMP = 0 ∧
        t.rd (ld d) R.LD_STAT_SRC = 0 ∧
        t.flag (ld d) R.LD_CAUSE_LIMP_EXIT = true ∧
        (∀ c : Fin 24, t.crd d c R.CH_STAT_LIMP = 0 ∧ t.crd d c R.CH_STAT_ON = s.crd d c R.CH_STAT_ON))

/-- FEEDCUT, its test, the off-state tests and the total current of a Load die. Diagnosis of groups and of a Load
die (R498, R499, R506, R645). -/
def Obligations.GroupFeedAndDieDiagnosis : Prop :=
    (∀ (d : Fin 2) (ch : Fin 24) (s : State),
      s.oddHalf d ch = false →
      s.cflag d ch R.CH_STAT_OUT = false →
      ∃ t, exec (.stuckOnDetect d ch) s = .next t ∧
        bitOf (t.rd (ld d) R.LD_STAT_FEEDCUT) (ch / 8) = true ∧
        t.flag (ld d) R.LD_CAUSE_FEEDCUT = true ∧
        t.cflag d ch R.CH_CAUSE_STUCK_ON = true ∧
        t.crd d ch R.CH_FAULT_CODE = 7 ∧
        (∀ c : Fin 24, c / 8 = ch / 8 → t.crd d c R.CH_STAT_FEEDCUT = 1 ∧ (c ≠ ch → t.crd d c R.CH_FAULT_CODE = 8) ∧ (s.oddHalf d c = false → t.crd d c R.CH_STAT_ON = 0 ∧ t.crd d c R.CH_STAT_OUT = 0))) ∧
    (∀ (d : Fin 2) (groups : Nat) (s : State),
      ∃ t, exec (.feedcutClear d groups) s = .next t ∧
        (∀ g : Fin 3, bitOf groups g = true → bits (s.rd (ld d) R.FEEDCUT_CNT_G) (2 * g + 1) (2 * g) ≠ 3 →
          bitOf (t.rd (ld d) R.LD_STAT_FEEDCUT) g = false ∧ ∀ i : Fin 8, t.crd d (8 * g + i) R.CH_STAT_FEEDCUT = 0) ∧
        (∀ g : Fin 3, bits (s.rd (ld d) R.FEEDCUT_CNT_G) (2 * g + 1) (2 * g) = 3 → bitOf (t.rd (ld d) R.LD_STAT_FEEDCUT) g = bitOf (s.rd (ld d) R.LD_STAT_FEEDCUT) g) ∧
        t.rd (ld d) R.FEEDCUT_CNT_G = s.rd (ld d) R.FEEDCUT_CNT_G) ∧
    (∀ (d : Fin 2) (groups : Nat) (s : State),
      s.flag (ld d) R.LD_STAT_LIMP = true →
      ∃ t, exec (.feedcutTestAssert d groups) s = .next t ∧
        (∀ g : Fin 3, bitOf groups g = true → (∀ i : Fin 8, s.cflag d (8 * g + i) R.CH_STAT_ON = false ∧ s.cflag d (8 * g + i) R.CH_STAT_RESTART_PEND = false ∧ s.cflag d (8 * g + i) R.CH_STAT_OUT = false) →
          bitOf (t.rd (ld d) R.LD_STAT_FEEDCUT) g = true ∧ bitOf (t.rd (ld d) R.FEEDCUT_TEST_TESTING) g = true) ∧
        t.rd (ld d) R.FEEDCUT_CNT_G = s.rd (ld d) R.FEEDCUT_CNT_G ∧
        t.rd (ld d) R.LD_CAUSE_FEEDCUT = s.rd (ld d) R.LD_CAUSE_FEEDCUT) ∧
    (∀ (d : Fin 2) (openLoad shortBat : Nat) (s : State),
      ∃ t, exec (.offstateDiagTest d openLoad shortBat) s = .next t ∧
        (∀ c : Fin 24, s.diagRuns d c = true → bitOf openLoad c = true → t.crd d c R.CH_FAULT_CODE = 5 ∧ t.cflag d c R.CH_CAUSE_OL_OFF = true) ∧
        (∀ c : Fin 24, s.diagRuns d c = true → bitOf openLoad c = false → bitOf shortBat c = true → t.crd d c R.CH_FAULT_CODE = 6 ∧ t.cflag d c R.CH_CAUSE_STB = true) ∧
        (∀ c : Fin 24, s.diagRuns d c = false → t.crd d c R.CH_FAULT_CODE = s.crd d c R.CH_FAULT_CODE)) ∧
    (∀ (d : Fin 2) (s : State),
      ∃ t, exec (.aggOverDetect d) s = .next t ∧
        t.rd (ld d) R.LD_STAT_AGG_OVER = 1 ∧
        t.flag (ld d) R.LD_CAUSE_AGG_OVER = true)

/-- The ADC sequencer and OTP programming of a Load die. The ADC sequencer and OTP (R474, R504, R505, R521). -/
def Obligations.AdcAndOtpCommandsRun : Prop :=
    (∀ (d : Fin 2) (s : State),
      s.flag (ld d) R.ADC_STAT_RUN = false →
      s.rd (ld d) R.ADC_CTRL_LEN ≠ 0 →
      ∃ t, exec (.adcTrig d) s = .next t ∧
        t.rd (ld d) R.ADC_STAT_RUN = 1 ∧
        (t.ldx d).adcPos = 0 ∧
        t.rd (ld d) R.ADC_STAT_OVERRUN = s.rd (ld d) R.ADC_STAT_OVERRUN) ∧
    (∀ (d : Fin 2) (s : State),
      s.flag (ld d) R.ADC_STAT_RUN = true →
      s.flag (ld d) R.ADC_STAT_PEND = true →
      ∃ t, exec (.adcTrig d) s = .next t ∧
        t.rd (ld d) R.ADC_STAT_OVERRUN = min (s.rd (ld d) R.ADC_STAT_OVERRUN + 1) 255 ∧
        t.flag (ld d) R.LD_CAUSE_OVERRUN = true ∧
        t.ldx d = s.ldx d) ∧
    (∀ (d : Fin 2) (s : State),
      s.flag (ld d) R.ADC_CTRL_PER_EN = true →
      s.rd (ld d) R.ADC_PER_PERIOD ≠ 0 →
      s.flag (ld d) R.ADC_STAT_RUN = true →
      s.flag (ld d) R.ADC_STAT_PEND = false →
      ∃ t, exec (.adcPeriodicTimer d) s = .next t ∧
        t.rd (ld d) R.ADC_STAT_PEND = 1 ∧
        t.flag (ld d) R.ADC_STAT_RUN = true ∧
        t.rd (ld d) R.ADC_STAT_OVERRUN = s.rd (ld d) R.ADC_STAT_OVERRUN) ∧
    (∀ (d : Fin 2) (code : Nat) (s : State),
      s.flag (ld d) R.ADC_STAT_RUN = true →
      (s.ldx d).adcPos < 31 →
      s.rd (ld d) R.ADC_CTRL_LEN = (s.ldx d).adcPos + 1 →
      s.rd (ld d) (R.ADC_SEQ_SRC.at (s.ldx d).adcPos) < 0x1E →
      s.flag (ld d) R.ADC_STAT_PEND = false →
      ∃ t, exec (.adcConversionDone d code) s = .next t ∧
        t.rd (ld d) (R.ADC_RES_CODE.at (s.ldx d).adcPos) = code % 4096 ∧
        t.rd (ld d) (R.ADC_LAST_CODE.at (s.rd (ld d) (R.ADC_SEQ_SRC.at (s.ldx d).adcPos))) = code % 4096 ∧
        t.rd (ld d) R.ADC_STAT_RUN = 0 ∧
        t.rd (ld d) R.ADC_SEQNO_N = (s.rd (ld d) R.ADC_SEQNO_N + 1) % 65536) ∧
    (∀ (d : Fin 2) (s : State),
      ∃ t, exec (.adcStatRead d) s = .next t ∧
        t.rsp = .ok (s.rd (ld d) R.ADC_STAT_OVERRUN + 0x4000 * s.rd (ld d) R.ADC_STAT_PEND + 0x8000 * s.rd (ld d) R.ADC_STAT_RUN) ∧
        t.rd (ld d) R.ADC_STAT_OVERRUN = 0 ∧
        t.rd (ld d) R.ADC_STAT_PEND = s.rd (ld d) R.ADC_STAT_PEND ∧
        t.rd (ld d) R.ADC_STAT_RUN = s.rd (ld d) R.ADC_STAT_RUN) ∧
    (∀ (d : Fin 2) (s : State),
      s.flag (ld d) R.OTP_STAT_BUSY = false →
      ∃ t, exec (.otpProg d) s = .next t ∧
        t.rd (ld d) R.OTP_STAT_BUSY = 1 ∧
        t.ldx d = s.ldx d) ∧
    (∀ (d : Fin 2) (mask : Nat) (s : State),
      s.flag (ld d) R.OTP_STAT_BUSY = true →
      s.rd (ld d) R.OTP_ADDR_WORD < 72 →
      ∃ t, exec (.otpProgDone d mask) s = .next t ∧
        Store.get 0 (t.ldx d).otp (s.rd (ld d) R.OTP_ADDR_WORD) =
          (Store.get 0 (s.ldx d).otp (s.rd (ld d) R.OTP_ADDR_WORD) ||| (s.rd (ld d) R.OTP_DATA_DATA &&& mask)) ∧
        t.rd (ld d) R.OTP_STAT_BUSY = 0 ∧
        t.rd (ld d) R.OTP_STAT_ERR = (if s.rd (ld d) R.OTP_DATA_DATA &&& mask = s.rd (ld d) R.OTP_DATA_DATA then 0 else 2))

/-- A software access to a Load die is sent, staged, answered or refused by the bridge. Software accesses through
the bridge (R528 to R530). -/
def Obligations.BridgeAccessesAreSent : Prop :=
    (∀ (n d : Fin 2) (unit off : Nat) (w : Nat) (s : State),
      off % 2 = 0 →
      off + 2 ≤ 0x8000 →
      s.rd (cd n) (diesFld (6 + d)) ≠ 0 →
      s.lbRefused n (off / 2) 1 = false →
      s.lbLockedOut n d (unitCode n unit) = false →
      ∃ t, exec (.lbusBridgeWrite n d unit off [w]) s = .next t ∧
        t.rsp = .ok 0 ∧
        (t.cdx n).nextAcc = (s.cdx n).nextAcc + 1 ∧
        t.lbHas n d (.soft (unitCode n unit) (s.cdx n).nextAcc) = true) ∧
    (∀ (n d : Fin 2) (unit off : Nat) (words : List Nat) (s : State),
      off % 2 = 1 →
      ∃ t, exec (.lbusBridgeWrite n d unit off words) s = .next t ∧
        t.rsp = .error 3 ∧
        t.flag (cd n) R.ADDR_ERR_HI_VALID = true ∧
        t.lbPort n d = s.lbPort n d) ∧
    (∀ (n d : Fin 2) (unit off : Nat) (s : State),
      off % 2 = 0 →
      off < 0x8000 →
      s.rd (cd n) (diesFld (6 + d)) ≠ 0 →
      s.lbLockedOut n d (unitCode n unit) = false →
      (∀ e : Fin 8, (s.stage n e).used = false) →
      ∃ t, exec (.lbusBridgeRead n d unit off) s = .next t ∧
        t.rsp = .retry ∧
        t.stage n 0 = { used := true, init := unitCode n unit, addr := ld d + off } ∧
        t.lbHas n d (.staged 0) = true) ∧
    (∀ (n d : Fin 2) (unit off : Nat) (v : Nat) (s : State),
      off % 2 = 0 →
      off < 0x8000 →
      s.rd (cd n) (diesFld (6 + d)) ≠ 0 →
      s.lbLockedOut n d (unitCode n unit) = false →
      s.stage n 0 = { used := true, init := unitCode n unit, addr := ld d + off, data := some v } →
      ∃ t, exec (.lbusBridgeRead n d unit off) s = .next t ∧
        t.rsp = .ok v ∧
        t.stage n 0 = {} ∧
        t.lbPort n d = s.lbPort n d) ∧
    (∀ (n : Fin 2) (e : Fin 8) (s : State),
      (s.stage n e).used = true →
      (s.stage n e).data.isSome = true →
      ∃ t, exec (.stagedDataExpiry n e) s = .next t ∧
        t.stage n e = {} ∧
        (let k := R.LB_CNT_DROPS.at (if (s.stage n e).addr < ld 1 then 0 else 1); t.rd (cd n) k = min (s.rd (cd n) k + 1) 255))

/-- What a Load die does with WRITE, READ and HB frames. Frames at a Load die (R524, R526, R527, R534, R535). -/
def Obligations.LoadDieAnswersFrames : Prop :=
    (∀ (d n : Fin 2) (h w crc : Nat) (s : State),
      s.ldTakes d n [h, 6, w] crc = true →
      bits h 15 12 = 1 →
      bits h 7 5 = 0 →
      bits h 4 0 = 1 →
      (s.ldx d).owner = some n.val →
      ∃ t, exec (.lbusWriteFrame d n [h, 6, w] crc) s = .next t ∧
        t.rd (ld d) R.UV_CFG_TH = w % 256 ∧
        t.kept d n = some ⟨bits h 11 8, lbAnswer 8 (bits h 11 8) 0 []⟩) ∧
    (∀ (d n : Fin 2) (h idx w crc : Nat) (s : State),
      s.ldTakes d n [h, idx, w] crc = true →
      bits h 15 12 = 1 →
      bits h 7 5 = 0 →
      bits h 4 0 = 1 →
      idx < 16384 →
      (s.ldx d).owner ≠ some n.val →
      ∃ t, exec (.lbusWriteFrame d n [h, idx, w] crc) s = .next t ∧
        t.kept d n = some ⟨bits h 11 8, lbAnswer 8 (bits h 11 8) 1 []⟩ ∧
        (∀ f ∈ [R.UV_CFG_TH, R.LD_CAUSE_EN_EN, R.ADC_CTRL_LEN, R.CH_ILIM_ILIM], t.rd (ld d) f = s.rd (ld d) f) ∧
        t.chans = s.chans) ∧
    (∀ (d n : Fin 2) (h idx crc : Nat) (s : State),
      s.ldTakes d n [h, idx] crc = true →
      bits h 15 12 = 2 →
      bits h 7 5 = 0 →
      bits h 4 0 = 1 →
      idx < 16384 →
      idx ≠ 0xB →
      ∃ t, exec (.lbusReadFrame d n [h, idx] crc) s = .next t ∧
        t.kept d n = some ⟨bits h 11 8, lbAnswer 9 (bits h 11 8) 0 [s.ldRead d idx]⟩) ∧
    (∀ (d n : Fin 2) (h epoch crc : Nat) (s : State),
      s.ldTakes d n [h, epoch] crc = true →
      bits h 15 12 = 3 →
      bits h 6 0 = 0 →
      epoch < 65536 →
      s.hbAccept d n epoch (bitOf h 7) = true →
      ∃ t, exec (.lbusHbFrame d n [h, epoch] crc) s = .next t ∧
        (t.ldx d).owner = some n.val ∧
        (t.ldx d).eMax = epoch ∧
        t.rd (ld d) R.HB_STAT_AGE = 0 ∧
        t.kept d n = some ⟨bits h 11 8, lbAnswer 8 (bits h 11 8) 0 []⟩) ∧
    (∀ (d n : Fin 2) (h epoch crc : Nat) (s : State),
      s.ldTakes d n [h, epoch] crc = true →
      bits h 15 12 = 3 →
      bits h 6 0 = 0 →
      epoch < 65536 →
      s.hbAccept d n epoch (bitOf h 7) = false →
      ∃ t, exec (.lbusHbFrame d n [h, epoch] crc) s = .next t ∧
        (t.ldx d).owner = (s.ldx d).owner ∧
        (t.ldx d).eMax = (s.ldx d).eMax ∧
        t.rd (ld d) R.HB_STAT_AGE = s.rd (ld d) R.HB_STAT_AGE ∧
        t.kept d n = some ⟨bits h 11 8, lbAnswer 8 (bits h 11 8) 5 []⟩)

/-- What the bridge does with answers, and what it sends periodically. Answers at the bridge (R526, R528, R530,
R534); Periodic requests of the bridge (R533, R536 to R538). -/
def Obligations.BridgeAnswersAndTimers : Prop :=
    (∀ (n d : Fin 2) (seq : Fin 16) (ep new : Nat) (s : State),
      (s.lbPort n d).out = some (seq.val, ⟨3, 0, new, [ep], .hb⟩) →
      ∃ t, exec (.lbusAckReceive n d [0x8000 + 256 * seq] (lbCrc [0x8000 + 256 * seq])) s = .next t ∧
        (t.ldc n d).hbOk = true ∧
        (t.ldc n d).owner = true ∧
        (t.ldc n d).newPend = false ∧
        bitOf (t.rd (cd n) R.LINK_UP_LBUS) (2 * n + d) = true) ∧
    (∀ (n d : Fin 2) (seq : Fin 16) (e : Fin 8) (idx v : Nat) (s : State),
      (s.lbPort n d).out = some (seq.val, ⟨2, idx, 1, [], .staged e⟩) →
      (s.stage n e).used = true →
      (s.stage n e).init = unitCode n 0xB →
      ∃ t, exec (.lbusDataReceive n d [0x9000 + 256 * seq, v] (lbCrc [0x9000 + 256 * seq, v])) s = .next t ∧
        t.rsp = .ok v ∧
        t.stage n e = {}) ∧
    (∀ (n d : Fin 2) (seq : Nat) (r : LbReq) (s : State),
      (s.lbPort n d).out = some (seq, r) →
      (s.lbPort n d).tries < 3 →
      ∃ t, exec (.lbusResendTimeout n d) s = .next t ∧
        (t.lbPort n d).out = some (seq, r) ∧
        (t.lbPort n d).tries = (s.lbPort n d).tries + 1 ∧
        t.rd (cd n) (R.LB_CNT_RESENDS.at d) = min (s.rd (cd n) (R.LB_CNT_RESENDS.at d) + 1) 65535) ∧
    (∀ (n d : Fin 2) (s : State),
      s.isActive n = true →
      (s.cdx n).mainUp = true →
      (s.cdx n).kicked = true →
      bitOf (s.rd (cd n) R.LB_HBTEST_HOLD) d = false →
      ∃ t, exec (.lbusHbTimer n true) s = .next t ∧
        t.lbHas n d .hb = true) ∧
    (∀ (n d : Fin 2) (s : State),
      s.isActive n = true →
      (s.cdx n).mainUp = true →
      s.rd (cd n) R.LB_CTRL_POLL_US ≠ 0 →
      s.inService n (6 + d) = true →
      ∃ t, exec (.lbusPoll n d) s = .next t ∧
        t.lbHas n d .poll = true) ∧
    (∀ (n d : Fin 2) (s : State),
      (s.cdx n).mainUp = true →
      s.rd (cd n) R.LB_CTRL_TEL_PER ≠ 0 →
      s.inService n (6 + d) = true →
      ∃ t, exec (.telemetryRead n) s = .next t ∧
        t.lbHas n d (.tel 0) = true ∧
        t.lbHas n d (.tel 1) = true ∧
        (t.ldc n d).nextPer = ((s.ldc n d).nextPer + 1) % 24)

/-- The Load-die lock and the heartbeat-path test. The lock (R532) and the heartbeat-path test (R644). -/
def Obligations.LoadDieLocksAndTests : Prop :=
    (∀ (n d : Fin 2) (unit : Fin 16) (s : State),
      s.flag (cd n) (R.LB_LOCK_HELD.at d) = false →
      ∃ t, exec (.lbLockReq n d unit) s = .next t ∧
        t.rd (cd n) (R.LB_LOCK_HELD.at d) = 1 ∧
        t.rd (cd n) (R.LB_LOCK_HOLDER.at d) = unitCode n unit) ∧
    (∀ (n d : Fin 2) (unit : Fin 16) (s : State),
      s.flag (cd n) (R.LB_LOCK_HELD.at d) = true →
      s.rd (cd n) (R.LB_LOCK_HOLDER.at d) = unitCode n unit →
      ∃ t, exec (.lbLockRel n d unit) s = .next t ∧
        t.rd (cd n) (R.LB_LOCK_HELD.at d) = 0 ∧
        t.rd (cd n) (R.LB_LOCK_HOLDER.at d) = 0 ∧
        (t.cdx n).lockHeld.all (fun h => h.d != d.val) = true) ∧
    (∀ (n d : Fin 2) (s : State),
      s.flag (cd n) (R.LB_LOCK_HELD.at d) = true →
      ∃ t, exec (.lbLockExpiry n d) s = .next t ∧
        t.rd (cd n) (R.LB_LOCK_HELD.at d) = 0 ∧
        t.flag (cd n) R.LB_CAUSE_LOCK_EXP = true) ∧
    (∀ (n d : Fin 2) (s : State),
      s.isActive n = true →
      bitOf (s.ldc n d).stat 15 = true →
      ∃ t, exec (.hbtestHold n d) s = .next t ∧
        bitOf (t.rd (cd n) R.LB_HBTEST_HOLD) d = true ∧
        bitOf (t.rd (cd n) R.LB_HBTEST_PASS) d = false ∧
        bitOf (t.rd (cd n) R.LB_HBTEST_FAIL) d = false) ∧
    (∀ (n d : Fin 2) (s : State),
      bitOf (s.rd (cd n) R.LB_HBTEST_HOLD) d = true →
      ∃ t, exec (.hbtestTimeout n d) s = .next t ∧
        bitOf (t.rd (cd n) R.LB_HBTEST_HOLD) d = false ∧
        bitOf (t.rd (cd n) R.LB_HBTEST_FAIL) d = true ∧
        t.flag (cd n) R.SAFE_CAUSE_HBTEST_FAIL = true ∧
        s.flag (cd n) R.SAFE_LOG_VALID = false → t.rd (cd n) R.SAFE_LOG_KIND = 2 ∧ t.rd (cd n) R.SAFE_LOG_DIE = d)

/-- Capacity, ceiling, window release and power levels of the ledger. The ledger outside its instructions (R542,
R547, R550, R552, R558). -/
def Obligations.LedgerLimitsFollowWrites : Prop :=
    (∀ (n : Fin 2) (v : Nat) (s : State),
      ∃ t, exec (.lgSoftWrite n v) s = .next t ∧
        t.rd (cd n) R.LG_SOFT_SOFT = min (v % 65536) (s.cdx n).lgMax ∧
        t.lgC n ≤ min (s.cdx n).lgMax (v % 65536) ∧
        (s.cdx n).lgMax < v % 65536 → t.flag (cd n) R.LG_CAUSE_CLAMP = true) ∧
    (∀ (n : Fin 2) (v : Nat) (s : State),
      ∃ t, exec (.lgSagWrite n v) s = .next t ∧
        t.rd (cd n) R.LG_SAG_UP = bits v 31 24 ∧
        t.rd (cd n) R.LG_SAG_DN = bits v 23 16 ∧
        t.rd (cd n) R.LG_SAG_VMIN = max (bits v 8 0) 0x5A ∧
        bits v 8 0 < 0x5A → t.flag (cd n) R.LG_CAUSE_CLAMP = true) ∧
    (∀ (n : Fin 2) (tenMs : Bool) (s : State),
      s.inService n 6 = true →
      s.inService n 7 = false →
      Store.get 0 (s.ldc n 0).adc 0x18 < 8 * s.rd (cd n) R.LG_SAG_VMIN →
      s.lgC n < 65536 →
      ∃ t, exec (.sagLoopAdjust n tenMs) s = .next t ∧
        t.rd (cd n) R.LG_VBAT_CODE = Store.get 0 (s.ldc n 0).adc 0x18 % 4096 ∧
        t.flag (cd n) R.LG_CAUSE_SAG = true ∧
        t.lgC n = max (min (s.lgC n) (s.lgF n)) (s.lgC n - lgStep (s.lgCeil n) (s.rd (cd n) R.LG_SAG_DN))) ∧
    (∀ (n : Fin 2) (e : Fin 48) (s : State),
      s.lgSt n e = 1 →
      s.rd (cd n) (R.GNT_A_EXCESS.at e) ≠ 0 →
      s.lgFrozen n e = false →
      ∃ t, exec (.ledgerWindowTimer n e) s = .next t ∧
        t.rd (cd n) (R.GNT_A_EXCESS.at e) = 0) ∧
    (∀ (n : Fin 2) (e : Fin 48) (q : LgReq) (s : State),
      s.lgSt n e = 3 →
      (s.lgx n e).failed = false →
      (s.lgx n e).waits = [] →
      (s.lgx n e).req = some q →
      q.op = 1 →
      ∃ t, exec (.shedReleaseDone n (e.castLE (by decide))) s = .next t ∧
        t.lgSt n e = 1 ∧
        (t.lgx n e).cmds ≠ []) ∧
    (∀ (n : Fin 2) (d : Fin 4) (level : Fin 16) (s : State),
      s.rd (sd d) R.SD_EPOCH_NODE = n.val + 1 →
      (s.lvl n d).pend = some level.val →
      (s.lvl n d).raise = [] →
      ∃ t, exec (.levelWrite n d level true) s = .next t ∧
        t.rd (sd d) R.LEVEL_LEVEL = level ∧
        t.rd (sd d) R.LEVEL_IN_FORCE = level ∧
        bits (t.rd (cd n) R.LG_LEVEL_LEVEL) (4 * d + 3) (4 * d) = level ∧
        (t.lvl n d).pend = none) ∧
    (∀ (n : Fin 2) (d : Fin 4) (e : Fin 32) (s : State),
      (s.lvl n d).pend = none →
      (s.lvl n d).lower = [(48 + e.val, false)] →
      ∃ t, exec (.levelLowerRelease n d) s = .next t ∧
        t.lgSt n (48 + e) = 0)

/-- LDSET, LDGET, BUDREQ and BUDREL on the active die. The power instructions of a sequencer (R366 to R374, R549). -/
def Obligations.PowerInstructionsReachLedger : Prop :=
    (∀ (a : Fin 16) (ins : Ins) (g : Fin 48) (v : Nat) (s : State),
      ins.x = false →
      csemOk a ins = true →
      ins.ef 16 0 = 0 →
      s.issues a ins [ins.a.val, ins.b.val, ins.c.val] →
      s.isActive (sqDie a) = true →
      (s.sR a ins.b).toNat = g →
      (s.sR a ins.c).toNat = v →
      s.badChannel (sqDie a) g = false →
      bits v 31 20 = 0 ∧ bits v 17 8 ≤ 1000 →
      (if s.lgGang (sqDie a) g then 10 else 5) ≤ bits v 7 0 ∧ bits v 7 0 ≤ (if s.lgGang (sqDie a) g then 240 else 120) →
      s.lgEntry (sqDie a) g = g →
      s.lgFrozen (sqDie a) g = false →
      (s.lgHalves (sqDie a) g).all (fun p => !bitOf (s.chc (sqDie a) (24 * p.1 + p.2)).stat 15 && !bitOf (s.chc (sqDie a) (24 * p.1 + p.2)).stat 10) = true →
      (∀ x : Fin 84, s.lgSt (sqDie a) x = 0) →
      (let q : LgReq := { op := 1, ilim := bits v 7 0, mult := bits v 19 18, window := bits v 17 8 }; s.lgS (sqDie a) g q + s.lgE (sqDie a) g q ≤ min (s.lgC (sqDie a)) (s.lgCeil (sqDie a))) →
      ∃ t, exec (.ldsetOn (a.castLE (by decide)) ins) s = .next t ∧
        t.lgSt (sqDie a) g = 1 ∧
        (let q : LgReq := { op := 1, ilim := bits v 7 0, mult := bits v 19 18, window := bits v 17 8 }; t.rd (cd (sqDie a)) (R.GNT_A_AMOUNT.at g) = s.lgS (sqDie a) g q ∧ t.rd (cd (sqDie a)) (R.GNT_A_EXCESS.at g) = s.lgE (sqDie a) g q) ∧
        (t.lgx (sqDie a) g).cmds ≠ [] ∧
        (t.agent a).stat = some (s.pc a)) ∧
    (∀ (a : Fin 16) (ins : Ins) (g : Fin 48) (s : State),
      ins.x = false →
      csemOk a ins = true →
      ins.ef 16 0 = 0 →
      s.issues a ins [ins.a.val, ins.b.val] →
      s.isActive (sqDie a) = true →
      (s.sR a ins.b).toNat = g →
      s.badChannel (sqDie a) g = false →
      s.lgSt (sqDie a) (s.lgEntry (sqDie a) g) = 2 →
      (s.lgHalves (sqDie a) (s.lgEntry (sqDie a) g)).any (s.lgUp (sqDie a)) = true →
      ∃ t, exec (.ldsetOff (a.castLE (by decide)) ins) s = .next t ∧
        t.lgSt (sqDie a) (s.lgEntry (sqDie a) g) = 0 ∧
        (t.lgx (sqDie a) (s.lgEntry (sqDie a) g)).cmds ≠ [] ∧
        (t.agent a).stat = some (s.pc a)) ∧
    (∀ (a : Fin 16) (ins : Ins) (g : Fin 48) (v : Nat) (s : State),
      ins.x = false →
      csemOk a ins = true →
      ins.ef 16 0 = 0 →
      s.issues a ins [ins.a.val, ins.b.val, ins.c.val] →
      s.isActive (sqDie a) = true →
      (s.sR a ins.b).toNat = g →
      (s.sR a ins.c).toNat = v →
      s.badChannel (sqDie a) g = false →
      bits v 31 20 = 0 ∧ bits v 17 8 ≤ 1000 →
      (if s.lgGang (sqDie a) g then 10 else 5) ≤ bits v 7 0 ∧ bits v 7 0 ≤ (if s.lgGang (sqDie a) g then 240 else 120) →
      s.lgSt (sqDie a) (s.lgEntry (sqDie a) g) = 2 →
      ∃ t, exec (.ldsetRelimit (a.castLE (by decide)) ins) s = .next t ∧
        t.lgSt (sqDie a) (s.lgEntry (sqDie a) g) = 2 ∧
        t.rd (cd (sqDie a)) (R.GNT_A_AMOUNT.at (s.lgEntry (sqDie a) g)) = s.lgS (sqDie a) (s.lgEntry (sqDie a) g) { op := 3, ilim := bits v 7 0 } ∧
        (t.agent a).stat = none ∧
        ins.a ≠ 0 → (t.sR a ins.a).toNat % 128 = 1) ∧
    (∀ (a : Fin 16) (ins : Ins) (g : Fin 48) (s : State),
      ins.x = false →
      csemOk a ins = true →
      ins.c = 0 →
      ins.ef 19 0 = 0 →
      s.issues a ins [ins.a.val, ins.b.val] →
      (s.sR a ins.b).toNat = g →
      s.badChannel (sqDie a) g = false →
      ∃ t, exec (.ldgetState (a.castLE (by decide)) ins) s = .next t ∧
        t.sR a ins.a = (if ins.a = 0 then 0 else BitVec.ofNat 32 (s.chanWord (sqDie a) g)) ∧
        s.wentOn t a ins) ∧
    (∀ (a : Fin 16) (ins : Ins) (g : Fin 48) (s : State),
      ins.x = false →
      csemOk a ins = true →
      ins.c = 0 →
      ins.ef 19 0 = 0 →
      s.issues a ins [ins.a.val, ins.b.val] →
      (s.sR a ins.b).toNat = g →
      s.badChannel (sqDie a) g = false →
      ∃ t, exec (.ldgetCurrent (a.castLE (by decide)) ins) s = .next t ∧
        t.sR a ins.a = (if ins.a = 0 then 0 else BitVec.ofNat 32 (s.chanCurrent (sqDie a) g)) ∧
        s.wentOn t a ins) ∧
    (∀ (a : Fin 16) (ins : Ins) (g : Fin 48) (s : State),
      ins.x = false →
      csemOk a ins = true →
      ins.c = 0 →
      ins.ef 19 0 = 0 →
      s.issues a ins [ins.a.val, ins.b.val] →
      (s.sR a ins.b).toNat = g →
      s.badChannel (sqDie a) g = false →
      ∃ t, exec (.ldgetGrant (a.castLE (by decide)) ins) s = .next t ∧
        t.sR a ins.a = (if ins.a = 0 then 0 else BitVec.ofNat 32 (s.lgHold (s.lgDie (sqDie a)) (s.lgEntry (s.lgDie (sqDie a)) g))) ∧
        s.wentOn t a ins) ∧
    (∀ (a : Fin 16) (ins : Ins) (s : State),
      ins.x = false →
      csemOk a ins = true →
      ins.b = 0 →
      ins.c = 0 →
      ins.ef 12 0 = 0 →
      s.issues a ins [ins.a.val] →
      s.isActive (sqDie a) = true →
      s.inService (sqDie a) (2 + ins.ef 18 17) = true →
      (∀ x : Fin 84, s.lgSt (sqDie a) x = 0) →
      (∀ l : Fin 16, s.lvlCur (sqDie a) l ≤ min (s.lgC (sqDie a)) (s.lgCeil (sqDie a))) →
      ∃ t, exec (.budreq (a.castLE (by decide)) ins) s = .next t ∧
        t.lgSt (sqDie a) 48 = 1 ∧
        t.rd (cd (sqDie a)) (R.GNT_B_DIE.at 48) = ins.ef 18 17 ∧
        t.rd (cd (sqDie a)) (R.GNT_B_LEVEL.at 48) = min (ins.ef 16 13) (bits (s.rd (cd (sqDie a)) R.LG_BASE_LVLMAX) (4 * ins.ef 18 17 + 3) (4 * ins.ef 18 17))) ∧
    (∀ (a : Fin 16) (ins : Ins) (k : Fin 32) (s : State),
      ins.x = false →
      csemOk a ins = true →
      ins.c = 0 →
      ins.ef 22 0 = 0 →
      s.issues a ins [ins.a.val, ins.b.val] →
      s.isActive (sqDie a) = true →
      (s.sR a ins.b).toNat = k →
      s.lgSt (sqDie a) (48 + k) = 2 →
      ∃ t, exec (.budrel (a.castLE (by decide)) ins) s = .next t ∧
        t.lgSt (sqDie a) (48 + k) = 0 ∧
        t.sR a ins.a = 0 ∧
        s.wentOn t a ins)

/-- ADD, SUB, MUL, AND, OR, XOR, SHL, SHR and CMP write their results. Scalar arithmetic (R257, R339, R340). -/
def Obligations.ScalarArithmeticResults : Prop :=
    (∀ (a : Fin 48) (imm : Bool) (ins : Ins) (s : State),
      ins.x = false →
      ins.sub = 0 →
      ins.riOk imm = true →
      s.issues a ins ([ins.a.val, ins.b.val] ++ (if imm then [] else [ins.c.val])) →
      ∃ t, exec (.add a imm ins) s = .next t ∧
        t.sR a ins.a = (if ins.a = 0 then 0 else s.sR a ins.b + s.srcC a imm ins) ∧
        s.wentOn t a ins) ∧
    (∀ (a : Fin 48) (imm : Bool) (ins : Ins) (s : State),
      ins.x = false →
      ins.sub = 16 →
      ins.riOk imm = true →
      ins.a < 16 →
      ins.b < 16 →
      s.issues a ins ([32 + ins.a.val, 32 + ins.b.val] ++ (if imm then [] else [ins.c.val])) →
      ∃ t, exec (.add a imm ins) s = .next t ∧
        t.adR a ins.a = s.adR a ins.b + (s.srcC a imm ins).signExtend 40 ∧
        s.wentOn t a ins) ∧
    (∀ (a : Fin 48) (imm : Bool) (ins : Ins) (s : State),
      ins.x = false →
      ins.sub = 0 →
      ins.riOk imm = true →
      s.issues a ins ([ins.a.val, ins.b.val] ++ (if imm then [] else [ins.c.val])) →
      ∃ t, exec (.sub a imm ins) s = .next t ∧
        t.sR a ins.a = (if ins.a = 0 then 0 else s.sR a ins.b - s.srcC a imm ins) ∧
        s.wentOn t a ins) ∧
    (∀ (a : Fin 48) (imm : Bool) (ins : Ins) (s : State),
      ins.x = false →
      ins.sub = 16 →
      ins.riOk imm = true →
      ins.a < 16 →
      ins.b < 16 →
      s.issues a ins ([32 + ins.a.val, 32 + ins.b.val] ++ (if imm then [] else [ins.c.val])) →
      ∃ t, exec (.sub a imm ins) s = .next t ∧
        t.adR a ins.a = s.adR a ins.b - (s.srcC a imm ins).signExtend 40 ∧
        s.wentOn t a ins) ∧
    (∀ (a : Fin 48) (imm : Bool) (ins : Ins) (s : State),
      ins.x = false →
      ins.sub = 0 →
      ins.riOk imm = true →
      s.issues a ins ([ins.a.val, ins.b.val] ++ (if imm then [] else [ins.c.val])) →
      ∃ t, exec (.mul a imm ins) s = .next t ∧
        t.sR a ins.a = (if ins.a = 0 then 0 else s.sR a ins.b * s.srcC a imm ins) ∧
        s.wentOn t a ins) ∧
    (∀ (a : Fin 48) (imm : Bool) (ins : Ins) (s : State),
      ins.x = false →
      ins.sub = 1 →
      ins.riOk imm = true →
      s.issues a ins ([ins.a.val, ins.b.val] ++ (if imm then [] else [ins.c.val])) →
      ∃ t, exec (.mul a imm ins) s = .next t ∧
        t.sR a ins.a = (if ins.a = 0 then 0 else BitVec.ofInt 32 ((s.sR a ins.b).toInt * (s.srcC a imm ins).toInt / 2 ^ 32)) ∧
        s.wentOn t a ins) ∧
    (∀ (a : Fin 48) (imm : Bool) (ins : Ins) (s : State),
      ins.x = false →
      ins.sub = 3 →
      ins.riOk imm = true →
      s.issues a ins ([ins.a.val, ins.b.val] ++ (if imm then [] else [ins.c.val])) →
      ∃ t, exec (.mul a imm ins) s = .next t ∧
        t.sR a ins.a = (if ins.a = 0 then 0 else BitVec.ofNat 32 ((s.sR a ins.b).toNat * (s.srcC a imm ins).toNat / 2 ^ 32)) ∧
        s.wentOn t a ins) ∧
    (∀ (a : Fin 48) (imm : Bool) (ins : Ins) (s : State),
      ins.x = false →
      ins.sub = 0 →
      ins.riOk imm = true →
      s.issues a ins ([ins.a.val, ins.b.val] ++ (if imm then [] else [ins.c.val])) →
      ∃ t, exec (.and a imm ins) s = .next t ∧
        t.sR a ins.a = (if ins.a = 0 then 0 else s.sR a ins.b &&& s.srcC a imm ins) ∧
        s.wentOn t a ins) ∧
    (∀ (a : Fin 48) (imm : Bool) (ins : Ins) (s : State),
      ins.x = false →
      ins.sub = 0 →
      ins.riOk imm = true →
      s.issues a ins ([ins.a.val, ins.b.val] ++ (if imm then [] else [ins.c.val])) →
      ∃ t, exec (.or a imm ins) s = .next t ∧
        t.sR a ins.a = (if ins.a = 0 then 0 else s.sR a ins.b ||| s.srcC a imm ins) ∧
        s.wentOn t a ins) ∧
    (∀ (a : Fin 48) (imm : Bool) (ins : Ins) (s : State),
      ins.x = false →
      ins.sub = 0 →
      ins.riOk imm = true →
      s.issues a ins ([ins.a.val, ins.b.val] ++ (if imm then [] else [ins.c.val])) →
      ∃ t, exec (.xor a imm ins) s = .next t ∧
        t.sR a ins.a = (if ins.a = 0 then 0 else s.sR a ins.b ^^^ s.srcC a imm ins) ∧
        s.wentOn t a ins) ∧
    (∀ (a : Fin 48) (imm : Bool) (ins : Ins) (s : State),
      ins.x = false →
      ins.sub = 0 →
      ins.riOk imm = true →
      s.issues a ins ([ins.a.val, ins.b.val] ++ (if imm then [] else [ins.c.val])) →
      ∃ t, exec (.shl a imm ins) s = .next t ∧
        t.sR a ins.a = (if ins.a = 0 then 0 else (s.sR a ins.b) <<< ((s.srcC a imm ins).toNat % 32)) ∧
        s.wentOn t a ins) ∧
    (∀ (a : Fin 48) (imm : Bool) (ins : Ins) (s : State),
      ins.x = false →
      ins.sub = 0 →
      ins.riOk imm = true →
      s.issues a ins ([ins.a.val, ins.b.val] ++ (if imm then [] else [ins.c.val])) →
      ∃ t, exec (.shr a imm ins) s = .next t ∧
        t.sR a ins.a = (if ins.a = 0 then 0 else (s.sR a ins.b) >>> ((s.srcC a imm ins).toNat % 32)) ∧
        s.wentOn t a ins) ∧
    (∀ (a : Fin 48) (imm : Bool) (ins : Ins) (s : State),
      ins.x = false →
      ins.sub = 1 →
      ins.riOk imm = true →
      s.issues a ins ([ins.a.val, ins.b.val] ++ (if imm then [] else [ins.c.val])) →
      ∃ t, exec (.shr a imm ins) s = .next t ∧
        t.sR a ins.a = (if ins.a = 0 then 0 else (s.sR a ins.b).sshiftRight ((s.srcC a imm ins).toNat % 32)) ∧
        s.wentOn t a ins) ∧
    (∀ (a : Fin 48) (imm : Bool) (ins : Ins) (s : State),
      ins.x = false →
      ins.sub < 6 →
      ins.riOk imm = true →
      ins.a < 8 →
      s.issues a ins (ins.b.val :: (if imm then [] else [ins.c.val])) →
      ∃ t, exec (.cmp a imm ins) s = .next t ∧
        t.pR a ins.a = (if ins.a = 0 then true else cond ins.sub (s.sR a ins.b) (s.srcC a imm ins)) ∧
        s.wentOn t a ins) ∧
    (∀ (a : Fin 48) (ins : Ins) (s : State),
      ins.x = false →
      16 ≤ ins.sub ∧ ins.sub < 22 →
      ins.imm = 0 →
      ins.a < 8 →
      ins.b < 16 →
      ins.c < 16 →
      s.issues a ins [32 + ins.b.val, 32 + ins.c.val] →
      ∃ t, exec (.cmp a false ins) s = .next t ∧
        t.pR a ins.a = (if ins.a = 0 then true else cond (ins.sub - 16) (s.adR a ins.b) (s.adR a ins.c)) ∧
        s.wentOn t a ins)

/-- LI writes its immediate into s[A], or with AD set into ad[A]. LI (R341). -/
def Obligations.LoadImmediate : Prop :=
    (∀ (a : Fin 48) (ins : Ins) (s : State),
      ins.x = false →
      ins.sub = 0 →
      ins.b = 0 →
      ins.c = 0 →
      s.issues a ins [ins.a.val] →
      ∃ t, exec (.li a ins) s = .next t ∧
        t.sR a ins.a = (if ins.a = 0 then 0 else ins.imm) ∧
        s.wentOn t a ins) ∧
    (∀ (a : Fin 48) (ins : Ins) (s : State),
      ins.sub = 1 →
      ins.b = 0 →
      ins.c = 0 →
      ins.a < 16 →
      ins.xw < 256 →
      s.issues a ins [32 + ins.a.val] →
      ∃ t, exec (.li a ins) s = .next t ∧
        t.adR a ins.a = BitVec.ofNat 40 (ins.imm.toNat + ins.xw * 2 ^ 32) ∧
        s.wentOn t a ins) ∧
    (∀ (a : Fin 48) (ins : Ins) (s : State),
      ins.x = false →
      ins.sub = 1 →
      ins.b = 0 →
      ins.c = 0 →
      ins.a < 16 →
      s.issues a ins [32 + ins.a.val] →
      ∃ t, exec (.li a ins) s = .next t ∧
        t.adR a ins.a = BitVec.ofNat 40 ins.imm.toNat ∧
        s.wentOn t a ins)

/-- B, BC, CALL, RET and LOOP. Control flow (R347 to R349). -/
def Obligations.ControlFlowMovesThePc : Prop :=
    (∀ (a : Fin 48) (ins : Ins) (s : State),
      ins.x = false →
      ins.f 36 24 = 0 →
      ins.a = 0 →
      ins.b = 0 →
      ins.c = 0 →
      s.issues a ins [] →
      (s.agent a).loops = [] →
      0 ≤ (s.pc a : Int) + ins.disp ∧ (s.pc a : Int) + ins.disp < pmWords a →
      ∃ t, exec (.b a ins) s = .next t ∧
        (t.pc a : Int) = (s.pc a : Int) + ins.disp ∧
        (t.agent a).pcBad = false) ∧
    (∀ (a : Fin 48) (ins : Ins) (s : State),
      ins.x = false →
      ins.f 36 24 = 0 →
      ins.b < 2 →
      ins.c = 0 →
      s.issues a ins [ins.a.val] →
      (s.agent a).loops = [] →
      0 ≤ (s.pc a : Int) + ins.disp ∧ (s.pc a : Int) + ins.disp < pmWords a →
      ∃ t, exec (.bc a ins) s = .next t ∧
        ((s.sR a ins.a ≠ 0 ↔ ins.b = 0) → (t.pc a : Int) = (s.pc a : Int) + ins.disp) ∧
        (¬ (s.sR a ins.a ≠ 0 ↔ ins.b = 0) → s.wentOn t a ins)) ∧
    (∀ (a : Fin 48) (ins : Ins) (s : State),
      ins.x = false →
      ins.f 36 24 = 0 →
      ins.a = 0 →
      ins.b = 0 →
      ins.c = 0 →
      s.issues a ins [] →
      (s.agent a).calls.length < 16 →
      0 ≤ (s.pc a : Int) + ins.disp ∧ (s.pc a : Int) + ins.disp < pmWords a →
      ∃ t, exec (.call a ins) s = .next t ∧
        (t.agent a).calls = (s.pc a + 1) :: (s.agent a).calls ∧
        (t.pc a : Int) = (s.pc a : Int) + ins.disp) ∧
    (∀ (a : Fin 48) (ins : Ins) (t1 : Fin 4096) (rest : List Nat) (s : State),
      ins.x = false →
      ins.low = 0 →
      ins.a = 0 →
      ins.b = 0 →
      ins.c = 0 →
      s.issues a ins [] →
      (s.agent a).calls = t1.val :: rest →
      ∃ t, exec (.ret a ins) s = .next t ∧
        (t.agent a).calls = rest ∧
        t.pc a = t1) ∧
    (∀ (a : Fin 48) (ins : Ins) (s : State),
      ins.x = false →
      ins.f 36 24 = 0 →
      ins.b = 0 →
      ins.c = 0 →
      2 ≤ ins.disp →
      s.issues a ins [ins.a.val] →
      s.sR a ins.a ≠ 0 →
      (s.agent a).loops.length < 4 →
      s.pc a + 1 < pmWords a →
      ∃ t, exec (.loop a ins) s = .next t ∧
        (t.agent a).loops = (s.pc a + 1, ((s.pc a : Int) + ins.disp - 1).toNat, (s.sR a ins.a).toNat) :: (s.agent a).loops ∧
        t.pc a = s.pc a + 1) ∧
    (∀ (a : Fin 48) (ins : Ins) (s : State),
      ins.x = false →
      ins.f 36 24 = 0 →
      ins.b = 0 →
      ins.c = 0 →
      1 ≤ ins.disp →
      s.issues a ins [ins.a.val] →
      s.sR a ins.a = 0 →
      0 ≤ (s.pc a : Int) + ins.disp ∧ (s.pc a : Int) + ins.disp < pmWords a →
      ∃ t, exec (.loop a ins) s = .next t ∧
        (t.agent a).loops = (s.agent a).loops ∧
        (t.pc a : Int) = (s.pc a : Int) + ins.disp)

/-- YIELD, HALT, TRAP, the stop timeout and the end of a drained trap. Ends and stops of a program (R266 to R269,
R351). -/
def Obligations.StopPointsAndTrap : Prop :=
    (∀ (a : Fin 48) (ins : Ins) (s : State),
      ins.x = false →
      ins.low = 0 →
      ins.a = 0 →
      ins.b = 0 →
      ins.c = 0 →
      s.issues a ins [] →
      s.flag (agBase a) (fStopReq a) = false →
      (s.agent a).halt = none →
      ∃ t, exec (.yield a ins) s = .next t ∧
        s.wentOn t a ins ∧
        t.flag (agBase a) (fStopReq a) = false) ∧
    (∀ (a : Fin 48) (ins : Ins) (s : State),
      ins.x = false →
      ins.low = 0 →
      ins.a = 0 →
      ins.b = 0 →
      ins.c = 0 →
      s.issues a ins [] →
      s.flag (agBase a) (fStopReq a) = true →
      s.enginesIdle a = false →
      ∃ t, exec (.yield a ins) s = .next t ∧
        t.agState a = 3 ∧
        (t.agent a).ending = some { status := 2 }) ∧
    (∀ (a : Fin 48) (ins : Ins) (s : State),
      ins.x = false →
      ins.low.toNat < 16 →
      ins.a = 0 →
      ins.b = 0 →
      ins.c = 0 →
      s.issues a ins [] →
      s.flag (agBase a) (fStopReq a) = false →
      s.enginesIdle a = true →
      (s.agent a).pendFault = none →
      (s.agent a).stopDue = false →
      (s.agent a).step = 0 →
      ∃ t, exec (.halt a ins) s = .next t ∧
        t.agState a = 0 ∧
        (t.agent a).prog = false ∧
        (t.agent a).calls = [] ∧
        (t.agent a).loops = []) ∧
    (∀ (a : Fin 48) (ins : Ins) (s : State),
      ins.x = false →
      ins.low.toNat < 65536 →
      ins.a = 0 →
      ins.b = 0 →
      ins.c = 0 →
      s.issues a ins [] →
      ∃ t, exec (.trap a ins) s = .next t ∧
        t.agState a = 4 ∧
        (t.agent a).ending = some { status := 1, code := 5, pc := s.pc a, trapCode := ins.low.toNat } ∧
        t.pc a = s.pc a ∧
        (a.val < 16 → s.flag (agBase a) (R.SQ_FLT_VALID.at (a % 8)) = false → t.rd (agBase a) (R.SQ_FLT_CODE.at (a % 8)) = 5) ∧
        (16 ≤ a.val → s.flag (agBase a) R.WC_FLT_VALID = false → t.rd (agBase a) R.WC_FLT_CODE = 5)) ∧
    (∀ (a : Fin 48) (s : State),
      s.flag (agBase a) (fStopReq a) = true →
      s.agState a = 1 ∨ s.agState a = 2 →
      (s.agent a).firm = false →
      s.enginesIdle a = false →
      ∃ t, exec (.stopTimeout a) s = .next t ∧
        t.agState a = 3 ∧
        (t.agent a).ending = some { status := 2 } ∧
        (t.agent a).wait = none) ∧
    (∀ (a : Fin 48) (e : Ending) (s : State),
      (s.agent a).ending = some e →
      s.agState a = 3 ∨ s.agState a = 4 →
      s.enginesIdle a = true →
      (s.agent a).dbgHalt = false →
      (s.agent a).step = 0 →
      ∃ t, exec (.trapDrainDone a) s = .next t ∧
        t.agState a = 0 ∧
        (t.agent a).ending = none ∧
        (t.agent a).prog = false ∧
        t.flag (agBase a) (fStopReq a) = false ∧
        (a.val < 16 → e.status = 1 → bitOf (t.rd (agBase a) R.SEQ_CAUSE_FAULT) (a % 8) = true))

/-- SEMSIG, SEMWAIT and SEMWT. Semaphores (R199, R200, R352 to R354). -/
def Obligations.SemaphoreInstructions : Prop :=
    (∀ (a : Fin 48) (ins : Ins) (s : State),
      ins.x = false →
      ins.noRegs = true →
      ins.f 7 0 = 0 →
      Ins.sem ins < semLimit a →
      Ins.count ins ≠ 0 →
      s.issues a ins [] →
      ∃ t, exec (.semsig a ins) s = .next t ∧
        Store.get 0 t.sems (agSem a (Ins.sem ins)) = min (Store.get 0 s.sems (agSem a (Ins.sem ins)) + Ins.count ins) 65535 ∧
        s.wentOn t a ins) ∧
    (∀ (a : Fin 48) (ins : Ins) (s : State),
      ins.x = false →
      ins.noRegs = true →
      ins.f 2 0 = 0 ∨ 4 ≤ ins.f 6 3 ∧ ins.f 6 3 < 8 →
      4 ≤ ins.f 6 3 ∧ ins.f 6 3 < 8 → Ins.sem ins < 512 →
      Ins.count ins ≠ 0 →
      s.issues a ins [] →
      4 ≤ ins.f 6 3 ∧ ins.f 6 3 < 8 →
      ins.f 6 3 ≠ agNode a →
      s.reaches (agNode a) (ins.f 6 3) = true →
      (s.routePort (agNode a) (ins.f 6 3)).isSome = true →
      ∃ t, exec (.semsigRemote a ins) s = .next t ∧
        t.carries ⟨0x02, ins.f 6 3, ins.f 2 0, agNode a, agUnit a, Ins.sem ins * 65536 + Ins.count ins, 0, [], 0⟩ = true ∧
        s.wentOn t a ins) ∧
    (∀ (a : Fin 48) (ins : Ins) (s : State),
      ins.x = false →
      ins.noRegs = true →
      ins.f 7 0 = 0 →
      Ins.sem ins < semLimit a →
      s.issues a ins [] →
      Ins.count ins ≤ Store.get 0 s.sems (agSem a (Ins.sem ins)) →
      s.waitq.any (fun w => w.1 == (agSem a (Ins.sem ins))) = false →
      ∃ t, exec (.semwait a ins) s = .next t ∧
        Store.get 0 t.sems (agSem a (Ins.sem ins)) = Store.get 0 s.sems (agSem a (Ins.sem ins)) - Ins.count ins ∧
        s.wentOn t a ins) ∧
    (∀ (a : Fin 48) (ins : Ins) (s : State),
      ins.x = false →
      ins.noRegs = true →
      ins.f 7 0 = 0 →
      Ins.sem ins < semLimit a →
      s.issues a ins [] →
      Store.get 0 s.sems (agSem a (Ins.sem ins)) < Ins.count ins →
      s.flag (agBase a) (fStopReq a) = false →
      ∃ t, exec (.semwait a ins) s = .next t ∧
        t.agState a = 2 ∧
        (t.agent a).wait = some ((agSem a (Ins.sem ins)), Ins.count ins, none) ∧
        t.waitq = s.waitq ++ [((agSem a (Ins.sem ins)), a.val)] ∧
        t.sems = s.sems ∧
        s.wentOn t a ins) ∧
    (∀ (a : Fin 48) (ins : Ins) (s : State),
      ins.x = true →
      ins.noRegs = true →
      ins.f 7 3 = 0 →
      Ins.sem ins < semLimit a →
      ins.e 63 32 = 0 →
      s.issues a ins [] →
      Ins.count ins ≤ Store.get 0 s.sems (agSem a (Ins.sem ins)) →
      s.waitq.any (fun w => w.1 == (agSem a (Ins.sem ins))) = false →
      ∃ t, exec (.semwt a ins) s = .next t ∧
        Store.get 0 t.sems (agSem a (Ins.sem ins)) = Store.get 0 s.sems (agSem a (Ins.sem ins)) - Ins.count ins ∧
        t.pR a (ins.f 2 0) = true ∧
        s.wentOn t a ins) ∧
    (∀ (a : Fin 48) (ins : Ins) (s : State),
      ins.x = true →
      ins.noRegs = true →
      ins.f 7 3 = 0 →
      Ins.sem ins < semLimit a →
      ins.ext = 0 →
      s.issues a ins [] →
      Store.get 0 s.sems (agSem a (Ins.sem ins)) < Ins.count ins →
      ins.f 2 0 ≠ 0 →
      ∃ t, exec (.semwt a ins) s = .next t ∧
        t.sems = s.sems ∧
        t.pR a (ins.f 2 0) = false ∧
        s.wentOn t a ins) ∧
    (∀ (a : Fin 48) (k n : Nat) (p : Fin 8) (s : State),
      (s.agent a).wait = some (k, n, some p.val) →
      p ≠ 0 →
      ∃ t, exec (.semwtTimeout a) s = .next t ∧
        t.pR a p = false ∧
        (t.agent a).wait = none ∧
        t.sems = s.sems ∧
        t.waitq = s.waitq.filter (fun w => w.2 != a.val)) ∧
    (∀ (a : Fin 48) (k : Fin 32768) (x n : Nat) (s : State),
      s.waitq.find? (fun w => w.1 == k.val) = some (k.val, a.val) →
      (s.agent a).wait = some (x, n, none) →
      n ≤ Store.get 0 s.sems k →
      ∃ t, exec (.semaphoreWaitDone k) s = .next t ∧
        Store.get 0 t.sems k = Store.get 0 s.sems k - n ∧
        (t.agent a).wait = none ∧
        t.waitq = s.waitq.filter (fun w => w.2 != a.val))

/-- FENCE, CREDGRANT and CREDRECL. FENCE and the credit instructions a wing executes itself (R262, R355, R192, R196,
R357, R358). -/
def Obligations.FenceAndCreditInstructions : Prop :=
    (∀ (a : Fin 48) (ins : Ins) (s : State),
      ins.x = false →
      ins.noRegs = true →
      ins.low.toNat < 64 →
      ins.low.toNat % 2 = 0 →
      s.issues a ins [] →
      ∃ t, exec (.fence a ins) s = .next t ∧
        (t.agent a).fence = (if s.fenceBusy a ins.low.toNat then some ins.low.toNat else none) ∧
        s.wentOn t a ins) ∧
    (∀ (a : Fin 48) (ins : Ins) (s : State),
      16 ≤ a.val →
      ins.x = false →
      Ins.sem ins < 512 →
      ins.f 19 16 = 0 →
      ins.f 7 0 = 0 →
      s.issues a ins [ins.a.val, ins.b.val, ins.c.val] →
      s.rd (wg (wcDie a) (wcWing a)) (R.CW_SRC_STATE.at (ins.f 23 20)) = 0 →
      (s.sR a ins.a).toNat + (s.sR a ins.b).toNat ≤ 131072 →
      (s.sR a ins.a).toNat < 131072 →
      (∀ b : Fin 4, 32768 * b.val < (s.sR a ins.a).toNat + (s.sR a ins.b).toNat → (s.sR a ins.a).toNat < 32768 * (b.val + 1) → inboundIn (s.slotCur (wcDie a) (wcWing a)) b = true) →
      (s.sR a ins.c).toNat < 2 ^ 18 →
      (s.routePort (sdNode (wcDie a)) (ins.f 15 12)).isSome = true ∨ ins.f 15 12 = sdNode (wcDie a) →
      ins.f 15 12 < 8 ∧ ins.f 15 12 ≠ 0 ∧ ins.f 15 12 ≠ 3 →
      ∃ t, exec (.credgrant a ins) s = .next t ∧
        t.rd (wg (wcDie a) (wcWing a)) (R.CW_SRC_STATE.at (ins.f 23 20)) = 1 ∧
        t.rd (wg (wcDie a) (wcWing a)) (R.CW_SRC_SRC_NODE.at (ins.f 23 20)) = ins.f 15 12 ∧
        t.rd (wg (wcDie a) (wcWing a)) (R.CW_SRC_SRC_UNIT.at (ins.f 23 20)) = ins.f 11 8 ∧
        t.rd (wg (wcDie a) (wcWing a)) (R.CW_BASE_BASE.at (ins.f 23 20)) = (s.sR a ins.a).toNat ∧
        t.rd (wg (wcDie a) (wcWing a)) (R.CW_LEN_LEN.at (ins.f 23 20)) = (s.sR a ins.b).toNat ∧
        t.rd (wg (wcDie a) (wcWing a)) (R.CW_SRC_SEM.at (ins.f 23 20)) = Ins.sem ins ∧
        t.rd (wg (wcDie a) (wcWing a)) (R.CW_CRED_CRED.at (ins.f 23 20)) = (s.sR a ins.c).toNat ∧
        t.carries (t.grantMsg (wcDie a) (wcWing a) (ins.f 23 20) (s.sR a ins.c).toNat) = true ∧
        s.wentOn t a ins) ∧
    (∀ (a : Fin 48) (ins : Ins) (s : State),
      16 ≤ a.val →
      ins.x = false →
      ins.noRegs = true →
      Ins.sem ins < 512 →
      ins.f 19 0 = 0 →
      s.issues a ins [] →
      s.rd (wg (wcDie a) (wcWing a)) (R.CW_SRC_STATE.at (ins.f 23 20)) = 1 →
      ∃ t, exec (.credrecl a ins) s = .next t ∧
        t.rd (wg (wcDie a) (wcWing a)) (R.CW_SRC_STATE.at (ins.f 23 20)) = 2 ∧
        Store.get none (t.wingx (wix (wcDie a) (wcWing a))).recl (ins.f 23 20) = some { sem := Ins.sem ins } ∧
        s.wentOn t a ins) ∧
    (∀ (a : Fin 48) (ins : Ins) (s : State),
      16 ≤ a.val →
      ins.x = false →
      ins.noRegs = true →
      Ins.sem ins < 512 →
      ins.f 19 0 = 0 →
      s.issues a ins [] →
      s.rd (wg (wcDie a) (wcWing a)) (R.CW_SRC_STATE.at (ins.f 23 20)) = 0 →
      ∃ t, exec (.credrecl a ins) s = .next t ∧
        Store.get 0 t.sems (wsem (wcDie a) (wcWing a) (Ins.sem ins)) = min (Store.get 0 s.sems (wsem (wcDie a) (wcWing a) (Ins.sem ins)) + 1) 65535 ∧
        s.wentOn t a ins)

/-- START, LOADPROG, STOP and CLAIM at a Stack die, and the start of a wing program. Work orders (R258, R275 to
R277). -/
def Obligations.WorkOrdersAtAStackDie : Prop :=
    (∀ (d : Fin 4) (m : Msg) (s : State),
      s.inbox.head? = some m →
      m.ty = 0x01 →
      m.dn = sdNode d →
      bits m.m0 15 12 = 1 →
      m.sn = 1 ∨ m.sn = 2 →
      workBad m = false →
      bits m.m0 31 16 = s.rd (sd d) R.SD_EPOCH_EPOCH →
      m.sn = s.rd (sd d) R.SD_EPOCH_NODE →
      (s.wingx (wix d m.du)).starts.length < 4 →
      ∃ t, exec (.workStart d) s = .next t ∧
        (t.wingx (wix d m.du)).starts = (s.wingx (wix d m.du)).starts ++ [{ orderOf m with entry := bits (m.word 0) 11 0, args := (List.range (bits (m.word 0) 19 16)).map (fun i => m.word (1 + i)) }] ∧
        t.rd (wg d m.du) R.WC_STAT_QDEPTH = (s.wingx (wix d m.du)).starts.length + 1 ∧
        t.inbox = s.inbox.tail) ∧
    (∀ (d : Fin 4) (m : Msg) (s : State),
      s.inbox.head? = some m →
      m.ty = 0x01 →
      m.dn = sdNode d →
      bits m.m0 15 12 = 2 →
      m.sn = 1 ∨ m.sn = 2 →
      workBad m = false →
      bits m.m0 31 16 = s.rd (sd d) R.SD_EPOCH_EPOCH →
      m.sn = s.rd (sd d) R.SD_EPOCH_NODE →
      s.agState (wcix d m.du) = 0 →
      (s.wingx (wix d m.du)).starts = [] →
      ∃ t, exec (.workLoadprog d) s = .next t ∧
        t.mem = (s.stn (wpsKey d m.du (bits (m.word 0) 11 0)) (m.data.drop 16)).mem) ∧
    (∀ (d : Fin 4) (m : Msg) (o : WorkOrd) (s : State),
      s.inbox.head? = some m →
      m.ty = 0x01 →
      m.dn = sdNode d →
      bits m.m0 15 12 = 3 →
      m.sn = 1 ∨ m.sn = 2 →
      workBad m = false →
      bits m.m0 31 16 = s.rd (sd d) R.SD_EPOCH_EPOCH →
      m.sn = s.rd (sd d) R.SD_EPOCH_NODE →
      (s.wingx (wix d m.du)).starts.find? (fun o => o.msg1 / 65536 == bits (m.word 0) 15 0 && o.node == m.sn && o.unit == m.su) = some o →
      ∃ t, exec (.workStop d) s = .next t ∧
        (t.wingx (wix d m.du)).starts = (s.wingx (wix d m.du)).starts.erase o) ∧
    (∀ (d : Fin 4) (m : Msg) (o : WorkOrd) (s : State),
      s.inbox.head? = some m →
      m.ty = 0x01 →
      m.dn = sdNode d →
      bits m.m0 15 12 = 3 →
      m.sn = 1 ∨ m.sn = 2 →
      workBad m = false →
      bits m.m0 31 16 = s.rd (sd d) R.SD_EPOCH_EPOCH →
      m.sn = s.rd (sd d) R.SD_EPOCH_NODE →
      (s.wingx (wix d m.du)).starts = [] →
      (s.wingx (wix d m.du)).cur = some o →
      o.msg1 / 65536 = bits (m.word 0) 15 0 →
      o.node = m.sn →
      o.unit = m.su →
      s.agState (wcix d m.du) = 1 →
      (s.agent (wcix d m.du)).stalled = false →
      ∃ t, exec (.workStop d) s = .next t ∧
        t.flag (wg d m.du) R.WC_STAT_STOPREQ = true ∧
        (t.wingx (wix d m.du)).stopped = (s.wingx (wix d m.du)).stopped ++ [orderOf m]) ∧
    (∀ (d : Fin 4) (m : Msg) (s : State),
      s.inbox.head? = some m →
      m.ty = 0x01 →
      m.dn = sdNode d →
      bits m.m0 15 12 = 4 →
      m.sn = 1 ∨ m.sn = 2 →
      workBad m = false →
      s.rd (sd d) R.SD_EPOCH_EPOCH < bits m.m0 31 16 →
      ∃ t, exec (.workClaim d) s = .next t ∧
        t.rd (sd d) R.SD_EPOCH_EPOCH = bits m.m0 31 16 ∧
        t.rd (sd d) R.SD_EPOCH_NODE = m.sn ∧
        (∀ w : Fin 8, (t.wingx (wix d w)).starts = [])) ∧
    (∀ (d : Fin 4) (w : Fin 8) (o : WorkOrd) (rest : List WorkOrd) (s : State),
      (s.wingx (wix d w)).starts = o :: rest →
      s.agState (wcix d w) = 0 →
      o.entry < 4096 →
      o.epoch < 65536 →
      o.msg1 < 2 ^ 32 →
      o.args.length ≤ 15 →
      ∃ t, exec (.wingProgramStart d w) s = .next t ∧
        t.agState (wcix d w) = 1 ∧
        t.pc (wcix d w) = o.entry ∧
        (t.wingx (wix d w)).starts = rest ∧
        (t.wingx (wix d w)).cur = some o ∧
        t.rd (wg d w) R.WC_ORDER_ORDER = o.msg1 / 65536 ∧
        t.rd (wg d w) R.WC_ORDER_EPOCH = o.epoch ∧
        t.rd (wg d w) R.WC_ESTAT_ESTAT = 0 ∧
        (∀ i : Fin 15, i.val < o.args.length → t.sR (wcix d w) (i.val + 1) = BitVec.ofNat 32 (o.args.getD i 0)) ∧
        (∀ i : Fin 32, o.args.length < i.val → t.sR (wcix d w) i = 0))

/-- A remote CALL and the end of its order; debug run control. Orders of a sequencer and debug (R273, R278, R280,
R676). -/
def Obligations.OrdersOfASequencer : Prop :=
    (∀ (a : Fin 16) (ins : Ins) (s : State),
      ins.x = true →
      ins.c = 0 →
      ins.low = 0 →
      4 ≤ ins.e 63 60 ∧ ins.e 63 60 < 8 →
      ins.e 59 59 = 0 →
      ins.e 39 38 = 0 →
      ins.e 23 0 = 0 →
      ins.b.val + ins.e 43 40 ≤ 32 →
      ins.a ≠ 0 →
      s.issues a ins (ins.a.val :: (List.range (ins.e 43 40)).map (fun k => ins.b.val + k)) →
      (s.agent a).orders.length < 64 →
      s.cdReaches (sqDie a) (ins.e 63 60 - 4) = true →
      ∃ t, exec (.callRemote (a.castLE (by decide)) ins) s = .next t ∧
        t.sR a ins.a = BitVec.ofNat 32 (s.rd (cd (sqDie a)) (R.SQ_ORDER_NEXT.at (a % 8))) ∧
        t.rd (cd (sqDie a)) (R.SQ_ORDER_NEXT.at (a % 8)) = (s.rd (cd (sqDie a)) (R.SQ_ORDER_NEXT.at (a % 8)) + 1) % 65536 ∧
        (t.agent a).orders.length = (s.agent a).orders.length + 1 ∧
        t.rd (cd (sqDie a)) (R.SQ_STAT_OUT.at (a % 8)) = (s.agent a).orders.length + 1 ∧
        s.wentOn t a ins) ∧
    (∀ (n : Fin 2) (k : Fin 8) (m : Msg) (o : SqOrder) (s : State),
      s.inbox.head? = some m →
      m.ty = 0x03 →
      m.dn = cdNode n →
      m.du = k.val →
      m.su < 8 →
      o ∈ (s.agent (sqix n k)).orders →
      o.msg1 / 65536 = m.m1 / 65536 →
      o.d + 4 = m.sn →
      o.w = m.su →
      (s.agent (sqix n k)).orders.length < 65 →
      ∃ t, exec (.doneReceive n) s = .next t ∧
        (t.agent (sqix n k)).orders = (s.agent (sqix n k)).orders.filter (fun o => o.msg1 / 65536 != m.m1 / 65536) ∧
        t.rd (cd n) (R.SQ_STAT_OUT.at k) = (t.agent (sqix n k)).orders.length ∧
        (t.agent (sqix n k)).callWait = false ∧
        bitOf (t.ldw (comAddr n (s.rd (cd n) (R.SQ_RET_BASE.at k) * 8192 + 128 * (m.m1 / 65536 % 64))) 4) 31 = true) ∧
    (∀ (a : Fin 16) (num : Fin 65536) (o : SqOrder) (s : State),
      o ∈ (s.agent a).orders →
      o.msg1 / 65536 = num.val →
      (s.agent a).stops.contains num.val = true →
      ∃ t, exec (.stopNorouteTimeout a num) s = .next t ∧
        (t.agent a).orders = (s.agent a).orders.filter (fun o => o.msg1 / 65536 != num.val)) ∧
    (∀ (n : Fin 2) (mask : BitVec 8) (k : Fin 8) (s : State),
      s.dbgOpen n = true →
      bitOf mask.toNat k = true →
      s.agState (sqix n k) = 0 →
      ∃ t, exec (.dbgHalt n mask) s = .next t ∧
        t.agState (sqix n k) = 5) ∧
    (∀ (n : Fin 2) (mask : BitVec 8) (k : Fin 8) (s : State),
      s.dbgOpen n = true →
      bitOf mask.toNat k = true →
      s.agState (sqix n k) = 5 →
      (s.agent (sqix n k)).prog = true →
      ∃ t, exec (.dbgResume n mask) s = .next t ∧
        t.agState (sqix n k) = 1) ∧
    (∀ (n : Fin 2) (mask : BitVec 8) (k : Fin 8) (s : State),
      s.dbgOpen n = true →
      bitOf mask.toNat k = true →
      s.agState (sqix n k) = 5 →
      (s.agent (sqix n k)).prog = true →
      ∃ t, exec (.dbgStep n mask) s = .next t ∧
        t.agState (sqix n k) = 1 ∧
        (t.agent (sqix n k)).step = 1)

/-- Slot plans, the wait for a slot, and the patrol of a wing. Slot plans and the patrol (R176, R177, R179, R190). -/
def Obligations.SlotPlansAndPatrol : Prop :=
    (∀ (d : Fin 4) (w : Fin 8) (s : State),
      planInvalid (s.slotNext d w) = none →
      planOversub (s.slotNext d w) = none →
      s.planConflict d w (s.slotNext d w) = none →
      ∃ t, exec (.slotPlanLoad d w) s = .next t ∧
        (t.wingx (wix d w)).plan = some (s.slotNext d w) ∧
        t.rd (wg d w) R.SLOT_STAT_STATUS = 1 ∧
        t.rd (wg d w) R.SLOT_STAT_PEND = 1 ∧
        t.rd (wg d w) R.SLOT_CTRL_LOAD = 0) ∧
    (∀ (d : Fin 4) (w : Fin 8) (b : Fin 4) (i : Fin 16) (s : State),
      planInvalid (s.slotNext d w) = some (b.val, i.val) →
      ∃ t, exec (.slotPlanLoad d w) s = .next t ∧
        t.rd (wg d w) R.SLOT_STAT_STATUS = 3 ∧
        t.rd (wg d w) R.SLOT_STAT_BANK = b ∧
        t.rd (wg d w) R.SLOT_STAT_SLOT = i ∧
        t.rd (wg d w) R.SLOT_STAT_PEND = 0 ∧
        t.flag (wg d w) R.RR_CAUSE_SLOT_REJ = true ∧
        t.slotCur d w = s.slotCur d w) ∧
    (∀ (d : Fin 4) (w : Fin 8) (p : List Nat) (s : State),
      (s.wingx (wix d w)).plan = some p →
      s.planConflict d w p = none →
      p.length = 8 →
      (∀ x ∈ p, x < 2 ^ 32) →
      ∃ t, exec (.slotPlanApply d w) s = .next t ∧
        t.slotCur d w = p ∧
        t.rd (wg d w) R.SLOT_STAT_PEND = 0 ∧
        (t.wingx (wix d w)).plan = none) ∧
    (∀ (d : Fin 4) (w : Fin 8) (s : State),
      (s.wingx (wix d w)).plan.isSome = true →
      ∃ t, exec (.slotPlanStuck d w) s = .next t ∧
        t.rd (wg d w) R.SLOT_STAT_STATUS = 5 ∧
        t.rd (wg d w) R.SLOT_STAT_PEND = 0 ∧
        (t.wingx (wix d w)).plan = none ∧
        t.slotCur d w = s.slotCur d w) ∧
    (∀ (d : Fin 4) (w : Fin 8) (s : State),
      ∃ t, exec (.noslotTimeout d w) s = .next t ∧
        t.flag (wg d w) R.RR_CAUSE_NOSLOT = true) ∧
    (∀ (d : Fin 4) (w : Fin 8) (b : Fin 4) (upset : Nat) (s : State),
      (s.sdx d).up = true →
      ∃ t, exec (.patrolScrubRead d w b upset) s = .next t ∧
        Store.get 0 (t.wingx (wix d w)).patrol b = (Store.get 0 (s.wingx (wix d w)).patrol b + 1) % 32768 ∧
        (let k := rrLine d w (32768 * b.val + Store.get 0 (s.wingx (wix d w)).patrol b); s.badWords k ^^^ (upset % 65536) ≠ 0 → t.poisoned k = true ∧ t.flag (wg d w) R.RR_CAUSE_PATROL = true ∧ t.flag (wg d w) R.RR_PAR_LOG_VALID = true) ∧
        t.mem = s.mem)

/-- A remote WRITE at its window, the request FIFO and KVCHK. The receiving side of the windows (R181, R194, R195,
R240). -/
def Obligations.WritesLandThroughWindows : Prop :=
    (∀ (d : Fin 4) (w : Fin 8) (m : Msg) (s : State),
      s.inbox.head? = some m →
      m.ty = 0x12 →
      m.dn = sdNode d →
      m.du = w.val →
      s.writeCheck d w m = none →
      m.data ≠ [] →
      ∃ t, exec (.writeReceive d w) s = .next t ∧
        (t.wingx (wix d w)).landing = (s.wingx (wix d w)).landing ++ [((bits m.m0 31 28), m)] ∧
        t.rd (wg d w) (R.CW_CRED_CRED.at (bits m.m0 31 28)) = s.rd (wg d w) (R.CW_CRED_CRED.at (bits m.m0 31 28)) - linesOf (4 * bits m.m1 20 0) m.data.length ∧
        t.mem = s.mem ∧
        t.inbox = s.inbox.tail) ∧
    (∀ (d : Fin 4) (w : Fin 8) (m : Msg) (s : State),
      s.inbox.head? = some m →
      m.ty = 0x12 →
      m.dn = sdNode d →
      m.du = w.val →
      s.rd (wg d w) (R.CW_SRC_STATE.at (bits m.m0 31 28)) = 0 →
      ∃ t, exec (.writeReceive d w) s = .next t ∧
        (t.wingx (wix d w)).landing = (s.wingx (wix d w)).landing ∧
        t.rd (wg d w) (R.CW_CRED_CRED.at (bits m.m0 31 28)) = s.rd (wg d w) (R.CW_CRED_CRED.at (bits m.m0 31 28)) ∧
        t.mem = s.mem ∧
        t.flag (wg d w) R.RR_CAUSE_CRED_DROP = true ∧
        t.flag (wg d w) R.CRED_LOG_VALID = true ∧
        s.flag (wg d w) R.CRED_LOG_VALID = false → t.rd (wg d w) R.CRED_LOG_KIND = 1) ∧
    (∀ (d : Fin 4) (w : Fin 8) (win : Fin 16) (m : Msg) (rest : List (Nat × Msg)) (s : State),
      (s.wingx (wix d w)).landing = (win.val, m) :: rest →
      ∃ t, exec (.writeLanded d w) s = .next t ∧
        (t.wingx (wix d w)).landing = rest ∧
        t.mem = (s.rrStore d w (64 * s.rd (wg d w) (R.CW_BASE_BASE.at win) + 4 * bits m.m1 20 0) m.data (bitOf m.m0 18)).mem ∧
        bitOf m.m0 19 = true → Store.get 0 t.sems (wsem d w (s.rd (wg d w) (R.CW_SRC_SEM.at win))) = min (Store.get 0 s.sems (wsem d w (s.rd (wg d w) (R.CW_SRC_SEM.at win))) + 1) 65535) ∧
    (∀ (d : Fin 4) (w : Fin 8) (m : Msg) (s : State),
      s.inbox.head? = some m →
      m.ty = 0x10 →
      m.dn = sdNode d →
      m.du = w.val →
      s.flag (wg d w) R.CREQ_SEM_EN = true →
      (s.wingx (wix d w)).creq.length < 16 →
      ∃ t, exec (.creditReqReceive d w) s = .next t ∧
        (t.wingx (wix d w)).creq = (s.wingx (wix d w)).creq ++ [(bits m.m0 31 28, 16 * m.sn + m.su, bits m.m0 17 0)] ∧
        t.rd (wg d w) R.CREQ_CNT_DEPTH = (s.wingx (wix d w)).creq.length + 1 ∧
        t.flag (wg d w) R.CREQ_POP_VALID = true ∧
        Store.get 0 t.sems (wsem d w (s.rd (wg d w) R.CREQ_SEM_SEM)) = min (Store.get 0 s.sems (wsem d w (s.rd (wg d w) R.CREQ_SEM_SEM)) + 1) 65535) ∧
    (∀ (d : Fin 4) (w : Fin 8) (s : State),
      ∃ t, exec (.creqPopRead d w) s = .next t ∧
        t.rsp = .ok (s.regRead (wg d w) wingRegs R.CREQ_POP_VALID.off) ∧
        (t.wingx (wix d w)).creq = (s.wingx (wix d w)).creq.tail ∧
        (s.wingx (wix d w)).creq.length ≤ 16 → t.rd (wg d w) R.CREQ_CNT_DEPTH = (s.wingx (wix d w)).creq.length - 1) ∧
    (∀ (d : Fin 4) (w : Fin 8) (m : Msg) (s : State),
      s.inbox.head? = some m →
      m.ty = 0x15 →
      m.dn = sdNode d →
      m.du = w.val →
      m.sn = sdNode d ∨ 4 ≤ m.sn ∧ m.sn < 8 ∧ (s.routePort (sdNode d) m.sn).isSome = true →
      ∃ t, exec (.kvchkReceive d w) s = .next t ∧
        t.carries ⟨0x16, m.sn, m.su, sdNode d, w, bits m.m0 27 20 * 2 ^ 20 + b2n (s.kvchk d w m), 0, [], 0⟩ = true)

/-- The end of a reclaim, and KV_CMD. Reclaims (R196 to R198) and KV pools (R203, R204). -/
def Obligations.ReclaimsAndKvPools : Prop :=
    (∀ (d : Fin 4) (w : Fin 8) (m : Msg) (r : Reclaim) (s : State),
      s.inbox.head? = some m →
      m.ty = 0x14 →
      m.dn = sdNode d →
      m.du = w.val →
      s.rd (wg d w) (R.CW_SRC_STATE.at (bits m.m0 31 28)) = 2 →
      s.rd (wg d w) (R.CW_SRC_EPOCH.at (bits m.m0 31 28)) = bits m.m0 27 20 →
      Store.get none (s.wingx (wix d w)).recl (bits m.m0 31 28) = some r →
      ∃ t, exec (.reclaimAckReceive d w) s = .next t ∧
        Store.get none (t.wingx (wix d w)).recl (bits m.m0 31 28) = some { r with acked := true }) ∧
    (∀ (d : Fin 4) (w : Fin 8) (c : Fin 16) (r : Reclaim) (s : State),
      Store.get none (s.wingx (wix d w)).recl c = some r →
      r.acked = true →
      (s.wingx (wix d w)).landing.all (fun p => p.1 != c.val) = true →
      ∃ t, exec (.reclaimComplete d w c) s = .next t ∧
        t.rd (wg d w) (R.CW_SRC_STATE.at c) = 0 ∧
        t.rd (wg d w) (R.CW_CRED_CRED.at c) = 0 ∧
        t.rd (wg d w) (R.CW_SRC_EPOCH.at c) = (s.rd (wg d w) (R.CW_SRC_EPOCH.at c) + 1) % 256 ∧
        Store.get none (t.wingx (wix d w)).recl c = none ∧
        Store.get 0 t.sems (wsem d w r.sem) = min (Store.get 0 s.sems (wsem d w r.sem) + 1) 65535) ∧
    (∀ (d : Fin 4) (w : Fin 8) (c : Fin 16) (r : Reclaim) (s : State),
      Store.get none (s.wingx (wix d w)).recl c = some r →
      r.acked = false →
      ∃ t, exec (.reclaimTimeout d w c) s = .next t ∧
        t.rd (wg d w) (R.CW_SRC_STATE.at c) = 0 ∧
        t.rd (wg d w) (R.CW_SRC_EPOCH.at c) = (s.rd (wg d w) (R.CW_SRC_EPOCH.at c) + 1) % 256 ∧
        t.flag (wg d w) R.RR_CAUSE_RECL_TMO = true ∧
        s.flag (wg d w) R.CRED_LOG_VALID = false → t.rd (wg d w) R.CRED_LOG_KIND = 5 ∧
        Store.get 0 t.sems (wsem d w r.sem) = min (Store.get 0 s.sems (wsem d w r.sem) + 1) 65535) ∧
    (∀ (n : Fin 2) (unit : Fin 16) (d : Fin 4) (s : State),
      s.rd (sd d) R.SD_EPOCH_NODE = cdNode n →
      s.kvResult d 1 0 (s.rd (sd d) R.KV_ARG_WING) (s.rd (sd d) R.KV_ARG_BASE) (s.rd (sd d) R.KV_ARG_COUNT) = 1 →
      s.rd (sd d) R.KV_ARG_WING < 8 →
      ∃ t, exec (.kvSetpool n unit d) s = .next t ∧
        t.rsp = .ok 0 ∧
        t.rd (sd d) R.KV_STAT_RESULT = 1 ∧
        t.rd (wg d (s.rd (sd d) R.KV_ARG_WING)) R.KV_POOL_BASE = s.rd (sd d) R.KV_ARG_BASE ∧
        t.rd (wg d (s.rd (sd d) R.KV_ARG_WING)) R.KV_POOL_COUNT = s.rd (sd d) R.KV_ARG_COUNT) ∧
    (∀ (n : Fin 2) (unit : Fin 16) (d : Fin 4) (c : Fin 256) (s : State),
      s.rd (sd d) R.SD_EPOCH_NODE = cdNode n →
      s.kvResult d 2 c (s.rd (sd d) R.KV_ARG_WING) (s.rd (sd d) R.KV_ARG_BASE) (s.rd (sd d) R.KV_ARG_COUNT) = 1 →
      s.rd (wg d (s.rd (sd d) R.KV_ARG_WING)) R.KV_USED_BLOCKS + s.rd (sd d) R.KV_ARG_COUNT < 4096 →
      ∃ t, exec (.kvReserve n unit d c) s = .next t ∧
        t.rsp = .ok 0 ∧
        t.rd (sd d) R.KV_STAT_CARREL = c ∧
        t.rd (sd d) R.KV_STAT_RESULT = 1 ∧
        t.kvEntry d c = some ((s.rd (sd d) R.KV_ARG_WING), (s.rd (sd d) R.KV_ARG_BASE), (s.rd (sd d) R.KV_ARG_COUNT)) ∧
        t.rd (wg d (s.rd (sd d) R.KV_ARG_WING)) R.KV_USED_BLOCKS = s.rd (wg d (s.rd (sd d) R.KV_ARG_WING)) R.KV_USED_BLOCKS + s.rd (sd d) R.KV_ARG_COUNT) ∧
    (∀ (n : Fin 2) (unit : Fin 16) (d : Fin 4) (c : Fin 256) (x : Nat × Nat × Nat) (s : State),
      s.rd (sd d) R.SD_EPOCH_NODE = cdNode n →
      s.kvEntry d c = some x →
      ∃ t, exec (.kvRelease n unit d c) s = .next t ∧
        t.rsp = .ok 0 ∧
        t.rd (sd d) R.KV_STAT_RESULT = 1 ∧
        t.kvEntry d c = none ∧
        t.rd (wg d x.1) R.KV_USED_BLOCKS = s.rd (wg d x.1) R.KV_USED_BLOCKS - x.2.2)

/-- VADD, VMUL, VFMA, VMAX and VSUM on an idle vector unit. Vector arithmetic (R308, R312, R313). -/
def Obligations.VectorArithmeticResults : Prop :=
    (∀ (a : Fin 48) (ins : Ins) (s : State),
      16 ≤ a.val →
      ins.x = false →
      csemOk a ins = true →
      ins.ef 22 16 ≤ 64 →
      ins.ef 9 0 = 0 →
      ins.ef 14 14 = 0 →
      ins.ef 15 15 = 1 →
      ins.ef 13 10 = 0 →
      (s.engine a 3).run = none →
      (s.engine a 3).q = [] →
      s.issues a ins [] →
      ∃ t, exec (.vadd a ins) s = .next t ∧
        (∀ l : Fin 64, 0 ≤ l.val → l.val < 0 + ins.ef 22 16 → (t.vR a ins.a).getD l 0 = (wrapTo 16 (clampS 16 (sext 16 ((s.vR a ins.b).getD l 0) + sext 16 ((s.vR a ins.c).getD l 0)))) % 65536) ∧
        (∀ l : Fin 64, l.val < 0 ∨ 0 + ins.ef 22 16 ≤ l.val → (t.vR a ins.a).getD l 0 = (s.vR a ins.a).getD l 0 % 65536) ∧
        ((t.engine a 3).run).isSome = true ∧
        s.wentOn t a ins) ∧
    (∀ (a : Fin 48) (ins : Ins) (s : State),
      16 ≤ a.val →
      ins.x = false →
      csemOk a ins = true →
      ins.ef 22 16 ≤ 64 →
      ins.ef 9 0 = 0 →
      ins.ef 14 14 = 0 →
      ins.ef 15 15 = 1 →
      (s.engine a 3).run = none →
      (s.engine a 3).q = [] →
      s.issues a ins [] →
      ∃ t, exec (.vmul a ins) s = .next t ∧
        (∀ l : Fin 64, 0 ≤ l.val → l.val < 0 + ins.ef 22 16 → (t.vR a ins.a).getD l 0 = (wrapTo 16 (clampS 16 (rsh (sext 16 ((s.vR a ins.b).getD l 0) * sext 16 ((s.vR a ins.c).getD l 0)) (ins.ef 13 10)))) % 65536) ∧
        (∀ l : Fin 64, l.val < 0 ∨ 0 + ins.ef 22 16 ≤ l.val → (t.vR a ins.a).getD l 0 = (s.vR a ins.a).getD l 0 % 65536) ∧
        ((t.engine a 3).run).isSome = true ∧
        s.wentOn t a ins) ∧
    (∀ (a : Fin 48) (ins : Ins) (s : State),
      16 ≤ a.val →
      ins.x = false →
      csemOk a ins = true →
      ins.ef 22 16 ≤ 64 →
      ins.ef 9 0 = 0 →
      ins.ef 14 14 = 0 →
      ins.ef 15 15 = 1 →
      (s.engine a 3).run = none →
      (s.engine a 3).q = [] →
      s.issues a ins [] →
      ∃ t, exec (.vfma a ins) s = .next t ∧
        (∀ l : Fin 64, 0 ≤ l.val → l.val < 0 + ins.ef 22 16 → (t.vR a ins.a).getD l 0 = (wrapTo 16 (clampS 16 (sext 16 ((s.vR a ins.a).getD l 0) + rsh (sext 16 ((s.vR a ins.b).getD l 0) * sext 16 ((s.vR a ins.c).getD l 0)) (ins.ef 13 10)))) % 65536) ∧
        (∀ l : Fin 64, l.val < 0 ∨ 0 + ins.ef 22 16 ≤ l.val → (t.vR a ins.a).getD l 0 = (s.vR a ins.a).getD l 0 % 65536) ∧
        ((t.engine a 3).run).isSome = true ∧
        s.wentOn t a ins) ∧
    (∀ (a : Fin 48) (ins : Ins) (s : State),
      16 ≤ a.val →
      ins.x = false →
      csemOk a ins = true →
      ins.ef 22 16 ≤ 64 →
      ins.ef 9 0 = 0 →
      ins.ef 14 14 = 0 →
      ins.ef 15 15 = 1 →
      ins.ef 13 10 = 0 →
      (s.engine a 3).run = none →
      (s.engine a 3).q = [] →
      s.issues a ins [] →
      ∃ t, exec (.vmax a ins) s = .next t ∧
        (∀ l : Fin 64, 0 ≤ l.val → l.val < 0 + ins.ef 22 16 → (t.vR a ins.a).getD l 0 = (wrapTo 16 (max (sext 16 ((s.vR a ins.b).getD l 0)) (sext 16 ((s.vR a ins.c).getD l 0)))) % 65536) ∧
        (∀ l : Fin 64, l.val < 0 ∨ 0 + ins.ef 22 16 ≤ l.val → (t.vR a ins.a).getD l 0 = (s.vR a ins.a).getD l 0 % 65536) ∧
        ((t.engine a 3).run).isSome = true ∧
        s.wentOn t a ins) ∧
    (∀ (a : Fin 48) (ins : Ins) (s : State),
      16 ≤ a.val →
      ins.x = false →
      csemOk a ins = true →
      ins.ef 22 16 ≤ 64 →
      ins.ef 9 0 = 0 →
      ins.ef 14 14 = 0 →
      ins.ef 13 10 = 0 →
      ins.ef 15 15 = 0 →
      (s.engine a 3).run = none →
      (s.engine a 3).q = [] →
      s.issues a ins [] →
      ∃ t, exec (.vmul a ins) s = .next t ∧
        (∀ l : Fin 64, 0 ≤ l.val → l.val < 0 + ins.ef 22 16 → (t.vR a ins.a).getD l 0 = (((bf ((s.vR a ins.b).getD l 0)).mul (bf ((s.vR a ins.c).getD l 0))).toBf) % 65536) ∧
        (∀ l : Fin 64, l.val < 0 ∨ 0 + ins.ef 22 16 ≤ l.val → (t.vR a ins.a).getD l 0 = (s.vR a ins.a).getD l 0 % 65536) ∧
        ((t.engine a 3).run).isSome = true ∧
        s.wentOn t a ins) ∧
    (∀ (a : Fin 48) (ins : Ins) (s : State),
      16 ≤ a.val →
      ins.x = false →
      csemOk a ins = true →
      ins.ef 22 16 ≤ 64 →
      ins.ef 9 0 = 0 →
      ins.ef 14 14 = 0 →
      ins.ef 13 10 = 0 →
      ins.ef 15 15 = 0 →
      (s.engine a 3).run = none →
      (s.engine a 3).q = [] →
      s.issues a ins [] →
      ∃ t, exec (.vmax a ins) s = .next t ∧
        (∀ l : Fin 64, 0 ≤ l.val → l.val < 0 + ins.ef 22 16 → (t.vR a ins.a).getD l 0 = ((fmaxBf (bf ((s.vR a ins.b).getD l 0)) (bf ((s.vR a ins.c).getD l 0))).toBf) % 65536) ∧
        (∀ l : Fin 64, l.val < 0 ∨ 0 + ins.ef 22 16 ≤ l.val → (t.vR a ins.a).getD l 0 = (s.vR a ins.a).getD l 0 % 65536) ∧
        ((t.engine a 3).run).isSome = true ∧
        s.wentOn t a ins) ∧
    (∀ (a : Fin 48) (ins : Ins) (s : State),
      16 ≤ a.val →
      ins.x = false →
      csemOk a ins = true →
      ins.c = 0 →
      ins.ef 22 16 ≤ 64 →
      ins.ef 13 0 = 0 →
      ins.ef 15 15 = 1 →
      ins.ef 14 14 = 0 →
      (s.engine a 3).run = none →
      (s.engine a 3).q = [] →
      s.issues a ins [] →
      ∃ t, exec (.vsum a ins) s = .next t ∧
        (∀ l : Fin 64, 0 ≤ l.val → l.val < 0 + 1 → (t.vR a ins.a).getD l 0 = (wrapTo 16 (clampS 16 ((List.range (ins.ef 22 16)).map (fun k => sext 16 ((s.vR a ins.b).getD k 0))).sum)) % 65536) ∧
        (∀ l : Fin 64, l.val < 0 ∨ 0 + 1 ≤ l.val → (t.vR a ins.a).getD l 0 = (s.vR a ins.a).getD l 0 % 65536) ∧
        ((t.engine a 3).run).isSome = true ∧
        s.wentOn t a ins)

/-- VEXP, VRSQ, VRCP, VCVT, VQNT and VTBL on an idle vector unit. Functions, conversions and look-up (R314 to R317). -/
def Obligations.VectorFunctionsAndConversions : Prop :=
    (∀ (a : Fin 48) (ins : Ins) (s : State),
      16 ≤ a.val →
      ins.x = false →
      csemOk a ins = true →
      ins.c = 0 →
      ins.ef 22 16 ≤ 64 →
      ins.ef 15 0 = 0 →
      (s.engine a 3).run = none →
      (s.engine a 3).q = [] →
      s.issues a ins [] →
      ∃ t, exec (.vexp a ins) s = .next t ∧
        (∀ l : Fin 64, 0 ≤ l.val → l.val < 0 + ins.ef 22 16 → (t.vR a ins.a).getD l 0 = ((fExp (bf ((s.vR a ins.b).getD l 0))).toBf) % 65536) ∧
        (∀ l : Fin 64, l.val < 0 ∨ 0 + ins.ef 22 16 ≤ l.val → (t.vR a ins.a).getD l 0 = (s.vR a ins.a).getD l 0 % 65536) ∧
        ((t.engine a 3).run).isSome = true ∧
        s.wentOn t a ins) ∧
    (∀ (a : Fin 48) (ins : Ins) (s : State),
      16 ≤ a.val →
      ins.x = false →
      csemOk a ins = true →
      ins.c = 0 →
      ins.ef 22 16 ≤ 64 →
      ins.ef 15 0 = 0 →
      (s.engine a 3).run = none →
      (s.engine a 3).q = [] →
      s.issues a ins [] →
      ∃ t, exec (.vrsq a ins) s = .next t ∧
        (∀ l : Fin 64, 0 ≤ l.val → l.val < 0 + ins.ef 22 16 → (t.vR a ins.a).getD l 0 = ((fRsq (bf ((s.vR a ins.b).getD l 0))).toBf) % 65536) ∧
        (∀ l : Fin 64, l.val < 0 ∨ 0 + ins.ef 22 16 ≤ l.val → (t.vR a ins.a).getD l 0 = (s.vR a ins.a).getD l 0 % 65536) ∧
        ((t.engine a 3).run).isSome = true ∧
        s.wentOn t a ins) ∧
    (∀ (a : Fin 48) (ins : Ins) (s : State),
      16 ≤ a.val →
      ins.x = false →
      csemOk a ins = true →
      ins.c = 0 →
      ins.ef 22 16 ≤ 64 →
      ins.ef 15 0 = 0 →
      (s.engine a 3).run = none →
      (s.engine a 3).q = [] →
      s.issues a ins [] →
      ∃ t, exec (.vrcp a ins) s = .next t ∧
        (∀ l : Fin 64, 0 ≤ l.val → l.val < 0 + ins.ef 22 16 → (t.vR a ins.a).getD l 0 = ((fRcp (bf ((s.vR a ins.b).getD l 0))).toBf) % 65536) ∧
        (∀ l : Fin 64, l.val < 0 ∨ 0 + ins.ef 22 16 ≤ l.val → (t.vR a ins.a).getD l 0 = (s.vR a ins.a).getD l 0 % 65536) ∧
        ((t.engine a 3).run).isSome = true ∧
        s.wentOn t a ins) ∧
    (∀ (a : Fin 48) (ins : Ins) (s : State),
      16 ≤ a.val →
      ins.x = false →
      csemOk a ins = true →
      ins.c = 0 →
      ins.ef 22 16 ≤ 64 →
      ins.ef 7 0 = 0 →
      ins.ef 8 8 = 0 →
      (s.engine a 3).run = none →
      (s.engine a 3).q = [] →
      s.issues a ins [] →
      ∃ t, exec (.vcvtBf16ToI16 a ins) s = .next t ∧
        (∀ l : Fin 64, 0 ≤ l.val → l.val < 0 + ins.ef 22 16 → (t.vR a ins.a).getD l 0 = ((bfToI16 ((s.vR a ins.b).getD l 0) (sext 5 (ins.ef 13 9))).1) % 65536) ∧
        (∀ l : Fin 64, l.val < 0 ∨ 0 + ins.ef 22 16 ≤ l.val → (t.vR a ins.a).getD l 0 = (s.vR a ins.a).getD l 0 % 65536) ∧
        ((t.engine a 3).run).isSome = true ∧
        s.wentOn t a ins) ∧
    (∀ (a : Fin 48) (ins : Ins) (s : State),
      16 ≤ a.val →
      ins.x = false →
      csemOk a ins = true →
      ins.c = 0 →
      ins.ef 22 16 ≤ 64 →
      ins.ef 7 0 = 0 →
      ins.ef 8 8 = 0 →
      (s.engine a 3).run = none →
      (s.engine a 3).q = [] →
      s.issues a ins [] →
      ∃ t, exec (.vcvtI16ToBf16 a ins) s = .next t ∧
        (∀ l : Fin 64, 0 ≤ l.val → l.val < 0 + ins.ef 22 16 → (t.vR a ins.a).getD l 0 = (((dyadic (sext 16 ((s.vR a ins.b).getD l 0)) 0 false).scale (sext 5 (ins.ef 13 9))).toBf) % 65536) ∧
        (∀ l : Fin 64, l.val < 0 ∨ 0 + ins.ef 22 16 ≤ l.val → (t.vR a ins.a).getD l 0 = (s.vR a ins.a).getD l 0 % 65536) ∧
        ((t.engine a 3).run).isSome = true ∧
        s.wentOn t a ins) ∧
    (∀ (a : Fin 48) (ins : Ins) (s : State),
      16 ≤ a.val →
      ins.x = false →
      csemOk a ins = true →
      ins.c = 0 →
      ins.ef 22 16 ≤ 32 →
      ins.ef 7 0 = 0 →
      (s.engine a 3).run = none →
      (s.engine a 3).q = [] →
      s.issues a ins [] →
      ∃ t, exec (.vcvtFp32ToBf16 a ins) s = .next t ∧
        (∀ l : Fin 64, (32 * ins.ef 8 8) ≤ l.val → l.val < (32 * ins.ef 8 8) + ins.ef 22 16 → (t.vR a ins.a).getD l 0 = (((f32z ((s.vR a ins.b).getD (2 * (l - (32 * ins.ef 8 8))) 0 + 65536 * (s.vR a ins.b).getD (2 * (l - (32 * ins.ef 8 8)) + 1) 0)).scale (sext 5 (ins.ef 13 9))).toBf) % 65536) ∧
        (∀ l : Fin 64, l.val < (32 * ins.ef 8 8) ∨ (32 * ins.ef 8 8) + ins.ef 22 16 ≤ l.val → (t.vR a ins.a).getD l 0 = (s.vR a ins.a).getD l 0 % 65536) ∧
        ((t.engine a 3).run).isSome = true ∧
        s.wentOn t a ins) ∧
    (∀ (a : Fin 48) (ins : Ins) (s : State),
      16 ≤ a.val →
      ins.x = false →
      csemOk a ins = true →
      ins.c = 0 →
      ins.ef 22 16 ≤ 32 →
      ins.ef 7 0 = 0 →
      (s.engine a 3).run = none →
      (s.engine a 3).q = [] →
      s.issues a ins [] →
      ∃ t, exec (.vcvtBf16ToFp32 a ins) s = .next t ∧
        (∀ l : Fin 64, 0 ≤ l.val → l.val < 0 + 2 * ins.ef 22 16 → (t.vR a ins.a).getD l 0 = ((let x := ((bf ((s.vR a ins.b).getD ((32 * ins.ef 8 8) + l / 2) 0)).scale (sext 5 (ins.ef 13 9))).encode 24 true; if l.val % 2 = 0 then x else x / 65536)) % 65536) ∧
        (∀ l : Fin 64, l.val < 0 ∨ 0 + 2 * ins.ef 22 16 ≤ l.val → (t.vR a ins.a).getD l 0 = (s.vR a ins.a).getD l 0 % 65536) ∧
        ((t.engine a 3).run).isSome = true ∧
        s.wentOn t a ins) ∧
    (∀ (a : Fin 48) (ins : Ins) (s : State),
      16 ≤ a.val →
      ins.x = false →
      csemOk a ins = true →
      ins.ef 22 16 ≤ 64 →
      ins.ef 15 15 = 0 →
      ins.ef 14 14 = 0 →
      ins.ef 13 9 = 0 →
      ins.ef 7 0 = 0 →
      (s.engine a 3).run = none →
      (s.engine a 3).q = [] →
      s.issues a ins [] →
      ∃ t, exec (.vqnt a ins) s = .next t ∧
        (∀ l : Fin 64, (32 * ins.ef 8 8) ≤ l.val → l.val < (32 * ins.ef 8 8) + (ins.ef 22 16 + 1) / 2 → (t.vR a ins.a).getD l 0 = ((let q := fun k => if k < ins.ef 22 16 then (qntByte ((s.vR a ins.b).getD k 0) ((s.vR a ins.c).getD k 0)).1 else 0; q (2 * (l - (32 * ins.ef 8 8))) + 256 * q (2 * (l - (32 * ins.ef 8 8)) + 1))) % 65536) ∧
        (∀ l : Fin 64, l.val < (32 * ins.ef 8 8) ∨ (32 * ins.ef 8 8) + (ins.ef 22 16 + 1) / 2 ≤ l.val → (t.vR a ins.a).getD l 0 = (s.vR a ins.a).getD l 0 % 65536) ∧
        ((t.engine a 3).run).isSome = true ∧
        s.wentOn t a ins) ∧
    (∀ (a : Fin 48) (ins : Ins) (s : State),
      16 ≤ a.val →
      ins.x = false →
      csemOk a ins = true →
      ins.ef 22 16 ≤ 64 →
      ins.ef 14 0 = 0 →
      ins.ef 15 15 = 1 → ins.c ≠ 31 →
      (s.vR a ins.c).length = 64 →
      (s.engine a 3).run = none →
      (s.engine a 3).q = [] →
      s.issues a ins [] →
      ∃ t, exec (.vtbl a ins) s = .next t ∧
        (∀ l : Fin 64, 0 ≤ l.val → l.val < 0 + ins.ef 22 16 → (t.vR a ins.a).getD l 0 = ((if ins.ef 15 15 = 1 ∧ 64 ≤ ((s.vR a ins.b).getD l 0) % 128 then (s.vR a (ins.c.val + 1)).getD (((s.vR a ins.b).getD l 0) % 64) 0 else (s.vR a ins.c).getD (((s.vR a ins.b).getD l 0) % 64) 0)) % 65536) ∧
        (∀ l : Fin 64, l.val < 0 ∨ 0 + ins.ef 22 16 ≤ l.val → (t.vR a ins.a).getD l 0 = (s.vR a ins.a).getD l 0 % 65536) ∧
        ((t.engine a 3).run).isSome = true ∧
        s.wentOn t a ins)

/-- VLD, VST, LD and ST of a wing on its own banks. Loads and stores of a wing (R310, R342, R344, R187). -/
def Obligations.LoadsAndStoresOfAWing : Prop :=
    (∀ (a : Fin 48) (ins : Ins) (s : State),
      16 ≤ a.val →
      ins.x = false →
      csemOk a ins = true →
      ins.ef 22 21 = 0 →
      ins.ef 20 19 = 2 →
      ins.b < 16 →
      ins.ef 18 0 = 0 →
      ins.e 63 21 = 0 →
      (s.engine a 3).run = none →
      (s.engine a 3).q = [] →
      s.issues a ins [32 + ins.b.val, ins.c.val] →
      (((s.adR a ins.b).toNat + (s.sR a ins.c).toNat) % 2 ^ 40) % 64 = 0 ∧ ownBytes (wcDie a) (wcWing a) (((s.adR a ins.b).toNat + (s.sR a ins.c).toNat) % 2 ^ 40) 128 = true →
      ∃ t, exec (.vld a ins) s = .next t ∧
        (∀ l : Fin 64, (t.vR a ins.a).getD l 0 = (s.ldb ((((s.adR a ins.b).toNat + (s.sR a ins.c).toNat) % 2 ^ 40) + 2 * l)).toNat + 256 * (s.ldb ((((s.adR a ins.b).toNat + (s.sR a ins.c).toNat) % 2 ^ 40) + 2 * l + 1)).toNat) ∧
        t.vP a ins.a = b2n (s.lineMarked (wcDie a) (wcWing a) (((((s.adR a ins.b).toNat + (s.sR a ins.c).toNat) % 2 ^ 40) - rrAddr (wcDie a) (wcWing a) 0) / 64)) + 2 * b2n (s.lineMarked (wcDie a) (wcWing a) ((((((s.adR a ins.b).toNat + (s.sR a ins.c).toNat) % 2 ^ 40) - rrAddr (wcDie a) (wcWing a) 0) / 64) + 1)) ∧
        t.mem = s.mem ∧
        ((t.engine a 3).run).isSome = true ∧
        s.wentOn t a ins) ∧
    (∀ (a : Fin 48) (ins : Ins) (s : State),
      16 ≤ a.val →
      ins.x = false →
      csemOk a { ins with low := BitVec.ofNat 37 (putBits ins.low.toNat 22 21 2) } = true →
      ins.ef 20 19 = 1 →
      ins.b < 16 →
      ins.ef 18 0 = 0 →
      ins.e 63 21 = 0 →
      (s.engine a 3).run = none →
      (s.engine a 3).q = [] →
      s.issues a ins [32 + ins.b.val, ins.c.val] →
      (((s.adR a ins.b).toNat + (s.sR a ins.c).toNat) % 2 ^ 40) % 64 = 0 ∧ ownBytes (wcDie a) (wcWing a) (((s.adR a ins.b).toNat + (s.sR a ins.c).toNat) % 2 ^ 40) 64 = true →
      ∃ t, exec (.vldWiden a ins) s = .next t ∧
        (∀ l : Fin 64, (t.vR a ins.a).getD l 0 = wrapTo 16 (sext 8 (s.ldb ((((s.adR a ins.b).toNat + (s.sR a ins.c).toNat) % 2 ^ 40) + l)).toNat)) ∧
        t.vP a ins.a = 3 * b2n (s.lineMarked (wcDie a) (wcWing a) (((((s.adR a ins.b).toNat + (s.sR a ins.c).toNat) % 2 ^ 40) - rrAddr (wcDie a) (wcWing a) 0) / 64)) ∧
        t.mem = s.mem ∧
        ((t.engine a 3).run).isSome = true ∧
        s.wentOn t a ins) ∧
    (∀ (a : Fin 48) (ins : Ins) (s : State),
      16 ≤ a.val →
      ins.x = false →
      csemOk a ins = true →
      ins.ef 22 21 = 0 →
      ins.ef 20 19 = 2 →
      ins.b < 16 →
      ins.ef 18 0 = 0 →
      ins.e 63 21 = 0 →
      (s.engine a 3).run = none →
      (s.engine a 3).q = [] →
      s.issues a ins [32 + ins.b.val, ins.c.val] →
      (((s.adR a ins.b).toNat + (s.sR a ins.c).toNat) % 2 ^ 40) % 64 = 0 ∧ ownBytes (wcDie a) (wcWing a) (((s.adR a ins.b).toNat + (s.sR a ins.c).toNat) % 2 ^ 40) 128 = true →
      (s.vR a ins.a).length = 64 →
      ∃ t, exec (.vst a ins) s = .next t ∧
        t.mem = (s.stn (((s.adR a ins.b).toNat + (s.sR a ins.c).toNat) % 2 ^ 40) ((s.vR a ins.a).flatMap (toBytes 2))).mem ∧
        t.poisoned (rrLine (wcDie a) (wcWing a) (((((s.adR a ins.b).toNat + (s.sR a ins.c).toNat) % 2 ^ 40) - rrAddr (wcDie a) (wcWing a) 0) / 64)) = bitOf (s.vP a ins.a) 0 ∧
        ((t.engine a 3).run).isSome = true ∧
        s.wentOn t a ins) ∧
    (∀ (a : Fin 48) (ins : Ins) (x : BusIn) (s : State),
      16 ≤ a.val →
      memLegal ins = true →
      memReg ins < 32 →
      ins.a ≠ 0 →
      x.upset = [] →
      (s.engine a 3).run = none →
      (s.engine a 3).q = [] →
      s.issues a ins [memReg ins, 32 + ins.b.val, ins.c.val] →
      (s.effAddr a ins).toNat % memBytes (ins.f 36 34) = 0 →
      ownBytes (wcDie a) (wcWing a) (s.effAddr a ins).toNat (memBytes (ins.f 36 34)) = true →
      ∃ t, exec (.ld a ins x) s = .next t ∧
        t.sR a ins.a = BitVec.ofNat 32 (s.ldw (s.effAddr a ins).toNat (memBytes (ins.f 36 34))) ∧
        t.mem = s.mem ∧
        (bitOf ins.low.toNat 33 = true → t.adR a ins.b = s.adR a ins.b + ins.imm.signExtend 40) ∧
        ((t.engine a 3).run).isSome = true ∧
        s.wentOn t a ins) ∧
    (∀ (a : Fin 48) (ins : Ins) (x : BusIn) (s : State),
      16 ≤ a.val →
      memLegal ins = true →
      memReg ins < 32 →
      (s.engine a 3).run = none →
      (s.engine a 3).q = [] →
      s.issues a ins [memReg ins, 32 + ins.b.val, ins.c.val] →
      (s.effAddr a ins).toNat % memBytes (ins.f 36 34) = 0 →
      ownBytes (wcDie a) (wcWing a) (s.effAddr a ins).toNat (memBytes (ins.f 36 34)) = true →
      ∃ t, exec (.st a ins x) s = .next t ∧
        t.mem = (s.rrStore (wcDie a) (wcWing a) ((s.effAddr a ins).toNat - rrAddr (wcDie a) (wcWing a) 0) (toBytes (memBytes (ins.f 36 34)) (s.sR a ins.a).toNat) false).mem ∧
        ((t.engine a 3).run).isSome = true ∧
        s.wentOn t a ins)

/-- MVM, ACCRD and ACCCLR on an idle CIM engine. CIM instructions (R109, R146, R158, R160, R302, R303, R306, R307). -/
def Obligations.CimInstructions : Prop :=
    (∀ (f : Fin 14) (k : Fin 1024) (a : Fin 48) (ins : Ins) (s : State),
      16 ≤ a.val →
      ins.x = true →
      csemOk a ins = true →
      ins.a = 0 →
      ins.b < 16 →
      ins.ef 2 1 ≠ 3 →
      ins.ef 0 0 = 0 →
      ins.e 63 24 = 0 →
      (s.engine a 2).run = none →
      (s.engine a 2).q = [] →
      s.issues a ins [32 + ins.b.val, ins.c.val] →
      s.mvmCheck (wcDie a) (wcWing a) (mvmOf ({ op := 0x40, pc := 0, csen := false, csem := 0, ef := ins.low.toNat % 2 ^ 23, ext := ins.xw, a := 0, b := 0, c := 0, vb := (s.adR a ins.b).toNat, vc := (s.sR a ins.c).toNat, vx := (List.range 14).map (fun f => s.rd (wg (wcDie a) (wcWing a)) (R.LEAF_PREC_L.at f)) } : EngIns)) = 0 →
      (mvmOf ({ op := 0x40, pc := 0, csen := false, csem := 0, ef := ins.low.toNat % 2 ^ 23, ext := ins.xw, a := 0, b := 0, c := 0, vb := (s.adR a ins.b).toNat, vc := (s.sR a ins.c).toNat, vx := (List.range 14).map (fun f => s.rd (wg (wcDie a) (wcWing a)) (R.LEAF_PREC_L.at f)) } : EngIns)).folios = [f.val] →
      (mvmOf ({ op := 0x40, pc := 0, csen := false, csem := 0, ef := ins.low.toNat % 2 ^ 23, ext := ins.xw, a := 0, b := 0, c := 0, vb := (s.adR a ins.b).toNat, vc := (s.sR a ins.c).toNat, vx := (List.range 14).map (fun f => s.rd (wg (wcDie a) (wcWing a)) (R.LEAF_PREC_L.at f)) } : EngIns)).count = 0 →
      (mvmOf ({ op := 0x40, pc := 0, csen := false, csem := 0, ef := ins.low.toNat % 2 ^ 23, ext := ins.xw, a := 0, b := 0, c := 0, vb := (s.adR a ins.b).toNat, vc := (s.sR a ins.c).toNat, vx := (List.range 14).map (fun f => s.rd (wg (wcDie a) (wcWing a)) (R.LEAF_PREC_L.at f)) } : EngIns)).acc = false →
      (mvmOf ({ op := 0x40, pc := 0, csen := false, csem := 0, ef := ins.low.toNat % 2 ^ 23, ext := ins.xw, a := 0, b := 0, c := 0, vb := (s.adR a ins.b).toNat, vc := (s.sR a ins.c).toNat, vx := (List.range 14).map (fun f => s.rd (wg (wcDie a) (wcWing a)) (R.LEAF_PREC_L.at f)) } : EngIns)).mode = 0 →
      k.val < (mvmOf ({ op := 0x40, pc := 0, csen := false, csem := 0, ef := ins.low.toNat % 2 ^ 23, ext := ins.xw, a := 0, b := 0, c := 0, vb := (s.adR a ins.b).toNat, vc := (s.sR a ins.c).toNat, vx := (List.range 14).map (fun f => s.rd (wg (wcDie a) (wcWing a)) (R.LEAF_PREC_L.at f)) } : EngIns)).entries f →
      s.shadowOf (wcDie a) (wcWing a) f = none →
      ∃ t, exec (.mvm a ins []) s = .next t ∧
        t.accWord (accKey (wcDie a) (wcWing a) (s.folioPos (wcDie a) (wcWing a) f) (mvmOf ({ op := 0x40, pc := 0, csen := false, csem := 0, ef := ins.low.toNat % 2 ^ 23, ext := ins.xw, a := 0, b := 0, c := 0, vb := (s.adR a ins.b).toNat, vc := (s.sR a ins.c).toNat, vx := (List.range 14).map (fun f => s.rd (wg (wcDie a) (wcWing a)) (R.LEAF_PREC_L.at f)) } : EngIns)).set k) = 0 ∧
        t.accBad (accKey (wcDie a) (wcWing a) (s.folioPos (wcDie a) (wcWing a) f) (mvmOf ({ op := 0x40, pc := 0, csen := false, csem := 0, ef := ins.low.toNat % 2 ^ 23, ext := ins.xw, a := 0, b := 0, c := 0, vb := (s.adR a ins.b).toNat, vc := (s.sR a ins.c).toNat, vx := (List.range 14).map (fun f => s.rd (wg (wcDie a) (wcWing a)) (R.LEAF_PREC_L.at f)) } : EngIns)).set k) = false ∧
        t.kind (wcDie a) (wcWing a) f (s.folioPos (wcDie a) (wcWing a) f) (mvmOf ({ op := 0x40, pc := 0, csen := false, csem := 0, ef := ins.low.toNat % 2 ^ 23, ext := ins.xw, a := 0, b := 0, c := 0, vb := (s.adR a ins.b).toNat, vc := (s.sR a ins.c).toNat, vx := (List.range 14).map (fun f => s.rd (wg (wcDie a) (wcWing a)) (R.LEAF_PREC_L.at f)) } : EngIns)).set = 0 ∧
        t.shift (wcDie a) (wcWing a) f (s.folioPos (wcDie a) (wcWing a) f) (mvmOf ({ op := 0x40, pc := 0, csen := false, csem := 0, ef := ins.low.toNat % 2 ^ 23, ext := ins.xw, a := 0, b := 0, c := 0, vb := (s.adR a ins.b).toNat, vc := (s.sR a ins.c).toNat, vx := (List.range 14).map (fun f => s.rd (wg (wcDie a) (wcWing a)) (R.LEAF_PREC_L.at f)) } : EngIns)).set = 0 ∧
        s.wentOn t a ins) ∧
    (∀ (f : Fin 14) (k : Fin 1024) (a : Fin 48) (ins : Ins) (s : State),
      16 ≤ a.val →
      ins.x = true →
      csemOk a ins = true →
      ins.a = 0 →
      ins.b < 16 →
      ins.ef 2 1 ≠ 3 →
      ins.ef 0 0 = 0 →
      ins.e 63 24 = 0 →
      (s.engine a 2).run = none →
      (s.engine a 2).q = [] →
      s.issues a ins [32 + ins.b.val, ins.c.val] →
      s.mvmCheck (wcDie a) (wcWing a) (mvmOf ({ op := 0x40, pc := 0, csen := false, csem := 0, ef := ins.low.toNat % 2 ^ 23, ext := ins.xw, a := 0, b := 0, c := 0, vb := (s.adR a ins.b).toNat, vc := (s.sR a ins.c).toNat, vx := (List.range 14).map (fun f => s.rd (wg (wcDie a) (wcWing a)) (R.LEAF_PREC_L.at f)) } : EngIns)) = 0 →
      (mvmOf ({ op := 0x40, pc := 0, csen := false, csem := 0, ef := ins.low.toNat % 2 ^ 23, ext := ins.xw, a := 0, b := 0, c := 0, vb := (s.adR a ins.b).toNat, vc := (s.sR a ins.c).toNat, vx := (List.range 14).map (fun f => s.rd (wg (wcDie a) (wcWing a)) (R.LEAF_PREC_L.at f)) } : EngIns)).folios = [f.val] →
      (mvmOf ({ op := 0x40, pc := 0, csen := false, csem := 0, ef := ins.low.toNat % 2 ^ 23, ext := ins.xw, a := 0, b := 0, c := 0, vb := (s.adR a ins.b).toNat, vc := (s.sR a ins.c).toNat, vx := (List.range 14).map (fun f => s.rd (wg (wcDie a) (wcWing a)) (R.LEAF_PREC_L.at f)) } : EngIns)).count = 1 →
      (mvmOf ({ op := 0x40, pc := 0, csen := false, csem := 0, ef := ins.low.toNat % 2 ^ 23, ext := ins.xw, a := 0, b := 0, c := 0, vb := (s.adR a ins.b).toNat, vc := (s.sR a ins.c).toNat, vx := (List.range 14).map (fun f => s.rd (wg (wcDie a) (wcWing a)) (R.LEAF_PREC_L.at f)) } : EngIns)).acc = false →
      (mvmOf ({ op := 0x40, pc := 0, csen := false, csem := 0, ef := ins.low.toNat % 2 ^ 23, ext := ins.xw, a := 0, b := 0, c := 0, vb := (s.adR a ins.b).toNat, vc := (s.sR a ins.c).toNat, vx := (List.range 14).map (fun f => s.rd (wg (wcDie a) (wcWing a)) (R.LEAF_PREC_L.at f)) } : EngIns)).mode = 0 →
      k.val < (mvmOf ({ op := 0x40, pc := 0, csen := false, csem := 0, ef := ins.low.toNat % 2 ^ 23, ext := ins.xw, a := 0, b := 0, c := 0, vb := (s.adR a ins.b).toNat, vc := (s.sR a ins.c).toNat, vx := (List.range 14).map (fun f => s.rd (wg (wcDie a) (wcWing a)) (R.LEAF_PREC_L.at f)) } : EngIns)).entries f →
      s.shadowOf (wcDie a) (wcWing a) f = none →
      s.hist (wcDie a) (wcWing a) (mvmOf ({ op := 0x40, pc := 0, csen := false, csem := 0, ef := ins.low.toNat % 2 ^ 23, ext := ins.xw, a := 0, b := 0, c := 0, vb := (s.adR a ins.b).toNat, vc := (s.sR a ins.c).toNat, vx := (List.range 14).map (fun f => s.rd (wg (wcDie a) (wcWing a)) (R.LEAF_PREC_L.at f)) } : EngIns)).tag = 0 →
      ∃ t, exec (.mvm a ins []) s = .next t ∧
        t.accWord (accKey (wcDie a) (wcWing a) (s.folioPos (wcDie a) (wcWing a) f) (mvmOf ({ op := 0x40, pc := 0, csen := false, csem := 0, ef := ins.low.toNat % 2 ^ 23, ext := ins.xw, a := 0, b := 0, c := 0, vb := (s.adR a ins.b).toNat, vc := (s.sR a ins.c).toNat, vx := (List.range 14).map (fun f => s.rd (wg (wcDie a) (wcWing a)) (R.LEAF_PREC_L.at f)) } : EngIns)).set k) = wrapTo 32 (s.rgSum (wcDie a) (wcWing a) (s.folioPos (wcDie a) (wcWing a) f) (mvmOf ({ op := 0x40, pc := 0, csen := false, csem := 0, ef := ins.low.toNat % 2 ^ 23, ext := ins.xw, a := 0, b := 0, c := 0, vb := (s.adR a ins.b).toNat, vc := (s.sR a ins.c).toNat, vx := (List.range 14).map (fun f => s.rd (wg (wcDie a) (wcWing a)) (R.LEAF_PREC_L.at f)) } : EngIns)).leaf ((mvmOf ({ op := 0x40, pc := 0, csen := false, csem := 0, ef := ins.low.toNat % 2 ^ 23, ext := ins.xw, a := 0, b := 0, c := 0, vb := (s.adR a ins.b).toNat, vc := (s.sR a ins.c).toNat, vx := (List.range 14).map (fun f => s.rd (wg (wcDie a) (wcWing a)) (R.LEAF_PREC_L.at f)) } : EngIns)).prec f) (mvmOf ({ op := 0x40, pc := 0, csen := false, csem := 0, ef := ins.low.toNat % 2 ^ 23, ext := ins.xw, a := 0, b := 0, c := 0, vb := (s.adR a ins.b).toNat, vc := (s.sR a ins.c).toNat, vx := (List.range 14).map (fun f => s.rd (wg (wcDie a) (wcWing a)) (R.LEAF_PREC_L.at f)) } : EngIns)).first k ((s.mvmInput (wcDie a) (wcWing a) (mvmOf ({ op := 0x40, pc := 0, csen := false, csem := 0, ef := ins.low.toNat % 2 ^ 23, ext := ins.xw, a := 0, b := 0, c := 0, vb := (s.adR a ins.b).toNat, vc := (s.sR a ins.c).toNat, vx := (List.range 14).map (fun f => s.rd (wg (wcDie a) (wcWing a)) (R.LEAF_PREC_L.at f)) } : EngIns))).2.1.headD ([], 0)).1) ∧
        s.wentOn t a ins) ∧
    (∀ (a : Fin 48) (ins : Ins) (s : State),
      16 ≤ a.val →
      ins.x = true →
      csemOk a ins = true →
      ins.a = 0 →
      ins.b < 16 →
      ins.ef 16 15 = 0 →
      ins.ef 14 0 = 0 →
      ins.e 63 21 = 0 →
      (s.engine a 2).run = none →
      (s.engine a 2).q = [] →
      s.issues a ins [32 + ins.b.val, ins.c.val] →
      ins.ef 22 19 ≤ 13 →
      s.folioPos (wcDie a) (wcWing a) (ins.ef 22 19) ≠ 15 →
      ins.e 20 10 = 1 →
      (((s.adR a ins.b).toNat + (s.sR a ins.c).toNat) % 2 ^ 40) % 64 = 0 ∧ ownBytes (wcDie a) (wcWing a) (((s.adR a ins.b).toNat + (s.sR a ins.c).toNat) % 2 ^ 40) 64 = true →
      ∃ t, exec (.accrd a ins) s = .next t ∧
        t.ldw (((s.adR a ins.b).toNat + (s.sR a ins.c).toNat) % 2 ^ 40) 4 = s.accWord (accKey (wcDie a) (wcWing a) (s.folioPos (wcDie a) (wcWing a) (ins.ef 22 19)) (ins.ef 18 17) (ins.e 9 0)) ∧
        s.wentOn t a ins) ∧
    (∀ (f : Fin 14) (k : Fin 1024) (a : Fin 48) (ins : Ins) (s : State),
      16 ≤ a.val →
      ins.x = false →
      csemOk a ins = true →
      ins.noRegs = true →
      ins.ef 6 0 = 0 →
      (s.engine a 2).run = none →
      (s.engine a 2).q = [] →
      s.issues a ins [] →
      (∀ g : Fin 14, bitOf (ins.low.toNat % 2 ^ 23) (9 + g) = true → s.folioPos (wcDie a) (wcWing a) g ≠ 15) →
      bitOf (ins.low.toNat % 2 ^ 23) (9 + f) = true →
      ∃ t, exec (.accclr a ins) s = .next t ∧
        t.accWord (accKey (wcDie a) (wcWing a) (s.folioPos (wcDie a) (wcWing a) f) (ins.ef 8 7) k) = 0 ∧
        t.accBad (accKey (wcDie a) (wcWing a) (s.folioPos (wcDie a) (wcWing a) f) (ins.ef 8 7) k) = false ∧
        s.wentOn t a ins)

/-- SCALEGET returns KIND and SHIFT of a set. SCALEGET (R159). -/
def Obligations.ScalegetReturnsKindAndShift : Prop :=
    (∀ (a : Fin 48) (ins : Ins) (s : State),
      16 ≤ a.val →
      ins.x = false →
      csemOk a ins = true →
      ins.b = 0 →
      ins.c = 0 →
      ins.ef 16 0 = 0 →
      ins.a ≠ 0 →
      (s.engine a 2).run = none →
      (s.engine a 2).q = [] →
      s.issues a ins [ins.a.val] →
      ins.ef 22 19 ≤ 13 →
      s.folioPos (wcDie a) (wcWing a) (ins.ef 22 19) ≠ 15 →
      ∃ t, exec (.scaleget a ins) s = .next t ∧
        t.sR a ins.a = BitVec.ofNat 32 (s.kind (wcDie a) (wcWing a) (ins.ef 22 19) (s.folioPos (wcDie a) (wcWing a) (ins.ef 22 19)) (ins.ef 18 17) * 16 + s.shift (wcDie a) (wcWing a) (ins.ef 22 19) (s.folioPos (wcDie a) (wcWing a) (ins.ef 22 19)) (ins.ef 18 17)) ∧
        s.wentOn t a ins)

/-- MOV, MOVT, RESHARD, PARK and UNPARK on an idle move engine. The move engine (R238, R243, R245, R319 to R326). -/
def Obligations.MoveEngineInstructions : Prop :=
    (∀ (a : Fin 48) (ins : Ins) (s : State),
      16 ≤ a.val →
      ins.x = true →
      csemOk a ins = true →
      ins.b < 16 →
      ins.c < 16 →
      ins.ef 22 21 = 0 →
      ins.ef 20 19 = 0 →
      ins.ef 18 6 = 0 →
      ins.ef 5 0 = 0 →
      ins.e 63 42 = 0 →
      ins.e 20 0 ≤ 2 ^ 20 →
      ins.e 41 21 ≤ 2 ^ 20 →
      (s.engine a 4).run = none →
      (s.engine a 4).q = [] →
      s.issues a ins [ins.a.val, 32 + ins.b.val, 32 + ins.c.val] →
      (s.sR a ins.a).toNat = 1 →
      (s.adR a ins.b).toNat % 64 = 0 →
      ownBytes (wcDie a) (wcWing a) ((s.adR a ins.b).toNat) 64 = true →
      (s.adR a ins.c).toNat % 64 = 0 →
      ownBytes (wcDie a) (wcWing a) ((s.adR a ins.c).toNat) 64 = true →
      ∃ t, exec (.mov a ins) s = .next t ∧
        t.lineData (wcDie a) (wcWing a) (((s.adR a ins.c).toNat - rrAddr (wcDie a) (wcWing a) 0) / 64) = s.lineData (wcDie a) (wcWing a) (((s.adR a ins.b).toNat - rrAddr (wcDie a) (wcWing a) 0) / 64) ∧
        t.poisoned (rrLine (wcDie a) (wcWing a) (((s.adR a ins.c).toNat - rrAddr (wcDie a) (wcWing a) 0) / 64)) = s.lineMarked (wcDie a) (wcWing a) (((s.adR a ins.b).toNat - rrAddr (wcDie a) (wcWing a) 0) / 64) ∧
        (∀ i : Fin 64, t.ldb ((s.adR a ins.c).toNat + 64 + i) = s.ldb ((s.adR a ins.c).toNat + 64 + i)) ∧
        ((t.engine a 4).run).isSome = true ∧
        s.wentOn t a ins) ∧
    (∀ (a : Fin 48) (ins : Ins) (s : State),
      16 ≤ a.val →
      ins.x = true →
      csemOk a ins = true →
      ins.b < 16 →
      ins.c < 16 →
      ins.ef 22 22 = 0 →
      ins.ef 21 20 = 0 →
      ins.ef 19 7 = 0 →
      ins.ef 6 0 = 0 →
      ins.e 63 42 = 0 →
      ins.e 20 0 = 1 →
      ins.e 41 21 = 1 →
      (s.engine a 4).run = none →
      (s.engine a 4).q = [] →
      s.issues a ins [ins.a.val, 32 + ins.b.val, 32 + ins.c.val] →
      (s.sR a ins.a).toNat = 1 →
      (s.adR a ins.b).toNat % 64 = 0 →
      ownBytes (wcDie a) (wcWing a) ((s.adR a ins.b).toNat) 2048 = true →
      (s.adR a ins.c).toNat % 64 = 0 →
      ownBytes (wcDie a) (wcWing a) ((s.adR a ins.c).toNat) 2048 = true →
      ∃ t, exec (.movt a ins) s = .next t ∧
        (∀ r c : Fin 32, t.ldb ((s.adR a ins.c).toNat + 64 * c + 2 * r) = s.ldb ((s.adR a ins.b).toNat + 64 * r + 2 * c) ∧ t.ldb ((s.adR a ins.c).toNat + 64 * c + 2 * r + 1) = s.ldb ((s.adR a ins.b).toNat + 64 * r + 2 * c + 1)) ∧
        ((t.engine a 4).run).isSome = true ∧
        s.wentOn t a ins) ∧
    (∀ (a : Fin 48) (ins : Ins) (s : State),
      16 ≤ a.val →
      ins.x = false →
      csemOk a ins = true →
      ins.b < 16 →
      ins.ef 22 0 = 0 →
      (s.engine a 4).run = none →
      (s.engine a 4).q = [] →
      s.issues a ins [ins.a.val, 32 + ins.b.val, ins.c.val] →
      (s.sR a ins.a).toNat = 1 →
      (((s.adR a ins.b).toNat + (s.sR a ins.c).toNat) % 2 ^ 40) % 32 = 0 →
      ownBytes (wcDie a) (wcWing a) (((s.adR a ins.b).toNat + (s.sR a ins.c).toNat) % 2 ^ 40) 32 = true →
      planBad ((List.range 8).map (fun i => s.ldw ((((s.adR a ins.b).toNat + (s.sR a ins.c).toNat) % 2 ^ 40) + 4 * i) 4)) = false →
      (entryXfer (wcDie a) (wcWing a) ((List.range 8).map (fun i => s.ldw ((((s.adR a ins.b).toNat + (s.sR a ins.c).toNat) % 2 ^ 40) + 4 * i) 4))).dk = 0 →
      (entryXfer (wcDie a) (wcWing a) ((List.range 8).map (fun i => s.ldw ((((s.adR a ins.b).toNat + (s.sR a ins.c).toNat) % 2 ^ 40) + 4 * i) 4))).kv = none →
      (entryXfer (wcDie a) (wcWing a) ((List.range 8).map (fun i => s.ldw ((((s.adR a ins.b).toNat + (s.sR a ins.c).toNat) % 2 ^ 40) + 4 * i) 4))).tile = 0 →
      (entryXfer (wcDie a) (wcWing a) ((List.range 8).map (fun i => s.ldw ((((s.adR a ins.b).toNat + (s.sR a ins.c).toNat) % 2 ^ 40) + 4 * i) 4))).srcs = [rrAddr (wcDie a) (wcWing a) (64 * bits (((List.range 8).map (fun i => s.ldw ((((s.adR a ins.b).toNat + (s.sR a ins.c).toNat) % 2 ^ 40) + 4 * i) 4)).getD 1 0) 16 0)] →
      bits (((List.range 8).map (fun i => s.ldw ((((s.adR a ins.b).toNat + (s.sR a ins.c).toNat) % 2 ^ 40) + 4 * i) 4)).getD 2 0) 20 0 ≤ 2 ^ 20 ∧ bits (((List.range 8).map (fun i => s.ldw ((((s.adR a ins.b).toNat + (s.sR a ins.c).toNat) % 2 ^ 40) + 4 * i) 4)).getD 5 0) 20 0 ≤ 2 ^ 20 →
      ∃ t, exec (.reshard a ins) s = .next t ∧
        t.lineData (wcDie a) (wcWing a) (bits (((List.range 8).map (fun i => s.ldw ((((s.adR a ins.b).toNat + (s.sR a ins.c).toNat) % 2 ^ 40) + 4 * i) 4)).getD 4 0) 16 0) = s.lineData (wcDie a) (wcWing a) (bits (((List.range 8).map (fun i => s.ldw ((((s.adR a ins.b).toNat + (s.sR a ins.c).toNat) % 2 ^ 40) + 4 * i) 4)).getD 1 0) 16 0) ∧
        ((t.engine a 4).run.map (fun r => r.next)) = some 1 ∧
        s.wentOn t a ins) ∧
    (∀ (b c : Nat) (a : Fin 48) (ins : Ins) (s : State),
      16 ≤ a.val →
      ins.x = false →
      csemOk a ins = true →
      ins.b < 16 →
      ins.ef 22 0 = 0 →
      (s.engine a 4).run = none →
      (s.engine a 4).q = [] →
      s.issues a ins [ins.a.val, 32 + ins.b.val, ins.c.val] →
      apertureAddr (s.adR a ins.b).toNat = true →
      s.parkEntry (wcDie a) (wcWing a) (s.sR a ins.a).toNat = some (b, c) →
      0 < (s.sR a ins.c).toNat ∧ (s.sR a ins.c).toNat ≤ c →
      s.reaches (sdNode (wcDie a)) (cdNode (s.aliasDie a)) = true →
      s.slotOk (s.aliasDie a) (s.rd (cd (s.aliasDie a)) R.PARK_CFG_SLOT) 1 = true →
      s.rd (cd (s.aliasDie a)) R.PARK_NEXT_NO ≠ 0 →
      s.rd (cd (s.aliasDie a)) R.PARK_NEXT_NO < 2 ^ 32 - 1 →
      ∃ t, exec (.park a ins) s = .next t ∧
        t.rd (cd (s.aliasDie a)) R.PARK_NEXT_NO = s.rd (cd (s.aliasDie a)) R.PARK_NEXT_NO + 1 ∧
        (t.cdx (s.aliasDie a)).jobs = (s.cdx (s.aliasDie a)).jobs ++ [{ unpark := false, die := (wcDie a), wing := (wcWing a), carrel := (s.sR a ins.a).toNat, blocks := (s.sR a ins.c).toNat, addr := (s.adR a ins.b).toNat, slot := s.rd (cd (s.aliasDie a)) R.PARK_CFG_SLOT, key := s.slotKey (s.aliasDie a) (s.rd (cd (s.aliasDie a)) R.PARK_CFG_SLOT), no := s.rd (cd (s.aliasDie a)) R.PARK_NEXT_NO, hdr := parkHeader (wcDie a) (s.sR a ins.a).toNat (s.rd (cd (s.aliasDie a)) R.PARK_CFG_SLOT) (s.sR a ins.c).toNat (s.rd (cd (s.aliasDie a)) R.PARK_NEXT_NO) }] ∧
        ((t.engine a 4).run).isSome = true ∧
        s.wentOn t a ins) ∧
    (∀ (b c : Nat) (a : Fin 48) (ins : Ins) (s : State),
      16 ≤ a.val →
      ins.x = false →
      csemOk a ins = true →
      ins.b < 16 →
      ins.ef 22 0 = 0 →
      ins.c = 0 →
      (s.engine a 4).run = none →
      (s.engine a 4).q = [] →
      s.issues a ins [ins.a.val, 32 + ins.b.val] →
      apertureAddr (s.adR a ins.b).toNat = true →
      s.parkEntry (wcDie a) (wcWing a) (s.sR a ins.a).toNat = some (b, c) →
      s.reaches (sdNode (wcDie a)) (cdNode (s.aliasDie a)) = true →
      (s.routePort (sdNode (wcDie a)) (cdNode (s.aliasDie a))).isSome = true →
      ∃ t, exec (.unpark a ins) s = .next t ∧
        t.carries ⟨0x0C, cdNode (s.aliasDie a), 8, sdNode (wcDie a), (wcWing a), (s.adR a ins.b).toNat % 2 ^ 32, (s.adR a ins.b).toNat / 2 ^ 32 + (s.sR a ins.a).toNat * 256, [], 4 + 8 * s.pc a⟩ = true ∧
        ((t.engine a 4).run.map (fun r => r.sealing)) = some true ∧
        s.wentOn t a ins)

/-- CREDREQ and WRREM on an idle link engine, and the end of an engine instruction. The link engine and completion
(R193, R195, R263, R356, R359). -/
def Obligations.LinkEngineInstructions : Prop :=
    (∀ (a : Fin 48) (ins : Ins) (s : State),
      ins.x = false →
      csemOk a ins = true →
      ins.a = 0 →
      ins.b = 0 →
      ins.ef 11 0 = 0 →
      (s.engine a 5).run = none →
      (s.engine a 5).q = [] →
      s.issues a ins [ins.c.val] →
      (s.sR a ins.c).toNat < 2 ^ 18 →
      4 ≤ ins.ef 22 19 ∧ ins.ef 22 19 < 8 →
      ins.ef 22 19 ≠ agNode a →
      s.reaches (agNode a) (ins.ef 22 19) = true →
      (s.routePort (agNode a) (ins.ef 22 19)).isSome = true →
      ∃ t, exec (.credreq a ins) s = .next t ∧
        t.carries ⟨0x10, ins.ef 22 19, ins.ef 18 16, agNode a, agUnit a, ins.ef 15 12 * 2 ^ 28 + (s.sR a ins.c).toNat, 0, [], 5 + 8 * s.pc a⟩ = true ∧
        s.wentOn t a ins) ∧
    (∀ (r : CredRec) (a : Fin 48) (ins : Ins) (s : State),
      16 ≤ a.val →
      ins.x = false →
      csemOk a ins = true →
      ins.b < 16 →
      ins.ef 10 0 = 0 →
      (s.engine a 5).run = none →
      (s.engine a 5).q = [] →
      s.issues a ins [ins.a.val, 32 + ins.b.val, ins.c.val] →
      (s.sR a ins.a).toNat % 4 = 0 ∧ 0 < (s.sR a ins.a).toNat ∧ (s.adR a ins.b).toNat % 4 = 0 ∧ (s.sR a ins.c).toNat % 4 = 0 →
      (s.adR a ins.b).toNat % 64 + (s.sR a ins.a).toNat ≤ 64 →
      ownBytes (wcDie a) (wcWing a) (s.adR a ins.b).toNat (s.sR a ins.a).toNat = true →
      (s.sR a ins.c).toNat < 2 ^ 23 →
      4 ≤ ins.ef 22 19 ∧ ins.ef 22 19 < 8 →
      ins.ef 22 19 ≠ agNode a →
      s.cred (ckey (agNode a) (agUnit a) (ins.ef 22 19) (ins.ef 18 16) (ins.ef 15 12)) = some r →
      linesOf (s.sR a ins.c).toNat (s.sR a ins.a).toNat ≤ r.credits →
      r.epoch < 256 →
      s.reaches (agNode a) (ins.ef 22 19) = true →
      (s.routePort (agNode a) (ins.ef 22 19)).isSome = true →
      ∃ t, exec (.wrrem a ins) s = .next t ∧
        t.cred (ckey (agNode a) (agUnit a) (ins.ef 22 19) (ins.ef 18 16) (ins.ef 15 12)) = some { r with credits := r.credits - linesOf (s.sR a ins.c).toNat (s.sR a ins.a).toNat, sent := r.sent + linesOf (s.sR a ins.c).toNat (s.sR a ins.a).toNat } ∧
        t.carries ⟨0x12, ins.ef 22 19, ins.ef 18 16, agNode a, agUnit a, ins.ef 15 12 * 2 ^ 28 + r.epoch * 2 ^ 20 + ins.ef 11 11 * 2 ^ 19 + b2n (s.lineMarked (wcDie a) (wcWing a) (((s.adR a ins.b).toNat - rrAddr (wcDie a) (wcWing a) 0) / 64)) * 2 ^ 18, (s.sR a ins.c).toNat / 4, s.ldn (s.adR a ins.b).toNat (s.sR a ins.a).toNat, 5 + 8 * s.pc a⟩ = true ∧
        s.wentOn t a ins) ∧
    (∀ (a : Fin 48) (e : Fin 6) (r : EngRun) (s : State),
      2 ≤ e.val →
      s.running a e = some r →
      (s.engine a e).q = [] →
      r.finished = true →
      r.fault = 0 →
      r.hits = [] →
      r.shadow = none →
      r.estat < 16 →
      s.agState a = 1 →
      (s.agent a).pendFault = none →
      (s.agent a).stopDue = false →
      (s.agent a).halt = none →
      ∃ t, exec (.engineInstrComplete a e) s = .next t ∧
        (t.engine a e).run = none ∧
        t.rd (agBase a) (fEstat a) = s.rd (agBase a) (fEstat a) ||| r.estat ∧
        (r.ins.csen = true → Store.get 0 t.sems (agSem a r.ins.csem) = min (Store.get 0 s.sems (agSem a r.ins.csem) + 1) 65535))

/-- Credit messages and fetches at their receivers. What arrives for the engines (R193, R196, R233, R240, R246,
R320). -/
def Obligations.EngineMessagesArrive : Prop :=
    (∀ (node unit : Fin 16) (m : Msg) (s : State),
      s.inbox.head? = some m →
      m.ty = 0x11 →
      m.dn = node.val →
      m.du = unit.val →
      s.cred (ckey node unit m.sn m.su (bits m.m0 31 28)) = none →
      (s.engine (nodeAgent node unit) 4).run = none →
      (s.engine (nodeAgent node unit) 5).run = none →
      ∃ t, exec (.creditGrantReceive node unit) s = .next t ∧
        t.cred (ckey node unit m.sn m.su (bits m.m0 31 28)) = some { epoch := bits m.m0 27 20, base := bits m.m0 16 0, len := bits m.m1 17 0, credits := bits (fromBytes (m.data.take 4)) 17 0, sent := 0 } ∧
        t.inbox = s.inbox.tail) ∧
    (∀ (node unit : Fin 16) (m : Msg) (s : State),
      s.inbox.head? = some m →
      m.ty = 0x13 →
      m.dn = node.val →
      m.du = unit.val →
      m.sn ≠ node.val →
      4 ≤ m.sn ∧ m.sn < 8 →
      (node.val < 3 ∧ 0 < node.val) ∨ 4 ≤ node.val ∧ node.val < 8 →
      (s.routePort node m.sn).isSome = true →
      ∃ t, exec (.reclaimReqReceive node unit) s = .next t ∧
        t.cred (ckey node unit m.sn m.su (bits m.m0 31 28)) = none ∧
        t.carries ⟨0x14, m.sn, m.su, node, unit, bits m.m0 31 28 * 2 ^ 28 + bits m.m0 27 20 * 2 ^ 20, (match s.cred (ckey node unit m.sn m.su (bits m.m0 31 28)) with | some r => if r.epoch = bits m.m0 27 20 then r.sent else 0 | none => 0) % 2 ^ 18, [], 0⟩ = true) ∧
    (∀ (n : Fin 2) (m : Msg) (data : List Byte) (s : State),
      s.inbox.head? = some m →
      m.ty = 0x09 →
      m.dn = cdNode n →
      4 ≤ m.sn ∧ m.sn < 8 →
      4 ≤ (m.m0 + bits m.m1 7 0 * 2 ^ 32) / 2 ^ 32 % 16 ∧ (m.m0 + bits m.m1 7 0 * 2 ^ 32) / 2 ^ 32 % 16 < 8 →
      s.hostGet n (m.m0 + bits m.m1 7 0 * 2 ^ 32) (bits m.m1 28 16) = some data →
      ∃ t, exec (.fetchReceive n false) s = .next t ∧
        t.carries ⟨0x0A, m.sn, m.su, cdNode n, 8, bits m.m1 15 8 * 256, 0, data, 0⟩ = true) ∧
    (∀ (n : Fin 2) (m : Msg) (s : State),
      s.inbox.head? = some m →
      m.ty = 0x08 →
      m.dn = cdNode n →
      bits m.m1 7 0 % 16 = 0 →
      m.m0 % 64 = 0 →
      m.data.length % 64 = 0 →
      m.m0 + m.data.length ≤ 2 ^ 24 →
      ∃ t, exec (.memwrReceive n false) s = .next t ∧
        t.mem = (s.stn (comAddr n m.m0) m.data).mem ∧
        t.inbox = s.inbox.tail) ∧
    (∀ (d : Fin 4) (w : Fin 8) (m : Msg) (r : EngRun) (s : State),
      s.inbox.head? = some m →
      m.ty = 0x0A →
      m.dn = sdNode d →
      m.du = w.val →
      s.running (wcix d w) 4 = some r →
      r.fault = 0 →
      r.ins.op = 0x84 →
      r.todo = [] →
      bits m.m0 7 0 = 0 →
      ∃ t, exec (.fetchDataReceive d w) s = .next t ∧
        t.mem = (s.rrStore d w (4096 * (r.ent.headD 0 + r.next)) m.data false).mem ∧
        ((t.engine (wcix d w) 4).run.map (fun r => r.next)) = some (r.next + 1)) ∧
    (∀ (d : Fin 4) (w : Fin 8) (m : Msg) (r : EngRun) (s : State),
      s.inbox.head? = some m →
      m.ty = 0x16 →
      m.dn = sdNode d →
      m.du = w.val →
      s.running (wcix d w) 4 = some r →
      r.fault = 0 →
      r.ins.op ≠ 0x82 →
      r.ack = true →
      bitOf r.estat 3 = false →
      bitOf m.m0 0 = false →
      ∃ t, exec (.kvackReceive d w) s = .next t ∧
        ((t.engine (wcix d w) 4).run.map (fun r => (r.ack, r.fault))) = some (false, 0x1A)) ∧
    (∀ (d : Fin 4) (w : Fin 8) (m : Msg) (r : EngRun) (s : State),
      s.inbox.head? = some m →
      m.ty = 0x16 →
      m.dn = sdNode d →
      m.du = w.val →
      s.running (wcix d w) 4 = some r →
      r.fault = 0 →
      r.ins.op ≠ 0x82 →
      r.ack = true →
      bitOf r.estat 3 = false →
      bitOf m.m0 0 = true →
      (r.xfer d w).srcs ≠ [] →
      (r.xfer d w).sk = 2 →
      r.fetch = [] →
      r.todo = [] →
      s.aliasNode (wcix d w) = 1 ∨ s.aliasNode (wcix d w) = 2 →
      ∃ t, exec (.kvackReceive d w) s = .next t ∧
        ((t.engine (wcix d w) 4).run.map (fun r => (r.ack, r.fault))) = some (false, 0) ∧
        ((t.engine (wcix d w) 4).run.map (fun r => r.fetch.length)) = some (min 8 (fetchRuns (r.xfer d w).srcs).length))

/-- PARK and UNPARK at the seal engine of the Control die. The seal engine (R243 to R246). -/
def Obligations.SealEngineAtTheControlDie : Prop :=
    (∀ (n : Fin 2) (m : Msg) (j : SealJob) (rest : List SealJob) (s : State),
      s.inbox.head? = some m →
      m.ty = 0x0B →
      m.dn = cdNode n →
      (s.cdx n).jobs = j :: rest →
      j.unpark = false →
      j.die = m.sn - 4 →
      j.wing = m.su →
      j.full = false →
      bits m.m1 9 8 = 0 →
      j.got.length + m.data.length < 65536 →
      ∃ t, exec (.parkdataReceive n false) s = .next t ∧
        (t.cdx n).jobs = { j with got := j.got ++ m.data } :: rest) ∧
    (∀ (n : Fin 2) (j : SealJob) (rest : List SealJob) (s : State),
      (s.cdx n).jobs = j :: rest →
      j.unpark = false →
      j.full = true →
      j.err = false →
      ∃ t, exec (.parkComplete n false) s = .next t ∧
        (t.cdx n).jobs = rest ∧
        Store.get 0 (t.cdx n).parks (256 * j.die + j.carrel) = j.no) ∧
    (∀ (n : Fin 2) (m : Msg) (h : List Byte) (s : State),
      s.inbox.head? = some m →
      m.ty = 0x0C →
      m.dn = cdNode n →
      s.hostGet n (m.m0 + bits m.m1 7 0 * 2 ^ 32) 64 = some h →
      s.unparkCheck n (m.sn - 4) (bits m.m1 15 8) h = none →
      fromBytes ((h.drop 8).take 4) ≠ 0 →
      ∃ t, exec (.unparkreqReceive n false) s = .next t ∧
        (t.cdx n).jobs = (s.cdx n).jobs ++ [{ unpark := true, die := m.sn - 4, wing := m.su, carrel := bits m.m1 15 8, blocks := fromBytes ((h.drop 8).take 4), addr := (m.m0 + bits m.m1 7 0 * 2 ^ 32), slot := s.rd (cd n) R.PARK_CFG_SLOT, key := s.slotKey n (s.rd (cd n) R.PARK_CFG_SLOT), no := fromBytes ((h.drop 12).take 4), hdr := h }]) ∧
    (∀ (n : Fin 2) (j : SealJob) (rest : List SealJob) (c data : List Byte) (s : State),
      (s.cdx n).jobs = j :: rest →
      j.unpark = true →
      s.hostGet n (j.addr + chunkOff j.chunk) (4096 * (min 16 (j.blocks - 16 * j.chunk)) + 16) = some c →
      gcmOpen j.key (parkIv j.no j.die j.carrel j.chunk) j.hdr (c.take (4096 * (min 16 (j.blocks - 16 * j.chunk)))) (c.drop (4096 * (min 16 (j.blocks - 16 * j.chunk)))) = some data →
      j.blocks ≤ 16 * (j.chunk + 1) →
      ∃ t, exec (.unparkChunkVerified n false) s = .next t ∧
        (t.cdx n).jobs = rest ∧
        Store.get 0 (t.cdx n).parks (256 * j.die + j.carrel) = 0)

/-- Accesses of sequencers to Commons, register writes, and timeouts on the bus. LD and ST of a sequencer (R256,
R342 to R345); Accesses of the host and of debug (R9, R38, R46, R49). -/
def Obligations.AccessesOnTheBus : Prop :=
    (∀ (a : Fin 48) (ins : Ins) (x : BusIn) (s : State),
      ins.a ≠ 0 →
      a.val < 16 →
      memLegal ins = true →
      memReg ins < 32 →
      s.issues a ins [memReg ins, 32 + ins.b.val, ins.c.val] →
      (s.effAddr a ins).toNat % (memBytes (ins.f 36 34)) = 0 →
      (s.effAddr a ins).toNat / 2 ^ 36 = 0 ∨ (s.effAddr a ins).toNat / 2 ^ 36 = cdNode (sqDie a) →
      (s.effAddr a ins).toNat / 2 ^ 32 % 16 = 0 →
      ((s.effAddr a ins).toNat % 2 ^ 32) + (memBytes (ins.f 36 34)) ≤ 2 ^ 24 →
      x.upset = [] →
      Store.get [] s.comErr (comWord (sqDie a) (((s.effAddr a ins).toNat % 2 ^ 32) / 8)) = [] →
      ∃ t, exec (.ld a ins x) s = .next t ∧
        t.sR a ins.a = BitVec.ofNat 32 (s.ldw (comAddr (sqDie a) ((s.effAddr a ins).toNat % 2 ^ 32)) (memBytes (ins.f 36 34))) ∧
        t.mem = s.mem ∧
        (bitOf ins.low.toNat 33 = true → t.adR a ins.b = s.adR a ins.b + ins.imm.signExtend 40) ∧
        s.wentOn t a ins) ∧
    (∀ (a : Fin 48) (ins : Ins) (x : BusIn) (s : State),
      a.val < 16 →
      memLegal ins = true →
      memReg ins < 32 →
      s.issues a ins [memReg ins, 32 + ins.b.val, ins.c.val] →
      (s.effAddr a ins).toNat % (memBytes (ins.f 36 34)) = 0 →
      (s.effAddr a ins).toNat / 2 ^ 36 = 0 ∨ (s.effAddr a ins).toNat / 2 ^ 36 = cdNode (sqDie a) →
      (s.effAddr a ins).toNat / 2 ^ 32 % 16 = 0 →
      ((s.effAddr a ins).toNat % 2 ^ 32) + (memBytes (ins.f 36 34)) ≤ 2 ^ 24 →
      x.upset = [] →
      Store.get [] s.comErr (comWord (sqDie a) (((s.effAddr a ins).toNat % 2 ^ 32) / 8)) = [] →
      ∃ t, exec (.st a ins x) s = .next t ∧
        t.mem = (s.stn (comAddr (sqDie a) ((s.effAddr a ins).toNat % 2 ^ 32)) (toBytes (memBytes (ins.f 36 34)) (s.sR a ins.a).toNat)).mem ∧
        (bitOf ins.low.toNat 33 = true → t.adR a ins.b = s.adR a ins.b + ins.imm.signExtend 40) ∧
        s.wentOn t a ins) ∧
    (∀ (n : Fin 2) (v : Nat) (x : BusIn) (s : State),
      s.isActive n = true →
      (s.cdx n).hostUp = true →
      (s.cdx n).mainUp = true →
      x.same = 0 →
      ∃ t, exec (.registerWrite n true 0x300001004 4 v x) s = .next t ∧
        t.rsp = .ok 0 ∧
        t.rd (cd n) R.INT_EN_EN = v % 2 ^ 16) ∧
    (∀ (n : Fin 2) (o : Fin (2 ^ 21)) (v : Nat) (x : BusIn) (s : State),
      s.dbgOpen n = true →
      (s.cdx n).mainUp = true →
      x.upset = [] →
      ∃ t, exec (.registerWrite n false (BitVec.ofNat 40 (comAddr n (8 * o))) 8 v x) s = .next t ∧
        t.rsp = .ok 0 ∧
        t.mem = (s.stn (comAddr n (8 * o)) (toBytes 8 v)).mem) ∧
    (∀ (n : Fin 2) (u addr : Nat) (write : Bool) (rest : List (Nat × Bool × Nat)) (s : State),
      (s.cdx n).waitAcc = (u, write, addr) :: rest →
      8 ≤ u →
      ∃ t, exec (.noResponseTimeout n) s = .next t ∧
        t.rsp = .error 5 ∧
        (t.cdx n).waitAcc = rest ∧
        t.flag (cd n) R.ADDR_ERR_HI_VALID = true ∧
        (s.flag (cd n) R.ADDR_ERR_HI_VALID = false → t.rd (cd n) R.ADDR_ERR_HI_KIND = 5))

/-- Polls of Stack dies, the EOI window, and DMA. Interrupt summaries and DMA (R667, R671, R674, R675, R683). -/
def Obligations.InterruptSummariesAndDma : Prop :=
    (∀ (n : Fin 2) (d : Fin 4) (s : State),
      s.isActive n = true →
      (s.cdx n).mainUp = true →
      s.rd (cd n) R.INT_CTRL_SD_POLL ≠ 0 →
      s.inService n (2 + d) = true →
      s.reaches (cdNode n) (sdNode d) = true →
      (s.sdx d).up = true →
      ∃ t, exec (.sdSumPoll n d true) s = .next t ∧
        t.rd (cd n) (R.SD_GRP_SUM.at d) = s.sdSum d % 2 ^ 10 ∧
        t.rd (cd n) (R.SD_GRP_VALID.at d) = 1) ∧
    (∀ (n : Fin 2) (d : Fin 4) (s : State),
      s.isActive n = true →
      (s.cdx n).mainUp = true →
      s.rd (cd n) R.INT_CTRL_SD_POLL ≠ 0 →
      ∃ t, exec (.sdSumPoll n d false) s = .next t ∧
        t.rd (cd n) (R.SD_GRP_VALID.at d) = 0) ∧
    (∀ (n : Fin 2) (s : State),
      s.flag (cd n) R.INT_CTRL_EDGE = true →
      s.flag (cd n) R.INT_STAT_ASSERTED = true →
      ∃ t, exec (.intEoiWrite n) s = .next t ∧
        t.flag (cd n) R.INT_STAT_EOI_WIN = true ∧
        t.flag (cd n) R.INT_STAT_ASSERTED = false) ∧
    (∀ (n : Fin 2) (s : State),
      ∃ t, exec (.eoiWindowEnd n) s = .next t ∧
        t.flag (cd n) R.INT_STAT_EOI_WIN = false) ∧
    (∀ (n : Fin 2) (c : Fin 8) (s : State),
      s.isActive n = true →
      (s.cdx n).mainUp = true →
      s.flag (cd n) (R.DMA_STAT_BUSY.at c) = false →
      s.dmaCheck n (s.dmaJob n c) = 0 →
      dmaStack (s.dmaJob n c).dst = false →
      ∃ t, exec (.dmaGo n c false) s = .next t ∧
        t.flag (cd n) (R.DMA_STAT_BUSY.at c) = true ∧
        t.rd (cd n) (R.DMA_DONE_BYTES.at c) = 0 ∧
        t.rd (cd n) (R.DMA_STAT_ERR.at c) = 0 ∧
        t.rd (cd n) (R.DMA_CTRL_GO.at c) = 0 ∧
        t.dmaRun n c = some (s.dmaJob n c)) ∧
    (∀ (n : Fin 2) (c : Fin 8) (j : DmaJob) (s : State),
      s.dmaRun n c = some j →
      dmaStack j.dst = false →
      j.src / 2 ^ 32 = 0 ∧ j.dst / 2 ^ 32 = 0 →
      j.dst % 8 = 0 ∧ j.len % 8 = 0 →
      j.src + j.len ≤ 2 ^ 24 ∧ j.dst + j.len ≤ 2 ^ 24 →
      j.src + j.len ≤ j.dst ∨ j.dst + j.len ≤ j.src →
      s.comErr = [] →
      ∃ t, exec (.dmaComplete n c none) s = .next t ∧
        t.mem = (s.stn (comAddr n j.dst) (s.ldn (comAddr n j.src) j.len)).mem ∧
        t.rd (cd n) (R.DMA_DONE_BYTES.at c) = j.len ∧
        t.flag (cd n) (R.DMA_STAT_BUSY.at c) = false ∧
        t.rd (cd n) (R.DMA_STAT_ERR.at c) = 0 ∧
        bitOf (t.rd (cd n) R.DMA_CAUSE_DONE) c = true ∧
        t.dmaRun n c = none) ∧
    (∀ (n : Fin 2) (c : Fin 8) (moved : Fin (2 ^ 27)) (j : DmaJob) (s : State),
      (s.cdx n).mainUp = true →
      s.flag (cd n) (R.DMA_STAT_BUSY.at c) = true →
      s.dmaRun n c = some j →
      dmaStack j.dst = false →
      j.src / 2 ^ 32 = 0 ∧ j.dst / 2 ^ 32 = 0 →
      ∃ t, exec (.dmaAbort n c moved) s = .next t ∧
        t.flag (cd n) (R.DMA_STAT_BUSY.at c) = false ∧
        t.rd (cd n) (R.DMA_STAT_ERR.at c) = 4 ∧
        t.rd (cd n) (R.DMA_DONE_BYTES.at c) = min moved.val j.len ∧
        bitOf (t.rd (cd n) R.DMA_CAUSE_ERR) c = true ∧
        t.dmaRun n c = none)

/-- Doorbells, Q_CMD and selection of queues, and the slips of the catalogue. Queues (R393 to R403); Slips (R404,
R405, R420). -/
def Obligations.QueuesAndSlips : Prop :=
    (∀ (n : Fin 2) (q : Fin 131072) (v : Word) (s : State),
      s.isActive n = true →
      s.qIsDev n q = false →
      s.qIsCq n q = false →
      s.qSize n q ≠ 0 →
      sub32 v.toNat (s.qCons n q) ≤ s.qSize n q →
      sub32 v.toNat (s.qProd n q) ≤ s.qSize n q →
      ∃ t, exec (.doorbellWrite n q v) s = .next t ∧
        t.qProd n q = v.toNat ∧
        t.qCons n q = s.qCons n q ∧
        t.qBase n q = s.qBase n q) ∧
    (∀ (n : Fin 2) (s : State),
      s.flag (cd n) R.Q_RES_BUSY = false →
      ∃ t, exec (.qCmdRead n) s = .next t ∧
        (∀ k : Fin 8, t.rd (cd n) (R.Q_DATA_WORD.at k) = s.qw n (s.rd (cd n) R.Q_SEL_QUEUE) k) ∧
        t.rd (cd n) R.Q_RES_RESULT = 1 ∧
        t.mem = s.mem) ∧
    (∀ (n : Fin 2) (s : State),
      s.flag (cd n) R.Q_RES_BUSY = false →
      s.mirOn n = false →
      qInvalid ((List.range 6).map (fun k => s.rd (cd n) (R.Q_DATA_WORD.at k))) = false →
      s.qLive n (s.rd (cd n) R.Q_SEL_QUEUE) ((List.range 6).map (fun k => s.rd (cd n) (R.Q_DATA_WORD.at k))) = false →
      ∃ t, exec (.qCmdWrite n) s = .next t ∧
        (∀ k : Fin 6, t.qw n (s.rd (cd n) R.Q_SEL_QUEUE) k = s.rd (cd n) (R.Q_DATA_WORD.at k) % 2 ^ 32) ∧
        t.qw n (s.rd (cd n) R.Q_SEL_QUEUE) 6 = 0 ∧
        t.qw n (s.rd (cd n) R.Q_SEL_QUEUE) 7 = 0 ∧
        t.rd (cd n) R.Q_RES_RESULT = 1) ∧
    (∀ (n : Fin 2) (c q : Nat) (s : State),
      s.dispatchOn n = true →
      (s.idleSq n).isSome = true →
      s.qPick n = some (c, q) →
      ∃ t, exec (.queueSelect n) s = .next t ∧
        (t.cdx n).sels = (s.cdx n).sels ++ [q] ∧
        t.mem = s.mem) ∧
    (∀ (n : Fin 2) (q : Nat) (rest : List Nat) (s : State),
      (s.cdx n).sels = q :: rest →
      s.headOf n q = none →
      (s.cdx n).cancels.contains (q, (s.qCons n q % max (s.qSize n q) 1)) = false →
      s.qBase n q / 2 ^ 32 = 0 →
      s.qBase n q + 64 * s.qSize n q ≤ 2 ^ 24 →
      s.qSize n q ≠ 0 →
      s.mirOn n = false →
      s.comErr = [] →
      s.slipOutcome n q (slipWords (s.ldn (comAddr n ((s.qBase n q + 64 * (s.qCons n q % max (s.qSize n q) 1)) % 2 ^ 24)) 64)) = 0 →
      bitOf ((slipWords (s.ldn (comAddr n ((s.qBase n q + 64 * (s.qCons n q % max (s.qSize n q) 1)) % 2 ^ 24)) 64)).getD 3 0) 31 = false →
      bitOf ((slipWords (s.ldn (comAddr n ((s.qBase n q + 64 * (s.qCons n q % max (s.qSize n q) 1)) % 2 ^ 24)) 64)).getD 2 0) 31 = true →
      ∃ t, exec (.headSlipArrive n false []) s = .next t ∧
        (t.cdx n).disp = (s.cdx n).disp ++ [slipOf q (s.qCons n q % max (s.qSize n q) 1) (slipWords (s.ldn (comAddr n ((s.qBase n q + 64 * (s.qCons n q % max (s.qSize n q) 1)) % 2 ^ 24)) 64)) none] ∧
        (t.cdx n).sels = rest ∧
        t.qCons n q = (s.qCons n q + 1) % 2 ^ 32 ∧
        t.qProd n q = s.qProd n q) ∧
    (∀ (n : Fin 2) (k : Fin 8) (x : Slip) (rest : List Slip) (s : State),
      (s.cdx n).disp = x :: rest →
      s.idleSq n = some k.val →
      s.dispatchOn n = true →
      bitOf (s.ldw (sqMem n k x.prog) 4) 31 = true →
      x.args.length ≤ 11 →
      x.carrel = none →
      ∃ t, exec (.slipDispatch n) s = .next t ∧
        (t.cdx n).disp = rest ∧
        t.agState (sqix n k) = 1 ∧
        t.pc (sqix n k) = bits (s.ldw (sqMem n k x.prog) 4) 12 0 ∧
        t.runSlip n k = some x ∧
        t.flag (cd n) (R.SQ_RUNQ_VALID.at k) = true ∧
        (∀ i : Fin 11, i.val < x.args.length → t.sR (sqix n k) (i.val + 1) = BitVec.ofNat 32 (x.args.getD i 0)) ∧
        t.sR (sqix n k) 28 = BitVec.ofNat 32 x.tag ∧
        t.sR (sqix n k) 29 = BitVec.ofNat 32 (2 ^ 31) ∧
        t.sR (sqix n k) 30 = BitVec.ofNat 32 x.q ∧
        t.sR (sqix n k) 31 = BitVec.ofNat 32 x.pos) ∧
    (∀ (n : Fin 2) (x : Slip) (rest : List MirAct) (s : State),
      (s.cdx n).mirQ = .dispatch x :: rest →
      ∃ t, exec (.mirrorAckReceive n) s = .next t ∧
        (t.cdx n).disp = (s.cdx n).disp ++ [x] ∧
        (t.cdx n).mirQ = rest) ∧
    (∀ (n : Fin 2) (r : Fin 256) (rest : List MirAct) (s : State),
      (s.cdx n).mirQ = .qcmd r :: rest →
      ∃ t, exec (.mirrorAckReceive n) s = .next t ∧
        t.rd (cd n) R.Q_RES_RESULT = r ∧
        t.flag (cd n) R.Q_RES_BUSY = false ∧
        (t.cdx n).mirQ = rest)

/-- ENQ, CANCEL, CMPL, the cancel of the host, and carrels. Catalogue instructions and carrels (R362 to R365, R407,
R410 to R413). -/
def Obligations.CatalogueInstructionsAndCarrels : Prop :=
    (∀ (a : Fin 16) (ins : Ins) (s : State),
      ins.x = false →
      csemOk a ins = true →
      ins.b < 16 →
      ins.ef 22 0 = 0 →
      ins.a ≠ 0 →
      s.issues a ins [ins.a.val, 32 + ins.b.val, ins.c.val] →
      s.isActive (sqDie a) = true →
      (s.adR a ins.b).toNat % 64 = 0 →
      (s.adR a ins.b).toNat / 2 ^ 32 = 0 ∧ (s.adR a ins.b).toNat + 64 ≤ 2 ^ 24 →
      (s.sR a ins.c).toNat < 131072 →
      s.qIsDev (sqDie a) (s.sR a ins.c).toNat = true →
      s.qSize (sqDie a) (s.sR a ins.c).toNat ≠ 0 →
      sub32 (s.qProd (sqDie a) (s.sR a ins.c).toNat) (s.qCons (sqDie a) (s.sR a ins.c).toNat) < s.qSize (sqDie a) (s.sR a ins.c).toNat →
      s.qBase (sqDie a) (s.sR a ins.c).toNat + 64 * s.qSize (sqDie a) (s.sR a ins.c).toNat ≤ 2 ^ 24 →
      s.comErr = [] →
      ∃ t, exec (.enq (a.castLE (by decide)) ins) s = .next t ∧
        t.sR a ins.a = 0 ∧
        t.qProd (sqDie a) (s.sR a ins.c).toNat = (s.qProd (sqDie a) (s.sR a ins.c).toNat + 1) % 2 ^ 32 ∧
        t.ldn (comAddr (sqDie a) ((s.qBase (sqDie a) (s.sR a ins.c).toNat + 64 * (s.qProd (sqDie a) (s.sR a ins.c).toNat % s.qSize (sqDie a) (s.sR a ins.c).toNat)) % 2 ^ 24)) 64 = s.ldn (comAddr (sqDie a) (s.adR a ins.b).toNat) 64 ∧
        s.wentOn t a ins) ∧
    (∀ (a : Fin 16) (ins : Ins) (s : State),
      ins.x = false →
      csemOk a ins = true →
      ins.ef 22 0 = 0 →
      ins.a ≠ 0 →
      s.issues a ins [ins.a.val, ins.b.val, ins.c.val] →
      s.isActive (sqDie a) = true →
      (s.sR a ins.c).toNat < 131072 ∧ (s.sR a ins.b).toNat < 65536 →
      s.slipReady (sqDie a) (s.sR a ins.c).toNat (s.sR a ins.b).toNat = true →
      ∃ t, exec (.cancel (a.castLE (by decide)) ins) s = .next t ∧
        t.sR a ins.a = 0 ∧
        (t.cdx (sqDie a)).cancels.contains ((s.sR a ins.c).toNat, (s.sR a ins.b).toNat) = true ∧
        s.wentOn t a ins) ∧
    (∀ (n : Fin 2) (pos : Fin 65536) (s : State),
      s.isActive n = true →
      s.flag (cd n) R.CANCEL_STAT_BUSY = false →
      s.slipReady n (s.rd (cd n) R.CANCEL_Q_QUEUE) pos = true →
      ∃ t, exec (.cancelPosWrite n pos) s = .next t ∧
        t.rd (cd n) R.CANCEL_STAT_RESULT = 0 ∧
        (t.cdx n).cancels.contains (s.rd (cd n) R.CANCEL_Q_QUEUE, pos.val) = true) ∧
    (∀ (a : Fin 16) (ins : Ins) (x : Slip) (s : State),
      ins.x = false →
      csemOk a ins = true →
      ins.b = 0 →
      ins.c = 0 →
      ins.ef 22 16 = 0 →
      ins.ef 7 3 = 0 →
      ins.ef 2 0 ≤ 4 →
      ins.a.val + ins.ef 2 0 ≤ 32 →
      s.issues a ins ((List.range (ins.ef 2 0)).map (ins.a.val + ·)) →
      s.isActive (sqDie a) = true →
      ins.csen = false →
      s.runSlip (sqDie a) (a % 8) = some x →
      x.cq = none →
      ∃ t, exec (.cmpl (a.castLE (by decide)) ins) s = .next t ∧
        t.runSlip (sqDie a) (a % 8) = none ∧
        t.flag (cd (sqDie a)) (R.SQ_RUNQ_VALID.at (a % 8)) = false ∧
        (∀ k, x.doneSem = some k → Store.get 0 t.sems (csem (sqDie a) k) = min (Store.get 0 s.sems (csem (sqDie a) k) + 1) 65535) ∧
        s.wentOn t a ins) ∧
    (∀ (n : Fin 2) (c : Fin 256) (w : Fin 8) (s : State),
      s.isActive n = true →
      s.flag (cd n) R.CARREL_STAT_BUSY = false →
      s.flag (cd n) (R.CARREL_TAB_ADMITTED.at c) = false →
      (∀ d : Fin 4, s.inService n (2 + d) = true) →
      s.mirOn n = false →
      (∀ d : Fin 4, s.kvResult d 2 c w (s.rd (cd n) (R.CARREL_ARG_BASE.at d)) (s.rd (cd n) (R.CARREL_ARG_COUNT.at d)) = 1) →
      ∃ t, exec (.carrelCreate n c w) s = .next t ∧
        t.flag (cd n) (R.CARREL_TAB_ADMITTED.at c) = true ∧
        t.rd (cd n) (R.CARREL_TAB_WING.at c) = w ∧
        t.rd (cd n) R.CARREL_STAT_RESULT = 1 ∧
        t.rd (cd n) R.CARREL_STAT_CARREL = c ∧
        (∀ d : Fin 4, t.kvEntry d c = some (w.val, s.rd (cd n) (R.CARREL_ARG_BASE.at d), s.rd (cd n) (R.CARREL_ARG_COUNT.at d)))) ∧
    (∀ (n : Fin 2) (c : Fin 256) (s : State),
      s.isActive n = true →
      s.flag (cd n) R.CARREL_STAT_BUSY = false →
      s.flag (cd n) (R.CARREL_TAB_ADMITTED.at c) = true →
      s.mirOn n = false →
      ∃ t, exec (.carrelRelease n c) s = .next t ∧
        t.flag (cd n) (R.CARREL_TAB_ADMITTED.at c) = false ∧
        t.rd (cd n) R.CARREL_STAT_RESULT = 1 ∧
        (∀ d : Fin 4, s.inService n (2 + d) = true → t.kvEntry d c = none))

/-- RAND, SEAL, UNSEAL and KDEC. Security instructions (R376 to R382, R616, R617). -/
def Obligations.SecurityInstructions : Prop :=
    (∀ (a : Fin 16) (ins : Ins) (s : State),
      ins.x = false →
      csemOk a ins = true →
      ins.c = 0 →
      ins.ef 22 0 = 0 →
      ins.b ≠ 0 →
      s.issues a ins [ins.a.val, ins.b.val] →
      ∃ t, exec (.rand (a.castLE (by decide)) ins) s = .next t ∧
        t.sR a ins.b = (if s.rd (cd (sqDie a)) R.TRNG_STAT_STATE = 2 then 0 else if s.rd (cd (sqDie a)) R.TRNG_STAT_STATE = 3 then 2 else 1) ∧
        s.rd (cd (sqDie a)) R.TRNG_STAT_STATE ≠ 2 → ins.a ≠ ins.b → t.sR a ins.a = 0 ∧
        s.wentOn t a ins) ∧
    (∀ (a : Fin 16) (ins : Ins) (s : State),
      ins.x = false →
      csemOk a ins = true →
      ins.b < 16 →
      ins.c < 16 →
      ins.ef 17 0 = 0 →
      ins.a ≠ 0 →
      s.issues a ins [ins.a.val, 32 + ins.b.val, 32 + ins.c.val] →
      s.isActive (sqDie a) = true →
      s.slotFault (sqDie a) (ins.ef 22 18) 1 = none →
      (s.sR a ins.a).toNat ≤ 65536 ∧ (s.sR a ins.a).toNat % 4 = 0 →
      secOk (sqDie a) (s.adR a ins.b).toNat (s.sR a ins.a).toNat (s.adR a ins.c).toNat ((s.sR a ins.a).toNat + 32) = true →
      (s.adR a ins.b).toNat / 2 ^ 32 = 0 ∧ (s.adR a ins.b).toNat + (s.sR a ins.a).toNat ≤ 2 ^ 24 →
      (s.adR a ins.c).toNat / 2 ^ 32 = 0 ∧ (s.adR a ins.c).toNat + ((s.sR a ins.a).toNat + 32) ≤ 2 ^ 24 →
      s.comErr = [] →
      ∃ t, exec (.seal (a.castLE (by decide)) ins) s = .next t ∧
        t.sR a ins.a = 0 ∧
        t.ldn (comAddr (sqDie a) (s.adR a ins.c).toNat) ((s.sR a ins.a).toNat + 32) = blobOf (s.slotKey (sqDie a) (ins.ef 22 18)) (s.sealNext (sqDie a)) (s.ldn (comAddr (sqDie a) (s.adR a ins.b).toNat) (s.sR a ins.a).toNat) ∧
        (s.flag (cd (sqDie a)) (R.SLOT_ATTR_KIND.at (ins.ef 22 18)) = false → t.rd (cd (sqDie a)) (R.SLOT_ATTR_USES.at (ins.ef 22 18)) = s.rd (cd (sqDie a)) (R.SLOT_ATTR_USES.at (ins.ef 22 18)) - 1) ∧
        s.wentOn t a ins) ∧
    (∀ (pt : List Byte) (a : Fin 16) (ins : Ins) (s : State),
      ins.x = false →
      csemOk a ins = true →
      ins.b < 16 →
      ins.c < 16 →
      ins.ef 17 0 = 0 →
      ins.a ≠ 0 →
      s.issues a ins [ins.a.val, 32 + ins.b.val, 32 + ins.c.val] →
      s.isActive (sqDie a) = true →
      s.slotFault (sqDie a) (ins.ef 22 18) 1 = none →
      (s.sR a ins.a).toNat ≤ 65536 →
      secOk (sqDie a) (s.adR a ins.b).toNat ((s.sR a ins.a).toNat + 32) (s.adR a ins.c).toNat (s.sR a ins.a).toNat = true →
      (s.adR a ins.b).toNat / 2 ^ 32 = 0 ∧ (s.adR a ins.b).toNat + ((s.sR a ins.a).toNat + 32) ≤ 2 ^ 24 →
      (s.adR a ins.c).toNat / 2 ^ 32 = 0 ∧ (s.adR a ins.c).toNat + (s.sR a ins.a).toNat ≤ 2 ^ 24 →
      s.comErr = [] →
      (s.ldn (comAddr (sqDie a) (s.adR a ins.b).toNat) 16).take 4 = [0, 0, 0, 0] →
      (fromBytes ((s.ldn (comAddr (sqDie a) (s.adR a ins.b).toNat) 16).drop 12)) % 4 = 0 ∧ (fromBytes ((s.ldn (comAddr (sqDie a) (s.adR a ins.b).toNat) 16).drop 12)) ≤ (s.sR a ins.a).toNat →
      unsealBlob (s.slotKey (sqDie a) (ins.ef 22 18)) (s.ldn (comAddr (sqDie a) (s.adR a ins.b).toNat) 16) (s.ldn (comAddr (sqDie a) ((s.adR a ins.b).toNat + 16)) ((fromBytes ((s.ldn (comAddr (sqDie a) (s.adR a ins.b).toNat) 16).drop 12)) + 16)) = some pt →
      pt.length = (fromBytes ((s.ldn (comAddr (sqDie a) (s.adR a ins.b).toNat) 16).drop 12)) →
      ∃ t, exec (.unseal (a.castLE (by decide)) ins) s = .next t ∧
        t.sR a ins.a = 0 ∧
        t.ldn (comAddr (sqDie a) (s.adR a ins.c).toNat) (fromBytes ((s.ldn (comAddr (sqDie a) (s.adR a ins.b).toNat) 16).drop 12)) = pt ∧
        s.wentOn t a ins) ∧
    (∀ (a : Fin 16) (ins : Ins) (s : State),
      ins.x = false →
      csemOk a ins = true →
      ins.b < 16 →
      ins.ef 22 0 = 0 →
      ins.a ≠ 0 →
      s.issues a ins [ins.a.val, 32 + ins.b.val, ins.c.val] →
      s.isActive (sqDie a) = true →
      (s.adR a ins.b).toNat % 4 = 0 →
      (s.sR a ins.c).toNat ≤ 4096 →
      (s.adR a ins.b).toNat / 2 ^ 32 = 0 ∧ (s.adR a ins.b).toNat + (s.sR a ins.c).toNat ≤ 2 ^ 24 →
      s.comErr = [] →
      ((s.recCheck (sqDie a) (s.ldn (comAddr (sqDie a) (s.adR a ins.b).toNat) (s.sR a ins.c).toNat)).1 = 0 → s.slotBusy (sqDie a) (s.recCheck (sqDie a) (s.ldn (comAddr (sqDie a) (s.adR a ins.b).toNat) (s.sR a ins.c).toNat)).2 = false) →
      ∃ t, exec (.kdec (a.castLE (by decide)) ins) s = .next t ∧
        t.sR a ins.a = BitVec.ofNat 32 (s.recCheck (sqDie a) (s.ldn (comAddr (sqDie a) (s.adR a ins.b).toNat) (s.sR a ins.c).toNat)).1 ∧
        ((s.recCheck (sqDie a) (s.ldn (comAddr (sqDie a) (s.adR a ins.b).toNat) (s.sR a ins.c).toNat)).1 = 0 → t.rd (cd (sqDie a)) R.SEC_STAT_ACC_CTR = recCounter (s.ldn (comAddr (sqDie a) (s.adR a ins.b).toNat) (s.sR a ins.c).toNat)) ∧
        ((s.recCheck (sqDie a) (s.ldn (comAddr (sqDie a) (s.adR a ins.b).toNat) (s.sR a ins.c).toNat)).1 ≠ 0 → t.flag (cd (sqDie a)) R.KDEC_LOG_VALID = true ∧ t.flag (cd (sqDie a)) R.SEC_CAUSE_KDEC_FAIL = true) ∧
        s.wentOn t a ins)

/-- TAMPER_N, zeroisation, and LC_CMD. Zeroisation and life cycle (R619 to R623). -/
def Obligations.ZeroisationAndLifeCycle : Prop :=
    (∀ (n : Fin 2) (k : Fin 32) (s : State),
      s.pins.tamperN = false →
      s.pins.vaon = true →
      ∃ t, exec (.tamperNLow) s = .next t ∧
        t.pins.tamperN = true ∧
        t.flag (cd n) R.SEC_STAT_ZEROISING = true ∧
        t.flag (cd n) R.SEC_STAT_TAMPER_IN = true ∧
        t.flag (cd n) R.SEC_CAUSE_TAMPER = true ∧
        t.flag (cd n) (R.SLOT_ATTR_VALID.at k) = false ∧
        t.slotKey n k = []) ∧
    (∀ (n : Fin 2) (s : State),
      ∃ t, exec (.tamperNRelease) s = .next t ∧
        t.pins.tamperN = false ∧
        t.flag (cd n) R.SEC_STAT_TAMPER_IN = false) ∧
    (∀ (n : Fin 2) (k : Nat) (s : State),
      s.flag (cd n) R.SEC_STAT_ZEROISING = true →
      (∀ m : Fin 2, (s.cdx m).lcWait = []) →
      ∃ t, exec (.zeroisationDone) s = .next t ∧
        t.flag (cd n) R.SEC_STAT_ZEROISING = false ∧
        t.rd (cd n) R.SEC_STAT_VGEN = min 32 (s.rd (cd n) R.SEC_STAT_VGEN + 1) ∧
        t.flag (cd n) R.SEC_CAUSE_ZEROISED = true ∧
        (t.vaultRec n k).good = false ∧
        (t.vaultRec n k).key = []) ∧
    (∀ (n : Fin 2) (target : Fin 8) (s : State),
      s.isActive n = true →
      s.flag (cd n) R.SEC_STAT_ZEROISING = false →
      lcStep (s.rd (cd n) R.SEC_STAT_LC) target = true →
      target ≠ 7 →
      (target = 2 → s.flag (cd n) R.SEC_STAT_PUBHASH_SET = true) →
      (target ≠ 5 → s.rd (cd n) R.SEC_STAT_VGEN ≠ 32) →
      ∃ t, exec (.lcTransition n 0x4C43 target) s = .next t ∧
        t.rd (cd n) R.SEC_STAT_LC = target ∧
        t.rd (cd n) R.LC_RES_RESULT = 1 ∧
        t.flag (cd n) R.SEC_CAUSE_LC_CHANGE = true ∧
        t.flag (cd n) R.SEC_STAT_ZEROISING = true) ∧
    (∀ (n : Fin 2) (k : Fin 12) (s : State),
      s.isActive n = true →
      s.flag (cd n) R.SEC_STAT_ZEROISING = false →
      s.rd (cd n) R.SEC_STAT_LC = 1 →
      s.flag (cd n) R.SEC_STAT_PUBHASH_SET = false →
      ∃ t, exec (.lcBlowPubhash n 0x4C43) s = .next t ∧
        t.flag (cd n) R.SEC_STAT_PUBHASH_SET = true ∧
        t.rd (cd n) R.LC_RES_RESULT = 1 ∧
        s.rd (cd n) (R.PUB_HASH_BYTES.at k) < 2 ^ 32 → t.rd (cd n) (R.PUB_HASH_BYTES.at k) = s.rd (cd n) (R.PUB_HASH_BYTES.at k))

/-- Debug opening, MAC and the TRNG. Debug opening, MAC and TRNG (R624 to R626). -/
def Obligations.DebugMacAndTrng : Prop :=
    (∀ (n : Fin 2) (m : Fin 2) (s : State),
      s.isActive n = true →
      s.rd (cd n) R.DBG_CTRL_FAILS < 3 →
      s.slotOk n (s.rd (cd n) R.DBG_CTRL_SLOT) 3 = true →
      ∃ t, exec (.dbgGo n) s = .next t ∧
        (hmac (s.slotKey n (s.rd (cd n) R.DBG_CTRL_SLOT)) (s.dbgChal n) = ((List.range 8).flatMap (fun k => toBytes 4 (s.rd (cd n) (R.DBG_RESP_BYTES.at k)))) → t.dbgOpen m = true ∧ t.rd (cd n) R.DBG_CTRL_RESULT = 1 ∧ t.flag (cd n) R.SEC_CAUSE_DBG_OPEN = true ∧ t.rd (cd n) R.DBG_CTRL_FAILS = s.rd (cd n) R.DBG_CTRL_FAILS) ∧
        (hmac (s.slotKey n (s.rd (cd n) R.DBG_CTRL_SLOT)) (s.dbgChal n) ≠ ((List.range 8).flatMap (fun k => toBytes 4 (s.rd (cd n) (R.DBG_RESP_BYTES.at k)))) → t.rd (cd n) R.DBG_CTRL_RESULT = 2 ∧ t.rd (cd n) R.DBG_CTRL_FAILS = s.rd (cd n) R.DBG_CTRL_FAILS + 1 ∧ t.flag (cd n) R.SEC_CAUSE_DBG_FAIL = true ∧ (t.cdx m).dbgOpened = (s.cdx m).dbgOpened)) ∧
    (∀ (n : Fin 2) (s : State),
      s.flag (cd n) R.MAC_CTRL_BUSY = false →
      s.isActive n = true →
      s.slotFault n (s.rd (cd n) R.MAC_CTRL_SLOT) 2 = none →
      s.rd (cd n) R.MAC_LEN_LEN ≤ 65536 →
      s.rd (cd n) R.MAC_SRC_OFF + s.rd (cd n) R.MAC_LEN_LEN ≤ 2 ^ 24 →
      ∃ t, exec (.macGo n) s = .next t ∧
        t.flag (cd n) R.MAC_CTRL_BUSY = true ∧
        t.rd (cd n) R.MAC_CTRL_STATUS = 0 ∧
        (t.cdx n).mac = some (s.slotKey n (s.rd (cd n) R.MAC_CTRL_SLOT), s.rd (cd n) R.MAC_SRC_OFF, s.rd (cd n) R.MAC_LEN_LEN)) ∧
    (∀ (n : Fin 2) (key : List Byte) (off len : Nat) (s : State),
      (s.cdx n).mac = some (key, off, len) →
      off + len ≤ 2 ^ 24 →
      s.comErr = [] →
      ∃ t, exec (.macDone n) s = .next t ∧
        (∀ k : Fin 8, t.rd (cd n) (R.MAC_OUT_BYTES.at k) = fieldAt (hmac key (s.ldn (comAddr n off) len)) (4 * k) 4) ∧
        t.rd (cd n) R.MAC_CTRL_STATUS = 1 ∧
        t.flag (cd n) R.MAC_CTRL_BUSY = false ∧
        (t.cdx n).mac = none) ∧
    (∀ (n : Fin 2) (us : Fin 65536) (s : State),
      s.rd (cd n) R.TRNG_STAT_STATE = 1 →
      ∃ t, exec (.trngReady n us) s = .next t ∧
        t.rd (cd n) R.TRNG_STAT_STATE = 2 ∧
        t.rd (cd n) R.TRNG_STAT_T_READY = us) ∧
    (∀ (n : Fin 2) (apt : Bool) (s : State),
      s.rd (cd n) R.TRNG_STAT_STATE = 2 →
      ∃ t, exec (.trngHealthFail n apt) s = .next t ∧
        t.rd (cd n) R.TRNG_STAT_STATE = 3 ∧
        t.flag (cd n) R.SEC_CAUSE_TRNG_FAIL = true)

/-- Listening: frames, stages, the capture ring, the pocket stack and the mute. Listening (R569 to R594). -/
def Obligations.ListeningAndCapture : Prop :=
    (∀ (n : Fin 2) (x : AudioIn) (s : State),
      s.pins.vaon = true →
      ∃ t, exec (.audioFrameEnd n x) s = .next t ∧
        t.rd (cd n) R.LS_FRAME_FRAME = (s.rd (cd n) R.LS_FRAME_FRAME + 1) % 2 ^ 32 ∧
        (s.isActive n = false ∨ s.lsMuted n = true → t.mem = s.mem ∧ t.cds = s.cds) ∧
        (s.isActive n = true → s.lsMuted n = false → 0 < (s.aud n).settle → (t.aud n).settle = (s.aud n).settle - 1 ∧ (t.flag (cd n) R.LS_STAT_SETTLE = (s.flag (cd n) R.LS_STAT_SETTLE && (s.aud n).settle != 1))) ∧
        (s.isActive n = true → s.lsMuted n = false → (s.aud n).settle = 0 → x.clipped ≠ 0 → t.flag (cd n) R.LS_CAUSE_CLIP = true)) ∧
    (∀ (n : Fin 2) (s : State),
      s.lsStage n = 1 →
      s.rd (cd n) R.LS_TIME0_KW_HOLD ≤ 10 * (s.aud n).quiet →
      ∃ t, exec (.kwHoldExpiry n) s = .next t ∧
        t.lsStage n = 0 ∧
        (t.aud n).blocks = [] ∧
        (t.aud n).hist = [] ∧
        (t.aud n).feats = []) ∧
    (∀ (n : Fin 2) (history : List (List Nat)) (s : State),
      s.stage0On n = true →
      s.lsStage n < 2 →
      ∃ t, exec (.force2 n history) s = .next t ∧
        t.lsStage n = 2 ∧
        t.flag (cd n) R.LS_STAT_SEG_OPEN = true ∧
        t.rd (cd n) R.LS_STAT_SEG = (s.rd (cd n) R.LS_STAT_SEG + 1) % 65536 ∧
        t.flag (cd n) R.LS_CAUSE_SEG_START = true ∧
        (t.aud n).seg.isSome = true) ∧
    (∀ (n : Fin 2) (x : List Byte) (rest : List (List Byte)) (s : State),
      (s.aud n).blocks = x :: rest →
      s.flag (cd n) R.CAP_CTRL_EN = true →
      (s.cdx n).mainUp = true →
      sub32 (s.rd (cd n) R.CAP_PROD_IDX) (s.rd (cd n) R.CAP_CONS_IDX) < 2 ^ s.rd (cd n) R.CAP_CTRL_SIZE_LOG →
      ∃ t, exec (.captureBlockMove n) s = .next t ∧
        (t.aud n).blocks = rest ∧
        t.rd (cd n) R.CAP_PROD_IDX = (s.rd (cd n) R.CAP_PROD_IDX + 1) % 2 ^ 32 ∧
        (x.length = 1024 → (s.aud n).drop = false → s.comErr = [] → s.rd (cd n) R.CAP_BASE_OFF * 1024 + 1024 * (s.rd (cd n) R.CAP_PROD_IDX % 2 ^ s.rd (cd n) R.CAP_CTRL_SIZE_LOG) + 1024 ≤ 2 ^ 24 → t.ldn (comAddr n (s.rd (cd n) R.CAP_BASE_OFF * 1024 + 1024 * (s.rd (cd n) R.CAP_PROD_IDX % 2 ^ s.rd (cd n) R.CAP_CTRL_SIZE_LOG))) 1024 = x)) ∧
    (∀ (n : Fin 2) (v : Word) (s : State),
      ∃ t, exec (.capConsWrite n v) s = .next t ∧
        t.rd (cd n) R.CAP_CONS_IDX = (if sub32 v.toNat (s.rd (cd n) R.CAP_CONS_IDX) ≤ sub32 (s.rd (cd n) R.CAP_PROD_IDX) (s.rd (cd n) R.CAP_CONS_IDX) then v.toNat else s.rd (cd n) R.CAP_CONS_IDX)) ∧
    (∀ (n leaf : Fin 2) (first : Fin 1024) (count : Fin 2048) (s : State),
      s.flag (cd n) R.POCKET_STAT_BUSY = false →
      s.rd (cd n) R.POCKET_LD_SRC_OFF * 64 + 256 * count.val ≤ 2 ^ 24 →
      first.val + count.val ≤ 1024 →
      s.lsStage n ≠ 1 →
      ∃ t, exec (.pocketLoad n leaf first count) s = .next t ∧
        t.flag (cd n) R.POCKET_STAT_BUSY = true ∧
        t.rd (cd n) R.POCKET_STAT_ERR = 0 ∧
        (t.aud n).load = some (s.rd (cd n) R.POCKET_LD_SRC_OFF * 64, leaf.val, first.val, count.val)) ∧
    (∀ (n : Fin 2) (history : List (List Nat)) (src leaf first count : Nat) (s : State),
      (s.aud n).load = some (src, leaf, first, count) →
      ∃ t, exec (.pocketLoadDone n history) s = .next t ∧
        (t.aud n).load = none ∧
        t.flag (cd n) R.POCKET_STAT_BUSY = false ∧
        t.flag (cd n) R.POCKET_STAT_LOADED = true ∧
        t.flag (cd n) R.POCKET_STAT_BAD = false ∧
        t.flag (cd n) R.LS_STAT_POCKET_OK = true ∧
        (count = 1 → s.comErr = [] → src + 256 ≤ 2 ^ 24 → t.ldn (pkRow n leaf first) 256 = s.ldn (comAddr n src) 256)) ∧
    (∀ (n : Fin 2) (s : State),
      ∃ t, exec (.kwPopRead n) s = .next t ∧
        t.rsp = .ok (s.rd (cd n) R.KW_POP_VALID * 2 ^ 31 + s.rd (cd n) R.KW_POP_CLASS * 2 ^ 24 + s.rd (cd n) R.KW_POP_SCORE * 2 ^ 16 + s.rd (cd n) R.KW_POP_FRAME) ∧
        t.flag (cd n) R.KW_POP_VALID = !(s.aud n).fifo.isEmpty ∧
        (t.aud n).fifo = (s.aud n).fifo.drop 1) ∧
    (∀ (n : Fin 2) (s : State),
      s.pins.muted = false →
      s.pins.vaon = true →
      ∃ t, exec (.muteNLow) s = .next t ∧
        t.pins.muted = true ∧
        t.pins.muteN = true ∧
        t.lsMuted n = true ∧
        t.flag (cd n) R.LS_CAUSE_MUTE_CHANGE = true ∧
        t.lsStage n = 0 ∧
        (t.aud n).seg = none ∧
        (t.aud n).blocks = [] ∧
        ((s.ldx 0).inReset = false → t.flag (ld 0) R.LD_STAT_MUTE = true ∧ t.flag (ld 0) R.LD_STAT_MICPWR_ON = false)) ∧
    (∀ (s : State),
      ∃ t, exec (.muteNRise) s = .next t ∧
        t.pins.muteN = false ∧
        t.pins.muted = s.pins.muted ∧
        ((s.ldx 0).inReset = false → t.flag (ld 0) R.LD_STAT_MUTE = false)) ∧
    (∀ (n : Fin 2) (s : State),
      s.pins.muteN = false →
      s.pins.muted = true →
      s.pins.vaon = true →
      ∃ t, exec (.muteRelease) s = .next t ∧
        t.pins.muted = false ∧
        t.lsMuted n = false ∧
        t.flag (cd n) R.LS_CAUSE_MUTE_CHANGE = true ∧
        t.flag (cd n) R.LS_STAT_SETTLE = true ∧
        (t.aud n).settle = 2) ∧
    (∀ (n : Fin 2) (v : Word) (s : State),
      ∃ t, exec (.pbCtrlWrite n v) s = .next t ∧
        t.rd (cd n) R.PB_CTRL_FMT = bits v.toNat 5 4 ∧
        t.rd (cd n) R.PB_CTRL_RATE = bits v.toNat 3 2 ∧
        t.rd (cd n) R.PB_CTRL_SLOT_MASK = bits v.toNat 23 16 ∧
        (bitOf v.toNat 0 = false → t.flag (cd n) R.PB_CTRL_EN = false ∧ t.flag (cd n) R.PB_CTRL_ERR = false) ∧
        (bitOf v.toNat 0 = true → bits v.toNat 5 4 = 0 → bits v.toNat 3 2 = 2 → bits v.toNat 12 8 = 10 → t.flag (cd n) R.PB_CTRL_EN = true) ∧
        (bitOf v.toNat 0 = true → bits v.toNat 5 4 = 3 → t.flag (cd n) R.PB_CTRL_EN = false ∧ t.flag (cd n) R.PB_CTRL_ERR = true)) ∧
    (∀ (n : Fin 2) (v : Word) (s : State),
      ∃ t, exec (.pbProdWrite n v) s = .next t ∧
        t.rd (cd n) R.PB_PROD_IDX = (if sub32 v.toNat (s.rd (cd n) R.PB_CONS_IDX) ≤ 2 ^ s.rd (cd n) R.PB_CTRL_PB_SIZE_LOG then v.toNat else s.rd (cd n) R.PB_PROD_IDX)) ∧
    (∀ (n : Fin 2) (s : State),
      s.flag (cd n) R.PB_CTRL_EN = true →
      s.isActive n = true →
      (s.cdx n).mainUp = true →
      ∃ t, exec (.pbSampleConsume n) s = .next t ∧
        (s.rd (cd n) R.PB_PROD_IDX = s.rd (cd n) R.PB_CONS_IDX → t.rd (cd n) R.PB_CONS_IDX = s.rd (cd n) R.PB_CONS_IDX ∧ t.flag (cd n) R.LS_CAUSE_PB_UNDERRUN = true) ∧
        (s.rd (cd n) R.PB_PROD_IDX ≠ s.rd (cd n) R.PB_CONS_IDX → t.rd (cd n) R.PB_CONS_IDX = (s.rd (cd n) R.PB_CONS_IDX + 1) % 2 ^ 32))

/-- Takeover, re-admission, shadow runs and the scrubber of a wing. Replacement of positions (R119 to R135),
LEAF_PREC (R99) and the scale history (R151). -/
def Obligations.FailedPositionsAreReplaced : Prop :=
    (∀ (d : Fin 4) (w : Fin 8) (q f : Nat) (s : State),
      s.canReload d w = true →
      s.flag (wg d w) R.FOLIO_CTRL_AUTO_TAKEOVER = true →
      s.posIn d w 1 = some q →
      (s.suspects d w).find? (fun f => !((s.wingx (wix d w)).halted.any (fun h => h.1 == 1 && h.2.2 == f))) = some f →
      ∃ t, exec (.folioTakeoverStart d w) s = .next t ∧
        t.rd (wg d w) R.FOLIO_STAT_OP = 1 ∧
        t.rd (wg d w) R.FOLIO_STAT_TARGET = q ∧
        t.rd (wg d w) R.FOLIO_STAT_FOLIO = f ∧
        t.rd (wg d w) R.FOLIO_STAT_PHASE = 1 ∧
        t.rd (wg d w) R.FOLIO_STAT_ERR = 0 ∧
        t.posState d w q = 2) ∧
    (∀ (d : Fin 4) (w : Fin 8) (hostErr : Bool) (s : State),
      s.folioIdle d w = false →
      s.rd (wg d w) R.FOLIO_STAT_PHASE = 1 →
      (bitOf (s.cdx s.act).wingFb (wix d w) = true ∨ hostErr = false) →
      ((if bitOf (s.cdx s.act).wingFb (wix d w) then s.flashImg (s.cdx s.act).fbCs else s.hostImg s.act (s.rd (cd s.act) R.WIMG_BASE_HI_ADDR * 2 ^ 32 + s.rd (cd s.act) R.WIMG_BASE_LO_ADDR * 64)) 0 260).isSome = true →
      colDigest ((((if bitOf (s.cdx s.act).wingFb (wix d w) then s.flashImg (s.cdx s.act).fbCs else s.hostImg s.act (s.rd (cd s.act) R.WIMG_BASE_HI_ADDR * 2 ^ 32 + s.rd (cd s.act) R.WIMG_BASE_LO_ADDR * 64)) 0 260).getD []).take 256) = (Store.get ([], 0) (s.cdx s.act).img (b2n (bitOf (s.cdx s.act).wingFb (wix d w)))).1 →
      s.slotOk s.act (Store.get ([], 0) (s.cdx s.act).img (b2n (bitOf (s.cdx s.act).wingFb (wix d w)))).2 0 = true →
      ((if bitOf (s.cdx s.act).wingFb (wix d w) then s.flashImg (s.cdx s.act).fbCs else s.hostImg s.act (s.rd (cd s.act) R.WIMG_BASE_HI_ADDR * 2 ^ 32 + s.rd (cd s.act) R.WIMG_BASE_LO_ADDR * 64)) 260 (16 * fieldAt (((if bitOf (s.cdx s.act).wingFb (wix d w) then s.flashImg (s.cdx s.act).fbCs else s.hostImg s.act (s.rd (cd s.act) R.WIMG_BASE_HI_ADDR * 2 ^ 32 + s.rd (cd s.act) R.WIMG_BASE_LO_ADDR * 64)) 0 260).getD []) 256 4)).isSome = true →
      (imgOpenAll (if bitOf (s.cdx s.act).wingFb (wix d w) then s.flashImg (s.cdx s.act).fbCs else s.hostImg s.act (s.rd (cd s.act) R.WIMG_BASE_HI_ADDR * 2 ^ 32 + s.rd (cd s.act) R.WIMG_BASE_LO_ADDR * 64)) (s.slotKey s.act (Store.get ([], 0) (s.cdx s.act).img (b2n (bitOf (s.cdx s.act).wingFb (wix d w)))).2) ((((if bitOf (s.cdx s.act).wingFb (wix d w) then s.flashImg (s.cdx s.act).fbCs else s.hostImg s.act (s.rd (cd s.act) R.WIMG_BASE_HI_ADDR * 2 ^ 32 + s.rd (cd s.act) R.WIMG_BASE_LO_ADDR * 64)) 0 260).getD []).take 256) (fieldAt (((if bitOf (s.cdx s.act).wingFb (wix d w) then s.flashImg (s.cdx s.act).fbCs else s.hostImg s.act (s.rd (cd s.act) R.WIMG_BASE_HI_ADDR * 2 ^ 32 + s.rd (cd s.act) R.WIMG_BASE_LO_ADDR * 64)) 0 260).getD []) 256 4) (needChunk (imgSecs (((if bitOf (s.cdx s.act).wingFb (wix d w) then s.flashImg (s.cdx s.act).fbCs else s.hostImg s.act (s.rd (cd s.act) R.WIMG_BASE_HI_ADDR * 2 ^ 32 + s.rd (cd s.act) R.WIMG_BASE_LO_ADDR * 64)) 260 (16 * fieldAt (((if bitOf (s.cdx s.act).wingFb (wix d w) then s.flashImg (s.cdx s.act).fbCs else s.hostImg s.act (s.rd (cd s.act) R.WIMG_BASE_HI_ADDR * 2 ^ 32 + s.rd (cd s.act) R.WIMG_BASE_LO_ADDR * 64)) 0 260).getD []) 256 4)).getD [])) (wix d w) (s.rd (wg d w) R.FOLIO_STAT_FOLIO)) (imgChunks ((((if bitOf (s.cdx s.act).wingFb (wix d w) then s.flashImg (s.cdx s.act).fbCs else s.hostImg s.act (s.rd (cd s.act) R.WIMG_BASE_HI_ADDR * 2 ^ 32 + s.rd (cd s.act) R.WIMG_BASE_LO_ADDR * 64)) 0 260).getD []).take 256) (fieldAt (((if bitOf (s.cdx s.act).wingFb (wix d w) then s.flashImg (s.cdx s.act).fbCs else s.hostImg s.act (s.rd (cd s.act) R.WIMG_BASE_HI_ADDR * 2 ^ 32 + s.rd (cd s.act) R.WIMG_BASE_LO_ADDR * 64)) 0 260).getD []) 256 4))).1 = 0 →
      ∃ t, exec (.folioReloadDone d w hostErr) s = .next t ∧
        t.rd (wg d w) R.FOLIO_STAT_PHASE = 2 ∧
        t.rd (wg d w) R.FOLIO_STAT_OP = s.rd (wg d w) R.FOLIO_STAT_OP ∧
        t.rd (wg d w) R.FOLIO_STAT_TARGET = (s.rd (wg d w) R.FOLIO_STAT_TARGET)) ∧
    (∀ (d : Fin 4) (w : Fin 8) (upset : List (Nat × Nat)) (s : State),
      s.folioIdle d w = false →
      s.rd (wg d w) R.FOLIO_STAT_PHASE = 2 →
      ∃ t, exec (.rowSweepDone d w upset) s = .next t ∧
        ((∀ r : Fin 8192, ∀ g : Fin 8, (s.upsets d w upset).rowSynd d w ((s.rd (wg d w) R.FOLIO_STAT_TARGET) * 8192 + r) g = 0) → t.rd (wg d w) R.FOLIO_STAT_PHASE = 3) ∧
        ((∃ r : Fin 8192, ∃ g : Fin 8, (s.upsets d w upset).rowSynd d w ((s.rd (wg d w) R.FOLIO_STAT_TARGET) * 8192 + r) g ≠ 0) → t.flag (wg d w) R.WING_CAUSE_TALLY = true ∧ t.flag (wg d w) R.WING_CAUSE_RETIRED = true ∧ t.flag (wg d w) R.TALLY_LOG0_VALID = true)) ∧
    (∀ (d : Fin 4) (w : Fin 8) (s : State),
      s.rd (wg d w) R.FOLIO_STAT_OP = 1 ∨ s.rd (wg d w) R.FOLIO_STAT_OP = 2 →
      s.rd (wg d w) R.FOLIO_STAT_PHASE = 3 →
      s.folioQuiet d w (s.rd (wg d w) R.FOLIO_STAT_FOLIO) = true →
      (s.rd (wg d w) R.FOLIO_STAT_FOLIO) < 14 →
      (s.rd (wg d w) R.FOLIO_STAT_TARGET) < 15 →
      ∃ t, exec (.folioCutover d w) s = .next t ∧
        (s.rd (wg d w) R.FOLIO_STAT_OP = 1 → t.folioPos d w (s.rd (wg d w) R.FOLIO_STAT_FOLIO) = (s.rd (wg d w) R.FOLIO_STAT_TARGET) ∧ t.flag (wg d w) R.WING_CAUSE_TAKEOVER_DONE = true) ∧
        (s.rd (wg d w) R.FOLIO_STAT_OP = 2 → t.posState d w (s.rd (wg d w) R.FOLIO_STAT_TARGET) = 3 ∧ t.rd (wg d w) R.FOLIO_STAT_PHASE = 4 ∧ t.rd (wg d w) R.SHADOW_CNT_COUNT = 0 ∧ t.folioPos d w (s.rd (wg d w) R.FOLIO_STAT_FOLIO) = s.folioPos d w (s.rd (wg d w) R.FOLIO_STAT_FOLIO))) ∧
    (∀ (d : Fin 4) (w : Fin 8) (q : Nat) (s : State),
      s.canReload d w = true →
      s.flag (wg d w) R.FOLIO_CTRL_RETRY = false →
      s.posIn d w 5 = some q →
      ∃ t, exec (.folioReadmit d w) s = .next t ∧
        t.rd (wg d w) R.FOLIO_STAT_OP = 2 ∧
        t.rd (wg d w) R.FOLIO_STAT_TARGET = q ∧
        t.rd (wg d w) R.FOLIO_STAT_PHASE = 1 ∧
        t.posState d w q = 2 ∧
        t.flag (wg d w) R.FOLIO_CTRL_READMIT = false) ∧
    (∀ (d : Fin 4) (w : Fin 8) (op q f : Nat) (s : State),
      s.canReload d w = true →
      (s.wingx (wix d w)).halted = some (op, q, f) →
      op = 1 ∨ op = 2 →
      q < 15 →
      f < 14 →
      ∃ t, exec (.folioRetry d w) s = .next t ∧
        t.rd (wg d w) R.FOLIO_STAT_OP = op ∧
        t.rd (wg d w) R.FOLIO_STAT_TARGET = q ∧
        t.rd (wg d w) R.FOLIO_STAT_FOLIO = f ∧
        t.rd (wg d w) R.FOLIO_STAT_PHASE = 1 ∧
        t.rd (wg d w) R.FOLIO_STAT_ERR = 0 ∧
        t.posState d w q = 2 ∧
        t.flag (wg d w) R.FOLIO_CTRL_RETRY = false) ∧
    (∀ (d : Fin 4) (w : Fin 8) (s : State),
      s.rd (wg d w) R.FOLIO_STAT_OP = 2 →
      s.rd (wg d w) R.FOLIO_STAT_PHASE = 4 →
      s.folioQuiet d w (s.rd (wg d w) R.FOLIO_STAT_FOLIO) = true →
      s.rd (wg d w) R.SHADOW_CNT_COUNT = 1024 →
      s.posState d w (s.folioPos d w (s.rd (wg d w) R.FOLIO_STAT_FOLIO)) ≠ 4 →
      (s.rd (wg d w) R.FOLIO_STAT_FOLIO) < 14 →
      ∃ t, exec (.shadowSwitch d w) s = .next t ∧
        t.folioPos d w (s.rd (wg d w) R.FOLIO_STAT_FOLIO) = (s.rd (wg d w) R.FOLIO_STAT_TARGET) ∧
        t.flag (wg d w) R.WING_CAUSE_READMIT_DONE = true ∧
        t.rd (wg d w) R.FMAP_HI_SPARE = s.folioPos d w (s.rd (wg d w) R.FOLIO_STAT_FOLIO)) ∧
    (∀ (d : Fin 4) (s : State),
      s.rd (sd d) R.SCRUB_PERIOD_SECONDS ≠ 0 →
      s.rd (sd d) R.SCRUB_WHERE_POS < 15 →
      s.scrubs d (15 * s.rd (sd d) R.SCRUB_WHERE_WING + s.rd (sd d) R.SCRUB_WHERE_POS) = true →
      (1024 * s.rd (sd d) R.SCRUB_WHERE_LEAF + s.rd (sd d) R.SCRUB_WHERE_ROW) < 8191 →
      s.rowFlips (rowKey d (s.rd (sd d) R.SCRUB_WHERE_WING) (s.rd (sd d) R.SCRUB_WHERE_POS * 8192 + (1024 * s.rd (sd d) R.SCRUB_WHERE_LEAF + s.rd (sd d) R.SCRUB_WHERE_ROW))) = [] →
      ∃ t, exec (.scrubRead d []) s = .next t ∧
        1024 * t.rd (sd d) R.SCRUB_WHERE_LEAF + t.rd (sd d) R.SCRUB_WHERE_ROW = (1024 * s.rd (sd d) R.SCRUB_WHERE_LEAF + s.rd (sd d) R.SCRUB_WHERE_ROW) + 1 ∧
        t.rd (sd d) R.SCRUB_WHERE_POS = s.rd (sd d) R.SCRUB_WHERE_POS ∧
        t.mem = s.mem) ∧
    (∀ (d : Fin 4) (w : Fin 8) (f : Fin 14) (v : Word) (l : Fin 8) (s : State),
      ∃ t, exec (.leafPrecWrite d w f v) s = .next t ∧
        bits (t.rd (wg d w) (R.LEAF_PREC_L.at f)) (2 * l + 1) (2 * l) = (if bits v.toNat (2 * l + 1) (2 * l) = 3 then bits (s.rd (wg d w) (R.LEAF_PREC_L.at f)) (2 * l + 1) (2 * l) else bits v.toNat (2 * l + 1) (2 * l))) ∧
    (∀ (d : Fin 4) (w : Fin 8) (tag : Fin 256) (s : State),
      ∃ t, exec (.shistClearAll d w) s = .next t ∧
        t.flag (wg d w) (R.SHIST_VALID.at tag) = false ∧
        t.rd (wg d w) (R.SHIST_SHIFT.at tag) = 0) ∧
    (∀ (d : Fin 4) (w : Fin 8) (tag : Fin 256) (shift : Fin 16) (s : State),
      ∃ t, exec (.shistSet d w tag shift) s = .next t ∧
        t.flag (wg d w) (R.SHIST_VALID.at tag) = true ∧
        t.rd (wg d w) (R.SHIST_SHIFT.at tag) = shift) ∧
    (∀ (d : Fin 4) (w : Fin 8) (tag : Fin 256) (s : State),
      ∃ t, exec (.shistClear d w tag) s = .next t ∧
        t.flag (wg d w) (R.SHIST_VALID.at tag) = false ∧
        t.rd (wg d w) (R.SHIST_SHIFT.at tag) = 0)

/-- Stack links: lanes, training, packets, replay, tokens and routes. Stack links (R216 to R232). -/
def Obligations.LinksTrainAndCarryPackets : Prop :=
    (∀ (l : Fin 13) (lane : Nat) (s : State),
      s.linkUp l = true →
      lane < 16 →
      ∃ t, exec (.laneFail l lane) s = .next t ∧
        ((∀ k ∈ linkEnds l, s.flag (fSpare k).1 (fSpare k).2 = false) → ∀ k ∈ linkEnds l, t.flag (fSpare k).1 (fSpare k).2 = true ∧ t.rd (fLane k).1 (fLane k).2 = lane ∧ t.rd (fTrain k).1 (fTrain k).2 = 2) ∧
        ((∃ k ∈ linkEnds l, s.flag (fSpare k).1 (fSpare k).2 = true) → (∀ k ∈ linkEnds l, t.flag (fUp k).1 (fUp k).2 = false))) ∧
    (∀ (l : Fin 13) (ok : Bool) (s : State),
      ∃ k ∈ linkEnds l, s.rd (fTrain k).1 (fTrain k).2 = 2 →
      ∃ t, exec (.shortTrainingDone l ok) s = .next t ∧
        (ok = true → (∀ k ∈ linkEnds l, t.flag (fUp k).1 (fUp k).2 = true ∧ t.rd (fTrain k).1 (fTrain k).2 = 0) ∧ (∀ n : Fin 2, bitOf (t.rd (cd n) (linkUpFld l).1) (linkUpFld l).2 = true)) ∧
        (ok = false → (∀ k ∈ linkEnds l, (s.port k).replayTrain = false) → ∀ k ∈ linkEnds l, t.rd (fTrain k).1 (fTrain k).2 = 1) ∧
        (ok = false → (∃ k ∈ linkEnds l, (s.port k).replayTrain = true) → (∀ k ∈ linkEnds l, t.flag (fUp k).1 (fUp k).2 = false))) ∧
    (∀ (l : Fin 13) (ok : Bool) (s : State),
      ∃ k ∈ linkEnds l, s.rd (fTrain k).1 (fTrain k).2 = 1 →
      ∃ t, exec (.linkFullTrainingDone l ok) s = .next t ∧
        (ok = true → (∀ k ∈ linkEnds l, t.flag (fUp k).1 (fUp k).2 = true ∧ t.rd (fTrain k).1 (fTrain k).2 = 0) ∧ (∀ n : Fin 2, bitOf (t.rd (cd n) (linkUpFld l).1) (linkUpFld l).2 = true)) ∧
        (ok = false → (∀ k ∈ linkEnds l, t.flag (fUp k).1 (fUp k).2 = false))) ∧
    (∀ (k : Fin 26) (h0 h1 h2 h3 : Nat) (payload : List Byte) (crc : Nat) (s : State),
      s.portSends k = true →
      crc32 (packetBytes [h0, h1, h2, h3] payload) = crc →
      bits h1 31 20 = (s.port k).exp →
      vcOf (bits h0 31 24) = some (bits h0 23 22) →
      bits h1 15 12 = portNode k →
      bits h0 31 24 ≠ 0x02 ∧ bits h0 31 24 ≠ 0x04 ∧ bits h0 31 24 ≠ 0x20 →
      ∃ t, exec (.packetReceive k [h0, h1, h2, h3] payload crc) s = .next t ∧
        (t.port k).exp = ((s.port k).exp + 1) % 4096 ∧
        (t.port k).ackDue = true ∧
        t.inbox = s.inbox ++ [⟨bits h0 31 24, bits h1 15 12, bits h1 11 8, bits h1 7 4, bits h1 3 0, h2, h3, payload.take (bits h0 12 0), 0⟩] ∧
        (t.port k).q = (s.port k).q ∧ (t.port k).unacked = (s.port k).unacked) ∧
    (∀ (k : Fin 26) (seq : Nat) (s : State),
      (s.port k).unacked.any (fun x => x.1 == seq) = true →
      (s.port k).q = [] →
      ∃ t, exec (.ackReceive k seq true) s = .next t ∧
        (t.port k).unacked = ((s.port k).unacked.dropWhile (fun x => x.1 != seq)).drop 1 ∧
        (t.port k).used = (s.port k).used) ∧
    (∀ (k : Fin 26) (seq : Nat) (m : Msg) (c : Nat) (rest : List (Nat × Msg × Nat)) (s : State),
      (s.port k).unacked = (seq, m, c) :: rest →
      c < 8 →
      c ≠ 4 ∨ (s.port k).replayed = true →
      ∃ t, exec (.nakReceive k seq true) s = .next t ∧
        (t.port k).unacked = (seq, m, c + 1) :: rest.map (fun x => (x.1, x.2.1, x.2.2 + 1)) ∧
        t.rd (fReplay k).1 (fReplay k).2 = min 65535 (s.rd (fReplay k).1 (fReplay k).2 + (rest.length + 1))) ∧
    (∀ (k : Fin 26) (seq : Nat) (m : Msg) (c : Nat) (rest : List (Nat × Msg × Nat)) (s : State),
      (s.port k).unacked = (seq, m, c) :: rest →
      s.portSends k = true →
      c < 8 →
      c ≠ 4 ∨ (s.port k).replayed = true →
      ∃ t, exec (.replayTimeout k) s = .next t ∧
        (t.port k).unacked = (seq, m, c + 1) :: rest.map (fun x => (x.1, x.2.1, x.2.2 + 1)) ∧
        t.rd (fReplay k).1 (fReplay k).2 = min 65535 (s.rd (fReplay k).1 (fReplay k).2 + (rest.length + 1))) ∧
    (∀ (k : Fin 26) (vc : Fin 4) (count : Nat) (s : State),
      (s.port k).q = [] →
      ∃ t, exec (.tokenReceive k vc count true) s = .next t ∧
        Store.get 0 (t.port k).used vc = Store.get 0 (s.port k).used vc - count ∧
        (t.port k).unacked = (s.port k).unacked) ∧
    (∀ (k : Fin 26) (s : State),
      s.portSends k = true →
      ∃ t, exec (.retrainReceive k true) s = .next t ∧
        (∀ j ∈ linkEnds (portLink k), t.rd (fTrain j).1 (fTrain j).2 = 2)) ∧
    (∀ (k : Fin 26) (s : State),
      (s.port k).ackDue = true →
      ∃ t, exec (.ackSendTimer k) s = .next t ∧
        (t.port k).ackDue = false ∧
        (t.port k).last = some (.ack (((s.port k).exp + 4095) % 4096))) ∧
    (∀ (d : Fin 4) (m : Msg) (rest : List Msg) (s : State),
      s.inbox = m :: rest →
      m.ty = 0x21 →
      m.dn = sdNode d →
      ∃ t, exec (.routeReceive d) s = .next t ∧
        t.rd (sd d) R.ROUTE_SD = bits m.m0 7 0 ∧
        (s.rd (sd d) R.ROUTE_SD ≠ bits m.m0 7 0 → t.flag (sd d) R.LNK_CAUSE_ROUTE_CHG = true)) ∧
    (∀ (d : Fin 4) (temp droop : Nat) (s : State),
      (s.sdx d).up = true →
      temp < 65536 →
      ∃ t, exec (.telemSend d temp droop) s = .next t ∧
        t.rd (sd d) R.TELEM_LAST0_TEMP = temp ∧
        t.rd (sd d) R.TELEM_LAST1_DROOP = min droop 65535 ∧
        t.rd (sd d) R.TELEM_LAST1_LEVEL = s.rd (sd d) R.LEVEL_IN_FORCE ∧
        (t.sdx d).telemNo = (s.sdx d).telemNo + 1 ∧
        (∀ n : Fin 2, t.carries ⟨0x20, cdNode n, 0, sdNode d, 8, (s.sdx d).telemNo % 2 ^ 32, 0, toBytes 4 temp ++ toBytes 4 (min droop 65535 * 65536 + s.rd (sd d) R.LEVEL_IN_FORCE) ++ toBytes 8 0, 0⟩ = true))

/-- Flash commands, the weight-image load and the fallback model. Flash (R76), the weight image (R84 to R87) and the
fallback model (R88). -/
def Obligations.FlashAndImageLoads : Prop :=
    (∀ (n cs : Fin 2) (len : Fin 512) (s : State),
      s.flag (cd n) R.FL_CMD_BUSY = false →
      s.isActive n = true →
      s.flashUp n cs = true →
      len.val ≤ 256 →
      ∃ t, exec (.flRead n cs len) s = .next t ∧
        t.flag (cd n) R.FL_CMD_BUSY = true ∧
        t.rd (cd n) R.FL_CMD_ERR = 0 ∧
        (t.cdx n).flop = some (1, cs.val, (s.rd (cd n) R.FL_ADDR_ADDR), len.val) ∧
        t.mem = s.mem) ∧
    (∀ (n cs : Fin 2) (len : Fin 512) (s : State),
      s.flag (cd n) R.FL_CMD_BUSY = false →
      s.isActive n = true →
      s.flashUp n cs = true →
      len.val ≤ 256 →
      s.flProtected n cs (s.rd (cd n) R.FL_ADDR_ADDR) len = false →
      ∃ t, exec (.flProgram n cs len) s = .next t ∧
        t.flag (cd n) R.FL_CMD_BUSY = true ∧
        t.rd (cd n) R.FL_CMD_ERR = 0 ∧
        (t.cdx n).flop = some (2, cs.val, (s.rd (cd n) R.FL_ADDR_ADDR), len.val) ∧
        t.mem = s.mem) ∧
    (∀ (n cs : Fin 2) (len : Fin 512) (s : State),
      s.flag (cd n) R.FL_CMD_BUSY = false →
      s.isActive n = true →
      s.flashUp n cs = true →
      s.flProtected n cs ((s.rd (cd n) R.FL_ADDR_ADDR) - (s.rd (cd n) R.FL_ADDR_ADDR) % 0x1000) 0x1000 = false →
      ∃ t, exec (.flEraseSector n cs len) s = .next t ∧
        t.flag (cd n) R.FL_CMD_BUSY = true ∧
        t.rd (cd n) R.FL_CMD_ERR = 0 ∧
        (t.cdx n).flop = some (3, cs.val, (s.rd (cd n) R.FL_ADDR_ADDR) - (s.rd (cd n) R.FL_ADDR_ADDR) % 0x1000, 0x1000) ∧
        t.mem = s.mem) ∧
    (∀ (n cs : Fin 2) (len : Fin 512) (s : State),
      s.flag (cd n) R.FL_CMD_BUSY = false →
      s.isActive n = true →
      s.flashUp n cs = true →
      s.flProtected n cs ((s.rd (cd n) R.FL_ADDR_ADDR) - (s.rd (cd n) R.FL_ADDR_ADDR) % 0x10000) 0x10000 = false →
      ∃ t, exec (.flEraseBlock n cs len) s = .next t ∧
        t.flag (cd n) R.FL_CMD_BUSY = true ∧
        t.rd (cd n) R.FL_CMD_ERR = 0 ∧
        (t.cdx n).flop = some (4, cs.val, (s.rd (cd n) R.FL_ADDR_ADDR) - (s.rd (cd n) R.FL_ADDR_ADDR) % 0x10000, 0x10000) ∧
        t.mem = s.mem) ∧
    (∀ (n : Fin 2) (op cs a len : Nat) (s : State),
      (s.cdx n).flop = some (op, cs, a, len) →
      len ≤ 256 ∨ 2 < op →
      1 ≤ op →
      ∃ t, exec (.flashOpDone n true) s = .next t ∧
        t.flag (cd n) R.FL_CMD_BUSY = false ∧
        (t.cdx n).flop = none ∧
        (op = 1 → t.flBuf n len = s.flGet cs a len ∧ t.mem = s.mem) ∧
        (op = 2 → t.flGet cs a len = ((s.flGet cs a len).zip (s.flBuf n len)).map (fun p => p.1 &&& p.2)) ∧
        (2 < op → ∀ i, i < len → t.flGet cs (a + i) 1 = [0xFF])) ∧
    (∀ (n : Fin 2) (hostErr : Bool) (s : State),
      s.isActive n = true →
      s.rd (cd n) R.PWR_STATE_CUR ≠ 3 →
      (s.cdx n).hostUp = true ∨ s.rd (cd n) R.PWR_STATE_CUR = 4 →
      (s.cdx n).wload = none →
      (s.cdx n).fb = false →
      s.rd (cd n) R.WIMG_STAT_STATE ≠ 1 →
      ∃ t, exec (.wimgStart n hostErr) s = .next t ∧
        (s.stacksReady n = false → t.rd (cd n) R.WIMG_STAT_STATE = 1 ∧ t.flag (cd n) R.WIMG_CTRL_START = true ∧ t.rd (cd n) R.WIMG_STAT_ERR = 0) ∧
        (s.stacksReady n = true → hostErr = true → t.rd (cd n) R.WIMG_STAT_STATE = 4 ∧ t.rd (cd n) R.WIMG_STAT_ERR = 6 ∧ t.flag (cd n) R.SYS_CAUSE_WIMG_END = true) ∧
        (t.cdx n).hostWait = false) ∧
    (∀ (n : Fin 2) (s : State),
      s.rd (cd n) R.WIMG_STAT_STATE = 1 →
      s.stacksReady n = true →
      ∃ t, exec (.wimgLoadBegin n false) s = .next t ∧
        (((s.wr (cd n) R.WIMG_DONE_BYTES 0).imgCheck n 4 (s.rd (cd n) R.WIMG_LEN_LEN) ((s.wr (cd n) R.WIMG_DONE_BYTES 0).hostImg n (s.rd (cd n) R.WIMG_BASE_HI_ADDR * 2 ^ 32 + s.rd (cd n) R.WIMG_BASE_LO_ADDR * 64))).1 ≠ 0 → t.rd (cd n) R.WIMG_STAT_STATE = 4 ∧ t.rd (cd n) R.WIMG_STAT_ERR = ((s.wr (cd n) R.WIMG_DONE_BYTES 0).imgCheck n 4 (s.rd (cd n) R.WIMG_LEN_LEN) ((s.wr (cd n) R.WIMG_DONE_BYTES 0).hostImg n (s.rd (cd n) R.WIMG_BASE_HI_ADDR * 2 ^ 32 + s.rd (cd n) R.WIMG_BASE_LO_ADDR * 64))).1 ∧ t.flag (cd n) R.SYS_CAUSE_WIMG_END = true) ∧
        (((s.wr (cd n) R.WIMG_DONE_BYTES 0).imgCheck n 4 (s.rd (cd n) R.WIMG_LEN_LEN) ((s.wr (cd n) R.WIMG_DONE_BYTES 0).hostImg n (s.rd (cd n) R.WIMG_BASE_HI_ADDR * 2 ^ 32 + s.rd (cd n) R.WIMG_BASE_LO_ADDR * 64))).1 = 0 → (s.wr (cd n) R.WIMG_DONE_BYTES 0).secsAbsent n ((s.wr (cd n) R.WIMG_DONE_BYTES 0).imgCheck n 4 (s.rd (cd n) R.WIMG_LEN_LEN) ((s.wr (cd n) R.WIMG_DONE_BYTES 0).hostImg n (s.rd (cd n) R.WIMG_BASE_HI_ADDR * 2 ^ 32 + s.rd (cd n) R.WIMG_BASE_LO_ADDR * 64))).2.2 = false → t.rd (cd n) R.WIMG_STAT_STATE = 2 ∧ t.rd (cd n) R.WIMG_STAT_KEY_SLOT = colSlot ((s.wr (cd n) R.WIMG_DONE_BYTES 0).imgCheck n 4 (s.rd (cd n) R.WIMG_LEN_LEN) ((s.wr (cd n) R.WIMG_DONE_BYTES 0).hostImg n (s.rd (cd n) R.WIMG_BASE_HI_ADDR * 2 ^ 32 + s.rd (cd n) R.WIMG_BASE_LO_ADDR * 64))).2.1 ∧ (t.cdx n).wload.isSome = true)) ∧
    (∀ (n : Fin 2) (l : WLoad) (hostErr : Bool) (s : State),
      (s.cdx n).wload = some l →
      l.chunk < imgChunks l.col l.secs.length →
      ∃ t, exec (.wimgChunkDone n hostErr) s = .next t ∧
        (hostErr = true → t.rd (cd n) R.WIMG_STAT_STATE = 4 ∧ t.rd (cd n) R.WIMG_STAT_ERR = 6 ∧ t.flag (cd n) R.SYS_CAUSE_WIMG_END = true ∧ (t.cdx n).wload = none) ∧
        (hostErr = false → (s.hostImg n l.base (chunkAt l.col l.secs.length l.chunk).1 (chunkAt l.col l.secs.length l.chunk).2).isSome = true → s.slotKey n l.slot ≠ [] → (chunkOpen (s.slotKey n l.slot) l.col ((s.hostImg n l.base (chunkAt l.col l.secs.length l.chunk).1 (chunkAt l.col l.secs.length l.chunk).2).getD []) l.chunk) = none → t.rd (cd n) R.WIMG_STAT_STATE = 4 ∧ t.rd (cd n) R.WIMG_STAT_ERR = 3 ∧ t.flag (cd n) R.SYS_CAUSE_WIMG_END = true) ∧
        (hostErr = false → (s.hostImg n l.base (chunkAt l.col l.secs.length l.chunk).1 (chunkAt l.col l.secs.length l.chunk).2).isSome = true → s.slotKey n l.slot ≠ [] → (chunkOpen (s.slotKey n l.slot) l.col ((s.hostImg n l.base (chunkAt l.col l.secs.length l.chunk).1 (chunkAt l.col l.secs.length l.chunk).2).getD []) l.chunk).isSome = true → t.rd (cd n) R.WIMG_DONE_BYTES = ((chunkAt l.col l.secs.length l.chunk).1 + (chunkAt l.col l.secs.length l.chunk).2) % 2 ^ 32 ∧ (t.cdx n).wload = some { l with body := l.body ++ (s.hostImg n l.base (chunkAt l.col l.secs.length l.chunk).1 (chunkAt l.col l.secs.length l.chunk).2).getD [], chunk := l.chunk + 1 })) ∧
    (∀ (n : Fin 2) (l : WLoad) (s : State),
      (s.cdx n).wload = some l →
      imgChunks l.col l.secs.length ≤ l.chunk →
      ∃ t, exec (.wimgLoadEnd n) s = .next t ∧
        (digestOk l.col l.body = true → t.rd (cd n) R.WIMG_STAT_STATE = 3 ∧ t.rd (cd n) R.WIMG_STAT_ERR = 0 ∧ t.flag (cd n) R.SYS_CAUSE_WIMG_END = true ∧ t.rd (cd n) R.PWR_STATE_CUR = 4) ∧
        (digestOk l.col l.body = false → t.rd (cd n) R.WIMG_STAT_STATE = 4 ∧ t.rd (cd n) R.WIMG_STAT_ERR = 4 ∧ t.flag (cd n) R.SYS_CAUSE_WIMG_END = true) ∧
        (t.cdx n).wload = none) ∧
    (∀ (n : Fin 2) (d : Fin 4) (w : Fin 8) (s : State),
      s.isActive n = true →
      ∃ t, exec (.wimgAbort n) s = .next t ∧
        ((s.cdx n).wload.isSome = true → t.rd (cd n) R.WIMG_STAT_STATE = 4 ∧ t.rd (cd n) R.WIMG_STAT_ERR = 8 ∧ t.flag (cd n) R.SYS_CAUSE_WIMG_END = true ∧ (t.cdx n).wload = none) ∧
        (s.rd (wg d w) R.FOLIO_STAT_PHASE = 1 → s.rd (wg d w) R.FOLIO_STAT_OP ≠ 0 → t.flag (wg d w) R.WING_CAUSE_RELOAD_FAIL = true)) ∧
    (∀ (n : Fin 2) (s : State),
      s.isActive n = true →
      (s.cdx n).locked = true →
      s.rd (cd n) R.PWR_STATE_CUR ≠ 3 →
      (s.cdx n).wload = none →
      (s.cdx n).fb = false →
      s.rd (cd n) R.WIMG_STAT_STATE ≠ 1 →
      ∃ t, exec (.fallbackRequest n) s = .next t ∧
        (t.cdx n).fb = true ∧
        t.flag (cd n) R.BOOT_CTRL_FALLBACK = true ∧
        (t.cdx n).hostWait = false) ∧
    (∀ (n : Fin 2) (s : State),
      (s.cdx n).hostWait = true →
      s.isActive n = true →
      (s.cdx n).locked = true →
      s.rd (cd n) R.PWR_STATE_CUR ≠ 3 →
      (s.cdx n).wload = none →
      (s.cdx n).fb = false →
      s.rd (cd n) R.WIMG_STAT_STATE ≠ 1 →
      ∃ t, exec (.hostWaitExpiry n) s = .next t ∧
        (t.cdx n).fb = true ∧
        t.flag (cd n) R.BOOT_CTRL_FALLBACK = true ∧
        (t.cdx n).hostWait = false) ∧
    (∀ (n : Fin 2) (s : State),
      (s.cdx n).fb = true →
      s.stacksReady n = true →
      ∃ t, exec (.fallbackLoadDone n) s = .next t ∧
        t.flag (cd n) R.BOOT_CTRL_FALLBACK = false ∧
        (t.cdx n).fb = false ∧
        t.flag (cd n) R.SYS_CAUSE_WIMG_END = true ∧
        t.rd (cd n) R.WIMG_STAT_STATE = 3 ∧ t.rd (cd n) R.PWR_STATE_CUR = 4 ∨ t.rd (cd n) R.WIMG_STAT_STATE = 4 ∧
        (((s.wr (cd n) R.BOOT_CTRL_FALLBACK 0).imgCheck n 3 (min (colLength ((s.wr (cd n) R.BOOT_CTRL_FALLBACK 0).flGet (if ((s.wr (cd n) R.BOOT_CTRL_FALLBACK 0).flObject n 0 0x1000000 3 0x4000000).isNone && (s.wr (cd n) R.BOOT_CTRL_FALLBACK 0).flashUp n 1 then 1 else 0) 0x1000000 256) + 256) 0x4000000) ((s.wr (cd n) R.BOOT_CTRL_FALLBACK 0).flashImg (if ((s.wr (cd n) R.BOOT_CTRL_FALLBACK 0).flObject n 0 0x1000000 3 0x4000000).isNone && (s.wr (cd n) R.BOOT_CTRL_FALLBACK 0).flashUp n 1 then 1 else 0))).1 ≠ 0 → t.rd (cd n) R.WIMG_STAT_STATE = 4 ∧ t.rd (cd n) R.WIMG_STAT_ERR = ((s.wr (cd n) R.BOOT_CTRL_FALLBACK 0).imgCheck n 3 (min (colLength ((s.wr (cd n) R.BOOT_CTRL_FALLBACK 0).flGet (if ((s.wr (cd n) R.BOOT_CTRL_FALLBACK 0).flObject n 0 0x1000000 3 0x4000000).isNone && (s.wr (cd n) R.BOOT_CTRL_FALLBACK 0).flashUp n 1 then 1 else 0) 0x1000000 256) + 256) 0x4000000) ((s.wr (cd n) R.BOOT_CTRL_FALLBACK 0).flashImg (if ((s.wr (cd n) R.BOOT_CTRL_FALLBACK 0).flObject n 0 0x1000000 3 0x4000000).isNone && (s.wr (cd n) R.BOOT_CTRL_FALLBACK 0).flashUp n 1 then 1 else 0))).1 ∧ t.flag (cd n) R.SYS_CAUSE_WIMG_END = true))

/-- Power-up: battery, boot domain, shelf list, the claim, PCIe, rails and the sweep. Steps 1 to 13 of a power-up
(R64). -/
def Obligations.BootFromTheBattery : Prop :=
    (∀ (n : Fin 2) (testmode lpclk : Bool) (d : Fin 2) (s : State),
      s.pins.vbat = false →
      s.pins.tamperN = false →
      ∃ t, exec (.vbatRise testmode lpclk) s = .next t ∧
        t.pins.vbat = true ∧
        t.pins.vaon = true ∧
        (t.ldx d).inReset = false ∧
        t.flag (cd n) R.PAD_STAT_TESTMODE = testmode ∧
        t.flag (cd n) R.PAD_STAT_LPCLK = lpclk ∧
        t.flag (cd n) R.PWR_STATE_IN_TRANS = true ∧
        (testmode = false → (t.cdx n).bootUp = true)) ∧
    (∀ (n : Fin 2) (d : Fin 2) (k : Fin 4) (s : State),
      ∃ t, exec (.vaonLoss) s = .next t ∧
        t.pins.vbat = false ∧
        t.pins.vaon = false ∧
        (t.ldx d).inReset = true ∧
        (t.cdx n).bootUp = false ∧
        (t.cdx n).mainUp = false ∧
        (t.sdx k).up = false) ∧
    (∀ (n : Fin 2) (flash0 flash1 : Bool) (s : State),
      (s.cdx n).bootUp = true →
      (s.cdx n).bootClk = false →
      (s.cdx n).factory = false →
      ∃ t, exec (.bootDomainClocked n flash0 flash1) s = .next t ∧
        (t.cdx n).bootClk = true ∧
        (t.cdx n).flash0 = flash0 ∧
        t.flag (cd n) R.BOOT_STAT_FLASH1_PRESENT = flash1 ∧
        t.rd (cd n) R.BOOT_STAT_PHASE = 1 ∧
        t.rd (cd n) R.TRNG_STAT_STATE = 1 ∧
        t.rd (cd n) R.SEC_BOOTNO_BOOTNO = (s.rd (cd n) R.SEC_BOOTNO_BOOTNO + 1) % 2 ^ 32) ∧
    (∀ (n : Fin 2) (s : State),
      (s.cdx n).bootClk = true →
      s.phase n = 1 →
      s.claimed = false →
      ∃ t, exec (.shelfListAdopt n) s = .next t ∧
        t.phase n = 2 ∧
        t.flag (cd n) R.BOOT_STAT_SL_A_BAD = (s.shelfCopy n (0, 0)).isNone) ∧
    (∀ (n : Fin 2) (s : State),
      s.mayClaim n = true →
      n = 0 ∨ bitOf (s.cdx 1).shelf.retire 0 = true ∨ (s.cdx 0).sleepSeized = true →
      ∃ t, exec (.activeClaim n) s = .next t ∧
        t.isActive n = true ∧
        t.isActive (1 - n.val) = false ∧
        t.rd (cd n) R.PAIR_STAT_EPOCH = 1 ∧
        (t.cdx n).mainUp = true ∧
        t.phase n = 3) ∧
    (∀ (s : State),
      s.mayClaim 1 = true →
      ∃ t, exec (.cd1ClaimTimeout) s = .next t ∧
        t.isActive 1 = true ∧
        t.isActive 0 = false ∧
        t.rd (cd 1) R.PAIR_STAT_EPOCH = 1 ∧
        (t.cdx 1).mainUp = true ∧
        t.phase 1 = 3) ∧
    (∀ (n : Fin 2) (s : State),
      ∃ t, exec (.perstNRise) s = .next t ∧
        t.pins.perstN = false ∧
        (t.cdx n).hostTrain = ((s.cdx n).mainUp && (s.cdx n).locked)) ∧
    (∀ (n : Fin 2) (s : State),
      ∃ t, exec (.perstNLow) s = .next t ∧
        t.pins.perstN = true ∧
        (t.cdx n).hostTrain = false ∧
        (t.cdx n).hostUp = false) ∧
    (∀ (n : Fin 2) (s : State),
      (s.cdx n).hostTrain = true →
      (s.cdx n).hostUp = false →
      s.pins.perstN = false →
      ∃ t, exec (.pcieLinkUp n) s = .next t ∧
        (t.cdx n).hostUp = true ∧
        (s.isActive n = true → s.rd (cd n) R.PWR_STATE_CUR < 3 → (t.cdx n).hostWait = ((s.cdx n).shelf.hostWait != 0) ∧ ((s.cdx n).locked = true → s.phase n = 4 → t.phase n = 5))) ∧
    (∀ (n : Fin 2) (modes : List (Option Nat)) (s : State),
      s.isActive n = true →
      (s.cdx n).locked = true →
      (s.cdx n).stackOn = false →
      (s.cdx n).mainUp = true →
      s.rd (cd n) R.PWR_STATE_CUR < 3 →
      ∃ t, exec (.stackPowerStart n modes) s = .next t ∧
        (s.rd (cd n) R.PWR_STATE_CUR = 0 ∧ ((s.cdx n).shelf.target = 1 ∨ (s.cdx n).shelf.target = 2) → t.rd (cd n) R.PWR_STATE_CUR = (s.cdx n).shelf.target) ∧
        (s.rd (cd n) R.PWR_STATE_CUR ≠ 0 ∨ (s.cdx n).shelf.target = 4 → (t.cdx n).stackOn = true)) ∧
    (∀ (n : Fin 2) (k : Fin 16) (d w : Nat) (words : List (Option Nat)) (s : State),
      s.isActive n = true →
      s.railState n k = 2 →
      s.railDie n k = some d →
      words.getD k none = some w →
      (∀ j : Fin 16, (words.getD j none).isSome = true) →
      w < 65536 →
      bitOf w 11 = false ∧ bitOf w 6 = false →
      ∃ t, exec (.pmbusStatusPoll n words) s = .next t ∧
        t.railState n k = 3 ∧
        t.rd (cd n) (R.PMB_STAT_STATUS.at k) = w) ∧
    (∀ (n : Fin 2) (k : Fin 16) (d : Fin 4) (s : State),
      s.isActive n = true →
      s.railState n k = 2 →
      s.railDie n k = some d.val →
      ∃ t, exec (.railFailTimeout n k) s = .next t ∧
        t.railState n k = 4 ∧
        t.rd (cd n) R.BOOT_STAT_ERR = 4 ∧
        (∀ m : Fin 2, t.rd (cd m) (diesFld (2 + d)) = 1)) ∧
    (∀ (d : Fin 4) (n : Fin 2) (s : State),
      (s.sdx d).up = true →
      bitOf (s.rd (cd s.act) R.CLEAR_STAT_RROOM) d = false →
      ∃ t, exec (.readingRoomSweepDone d) s = .next t ∧
        bitOf (t.rd (cd n) R.CLEAR_STAT_RROOM) d = true ∧
        (t.cdx s.act).claimsOut = (s.cdx s.act).claimsOut ++ [d.val])

/-- PWR_REQ, wake events, rails that are lost, thermal shutdown, and the low-power clock. Power states (R58 to R63),
rails (R702), temperature (R721) and clocks (R719). -/
def Obligations.PowerStatesAndWakes : Prop :=
    (∀ (n m : Fin 2) (s : State),
      (s.cdx n).mainUp = true →
      s.isActive n = true →
      s.flag (cd n) R.PWR_STATE_IN_TRANS = false →
      s.busy n = false →
      s.rd (cd n) R.PWR_STATE_CUR ≠ 3 →
      ∃ t, exec (.pwrReqDoze n) s = .next t ∧
        t.rd (cd m) R.PWR_STATE_CUR = 3 ∧
        t.rd (cd m) R.PWR_STATE_PREV = s.rd (cd m) R.PWR_STATE_CUR ∧
        t.rd (cd n) R.PWR_REQ_STATUS = 2 ∧
        t.flag (cd n) R.SYS_CAUSE_PWR_DONE = true ∧
        (∀ d : Fin 4, (t.sdx d).up = false) ∧
        t.rd (cd n) R.LG_LEVEL_LEVEL = 0) ∧
    (∀ (n m : Fin 2) (s : State),
      (s.cdx n).mainUp = true →
      s.isActive n = true →
      s.flag (cd n) R.PWR_STATE_IN_TRANS = false →
      s.busy n = false →
      s.rd (cd n) R.PWR_STATE_CUR ≠ 1 →
      ∃ t, exec (.pwrReqStandby n) s = .next t ∧
        t.rd (cd m) R.PWR_STATE_CUR = 1 ∧
        t.rd (cd m) R.PWR_STATE_PREV = s.rd (cd m) R.PWR_STATE_CUR ∧
        (t.cdx m).mainUp = false ∧
        t.flag (cd m) R.PWR_STATE_IN_TRANS = false ∧
        (t.cdx n).wakeEn = s.wakeBits n) ∧
    (∀ (n m : Fin 2) (s : State),
      (s.cdx n).mainUp = true →
      s.isActive n = true →
      s.flag (cd n) R.PWR_STATE_IN_TRANS = false →
      s.busy n = false →
      s.rd (cd n) R.PWR_STATE_CUR ≠ 2 →
      ∃ t, exec (.pwrReqListen n) s = .next t ∧
        t.rd (cd m) R.PWR_STATE_CUR = 2 ∧
        t.rd (cd m) R.PWR_STATE_PREV = s.rd (cd m) R.PWR_STATE_CUR ∧
        (t.cdx m).mainUp = false ∧
        t.flag (cd m) R.PWR_STATE_IN_TRANS = false ∧
        (t.cdx n).wakeEn = s.wakeBits n) ∧
    (∀ (n m : Fin 2) (s : State),
      (s.cdx n).mainUp = true →
      s.isActive n = true →
      s.flag (cd n) R.PWR_STATE_IN_TRANS = false →
      s.rd (cd n) R.PWR_STATE_CUR = 3 →
      ∃ t, exec (.pwrReqServe n) s = .next t ∧
        t.rd (cd m) R.PWR_STATE_LAST_WAKE = 5 ∧
        t.rd (cd m) R.CLEAR_STAT_COMMONS = 1 ∧
        (t.rd (cd n) R.PWR_STATE_CUR = 3 → t.flag (cd m) R.PWR_STATE_IN_TRANS = true ∧ t.rd (cd n) R.PWR_REQ_STATUS = 1) ∧
        (t.rd (cd n) R.PWR_STATE_CUR ≠ 3 → t.rd (cd m) R.PWR_STATE_CUR = 4 ∧ t.rd (cd n) R.PWR_REQ_STATUS = 2)) ∧
    (∀ (n : Fin 2) (s : State),
      s.pins.vaon = true →
      s.flag (cd s.act) R.PWR_STATE_IN_TRANS = false →
      s.rd (cd s.act) R.PWR_STATE_CUR = 1 ∨ s.rd (cd s.act) R.PWR_STATE_CUR = 2 ∨ s.rd (cd s.act) R.PWR_STATE_CUR = 3 →
      (if s.rd (cd s.act) R.PWR_STATE_CUR = 3 then bitOf (s.wakeBits s.act) 0 = true else bitOf (s.cdx s.act).wakeEn 0 = true) →
      ∃ t, exec (.wakeNLow) s = .next t ∧
        t.rd (cd n) R.PWR_STATE_LAST_WAKE = 1 ∧
        (s.rd (cd s.act) R.PWR_STATE_CUR ≠ 3 → t.flag (cd n) R.PWR_STATE_IN_TRANS = true) ∧
        (s.rd (cd s.act) R.PWR_STATE_CUR = 3 → s.pins.tamperN = false → t.rd (cd n) (R.CLEAR_STAT_COMMONS) = 1)) ∧
    (∀ (n : Fin 2) (s : State),
      s.pins.vaon = true →
      s.flag (cd s.act) R.PWR_STATE_IN_TRANS = false →
      s.rd (cd s.act) R.PWR_STATE_CUR = 1 ∨ s.rd (cd s.act) R.PWR_STATE_CUR = 2 ∨ s.rd (cd s.act) R.PWR_STATE_CUR = 3 →
      (if s.rd (cd s.act) R.PWR_STATE_CUR = 3 then s.rd (cd s.act) R.ALARM_TICKS ≠ 0 else (s.cdx s.act).alarm ≠ 0) →
      ∃ t, exec (.alarmExpiry) s = .next t ∧
        (¬(s.rd (cd s.act) R.PWR_STATE_CUR = 1 ∧ bitOf (s.cdx s.act).wakeEn 4 = true) → (if s.rd (cd s.act) R.PWR_STATE_CUR = 3 then bitOf (s.wakeBits s.act) 1 = true else bitOf (s.cdx s.act).wakeEn 1 = true) → t.rd (cd n) R.PWR_STATE_LAST_WAKE = 2) ∧
        (s.rd (cd s.act) R.PWR_STATE_CUR = 1 ∧ bitOf (s.cdx s.act).wakeEn 4 = true → t.rd (cd n) R.PWR_STATE_CUR = 2) ∧
        (s.rd (cd s.act) R.PWR_STATE_CUR ≠ 3 → (t.cdx n).alarm = 0)) ∧
    (∀ (d : Fin 2) (n : Fin 2) (s : State),
      (s.ldx d).inReset = false →
      s.pins.vaon = true →
      s.flag (cd s.act) R.PWR_STATE_IN_TRANS = false →
      s.rd (cd s.act) R.PWR_STATE_CUR = 1 ∨ s.rd (cd s.act) R.PWR_STATE_CUR = 2 ∨ s.rd (cd s.act) R.PWR_STATE_CUR = 3 →
      (if s.rd (cd s.act) R.PWR_STATE_CUR = 3 then bitOf (s.wakeBits s.act) 3 = true else bitOf (s.cdx s.act).wakeEn 3 = true) →
      ∃ t, exec (.loadDieWakeEvent d) s = .next t ∧
        t.rd (cd n) R.PWR_STATE_LAST_WAKE = 4 ∧
        (s.rd (cd s.act) R.PWR_STATE_CUR ≠ 3 → t.flag (cd n) R.PWR_STATE_IN_TRANS = true) ∧
        (s.rd (cd s.act) R.PWR_STATE_CUR = 3 → s.pins.tamperN = false → t.rd (cd n) (R.CLEAR_STAT_COMMONS) = 1)) ∧
    (∀ (n : Fin 2) (words : List (Option Nat)) (k : Fin 16) (d : Fin 4) (w : Nat) (s : State),
      s.isActive n = true →
      s.act = n.val →
      (s.cdx n).mainUp = true →
      3 ≤ s.rd (cd n) R.PWR_STATE_CUR →
      s.flag (cd n) R.PWR_STATE_IN_TRANS = false →
      (∀ j : Fin 16, s.railState n j ≠ 2) →
      s.railState n k = 3 →
      s.railDie n k = some d.val →
      words.getD k none = some w →
      bitOf w 11 = true ∨ bitOf w 6 = true →
      ∃ t, exec (.pmbAlertScan n words) s = .next t ∧
        (t.sdx d).up = false ∧
        (∀ m : Fin 2, t.rd (cd m) (diesFld (2 + d)) = 1) ∧
        t.railState n k ≠ 3) ∧
    (∀ (k : Fin 6) (s : State),
      (if k.val < 2 then (s.cdx k).mainUp = true else (s.sdx (k.val - 2)).up = true) →
      ∃ t, exec (.thermalShutdown k) s = .next t ∧
        (k.val < 2 → (t.cdx k).mainUp = false ∧ (t.cdx k).hot = true ∧ t.rd (cd k) R.CD_TEMP_TSD_CNT = min 255 (s.rd (cd k) R.CD_TEMP_TSD_CNT + 1)) ∧
        (2 ≤ k.val → (t.sdx (k.val - 2)).up = false ∧ ∀ m : Fin 2, t.rd (cd m) (diesFld k) = 1)) ∧
    (∀ (n : Fin 2) (s : State),
      (s.cdx n).hot = true →
      ∃ t, exec (.thermalCooled n) s = .next t ∧
        (t.cdx n).hot = false) ∧
    (∀ (n : Fin 2) (s : State),
      s.pins.vaon = true →
      ∃ t, exec (.lpclkLoss n) s = .next t ∧
        t.flag (cd n) R.PAD_STAT_LPCLK = false ∧
        (∀ m : Fin 2, t.flag (cd m) (clkLp n) = false)) ∧
    (∀ (n : Fin 2) (s : State),
      s.pins.vaon = true →
      ∃ t, exec (.lpclkReturn n) s = .next t ∧
        t.flag (cd n) R.PAD_STAT_LPCLK = true ∧
        (∀ m : Fin 2, t.flag (cd m) (clkLp n) = true))

/-- The control pair: heartbeats, triggers, seizure and takeover. The control pair (R428 to R438). -/
def Obligations.PairHeartbeatsAndSeizure : Prop :=
    (∀ (n : Fin 2) (line cross : Bool) (s : State),
      s.pins.vaon = true →
      (s.cdx n).mainUp = true →
      (s.cdx (1 - n.val)).bootUp = true →
      ∃ t, exec (.pairHeartbeatSend n line cross) s = .next t ∧
        (line = true → t.flag (cd (1 - n.val)) R.PAIR_STAT_PAIRLINE = true) ∧
        (cross = true → s.linkUp 12 = true → t.flag (cd (1 - n.val)) R.PAIR_STAT_XLINK = true) ∧
        (line = false → cross = false → t.cds = s.cds ∧ t.mem = s.mem)) ∧
    (∀ (n : Fin 2) (s : State),
      s.pins.vaon = true →
      (s.cdx n).mainUp = true →
      2 ≤ s.partner n →
      ∃ t, exec (.pairHeartbeatLoss n) s = .next t ∧
        t.flag (cd n) R.PAIR_STAT_XLINK = false ∧
        t.flag (cd n) R.PAIR_STAT_PAIRLINE = false ∧
        (((s.cdx n).mainUp = true) ∧ ((s.cdx n).locked = true) ∧ ((s.cdx n).seizing = false) ∧ ((s.cdx n).tko = false) ∧ (s.isStandby n = true ∧ s.epoch n ≠ 65535 ∨ s.isStandby n = false ∧ s.isActive n = true ∧ s.partner n = 2) → (t.cdx n).seizing = true ∧ t.rd (cd n) R.PAIR_STAT_LAST_CAUSE = 1 ∧ t.flag (cd n) R.PAIR_CAUSE_SEIZED_PARTNER = true ∧ t.rd (cd n) R.PAIR_STAT_SEIZED = min 3 (s.rd (cd n) R.PAIR_STAT_SEIZED + 1))) ∧
    (∀ (n : Fin 2) (cross : Bool) (s : State),
      s.pins.vaon = true →
      (s.cdx n).mainUp = true →
      s.flag (cd n) R.PAIR_STAT_XLINK = true →
      s.flag (cd n) R.PAIR_STAT_PAIRLINE = true →
      ∃ t, exec (.heartbeatPathSilence n cross) s = .next t ∧
        (cross = true → t.flag (cd n) R.PAIR_STAT_XLINK = false ∧ t.flag (cd n) R.PAIR_CAUSE_XLINK_DOWN = true ∧ t.flag (cd n) R.PAIR_STAT_PAIRLINE = true) ∧
        (cross = false → t.flag (cd n) R.PAIR_STAT_PAIRLINE = false ∧ t.flag (cd n) R.PAIR_CAUSE_PAIRLINE_FAULT = true ∧ t.flag (cd n) R.PAIR_STAT_XLINK = true)) ∧
    (∀ (n : Fin 2) (s : State),
      (s.cdx (1 - n.val)).wdtOut = true →
      (s.cdx n).mainUp = true →
      (s.cdx n).locked = true →
      (s.cdx n).seizing = false →
      (s.cdx n).tko = false →
      s.isStandby n = true ∧ s.epoch n ≠ 65535 ∨ s.isStandby n = false ∧ s.isActive n = true ∧ s.partner n = 2 →
      ∃ t, exec (.wdtInPulse n) s = .next t ∧
        (t.cdx n).seizing = true ∧
        t.rd (cd n) R.PAIR_STAT_LAST_CAUSE = 2 ∧
        t.flag (cd n) R.PAIR_CAUSE_SEIZED_PARTNER = true ∧
        t.rd (cd n) R.PAIR_STAT_SEIZED = min 3 (s.rd (cd n) R.PAIR_STAT_SEIZED + 1)) ∧
    (∀ (n : Fin 2) (s : State),
      (s.cdx (1 - n.val)).bootUp = true →
      (s.cdx (1 - n.val)).mainUp = false →
      (s.cdx (1 - n.val)).held = false →
      (s.cdx n).mainUp = true →
      (s.cdx n).locked = true →
      (s.cdx n).seizing = false →
      (s.cdx n).tko = false →
      s.isStandby n = true ∧ s.epoch n ≠ 65535 ∨ s.isStandby n = false ∧ s.isActive n = true ∧ s.partner n = 2 →
      ∃ t, exec (.peerResetSignal n) s = .next t ∧
        (t.cdx n).seizing = true ∧
        t.rd (cd n) R.PAIR_STAT_LAST_CAUSE = 3 ∧
        t.flag (cd n) R.PAIR_CAUSE_SEIZED_PARTNER = true ∧
        t.rd (cd n) R.PAIR_STAT_SEIZED = min 3 (s.rd (cd n) R.PAIR_STAT_SEIZED + 1)) ∧
    (∀ (n : Fin 2) (s : State),
      (s.cdx (1 - n.val)).seizing = true →
      s.asleep n = false →
      s.isActive n = false ∨ (s.cdx n).seizing = false →
      ∃ t, exec (.seizeReceive n) s = .next t ∧
        (t.cdx n).held = true ∧
        (t.cdx n).mainUp = false) ∧
    (∀ (n : Fin 2) (s : State),
      (s.cdx n).seizing = true →
      (if s.asleep n then (s.cdx (1 - n.val)).sleepSeized = true else (s.cdx (1 - n.val)).held = true) →
      ∃ t, exec (.seizeConfirmReceive n) s = .next t ∧
        (t.cdx n).seizing = false ∧
        (s.asleep n = true → (t.cdx n).sleepUnconf = false) ∧
        (s.asleep n = false → t.flag (cd n) R.PAIR_STAT_SEIZE_UNCONF = false ∧ (s.isActive n = false → s.epoch n ≠ 65535 → t.isActive n = true ∧ t.isActive (1 - n.val) = false ∧ t.epoch n = s.epoch n + 1 ∧ (t.cdx n).tko = true))) ∧
    (∀ (n : Fin 2) (s : State),
      (s.cdx n).seizing = true →
      ∃ t, exec (.seizeConfirmTimeout n) s = .next t ∧
        (t.cdx n).seizing = false ∧
        (s.asleep n = true → (t.cdx n).sleepUnconf = true) ∧
        (s.asleep n = false → t.flag (cd n) R.PAIR_STAT_SEIZE_UNCONF = true ∧ (s.isActive n = false → s.epoch n ≠ 65535 → t.isActive n = true ∧ t.isActive (1 - n.val) = false ∧ t.epoch n = s.epoch n + 1 ∧ (t.cdx n).tko = true))) ∧
    (∀ (n : Fin 2) (s : State),
      (s.cdx n).tko = true →
      ∃ t, exec (.takeoverComplete n) s = .next t ∧
        (t.cdx n).tko = false ∧
        t.flag (cd n) R.PAIR_CAUSE_TAKEOVER = true ∧
        t.rd (cd n) R.PAIR_CNT_TAKEOVERS = min 255 (s.rd (cd n) R.PAIR_CNT_TAKEOVERS + 1)) ∧
    (∀ (n : Fin 2) (s : State),
      s.isActive n = true →
      s.partner n = 2 →
      (s.cdx n).seizing = false →
      ∃ t, exec (.pairSeize n) s = .next t ∧
        (t.cdx n).seizing = true ∧
        t.flag (cd n) R.PAIR_CAUSE_SEIZED_PARTNER = true ∧
        t.rd (cd n) R.PAIR_STAT_SEIZED = min 3 (s.rd (cd n) R.PAIR_STAT_SEIZED + 1))

/-- The control pair: handover, restart, rejoin, and sleeping partners. Handover, restart and rejoin (R439 to R449). -/
def Obligations.PairHandsOverAndRejoins : Prop :=
    (∀ (n : Fin 2) (s : State),
      s.isActive n = true →
      s.partner n = 2 →
      (s.cdx n).seizing = false →
      s.epoch n < 65535 →
      ∃ t, exec (.pairHandover n) s = .next t ∧
        (t.cdx n).handover = true ∧
        t.isActive n = true) ∧
    (∀ (n : Fin 2) (s : State),
      (s.cdx n).mainUp = true →
      (s.cdx n).locked = true →
      s.isActive n = false →
      (s.cdx n).seizing = false →
      s.epoch n ≠ 65535 →
      (s.cdx (1 - n.val)).handover = true ∨ (s.cdx (1 - n.val)).yieldOut = true →
      ∃ t, exec (.yieldReceive n) s = .next t ∧
        t.isActive n = true ∧ t.isActive (1 - n.val) = false ∧ t.epoch n = s.epoch n + 1 ∧ (t.cdx n).tko = true ∧
        t.rd (cd n) R.PAIR_STAT_LAST_CAUSE = 4 ∧
        ((s.cdx (1 - n.val)).handover = true → (t.cdx (1 - n.val)).mainUp = false) ∧
        ((s.cdx (1 - n.val)).handover = false → (t.cdx (1 - n.val)).yielded = true)) ∧
    (∀ (n : Fin 2) (s : State),
      s.phase n = 14 →
      s.isActive n = true →
      (s.cdx (1 - n.val)).locked = true →
      ∃ t, exec (.bootfailYield n) s = .next t ∧
        (t.cdx n).yieldOut = true) ∧
    (∀ (n : Fin 2) (s : State),
      (s.cdx n).held = true →
      s.isActive (1 - n.val) = true →
      (s.cdx (1 - n.val)).tko = false →
      ∃ t, exec (.seizeReleaseTimer n) s = .next t ∧
        (t.cdx n).held = false) ∧
    (∀ (n : Fin 2) (s : State),
      (s.cdx n).bootUp = true →
      (s.cdx n).bootClk = true →
      (s.cdx n).mainUp = false →
      3 ≤ s.phase n →
      (s.cdx n).held = false →
      (s.cdx n).hot = false →
      (s.cdx (1 - n.val)).seizing = false →
      s.rd (cd (1 - n.val)) R.PAIR_STAT_SEIZED ≠ 3 →
      ∃ t, exec (.dieRestart n) s = .next t ∧
        (t.cdx n).mainUp = true ∧
        (t.cdx n).restarted = true ∧
        t.phase n = 3) ∧
    (∀ (n : Fin 2) (s : State),
      s.isActive n = true →
      (s.cdx (1 - n.val)).joinOut = true →
      ∃ t, exec (.rejoinReceive n) s = .next t ∧
        (t.cdx (1 - n.val)).joinOut = false ∧
        (s.flag (cd n) R.PAIR_CTRL_REJOIN_AUTO = true ∧ (s.cdx n).tko = false → (t.cdx n).copying = true ∧ (t.cdx n).rejoin = false) ∧
        (s.flag (cd n) R.PAIR_CTRL_REJOIN_AUTO = false ∨ (s.cdx n).tko = true → (t.cdx n).rejoin = true)) ∧
    (∀ (n : Fin 2) (s : State),
      s.isActive n = true →
      (s.cdx n).rejoin = true →
      (s.cdx n).tko = false →
      ∃ t, exec (.pairRejoin n) s = .next t ∧
        (t.cdx n).copying = true ∧
        (t.cdx n).rejoin = false) ∧
    (∀ (n : Fin 2) (s : State),
      (s.cdx n).copying = true →
      s.isActive n = true →
      s.linkUp 12 = true →
      (s.cdx (1 - n.val)).mainUp = true →
      ∃ t, exec (.fullCopyDone n) s = .next t ∧
        (t.cdx n).copying = false ∧
        (∀ m : Fin 2, t.flag (cd m) R.MIRROR_STAT_VALID = true) ∧
        t.partner n = 2 ∧
        t.partner (1 - n.val) = 3 ∧
        t.epoch (1 - n.val) = s.epoch n ∧
        (s.partner n ≠ 2 → t.flag (cd n) R.PAIR_CAUSE_REJOINED = true)) ∧
    (∀ (n : Fin 2) (s : State),
      s.asleep n = true →
      (s.cdx n).sleepSeized = false →
      ∃ t, exec (.sleepHeartbeatSend n) s = .next t ∧
        t.flag (cd (1 - n.val)) R.PAIR_STAT_PAIRLINE = true ∧
        (t.cdx (1 - n.val)).missing = false) ∧
    (∀ (n : Fin 2) (s : State),
      s.asleep n = true →
      (s.cdx n).sleepSeized = false →
      ∃ t, exec (.sleepBeatMiss n) s = .next t ∧
        (t.cdx n).missing = true ∧
        t.flag (cd n) R.PAIR_CAUSE_SLEEP_DRIFT = true ∧
        t.rd (cd n) R.PAIR_CNT_HB_MISS = min 255 (s.rd (cd n) R.PAIR_CNT_HB_MISS + 1)) ∧
    (∀ (n : Fin 2) (s : State),
      s.asleep n = true →
      (s.cdx n).missing = true →
      (s.cdx n).sleepSeized = false →
      s.isActive n = true ∨ s.epoch n ≠ 65535 →
      ∃ t, exec (.sleepPartnerLost n) s = .next t ∧
        (t.cdx n).seizing = true ∧
        (t.cdx n).missing = false ∧
        t.rd (cd n) R.PAIR_STAT_LAST_CAUSE = 5 ∧
        t.isActive n = true ∧
        t.epoch n = (if s.isActive n then s.epoch n else s.epoch n + 1) ∧
        t.rd (cd n) R.PAIR_STAT_SEIZED = min 3 (s.rd (cd n) R.PAIR_STAT_SEIZED + 1)) ∧
    (∀ (n : Fin 2) (s : State),
      s.asleep n = true →
      (s.cdx (1 - n.val)).seizing = true →
      ∃ t, exec (.sleepSeizeReceive n) s = .next t ∧
        (t.cdx n).sleepSeized = true ∧
        t.lsStage n = 0 ∧
        (t.aud n).seg = none)

/-- The end of boot, host firmware, and the watchdog. Firmware (R77 to R80) and the watchdog (R455 to R461). -/
def Obligations.FirmwareStartsAndTheWatchdog : Prop :=
    (∀ (n : Fin 2) (s : State),
      (s.cdx n).mainUp = true →
      s.phase n = 3 →
      (s.cdx n).locked = false →
      ∃ t, exec (.firmwareLoadDone n) s = .next t ∧
        ((fwOrder ((fun (o : Option (List Byte × List Byte)) (k : Nat) => match o with | some x => if (s.cdx n).shelf.fwMin ≤ colVersion x.1 then some (k, x) else none | none => none) (s.fwCopy n (0, 0x100000)) 1) ((fun (o : Option (List Byte × List Byte)) (k : Nat) => match o with | some x => if (s.cdx n).shelf.fwMin ≤ colVersion x.1 then some (k, x) else none | none => none) (s.fwCopy n (s.copyB n 0x100000 0x300000)) 2)).find? (fun x => fwGood x.2) = none → t.phase n = 14 ∧ (t.rd (cd n) R.BOOT_STAT_ERR = 2 ∨ t.rd (cd n) R.BOOT_STAT_ERR = 3)) ∧
        ((fwOrder ((fun (o : Option (List Byte × List Byte)) (k : Nat) => match o with | some x => if (s.cdx n).shelf.fwMin ≤ colVersion x.1 then some (k, x) else none | none => none) (s.fwCopy n (0, 0x100000)) 1) ((fun (o : Option (List Byte × List Byte)) (k : Nat) => match o with | some x => if (s.cdx n).shelf.fwMin ≤ colVersion x.1 then some (k, x) else none | none => none) (s.fwCopy n (s.copyB n 0x100000 0x300000)) 2)).find? (fun x => fwGood x.2) ≠ none → (t.cdx n).locked = true ∧ some (t.rd (cd n) R.FW_VER_VERSION) = ((fwOrder ((fun (o : Option (List Byte × List Byte)) (k : Nat) => match o with | some x => if (s.cdx n).shelf.fwMin ≤ colVersion x.1 then some (k, x) else none | none => none) (s.fwCopy n (0, 0x100000)) 1) ((fun (o : Option (List Byte × List Byte)) (k : Nat) => match o with | some x => if (s.cdx n).shelf.fwMin ≤ colVersion x.1 then some (k, x) else none | none => none) (s.fwCopy n (s.copyB n 0x100000 0x300000)) 2)).find? (fun x => fwGood x.2)).map (fun x => colVersion x.2.1))) ∧
    (∀ (n : Fin 2) (s : State),
      (s.cdx n).mainUp = true →
      s.phase n = 14 →
      ∃ t, exec (.hostfwVerify n) s = .next t ∧
        t.flag (cd n) R.BOOT_CTRL_HOSTFW = false ∧
        ((s.hostFw n).2 = none → t.rd (cd n) R.BOOT_STAT_ERR = 5 ∧ t.phase n = 14) ∧
        ((s.hostFw n).2 ≠ none → (t.cdx n).locked = true ∧ t.rd (cd n) R.BOOT_STAT_FW_SEL = 3)) ∧
    (∀ (a : Fin 16) (v : Word) (s : State),
      s.wdtRuns (a.val / 8) = true →
      ∃ t, exec (.wdtKick a v) s = .next t ∧
        (v = 0x57A7 → t.rd (cd (a.val / 8)) R.WDT_STAT_LEFT = s.rd (cd (a.val / 8)) R.WDT_CFG_TIMEOUT * 1000 ∧ (t.cdx (a.val / 8)).kicked = true) ∧
        (v ≠ 0x57A7 → t.rd (cd (a.val / 8)) R.WDT_CNT_BADKICK = min 65535 (s.rd (cd (a.val / 8)) R.WDT_CNT_BADKICK + 1) ∧ t.flag (cd (a.val / 8)) R.WDT_STAT_EXPIRED = true ∧ t.flag (cd (a.val / 8)) R.WDT_STAT_RUNNING = false)) ∧
    (∀ (n : Fin 2) (s : State),
      s.flag (cd n) R.WDT_STAT_RUNNING = true →
      s.flag (cd n) R.WDT_STAT_TRAPPING = false →
      s.flag (cd n) R.WDT_CFG_MODE = false →
      s.flag (cd n) R.WDT_STAT_FROZEN = false →
      ∃ t, exec (.wdtExpiryHandover n) s = .next t ∧
        t.flag (cd n) R.WDT_STAT_EXPIRED = true ∧
        t.rd (cd n) R.WDT_CNT_EXPIRIES = min 65535 (s.rd (cd n) R.WDT_CNT_EXPIRIES + 1) ∧
        t.rd (cd n) R.WDT_STAT_LEFT = 0 ∧
        t.flag (cd n) R.WDT_STAT_RUNNING = false ∧
        (t.cdx n).wdtOut = true) ∧
    (∀ (n : Fin 2) (s : State),
      s.flag (cd n) R.WDT_STAT_RUNNING = true →
      s.flag (cd n) R.WDT_STAT_TRAPPING = false →
      s.flag (cd n) R.WDT_CFG_MODE = true →
      s.flag (cd n) R.WDT_STAT_FROZEN = false →
      ∃ t, exec (.wdtExpiryTrap n) s = .next t ∧
        t.flag (cd n) R.WDT_STAT_EXPIRED = true ∧
        t.rd (cd n) R.WDT_CNT_EXPIRIES = min 65535 (s.rd (cd n) R.WDT_CNT_EXPIRIES + 1) ∧
        t.rd (cd n) R.WDT_STAT_LEFT = 0 ∧
        t.flag (cd n) R.WDT_STAT_RUNNING = false ∧
        t.flag (cd n) R.TRAP_SAVE_VALID = true ∧
        t.rd (cd n) R.TRAP_SAVE_PC = s.pc (sqix n 0) % 2 ^ 13 ∧
        t.flag (cd n) R.WDT_STAT_TRAPPING = true ∧
        t.pc (sqix n 0) = (s.cdx n).nmiEntry) ∧
    (∀ (n : Fin 2) (s : State),
      (s.cdx n).wdtOut = true →
      ∃ t, exec (.wdtPulseEnd n) s = .next t ∧
        (t.cdx n).wdtOut = false ∧
        (s.partner n < 2 → (t.cdx n).mainUp = false) ∧
        (2 ≤ s.partner n → (t.cdx n).mainUp = (s.cdx n).mainUp)) ∧
    (∀ (n : Fin 2) (s : State),
      s.flag (cd n) R.WDT_STAT_TRAPPING = true →
      ∃ t, exec (.wdtHardTimerEnd n) s = .next t ∧
        (t.cdx n).mainUp = false ∧
        t.flag (cd n) R.WDT_STAT_TRAPPING = false)

/-- A step runs the command at the front of the queue; with an empty queue the block idles (the model's choice, log
entry 1). One step. The empty queue is DESIGN CHOICE, notes/assumptions/1.md. -/
def Obligations.StepRunsTheFrontCommand : Prop :=
    (∀ (c : Instr) (q : List Instr) (s : State), step { s with pending := c :: q } = exec c { s with pending := q }) ∧
    (∀ s : State, s.pending = [] → step s = .next s)

/-- The state after reset: queue empty, memories clear and canonical, outputs settled, registers at the values the
spec gives. Reset (register tables of chapters 4, 7 and 12; R60: OFF). -/
def Obligations.ResetState : Prop :=
    State.reset.pending = [] ∧ State.reset.mem = [] ∧ Memory.wf State.reset.mem = true ∧ State.reset.settled ∧
    State.reset.pins.vaon = false ∧
    (∀ (d : Fin 4) (w : Fin 8), State.reset.rd (wg d w) R.FMAP_LO_POS = 0x76543210 ∧ State.reset.rd (wg d w) R.FMAP_HI_POS = 0xDCBA98 ∧
      State.reset.rd (wg d w) R.FMAP_HI_SPARE = 14 ∧ State.reset.rd (wg d w) R.FOLIO_STAT_TARGET = 15 ∧
      State.reset.rd (wg d w) R.FOLIO_CTRL_AUTO_TAKEOVER = 1) ∧
    (∀ d : Fin 4, State.reset.rd (sd d) R.SCRUB_PERIOD_SECONDS = 86400 ∧ (State.reset.sdx d).up = false) ∧
    (∀ k : Fin 26, State.reset.rd (fLane k).1 (fLane k).2 = 15) ∧
    (∀ n : Fin 2, State.reset.rd (cd n) R.WDT_CFG_TIMEOUT = 20 ∧ State.reset.rd (cd n) R.PWR_STATE_CUR = 0 ∧
      (State.reset.cdx n).mainUp = false)

/-- Every command of the block completes in every state and leaves the outputs as the state asks. The invariant of
every step (R669, R457, PAD_STAT). -/
def Obligations.EveryCommandCompletesSettled : Prop :=
    (∀ (c : Instr) (s : State), ∃ t, exec c s = .next t ∧ t.settled) ∧
    (∀ s : State, s.settled → ∃ t, step s = .next t ∧ t.settled)

/-- Bytes stored in a memory read back, every other byte reads as before, and a cleared range reads zero. The
memories: Commons, reading rooms, weight rows, flash and host memory (R82). -/
def Obligations.StoresReadBack : Prop :=
    (∀ (s : State) (a b : Nat) (l : List Byte), (s.stn a l).ldn a l.length = l ∧
      (b < a ∨ a + l.length ≤ b → (s.stn a l).ldb b = s.ldb b)) ∧
    (∀ (s : State) (lo hi b : Nat), (lo ≤ b → b < hi → (s.clearMem lo hi).ldb b = 0) ∧
      (b < lo ∨ hi ≤ b → (s.clearMem lo hi).ldb b = s.ldb b)) ∧
    (∀ (s : State) (a w v : Nat), (s.stw a w v).ldw a w = v % 2 ^ (8 * w))

/-- s0 reads as 0, p0 reads as 1, writes to either are discarded, and ad arithmetic wraps modulo 2^40. Hard-wired
registers (R257). -/
def Obligations.HardwiredRegisters : Prop :=
    (∀ (s : State) (a : Nat) (v : Word) (b : Bool), s.sR a 0 = 0 ∧ s.pR a 0 = true ∧ s.sW a 0 v = s ∧ s.pW a 0 b = s) ∧
    (∀ (s : State) (a r : Nat) (v : DevAddr), (s.adW a r v).adR a r = v ∧ v.toNat < 2 ^ 40) ∧
    (∀ (a : Fin 48) (imm : Bool) (ins : Ins) (s : State), ins.x = false → ins.sub = 16 → ins.riOk imm = true → ins.a < 16 →
      ins.b < 16 → s.issues a ins ([32 + ins.a.val, 32 + ins.b.val] ++ (if imm then [] else [ins.c.val])) →
      (∃ t, exec (.add a imm ins) s = .next t ∧
        (t.adR a ins.a).toNat = ((s.adR a ins.b).toNat + ((s.srcC a imm ins).signExtend 40).toNat) % 2 ^ 40) ∧
      (∃ t, exec (.sub a imm ins) s = .next t ∧
        (t.adR a ins.a).toNat = ((s.adR a ins.b).toNat + 2 ^ 40 - ((s.srcC a imm ins).signExtend 40).toNat) % 2 ^ 40))

/-- Frame of the commands of one load channel: nothing but that channel and its gang partner changes. Frames of the
channel commands (chapter 13; the registers of a channel are 64 bytes, R45). -/
def Obligations.ChannelCommandFrames : Prop :=
    ∀ (d : Fin 2) (ch : Fin 24) (s : State),
    let pair := if ch.val % 2 = 0 then ch.val + 1 else ch.val - 1
    let F := fun t : State =>
      State.fieldsBut (fun k => inRegs (ld d + 0x40 + 64 * ch.val) (ld d + 0x80 + 64 * ch.val) k ∨
        inRegs (ld d + 0x40 + 64 * pair) (ld d + 0x80 + 64 * pair) k) s t ∧
      (∀ i, i ≠ cix d ch → i ≠ cix d pair → t.chan i = s.chan i) ∧ (∀ p : Part, p ≠ .chans → s.same t p)
    (∀ (slow : Bool) (t : State), exec (.chCmdOn d ch slow) s = .next t → F t) ∧
      (∀ t : State, exec (.chCmdOff d ch) s = .next t → F t) ∧
      (∀ t : State, exec (.chCmdRelimit d ch) s = .next t → F t) ∧
      (∀ t : State, exec (.inrushWindowEnd d ch) s = .next t → F t) ∧
      (∀ (ms : Nat) (t : State), exec (.inrushLearnDone d ch ms) s = .next t → F t) ∧
      (∀ (also : Nat) (t : State), exec (.shortTrip d ch also) s = .next t → F t) ∧
      (∀ (temp also : Nat) (t : State), exec (.otTrip d ch temp also) s = .next t → F t) ∧
      (∀ t : State, exec (.retryWaitEnd d ch) s = .next t → F t) ∧
      (∀ t : State, exec (.goodTimeExpiry d ch) s = .next t → F t) ∧
      (∀ t : State, exec (.openLoadOnDetect d ch) s = .next t → F t) ∧
      (∀ (temp : Nat) (t : State), exec (.channelCool d ch temp) s = .next t → F t)

/-- Frame of the scalar and control-flow instructions: only the destination register changes. Frames of the scalar
instructions (R257, R339 to R351). -/
def Obligations.ScalarInstructionFrames : Prop :=
    ∀ (a : Fin 48) (imm : Bool) (ins : Ins) (s : State),
    (∀ t : State, exec (.add a imm ins) s = .next t → bitOf ins.sub 4 = false → s.agentBut t a (fun r => r = ins.a.val) (fun _ => False) (fun _ => False)) ∧
    (∀ t : State, exec (.add a imm ins) s = .next t → bitOf ins.sub 4 = true → s.agentBut t a (fun _ => False) (fun r => r = ins.a.val) (fun _ => False)) ∧
    (∀ t : State, exec (.sub a imm ins) s = .next t → bitOf ins.sub 4 = false → s.agentBut t a (fun r => r = ins.a.val) (fun _ => False) (fun _ => False)) ∧
    (∀ t : State, exec (.sub a imm ins) s = .next t → bitOf ins.sub 4 = true → s.agentBut t a (fun _ => False) (fun r => r = ins.a.val) (fun _ => False)) ∧
    (∀ t : State, exec (.mul a imm ins) s = .next t → s.agentBut t a (fun r => r = ins.a.val) (fun _ => False) (fun _ => False)) ∧
    (∀ t : State, exec (.and a imm ins) s = .next t → s.agentBut t a (fun r => r = ins.a.val) (fun _ => False) (fun _ => False)) ∧
    (∀ t : State, exec (.or a imm ins) s = .next t → s.agentBut t a (fun r => r = ins.a.val) (fun _ => False) (fun _ => False)) ∧
    (∀ t : State, exec (.xor a imm ins) s = .next t → s.agentBut t a (fun r => r = ins.a.val) (fun _ => False) (fun _ => False)) ∧
    (∀ t : State, exec (.shl a imm ins) s = .next t → s.agentBut t a (fun r => r = ins.a.val) (fun _ => False) (fun _ => False)) ∧
    (∀ t : State, exec (.shr a imm ins) s = .next t → s.agentBut t a (fun r => r = ins.a.val) (fun _ => False) (fun _ => False)) ∧
    (∀ t : State, exec (.cmp a imm ins) s = .next t → s.agentBut t a (fun _ => False) (fun _ => False) (fun r => r = ins.a.val)) ∧
    (∀ t : State, exec (.li a ins) s = .next t → ins.sub ≠ 1 → s.agentBut t a (fun r => r = ins.a.val) (fun _ => False) (fun _ => False)) ∧
    (∀ t : State, exec (.li a ins) s = .next t → ins.sub = 1 → s.agentBut t a (fun _ => False) (fun r => r = ins.a.val) (fun _ => False)) ∧
    (∀ t : State, exec (.b a ins) s = .next t → s.agentBut t a (fun _ => False) (fun _ => False) (fun _ => False)) ∧
    (∀ t : State, exec (.bc a ins) s = .next t → s.agentBut t a (fun _ => False) (fun _ => False) (fun _ => False)) ∧
    (∀ t : State, exec (.call a ins) s = .next t → s.agentBut t a (fun _ => False) (fun _ => False) (fun _ => False)) ∧
    (∀ t : State, exec (.ret a ins) s = .next t → s.agentBut t a (fun _ => False) (fun _ => False) (fun _ => False)) ∧
    (∀ t : State, exec (.loop a ins) s = .next t → s.agentBut t a (fun _ => False) (fun _ => False) (fun _ => False)) ∧
    (∀ t : State, exec (.trap a ins) s = .next t → s.agentBut t a (fun _ => False) (fun _ => False) (fun _ => False)) ∧
    (∀ t : State, exec (.fence a ins) s = .next t → s.agentBut t a (fun _ => False) (fun _ => False) (fun _ => False))

/-- Frame of the commands of the Load dies: no register of another die and no part but the Load dies' changes.
Frames by the parts of the state (13_load_channels.md R476, 13_load_channels.md R508, 02_address_map.md R45). -/
def Obligations.FramesOfLoadDieCommands : Prop :=
    ∀ (c : Instr) (s t : State), areaOf c = .loadDie → exec c s = .next t → keeps c s t ∧ State.fieldsBut (fun k => inRegs (ld 0) (ld 0 + 0x8000) k ∨ inRegs (ld 1) (ld 1 + 0x8000) k) s t

/-- Frame of the commands that work on the registers and records of one die or a pin. Frames by the parts of the
state (03_power_up.md R64, 12_control_pair.md R428, 15_listening.md R569, 16_keys_lifecycle.md R608). -/
def Obligations.FramesOfControlCommands : Prop :=
    ∀ (c : Instr) (s t : State), areaOf c = .control → exec c s = .next t → keeps c s t

/-- Frame of the instructions of one agent: no memory and no other unit changes. Frames by the parts of the state
(08_assal_model.md R256, 10_assal_control_sync.md R339, 10_assal_control_sync.md R347). -/
def Obligations.FramesOfAgentInstructions : Prop :=
    ∀ (c : Instr) (s t : State), areaOf c = .agent → exec c s = .next t → keeps c s t

/-- Frame of the commands that work with messages, semaphores or the memories of a die. Frames by the parts of the
state (07_links_resharding.md R223, 03_power_up.md R84, 06_reading_room.md R194). -/
def Obligations.FramesOfLinkedCommands : Prop :=
    ∀ (c : Instr) (s t : State), areaOf c = .linked → exec c s = .next t → keeps c s t

/-- Of all commands only those of chapter 13 and the power of the Load dies change a channel, and only pin commands
a pin. What can change a channel or a pin (chapters 13, 14 and 17). -/
def Obligations.OnlyTheseCommandsChangeChannels : Prop :=
    ∀ (c : Instr) (s t : State), exec c s = .next t → ∀ p ∈ [Part.chans, Part.lds, Part.pins, Part.pending],
    p ∉ partsOf c → s.same t p

end
end

