-- ==== Sys2Proof/Laws/State.lean ====
section
/-! SUPPORT. What each update of the state leaves alone, one lemma per field and update, so that no proof unfolds a
record. -/

namespace Sys2Proof.Machine

@[simp] theorem State.wr_mem (s : State) (b : Nat) (f : Fld) (v : Nat) : (s.wr b f v).mem = s.mem := rfl
@[simp] theorem State.wr_chans (s : State) (b : Nat) (f : Fld) (v : Nat) : (s.wr b f v).chans = s.chans := rfl
@[simp] theorem State.wr_lds (s : State) (b : Nat) (f : Fld) (v : Nat) : (s.wr b f v).lds = s.lds := rfl
@[simp] theorem State.wr_cds (s : State) (b : Nat) (f : Fld) (v : Nat) : (s.wr b f v).cds = s.cds := rfl
@[simp] theorem State.wr_agents (s : State) (b : Nat) (f : Fld) (v : Nat) : (s.wr b f v).agents = s.agents := rfl
@[simp] theorem State.wr_waitq (s : State) (b : Nat) (f : Fld) (v : Nat) : (s.wr b f v).waitq = s.waitq := rfl
@[simp] theorem State.wr_comErr (s : State) (b : Nat) (f : Fld) (v : Nat) : (s.wr b f v).comErr = s.comErr := rfl
@[simp] theorem State.wr_fresh (s : State) (b : Nat) (f : Fld) (v : Nat) : (s.wr b f v).fresh = s.fresh := rfl
@[simp] theorem State.wr_sems (s : State) (b : Nat) (f : Fld) (v : Nat) : (s.wr b f v).sems = s.sems := rfl
@[simp] theorem State.wr_ports (s : State) (b : Nat) (f : Fld) (v : Nat) : (s.wr b f v).ports = s.ports := rfl
@[simp] theorem State.wr_inbox (s : State) (b : Nat) (f : Fld) (v : Nat) : (s.wr b f v).inbox = s.inbox := rfl
@[simp] theorem State.wr_creds (s : State) (b : Nat) (f : Fld) (v : Nat) : (s.wr b f v).creds = s.creds := rfl
@[simp] theorem State.wr_poison (s : State) (b : Nat) (f : Fld) (v : Nat) : (s.wr b f v).poison = s.poison := rfl
@[simp] theorem State.wr_parity (s : State) (b : Nat) (f : Fld) (v : Nat) : (s.wr b f v).parity = s.parity := rfl
@[simp] theorem State.wr_acc (s : State) (b : Nat) (f : Fld) (v : Nat) : (s.wr b f v).acc = s.acc := rfl
@[simp] theorem State.wr_shScale (s : State) (b : Nat) (f : Fld) (v : Nat) : (s.wr b f v).shScale = s.shScale := rfl
@[simp] theorem State.wr_flips (s : State) (b : Nat) (f : Fld) (v : Nat) : (s.wr b f v).flips = s.flips := rfl
@[simp] theorem State.wr_wings (s : State) (b : Nat) (f : Fld) (v : Nat) : (s.wr b f v).wings = s.wings := rfl
@[simp] theorem State.wr_sds (s : State) (b : Nat) (f : Fld) (v : Nat) : (s.wr b f v).sds = s.sds := rfl
@[simp] theorem State.wr_pins (s : State) (b : Nat) (f : Fld) (v : Nat) : (s.wr b f v).pins = s.pins := rfl
@[simp] theorem State.wr_rsp (s : State) (b : Nat) (f : Fld) (v : Nat) : (s.wr b f v).rsp = s.rsp := rfl
@[simp] theorem State.wr_pending (s : State) (b : Nat) (f : Fld) (v : Nat) : (s.wr b f v).pending = s.pending := rfl
@[simp] theorem State.wrb_mem (s : State) (b : Nat) (f : Fld) (v : Bool) : (s.wrb b f v).mem = s.mem := rfl
@[simp] theorem State.wrb_chans (s : State) (b : Nat) (f : Fld) (v : Bool) : (s.wrb b f v).chans = s.chans := rfl
@[simp] theorem State.wrb_lds (s : State) (b : Nat) (f : Fld) (v : Bool) : (s.wrb b f v).lds = s.lds := rfl
@[simp] theorem State.wrb_cds (s : State) (b : Nat) (f : Fld) (v : Bool) : (s.wrb b f v).cds = s.cds := rfl
@[simp] theorem State.wrb_agents (s : State) (b : Nat) (f : Fld) (v : Bool) : (s.wrb b f v).agents = s.agents := rfl
@[simp] theorem State.wrb_waitq (s : State) (b : Nat) (f : Fld) (v : Bool) : (s.wrb b f v).waitq = s.waitq := rfl
@[simp] theorem State.wrb_comErr (s : State) (b : Nat) (f : Fld) (v : Bool) : (s.wrb b f v).comErr = s.comErr := rfl
@[simp] theorem State.wrb_fresh (s : State) (b : Nat) (f : Fld) (v : Bool) : (s.wrb b f v).fresh = s.fresh := rfl
@[simp] theorem State.wrb_sems (s : State) (b : Nat) (f : Fld) (v : Bool) : (s.wrb b f v).sems = s.sems := rfl
@[simp] theorem State.wrb_ports (s : State) (b : Nat) (f : Fld) (v : Bool) : (s.wrb b f v).ports = s.ports := rfl
@[simp] theorem State.wrb_inbox (s : State) (b : Nat) (f : Fld) (v : Bool) : (s.wrb b f v).inbox = s.inbox := rfl
@[simp] theorem State.wrb_creds (s : State) (b : Nat) (f : Fld) (v : Bool) : (s.wrb b f v).creds = s.creds := rfl
@[simp] theorem State.wrb_poison (s : State) (b : Nat) (f : Fld) (v : Bool) : (s.wrb b f v).poison = s.poison := rfl
@[simp] theorem State.wrb_parity (s : State) (b : Nat) (f : Fld) (v : Bool) : (s.wrb b f v).parity = s.parity := rfl
@[simp] theorem State.wrb_acc (s : State) (b : Nat) (f : Fld) (v : Bool) : (s.wrb b f v).acc = s.acc := rfl
@[simp] theorem State.wrb_shScale (s : State) (b : Nat) (f : Fld) (v : Bool) : (s.wrb b f v).shScale = s.shScale := rfl
@[simp] theorem State.wrb_flips (s : State) (b : Nat) (f : Fld) (v : Bool) : (s.wrb b f v).flips = s.flips := rfl
@[simp] theorem State.wrb_wings (s : State) (b : Nat) (f : Fld) (v : Bool) : (s.wrb b f v).wings = s.wings := rfl
@[simp] theorem State.wrb_sds (s : State) (b : Nat) (f : Fld) (v : Bool) : (s.wrb b f v).sds = s.sds := rfl
@[simp] theorem State.wrb_pins (s : State) (b : Nat) (f : Fld) (v : Bool) : (s.wrb b f v).pins = s.pins := rfl
@[simp] theorem State.wrb_rsp (s : State) (b : Nat) (f : Fld) (v : Bool) : (s.wrb b f v).rsp = s.rsp := rfl
@[simp] theorem State.wrb_pending (s : State) (b : Nat) (f : Fld) (v : Bool) : (s.wrb b f v).pending = s.pending := rfl
@[simp] theorem State.inc_mem (s : State) (b : Nat) (f : Fld) : (s.inc b f).mem = s.mem := rfl
@[simp] theorem State.inc_chans (s : State) (b : Nat) (f : Fld) : (s.inc b f).chans = s.chans := rfl
@[simp] theorem State.inc_lds (s : State) (b : Nat) (f : Fld) : (s.inc b f).lds = s.lds := rfl
@[simp] theorem State.inc_cds (s : State) (b : Nat) (f : Fld) : (s.inc b f).cds = s.cds := rfl
@[simp] theorem State.inc_agents (s : State) (b : Nat) (f : Fld) : (s.inc b f).agents = s.agents := rfl
@[simp] theorem State.inc_waitq (s : State) (b : Nat) (f : Fld) : (s.inc b f).waitq = s.waitq := rfl
@[simp] theorem State.inc_comErr (s : State) (b : Nat) (f : Fld) : (s.inc b f).comErr = s.comErr := rfl
@[simp] theorem State.inc_fresh (s : State) (b : Nat) (f : Fld) : (s.inc b f).fresh = s.fresh := rfl
@[simp] theorem State.inc_sems (s : State) (b : Nat) (f : Fld) : (s.inc b f).sems = s.sems := rfl
@[simp] theorem State.inc_ports (s : State) (b : Nat) (f : Fld) : (s.inc b f).ports = s.ports := rfl
@[simp] theorem State.inc_inbox (s : State) (b : Nat) (f : Fld) : (s.inc b f).inbox = s.inbox := rfl
@[simp] theorem State.inc_creds (s : State) (b : Nat) (f : Fld) : (s.inc b f).creds = s.creds := rfl
@[simp] theorem State.inc_poison (s : State) (b : Nat) (f : Fld) : (s.inc b f).poison = s.poison := rfl
@[simp] theorem State.inc_parity (s : State) (b : Nat) (f : Fld) : (s.inc b f).parity = s.parity := rfl
@[simp] theorem State.inc_acc (s : State) (b : Nat) (f : Fld) : (s.inc b f).acc = s.acc := rfl
@[simp] theorem State.inc_shScale (s : State) (b : Nat) (f : Fld) : (s.inc b f).shScale = s.shScale := rfl
@[simp] theorem State.inc_flips (s : State) (b : Nat) (f : Fld) : (s.inc b f).flips = s.flips := rfl
@[simp] theorem State.inc_wings (s : State) (b : Nat) (f : Fld) : (s.inc b f).wings = s.wings := rfl
@[simp] theorem State.inc_sds (s : State) (b : Nat) (f : Fld) : (s.inc b f).sds = s.sds := rfl
@[simp] theorem State.inc_pins (s : State) (b : Nat) (f : Fld) : (s.inc b f).pins = s.pins := rfl
@[simp] theorem State.inc_rsp (s : State) (b : Nat) (f : Fld) : (s.inc b f).rsp = s.rsp := rfl
@[simp] theorem State.inc_pending (s : State) (b : Nat) (f : Fld) : (s.inc b f).pending = s.pending := rfl
@[simp] theorem State.clearRegs_mem (s : State) (lo hi : Nat) : (s.clearRegs lo hi).mem = s.mem := rfl
@[simp] theorem State.clearRegs_chans (s : State) (lo hi : Nat) : (s.clearRegs lo hi).chans = s.chans := rfl
@[simp] theorem State.clearRegs_lds (s : State) (lo hi : Nat) : (s.clearRegs lo hi).lds = s.lds := rfl
@[simp] theorem State.clearRegs_cds (s : State) (lo hi : Nat) : (s.clearRegs lo hi).cds = s.cds := rfl
@[simp] theorem State.clearRegs_agents (s : State) (lo hi : Nat) : (s.clearRegs lo hi).agents = s.agents := rfl
@[simp] theorem State.clearRegs_waitq (s : State) (lo hi : Nat) : (s.clearRegs lo hi).waitq = s.waitq := rfl
@[simp] theorem State.clearRegs_comErr (s : State) (lo hi : Nat) : (s.clearRegs lo hi).comErr = s.comErr := rfl
@[simp] theorem State.clearRegs_fresh (s : State) (lo hi : Nat) : (s.clearRegs lo hi).fresh = s.fresh := rfl
@[simp] theorem State.clearRegs_sems (s : State) (lo hi : Nat) : (s.clearRegs lo hi).sems = s.sems := rfl
@[simp] theorem State.clearRegs_ports (s : State) (lo hi : Nat) : (s.clearRegs lo hi).ports = s.ports := rfl
@[simp] theorem State.clearRegs_inbox (s : State) (lo hi : Nat) : (s.clearRegs lo hi).inbox = s.inbox := rfl
@[simp] theorem State.clearRegs_creds (s : State) (lo hi : Nat) : (s.clearRegs lo hi).creds = s.creds := rfl
@[simp] theorem State.clearRegs_poison (s : State) (lo hi : Nat) : (s.clearRegs lo hi).poison = s.poison := rfl
@[simp] theorem State.clearRegs_parity (s : State) (lo hi : Nat) : (s.clearRegs lo hi).parity = s.parity := rfl
@[simp] theorem State.clearRegs_acc (s : State) (lo hi : Nat) : (s.clearRegs lo hi).acc = s.acc := rfl
@[simp] theorem State.clearRegs_shScale (s : State) (lo hi : Nat) : (s.clearRegs lo hi).shScale = s.shScale := rfl
@[simp] theorem State.clearRegs_flips (s : State) (lo hi : Nat) : (s.clearRegs lo hi).flips = s.flips := rfl
@[simp] theorem State.clearRegs_wings (s : State) (lo hi : Nat) : (s.clearRegs lo hi).wings = s.wings := rfl
@[simp] theorem State.clearRegs_sds (s : State) (lo hi : Nat) : (s.clearRegs lo hi).sds = s.sds := rfl
@[simp] theorem State.clearRegs_pins (s : State) (lo hi : Nat) : (s.clearRegs lo hi).pins = s.pins := rfl
@[simp] theorem State.clearRegs_rsp (s : State) (lo hi : Nat) : (s.clearRegs lo hi).rsp = s.rsp := rfl
@[simp] theorem State.clearRegs_pending (s : State) (lo hi : Nat) : (s.clearRegs lo hi).pending = s.pending := rfl
@[simp] theorem State.stb_fld (s : State) (a : Nat) (x : Byte) : (s.stb a x).fld = s.fld := rfl
@[simp] theorem State.stb_chans (s : State) (a : Nat) (x : Byte) : (s.stb a x).chans = s.chans := rfl
@[simp] theorem State.stb_lds (s : State) (a : Nat) (x : Byte) : (s.stb a x).lds = s.lds := rfl
@[simp] theorem State.stb_cds (s : State) (a : Nat) (x : Byte) : (s.stb a x).cds = s.cds := rfl
@[simp] theorem State.stb_agents (s : State) (a : Nat) (x : Byte) : (s.stb a x).agents = s.agents := rfl
@[simp] theorem State.stb_waitq (s : State) (a : Nat) (x : Byte) : (s.stb a x).waitq = s.waitq := rfl
@[simp] theorem State.stb_comErr (s : State) (a : Nat) (x : Byte) : (s.stb a x).comErr = s.comErr := rfl
@[simp] theorem State.stb_fresh (s : State) (a : Nat) (x : Byte) : (s.stb a x).fresh = s.fresh := rfl
@[simp] theorem State.stb_sems (s : State) (a : Nat) (x : Byte) : (s.stb a x).sems = s.sems := rfl
@[simp] theorem State.stb_ports (s : State) (a : Nat) (x : Byte) : (s.stb a x).ports = s.ports := rfl
@[simp] theorem State.stb_inbox (s : State) (a : Nat) (x : Byte) : (s.stb a x).inbox = s.inbox := rfl
@[simp] theorem State.stb_creds (s : State) (a : Nat) (x : Byte) : (s.stb a x).creds = s.creds := rfl
@[simp] theorem State.stb_poison (s : State) (a : Nat) (x : Byte) : (s.stb a x).poison = s.poison := rfl
@[simp] theorem State.stb_parity (s : State) (a : Nat) (x : Byte) : (s.stb a x).parity = s.parity := rfl
@[simp] theorem State.stb_acc (s : State) (a : Nat) (x : Byte) : (s.stb a x).acc = s.acc := rfl
@[simp] theorem State.stb_shScale (s : State) (a : Nat) (x : Byte) : (s.stb a x).shScale = s.shScale := rfl
@[simp] theorem State.stb_flips (s : State) (a : Nat) (x : Byte) : (s.stb a x).flips = s.flips := rfl
@[simp] theorem State.stb_wings (s : State) (a : Nat) (x : Byte) : (s.stb a x).wings = s.wings := rfl
@[simp] theorem State.stb_sds (s : State) (a : Nat) (x : Byte) : (s.stb a x).sds = s.sds := rfl
@[simp] theorem State.stb_pins (s : State) (a : Nat) (x : Byte) : (s.stb a x).pins = s.pins := rfl
@[simp] theorem State.stb_rsp (s : State) (a : Nat) (x : Byte) : (s.stb a x).rsp = s.rsp := rfl
@[simp] theorem State.stb_pending (s : State) (a : Nat) (x : Byte) : (s.stb a x).pending = s.pending := rfl
@[simp] theorem State.clearMem_fld (s : State) (lo hi : Nat) : (s.clearMem lo hi).fld = s.fld := rfl
@[simp] theorem State.clearMem_chans (s : State) (lo hi : Nat) : (s.clearMem lo hi).chans = s.chans := rfl
@[simp] theorem State.clearMem_lds (s : State) (lo hi : Nat) : (s.clearMem lo hi).lds = s.lds := rfl
@[simp] theorem State.clearMem_cds (s : State) (lo hi : Nat) : (s.clearMem lo hi).cds = s.cds := rfl
@[simp] theorem State.clearMem_agents (s : State) (lo hi : Nat) : (s.clearMem lo hi).agents = s.agents := rfl
@[simp] theorem State.clearMem_waitq (s : State) (lo hi : Nat) : (s.clearMem lo hi).waitq = s.waitq := rfl
@[simp] theorem State.clearMem_comErr (s : State) (lo hi : Nat) : (s.clearMem lo hi).comErr = s.comErr := rfl
@[simp] theorem State.clearMem_fresh (s : State) (lo hi : Nat) : (s.clearMem lo hi).fresh = s.fresh := rfl
@[simp] theorem State.clearMem_sems (s : State) (lo hi : Nat) : (s.clearMem lo hi).sems = s.sems := rfl
@[simp] theorem State.clearMem_ports (s : State) (lo hi : Nat) : (s.clearMem lo hi).ports = s.ports := rfl
@[simp] theorem State.clearMem_inbox (s : State) (lo hi : Nat) : (s.clearMem lo hi).inbox = s.inbox := rfl
@[simp] theorem State.clearMem_creds (s : State) (lo hi : Nat) : (s.clearMem lo hi).creds = s.creds := rfl
@[simp] theorem State.clearMem_poison (s : State) (lo hi : Nat) : (s.clearMem lo hi).poison = s.poison := rfl
@[simp] theorem State.clearMem_parity (s : State) (lo hi : Nat) : (s.clearMem lo hi).parity = s.parity := rfl
@[simp] theorem State.clearMem_acc (s : State) (lo hi : Nat) : (s.clearMem lo hi).acc = s.acc := rfl
@[simp] theorem State.clearMem_shScale (s : State) (lo hi : Nat) : (s.clearMem lo hi).shScale = s.shScale := rfl
@[simp] theorem State.clearMem_flips (s : State) (lo hi : Nat) : (s.clearMem lo hi).flips = s.flips := rfl
@[simp] theorem State.clearMem_wings (s : State) (lo hi : Nat) : (s.clearMem lo hi).wings = s.wings := rfl
@[simp] theorem State.clearMem_sds (s : State) (lo hi : Nat) : (s.clearMem lo hi).sds = s.sds := rfl
@[simp] theorem State.clearMem_pins (s : State) (lo hi : Nat) : (s.clearMem lo hi).pins = s.pins := rfl
@[simp] theorem State.clearMem_rsp (s : State) (lo hi : Nat) : (s.clearMem lo hi).rsp = s.rsp := rfl
@[simp] theorem State.clearMem_pending (s : State) (lo hi : Nat) : (s.clearMem lo hi).pending = s.pending := rfl
@[simp] theorem State.modAgent_fld (s : State) (a : Nat) (f : Agent → Agent) : (s.modAgent a f).fld = s.fld := rfl
@[simp] theorem State.modAgent_mem (s : State) (a : Nat) (f : Agent → Agent) : (s.modAgent a f).mem = s.mem := rfl
@[simp] theorem State.modAgent_chans (s : State) (a : Nat) (f : Agent → Agent) : (s.modAgent a f).chans = s.chans := rfl
@[simp] theorem State.modAgent_lds (s : State) (a : Nat) (f : Agent → Agent) : (s.modAgent a f).lds = s.lds := rfl
@[simp] theorem State.modAgent_cds (s : State) (a : Nat) (f : Agent → Agent) : (s.modAgent a f).cds = s.cds := rfl
@[simp] theorem State.modAgent_waitq (s : State) (a : Nat) (f : Agent → Agent) : (s.modAgent a f).waitq = s.waitq := rfl
@[simp] theorem State.modAgent_comErr (s : State) (a : Nat) (f : Agent → Agent) : (s.modAgent a f).comErr = s.comErr := rfl
@[simp] theorem State.modAgent_fresh (s : State) (a : Nat) (f : Agent → Agent) : (s.modAgent a f).fresh = s.fresh := rfl
@[simp] theorem State.modAgent_sems (s : State) (a : Nat) (f : Agent → Agent) : (s.modAgent a f).sems = s.sems := rfl
@[simp] theorem State.modAgent_ports (s : State) (a : Nat) (f : Agent → Agent) : (s.modAgent a f).ports = s.ports := rfl
@[simp] theorem State.modAgent_inbox (s : State) (a : Nat) (f : Agent → Agent) : (s.modAgent a f).inbox = s.inbox := rfl
@[simp] theorem State.modAgent_creds (s : State) (a : Nat) (f : Agent → Agent) : (s.modAgent a f).creds = s.creds := rfl
@[simp] theorem State.modAgent_poison (s : State) (a : Nat) (f : Agent → Agent) : (s.modAgent a f).poison = s.poison := rfl
@[simp] theorem State.modAgent_parity (s : State) (a : Nat) (f : Agent → Agent) : (s.modAgent a f).parity = s.parity := rfl
@[simp] theorem State.modAgent_acc (s : State) (a : Nat) (f : Agent → Agent) : (s.modAgent a f).acc = s.acc := rfl
@[simp] theorem State.modAgent_shScale (s : State) (a : Nat) (f : Agent → Agent) : (s.modAgent a f).shScale = s.shScale := rfl
@[simp] theorem State.modAgent_flips (s : State) (a : Nat) (f : Agent → Agent) : (s.modAgent a f).flips = s.flips := rfl
@[simp] theorem State.modAgent_wings (s : State) (a : Nat) (f : Agent → Agent) : (s.modAgent a f).wings = s.wings := rfl
@[simp] theorem State.modAgent_sds (s : State) (a : Nat) (f : Agent → Agent) : (s.modAgent a f).sds = s.sds := rfl
@[simp] theorem State.modAgent_pins (s : State) (a : Nat) (f : Agent → Agent) : (s.modAgent a f).pins = s.pins := rfl
@[simp] theorem State.modAgent_rsp (s : State) (a : Nat) (f : Agent → Agent) : (s.modAgent a f).rsp = s.rsp := rfl
@[simp] theorem State.modAgent_pending (s : State) (a : Nat) (f : Agent → Agent) : (s.modAgent a f).pending = s.pending := rfl
@[simp] theorem State.modChan_fld (s : State) (i : Nat) (f : Chan → Chan) : (s.modChan i f).fld = s.fld := rfl
@[simp] theorem State.modChan_mem (s : State) (i : Nat) (f : Chan → Chan) : (s.modChan i f).mem = s.mem := rfl
@[simp] theorem State.modChan_lds (s : State) (i : Nat) (f : Chan → Chan) : (s.modChan i f).lds = s.lds := rfl
@[simp] theorem State.modChan_cds (s : State) (i : Nat) (f : Chan → Chan) : (s.modChan i f).cds = s.cds := rfl
@[simp] theorem State.modChan_agents (s : State) (i : Nat) (f : Chan → Chan) : (s.modChan i f).agents = s.agents := rfl
@[simp] theorem State.modChan_waitq (s : State) (i : Nat) (f : Chan → Chan) : (s.modChan i f).waitq = s.waitq := rfl
@[simp] theorem State.modChan_comErr (s : State) (i : Nat) (f : Chan → Chan) : (s.modChan i f).comErr = s.comErr := rfl
@[simp] theorem State.modChan_fresh (s : State) (i : Nat) (f : Chan → Chan) : (s.modChan i f).fresh = s.fresh := rfl
@[simp] theorem State.modChan_sems (s : State) (i : Nat) (f : Chan → Chan) : (s.modChan i f).sems = s.sems := rfl
@[simp] theorem State.modChan_ports (s : State) (i : Nat) (f : Chan → Chan) : (s.modChan i f).ports = s.ports := rfl
@[simp] theorem State.modChan_inbox (s : State) (i : Nat) (f : Chan → Chan) : (s.modChan i f).inbox = s.inbox := rfl
@[simp] theorem State.modChan_creds (s : State) (i : Nat) (f : Chan → Chan) : (s.modChan i f).creds = s.creds := rfl
@[simp] theorem State.modChan_poison (s : State) (i : Nat) (f : Chan → Chan) : (s.modChan i f).poison = s.poison := rfl
@[simp] theorem State.modChan_parity (s : State) (i : Nat) (f : Chan → Chan) : (s.modChan i f).parity = s.parity := rfl
@[simp] theorem State.modChan_acc (s : State) (i : Nat) (f : Chan → Chan) : (s.modChan i f).acc = s.acc := rfl
@[simp] theorem State.modChan_shScale (s : State) (i : Nat) (f : Chan → Chan) : (s.modChan i f).shScale = s.shScale := rfl
@[simp] theorem State.modChan_flips (s : State) (i : Nat) (f : Chan → Chan) : (s.modChan i f).flips = s.flips := rfl
@[simp] theorem State.modChan_wings (s : State) (i : Nat) (f : Chan → Chan) : (s.modChan i f).wings = s.wings := rfl
@[simp] theorem State.modChan_sds (s : State) (i : Nat) (f : Chan → Chan) : (s.modChan i f).sds = s.sds := rfl
@[simp] theorem State.modChan_pins (s : State) (i : Nat) (f : Chan → Chan) : (s.modChan i f).pins = s.pins := rfl
@[simp] theorem State.modChan_rsp (s : State) (i : Nat) (f : Chan → Chan) : (s.modChan i f).rsp = s.rsp := rfl
@[simp] theorem State.modChan_pending (s : State) (i : Nat) (f : Chan → Chan) : (s.modChan i f).pending = s.pending := rfl
@[simp] theorem State.modLd_fld (s : State) (d : Nat) (f : LdX → LdX) : (s.modLd d f).fld = s.fld := rfl
@[simp] theorem State.modLd_mem (s : State) (d : Nat) (f : LdX → LdX) : (s.modLd d f).mem = s.mem := rfl
@[simp] theorem State.modLd_chans (s : State) (d : Nat) (f : LdX → LdX) : (s.modLd d f).chans = s.chans := rfl
@[simp] theorem State.modLd_cds (s : State) (d : Nat) (f : LdX → LdX) : (s.modLd d f).cds = s.cds := rfl
@[simp] theorem State.modLd_agents (s : State) (d : Nat) (f : LdX → LdX) : (s.modLd d f).agents = s.agents := rfl
@[simp] theorem State.modLd_waitq (s : State) (d : Nat) (f : LdX → LdX) : (s.modLd d f).waitq = s.waitq := rfl
@[simp] theorem State.modLd_comErr (s : State) (d : Nat) (f : LdX → LdX) : (s.modLd d f).comErr = s.comErr := rfl
@[simp] theorem State.modLd_fresh (s : State) (d : Nat) (f : LdX → LdX) : (s.modLd d f).fresh = s.fresh := rfl
@[simp] theorem State.modLd_sems (s : State) (d : Nat) (f : LdX → LdX) : (s.modLd d f).sems = s.sems := rfl
@[simp] theorem State.modLd_ports (s : State) (d : Nat) (f : LdX → LdX) : (s.modLd d f).ports = s.ports := rfl
@[simp] theorem State.modLd_inbox (s : State) (d : Nat) (f : LdX → LdX) : (s.modLd d f).inbox = s.inbox := rfl
@[simp] theorem State.modLd_creds (s : State) (d : Nat) (f : LdX → LdX) : (s.modLd d f).creds = s.creds := rfl
@[simp] theorem State.modLd_poison (s : State) (d : Nat) (f : LdX → LdX) : (s.modLd d f).poison = s.poison := rfl
@[simp] theorem State.modLd_parity (s : State) (d : Nat) (f : LdX → LdX) : (s.modLd d f).parity = s.parity := rfl
@[simp] theorem State.modLd_acc (s : State) (d : Nat) (f : LdX → LdX) : (s.modLd d f).acc = s.acc := rfl
@[simp] theorem State.modLd_shScale (s : State) (d : Nat) (f : LdX → LdX) : (s.modLd d f).shScale = s.shScale := rfl
@[simp] theorem State.modLd_flips (s : State) (d : Nat) (f : LdX → LdX) : (s.modLd d f).flips = s.flips := rfl
@[simp] theorem State.modLd_wings (s : State) (d : Nat) (f : LdX → LdX) : (s.modLd d f).wings = s.wings := rfl
@[simp] theorem State.modLd_sds (s : State) (d : Nat) (f : LdX → LdX) : (s.modLd d f).sds = s.sds := rfl
@[simp] theorem State.modLd_pins (s : State) (d : Nat) (f : LdX → LdX) : (s.modLd d f).pins = s.pins := rfl
@[simp] theorem State.modLd_rsp (s : State) (d : Nat) (f : LdX → LdX) : (s.modLd d f).rsp = s.rsp := rfl
@[simp] theorem State.modLd_pending (s : State) (d : Nat) (f : LdX → LdX) : (s.modLd d f).pending = s.pending := rfl
@[simp] theorem State.modCd_fld (s : State) (n : Nat) (f : CdX → CdX) : (s.modCd n f).fld = s.fld := rfl
@[simp] theorem State.modCd_mem (s : State) (n : Nat) (f : CdX → CdX) : (s.modCd n f).mem = s.mem := rfl
@[simp] theorem State.modCd_chans (s : State) (n : Nat) (f : CdX → CdX) : (s.modCd n f).chans = s.chans := rfl
@[simp] theorem State.modCd_lds (s : State) (n : Nat) (f : CdX → CdX) : (s.modCd n f).lds = s.lds := rfl
@[simp] theorem State.modCd_agents (s : State) (n : Nat) (f : CdX → CdX) : (s.modCd n f).agents = s.agents := rfl
@[simp] theorem State.modCd_waitq (s : State) (n : Nat) (f : CdX → CdX) : (s.modCd n f).waitq = s.waitq := rfl
@[simp] theorem State.modCd_comErr (s : State) (n : Nat) (f : CdX → CdX) : (s.modCd n f).comErr = s.comErr := rfl
@[simp] theorem State.modCd_fresh (s : State) (n : Nat) (f : CdX → CdX) : (s.modCd n f).fresh = s.fresh := rfl
@[simp] theorem State.modCd_sems (s : State) (n : Nat) (f : CdX → CdX) : (s.modCd n f).sems = s.sems := rfl
@[simp] theorem State.modCd_ports (s : State) (n : Nat) (f : CdX → CdX) : (s.modCd n f).ports = s.ports := rfl
@[simp] theorem State.modCd_inbox (s : State) (n : Nat) (f : CdX → CdX) : (s.modCd n f).inbox = s.inbox := rfl
@[simp] theorem State.modCd_creds (s : State) (n : Nat) (f : CdX → CdX) : (s.modCd n f).creds = s.creds := rfl
@[simp] theorem State.modCd_poison (s : State) (n : Nat) (f : CdX → CdX) : (s.modCd n f).poison = s.poison := rfl
@[simp] theorem State.modCd_parity (s : State) (n : Nat) (f : CdX → CdX) : (s.modCd n f).parity = s.parity := rfl
@[simp] theorem State.modCd_acc (s : State) (n : Nat) (f : CdX → CdX) : (s.modCd n f).acc = s.acc := rfl
@[simp] theorem State.modCd_shScale (s : State) (n : Nat) (f : CdX → CdX) : (s.modCd n f).shScale = s.shScale := rfl
@[simp] theorem State.modCd_flips (s : State) (n : Nat) (f : CdX → CdX) : (s.modCd n f).flips = s.flips := rfl
@[simp] theorem State.modCd_wings (s : State) (n : Nat) (f : CdX → CdX) : (s.modCd n f).wings = s.wings := rfl
@[simp] theorem State.modCd_sds (s : State) (n : Nat) (f : CdX → CdX) : (s.modCd n f).sds = s.sds := rfl
@[simp] theorem State.modCd_pins (s : State) (n : Nat) (f : CdX → CdX) : (s.modCd n f).pins = s.pins := rfl
@[simp] theorem State.modCd_rsp (s : State) (n : Nat) (f : CdX → CdX) : (s.modCd n f).rsp = s.rsp := rfl
@[simp] theorem State.modCd_pending (s : State) (n : Nat) (f : CdX → CdX) : (s.modCd n f).pending = s.pending := rfl
@[simp] theorem State.modWing_fld (s : State) (i : Nat) (f : WingX → WingX) : (s.modWing i f).fld = s.fld := rfl
@[simp] theorem State.modWing_mem (s : State) (i : Nat) (f : WingX → WingX) : (s.modWing i f).mem = s.mem := rfl
@[simp] theorem State.modWing_chans (s : State) (i : Nat) (f : WingX → WingX) : (s.modWing i f).chans = s.chans := rfl
@[simp] theorem State.modWing_lds (s : State) (i : Nat) (f : WingX → WingX) : (s.modWing i f).lds = s.lds := rfl
@[simp] theorem State.modWing_cds (s : State) (i : Nat) (f : WingX → WingX) : (s.modWing i f).cds = s.cds := rfl
@[simp] theorem State.modWing_agents (s : State) (i : Nat) (f : WingX → WingX) : (s.modWing i f).agents = s.agents := rfl
@[simp] theorem State.modWing_waitq (s : State) (i : Nat) (f : WingX → WingX) : (s.modWing i f).waitq = s.waitq := rfl
@[simp] theorem State.modWing_comErr (s : State) (i : Nat) (f : WingX → WingX) : (s.modWing i f).comErr = s.comErr := rfl
@[simp] theorem State.modWing_fresh (s : State) (i : Nat) (f : WingX → WingX) : (s.modWing i f).fresh = s.fresh := rfl
@[simp] theorem State.modWing_sems (s : State) (i : Nat) (f : WingX → WingX) : (s.modWing i f).sems = s.sems := rfl
@[simp] theorem State.modWing_ports (s : State) (i : Nat) (f : WingX → WingX) : (s.modWing i f).ports = s.ports := rfl
@[simp] theorem State.modWing_inbox (s : State) (i : Nat) (f : WingX → WingX) : (s.modWing i f).inbox = s.inbox := rfl
@[simp] theorem State.modWing_creds (s : State) (i : Nat) (f : WingX → WingX) : (s.modWing i f).creds = s.creds := rfl
@[simp] theorem State.modWing_poison (s : State) (i : Nat) (f : WingX → WingX) : (s.modWing i f).poison = s.poison := rfl
@[simp] theorem State.modWing_parity (s : State) (i : Nat) (f : WingX → WingX) : (s.modWing i f).parity = s.parity := rfl
@[simp] theorem State.modWing_acc (s : State) (i : Nat) (f : WingX → WingX) : (s.modWing i f).acc = s.acc := rfl
@[simp] theorem State.modWing_shScale (s : State) (i : Nat) (f : WingX → WingX) : (s.modWing i f).shScale = s.shScale := rfl
@[simp] theorem State.modWing_flips (s : State) (i : Nat) (f : WingX → WingX) : (s.modWing i f).flips = s.flips := rfl
@[simp] theorem State.modWing_sds (s : State) (i : Nat) (f : WingX → WingX) : (s.modWing i f).sds = s.sds := rfl
@[simp] theorem State.modWing_pins (s : State) (i : Nat) (f : WingX → WingX) : (s.modWing i f).pins = s.pins := rfl
@[simp] theorem State.modWing_rsp (s : State) (i : Nat) (f : WingX → WingX) : (s.modWing i f).rsp = s.rsp := rfl
@[simp] theorem State.modWing_pending (s : State) (i : Nat) (f : WingX → WingX) : (s.modWing i f).pending = s.pending := rfl
@[simp] theorem State.modSd_fld (s : State) (d : Nat) (f : SdX → SdX) : (s.modSd d f).fld = s.fld := rfl
@[simp] theorem State.modSd_mem (s : State) (d : Nat) (f : SdX → SdX) : (s.modSd d f).mem = s.mem := rfl
@[simp] theorem State.modSd_chans (s : State) (d : Nat) (f : SdX → SdX) : (s.modSd d f).chans = s.chans := rfl
@[simp] theorem State.modSd_lds (s : State) (d : Nat) (f : SdX → SdX) : (s.modSd d f).lds = s.lds := rfl
@[simp] theorem State.modSd_cds (s : State) (d : Nat) (f : SdX → SdX) : (s.modSd d f).cds = s.cds := rfl
@[simp] theorem State.modSd_agents (s : State) (d : Nat) (f : SdX → SdX) : (s.modSd d f).agents = s.agents := rfl
@[simp] theorem State.modSd_waitq (s : State) (d : Nat) (f : SdX → SdX) : (s.modSd d f).waitq = s.waitq := rfl
@[simp] theorem State.modSd_comErr (s : State) (d : Nat) (f : SdX → SdX) : (s.modSd d f).comErr = s.comErr := rfl
@[simp] theorem State.modSd_fresh (s : State) (d : Nat) (f : SdX → SdX) : (s.modSd d f).fresh = s.fresh := rfl
@[simp] theorem State.modSd_sems (s : State) (d : Nat) (f : SdX → SdX) : (s.modSd d f).sems = s.sems := rfl
@[simp] theorem State.modSd_ports (s : State) (d : Nat) (f : SdX → SdX) : (s.modSd d f).ports = s.ports := rfl
@[simp] theorem State.modSd_inbox (s : State) (d : Nat) (f : SdX → SdX) : (s.modSd d f).inbox = s.inbox := rfl
@[simp] theorem State.modSd_creds (s : State) (d : Nat) (f : SdX → SdX) : (s.modSd d f).creds = s.creds := rfl
@[simp] theorem State.modSd_poison (s : State) (d : Nat) (f : SdX → SdX) : (s.modSd d f).poison = s.poison := rfl
@[simp] theorem State.modSd_parity (s : State) (d : Nat) (f : SdX → SdX) : (s.modSd d f).parity = s.parity := rfl
@[simp] theorem State.modSd_acc (s : State) (d : Nat) (f : SdX → SdX) : (s.modSd d f).acc = s.acc := rfl
@[simp] theorem State.modSd_shScale (s : State) (d : Nat) (f : SdX → SdX) : (s.modSd d f).shScale = s.shScale := rfl
@[simp] theorem State.modSd_flips (s : State) (d : Nat) (f : SdX → SdX) : (s.modSd d f).flips = s.flips := rfl
@[simp] theorem State.modSd_wings (s : State) (d : Nat) (f : SdX → SdX) : (s.modSd d f).wings = s.wings := rfl
@[simp] theorem State.modSd_pins (s : State) (d : Nat) (f : SdX → SdX) : (s.modSd d f).pins = s.pins := rfl
@[simp] theorem State.modSd_rsp (s : State) (d : Nat) (f : SdX → SdX) : (s.modSd d f).rsp = s.rsp := rfl
@[simp] theorem State.modSd_pending (s : State) (d : Nat) (f : SdX → SdX) : (s.modSd d f).pending = s.pending := rfl
@[simp] theorem State.modLink_fld (s : State) (k : Nat) (f : LinkPort → LinkPort) : (s.modLink k f).fld = s.fld := rfl
@[simp] theorem State.modLink_mem (s : State) (k : Nat) (f : LinkPort → LinkPort) : (s.modLink k f).mem = s.mem := rfl
@[simp] theorem State.modLink_chans (s : State) (k : Nat) (f : LinkPort → LinkPort) : (s.modLink k f).chans = s.chans := rfl
@[simp] theorem State.modLink_lds (s : State) (k : Nat) (f : LinkPort → LinkPort) : (s.modLink k f).lds = s.lds := rfl
@[simp] theorem State.modLink_cds (s : State) (k : Nat) (f : LinkPort → LinkPort) : (s.modLink k f).cds = s.cds := rfl
@[simp] theorem State.modLink_agents (s : State) (k : Nat) (f : LinkPort → LinkPort) : (s.modLink k f).agents = s.agents := rfl
@[simp] theorem State.modLink_waitq (s : State) (k : Nat) (f : LinkPort → LinkPort) : (s.modLink k f).waitq = s.waitq := rfl
@[simp] theorem State.modLink_comErr (s : State) (k : Nat) (f : LinkPort → LinkPort) : (s.modLink k f).comErr = s.comErr := rfl
@[simp] theorem State.modLink_fresh (s : State) (k : Nat) (f : LinkPort → LinkPort) : (s.modLink k f).fresh = s.fresh := rfl
@[simp] theorem State.modLink_sems (s : State) (k : Nat) (f : LinkPort → LinkPort) : (s.modLink k f).sems = s.sems := rfl
@[simp] theorem State.modLink_inbox (s : State) (k : Nat) (f : LinkPort → LinkPort) : (s.modLink k f).inbox = s.inbox := rfl
@[simp] theorem State.modLink_creds (s : State) (k : Nat) (f : LinkPort → LinkPort) : (s.modLink k f).creds = s.creds := rfl
@[simp] theorem State.modLink_poison (s : State) (k : Nat) (f : LinkPort → LinkPort) : (s.modLink k f).poison = s.poison := rfl
@[simp] theorem State.modLink_parity (s : State) (k : Nat) (f : LinkPort → LinkPort) : (s.modLink k f).parity = s.parity := rfl
@[simp] theorem State.modLink_acc (s : State) (k : Nat) (f : LinkPort → LinkPort) : (s.modLink k f).acc = s.acc := rfl
@[simp] theorem State.modLink_shScale (s : State) (k : Nat) (f : LinkPort → LinkPort) : (s.modLink k f).shScale = s.shScale := rfl
@[simp] theorem State.modLink_flips (s : State) (k : Nat) (f : LinkPort → LinkPort) : (s.modLink k f).flips = s.flips := rfl
@[simp] theorem State.modLink_wings (s : State) (k : Nat) (f : LinkPort → LinkPort) : (s.modLink k f).wings = s.wings := rfl
@[simp] theorem State.modLink_sds (s : State) (k : Nat) (f : LinkPort → LinkPort) : (s.modLink k f).sds = s.sds := rfl
@[simp] theorem State.modLink_pins (s : State) (k : Nat) (f : LinkPort → LinkPort) : (s.modLink k f).pins = s.pins := rfl
@[simp] theorem State.modLink_rsp (s : State) (k : Nat) (f : LinkPort → LinkPort) : (s.modLink k f).rsp = s.rsp := rfl
@[simp] theorem State.modLink_pending (s : State) (k : Nat) (f : LinkPort → LinkPort) : (s.modLink k f).pending = s.pending := rfl
@[simp] theorem State.draw_fresh (s : State) (w : Nat) : (s.draw w).1.fresh = s.fresh + 1 := rfl
@[simp] theorem State.draw_fld (s : State) (w : Nat) : (s.draw w).1.fld = s.fld := rfl
@[simp] theorem State.draw_mem (s : State) (w : Nat) : (s.draw w).1.mem = s.mem := rfl
@[simp] theorem State.draw_chans (s : State) (w : Nat) : (s.draw w).1.chans = s.chans := rfl
@[simp] theorem State.draw_lds (s : State) (w : Nat) : (s.draw w).1.lds = s.lds := rfl
@[simp] theorem State.draw_cds (s : State) (w : Nat) : (s.draw w).1.cds = s.cds := rfl
@[simp] theorem State.draw_agents (s : State) (w : Nat) : (s.draw w).1.agents = s.agents := rfl
@[simp] theorem State.draw_waitq (s : State) (w : Nat) : (s.draw w).1.waitq = s.waitq := rfl
@[simp] theorem State.draw_comErr (s : State) (w : Nat) : (s.draw w).1.comErr = s.comErr := rfl
@[simp] theorem State.draw_sems (s : State) (w : Nat) : (s.draw w).1.sems = s.sems := rfl
@[simp] theorem State.draw_ports (s : State) (w : Nat) : (s.draw w).1.ports = s.ports := rfl
@[simp] theorem State.draw_inbox (s : State) (w : Nat) : (s.draw w).1.inbox = s.inbox := rfl
@[simp] theorem State.draw_creds (s : State) (w : Nat) : (s.draw w).1.creds = s.creds := rfl
@[simp] theorem State.draw_poison (s : State) (w : Nat) : (s.draw w).1.poison = s.poison := rfl
@[simp] theorem State.draw_parity (s : State) (w : Nat) : (s.draw w).1.parity = s.parity := rfl
@[simp] theorem State.draw_acc (s : State) (w : Nat) : (s.draw w).1.acc = s.acc := rfl
@[simp] theorem State.draw_shScale (s : State) (w : Nat) : (s.draw w).1.shScale = s.shScale := rfl
@[simp] theorem State.draw_flips (s : State) (w : Nat) : (s.draw w).1.flips = s.flips := rfl
@[simp] theorem State.draw_wings (s : State) (w : Nat) : (s.draw w).1.wings = s.wings := rfl
@[simp] theorem State.draw_sds (s : State) (w : Nat) : (s.draw w).1.sds = s.sds := rfl
@[simp] theorem State.draw_pins (s : State) (w : Nat) : (s.draw w).1.pins = s.pins := rfl
@[simp] theorem State.draw_rsp (s : State) (w : Nat) : (s.draw w).1.rsp = s.rsp := rfl
@[simp] theorem State.draw_pending (s : State) (w : Nat) : (s.draw w).1.pending = s.pending := rfl

end Sys2Proof.Machine
end

