-- ==== Sys2Proof/Laws/Store.lean ====
section
/-! SUPPORT. The laws of sparse data: a read after a write to the same key gives the value, a write leaves every
other key alone, and every operation keeps the canonical form. -/

namespace Sys2Proof.Machine

theorem Store.above_trans {ν : Type} {a b : Nat} {m : Store ν} (h : a < b)
    (hb : Store.above b m = true) : Store.above a m = true := by
  cases m with
  | nil => rfl
  | cons e m =>
    obtain ⟨k, v⟩ := e
    simp only [Store.above, decide_eq_true_eq] at *
    omega

theorem Store.get_insert_same {ν : Type} (d : ν) (m : Store ν) (a : Nat) (x : ν) :
    Store.get d (Store.insert m a x) a = x := by
  induction m with
  | nil => simp [Store.insert, Store.get]
  | cons e m ih =>
    obtain ⟨k, v⟩ := e
    unfold Store.insert
    split
    · simp [Store.get]
    · split
      · simp [Store.get]
      · next h => simp [Store.get, h, ih]

theorem Store.get_insert_other {ν : Type} (d : ν) (m : Store ν) (a b : Nat) (x : ν) (h : b ≠ a) :
    Store.get d (Store.insert m a x) b = Store.get d m b := by
  induction m with
  | nil => simp [Store.insert, Store.get, h]
  | cons e m ih =>
    obtain ⟨k, v⟩ := e
    unfold Store.insert
    split
    · simp [Store.get, h]
    · split
      · next h2 => subst h2; simp [Store.get, h]
      · simp only [Store.get, ih]

theorem Store.get_erase_same {ν : Type} (d : ν) (m : Store ν) (a : Nat) : Store.get d (Store.erase m a) a = d := by
  induction m with
  | nil => rfl
  | cons e m ih =>
    obtain ⟨k, v⟩ := e
    unfold Store.erase
    split
    · exact ih
    · next h => simp [Store.get, h, ih]

theorem Store.get_erase_other {ν : Type} (d : ν) (m : Store ν) (a b : Nat) (h : b ≠ a) :
    Store.get d (Store.erase m a) b = Store.get d m b := by
  induction m with
  | nil => rfl
  | cons e m ih =>
    obtain ⟨k, v⟩ := e
    unfold Store.erase
    split
    · next h2 => subst h2; simp [Store.get, h, ih]
    · simp only [Store.get, ih]

/-- A read after a write to the same key gives the value. -/
@[simp] theorem Store.get_put_same {ν : Type} [DecidableEq ν] (d : ν) (m : Store ν) (a : Nat) (x : ν) :
    Store.get d (Store.put d m a x) a = x := by
  unfold Store.put
  split
  · next h => rw [Store.get_erase_same, h]
  · exact Store.get_insert_same d m a x

/-- A write leaves every other key alone. -/
theorem Store.get_put_other {ν : Type} [DecidableEq ν] (d e : ν) (m : Store ν) (a b : Nat) (x : ν) (h : b ≠ a) :
    Store.get d (Store.put e m a x) b = Store.get d m b := by
  unfold Store.put
  split
  · exact Store.get_erase_other d m a b h
  · exact Store.get_insert_other d m a b x h

/-- A key outside a cleared range reads as before. -/
theorem Store.get_clear_other {ν : Type} (d : ν) (m : Store ν) (lo hi a : Nat) (h : a < lo ∨ hi ≤ a) :
    Store.get d (Store.clear m lo hi) a = Store.get d m a := by
  induction m with
  | nil => rfl
  | cons e m ih =>
    obtain ⟨k, v⟩ := e
    unfold Store.clear at *
    rw [List.filter_cons]
    split
    · simp only [Store.get, ih]
    · next h2 =>
      have : a ≠ k := by
        simp only [Bool.not_eq_true, Bool.not_eq_false', Bool.and_eq_true, decide_eq_true_eq] at h2
        omega
      simp only [Store.get, if_neg this, ih]
/-- A key in a cleared range reads as unlisted. -/
theorem Store.get_clear_same {ν : Type} (d : ν) (m : Store ν) (lo hi a : Nat) (h : lo ≤ a ∧ a < hi) :
    Store.get d (Store.clear m lo hi) a = d := by
  induction m with
  | nil => rfl
  | cons e m ih =>
    obtain ⟨k, v⟩ := e
    unfold Store.clear at *
    rw [List.filter_cons]
    split
    · next h2 =>
      have : a ≠ k := by
        simp only [Bool.not_eq_true', Bool.and_eq_false_iff, decide_eq_false_iff_not] at h2
        omega
      simp only [Store.get, if_neg this, ih]
    · exact ih

theorem Store.above_insert {ν : Type} {m : Store ν} {c a : Nat} {x : ν} (h : c < a)
    (hm : Store.above c m = true) : Store.above c (Store.insert m a x) = true := by
  cases m with
  | nil => simpa [Store.insert, Store.above] using h
  | cons e m =>
    obtain ⟨k, v⟩ := e
    simp only [Store.above, decide_eq_true_eq] at hm
    by_cases h1 : a < k
    · simpa [Store.insert, h1, Store.above] using h
    · by_cases h2 : a = k
      · simpa [Store.insert, h2, Store.above] using hm
      · simpa [Store.insert, h1, h2, Store.above] using hm

theorem Store.sorted_insert {ν : Type} (m : Store ν) (a : Nat) (x : ν)
    (hs : Store.sorted m = true) : Store.sorted (Store.insert m a x) = true := by
  induction m with
  | nil => rfl
  | cons e m ih =>
    obtain ⟨k, v⟩ := e
    have hs' := hs
    simp only [Store.sorted, Bool.and_eq_true] at hs
    by_cases h1 : a < k
    · rw [Store.insert, if_pos h1]
      show (decide (a < k) && Store.sorted ((k, v) :: m)) = true
      rw [hs', decide_eq_true h1]; rfl
    · by_cases h2 : a = k
      · subst h2
        simpa [Store.insert, Store.sorted] using hs
      · simp only [Store.insert, h1, h2, if_false, Store.sorted, Bool.and_eq_true]
        exact ⟨Store.above_insert (by omega) hs.1, ih hs.2⟩

theorem Store.above_erase {ν : Type} {m : Store ν} {c a : Nat} (hs : Store.sorted m = true)
    (hm : Store.above c m = true) : Store.above c (Store.erase m a) = true := by
  induction m with
  | nil => rfl
  | cons e m ih =>
    obtain ⟨k, v⟩ := e
    simp only [Store.above, decide_eq_true_eq] at hm
    simp only [Store.sorted, Bool.and_eq_true] at hs
    unfold Store.erase
    split
    · exact ih hs.2 (Store.above_trans hm hs.1)
    · simpa [Store.above] using hm

theorem Store.sorted_erase {ν : Type} (m : Store ν) (a : Nat)
    (hs : Store.sorted m = true) : Store.sorted (Store.erase m a) = true := by
  induction m with
  | nil => rfl
  | cons e m ih =>
    obtain ⟨k, v⟩ := e
    simp only [Store.sorted, Bool.and_eq_true] at hs
    unfold Store.erase
    split
    · exact ih hs.2
    · simp only [Store.sorted, Bool.and_eq_true]
      exact ⟨Store.above_erase hs.2 hs.1, ih hs.2⟩

/-- A write keeps the keys strictly rising. -/
theorem Store.sorted_put {ν : Type} [DecidableEq ν] (d : ν) (m : Store ν) (a : Nat) (x : ν)
    (hs : Store.sorted m = true) : Store.sorted (Store.put d m a x) = true := by
  unfold Store.put
  split
  · exact Store.sorted_erase m a hs
  · exact Store.sorted_insert m a x hs

theorem Store.above_filter {ν : Type} (p : Nat × ν → Bool) (m : Store ν) (a : Nat)
    (hs : Store.sorted m = true) (h : Store.above a m = true) : Store.above a (m.filter p) = true := by
  induction m with
  | nil => rfl
  | cons e m ih =>
    obtain ⟨k, v⟩ := e
    simp only [Store.sorted, Bool.and_eq_true] at hs
    simp only [Store.above, decide_eq_true_eq] at h
    rw [List.filter_cons]
    split
    · simpa [Store.above] using h
    · exact ih hs.2 (Store.above_trans h hs.1)

/-- Clearing a range keeps the keys strictly rising. -/
theorem Store.sorted_clear {ν : Type} (m : Store ν) (lo hi : Nat)
    (hs : Store.sorted m = true) : Store.sorted (Store.clear m lo hi) = true := by
  unfold Store.clear
  induction m with
  | nil => rfl
  | cons e m ih =>
    obtain ⟨k, v⟩ := e
    simp only [Store.sorted, Bool.and_eq_true] at hs
    rw [List.filter_cons]
    split
    · simp only [Store.sorted, Bool.and_eq_true]
      exact ⟨Store.above_filter _ m k hs.2 hs.1, ih hs.2⟩
    · exact ih hs.2

theorem Store.mem_erase {ν : Type} {m : Store ν} {a : Nat} {e : Nat × ν} (h : e ∈ Store.erase m a) : e ∈ m := by
  induction m with
  | nil => simp [Store.erase] at h
  | cons f m ih =>
    obtain ⟨k, v⟩ := f
    unfold Store.erase at h
    split at h
    · exact List.mem_cons_of_mem _ (ih h)
    · rcases List.mem_cons.mp h with h | h
      · simp [h]
      · exact List.mem_cons_of_mem _ (ih h)

theorem Store.mem_insert {ν : Type} {m : Store ν} {a : Nat} {x : ν} {e : Nat × ν}
    (h : e ∈ Store.insert m a x) : e = (a, x) ∨ e ∈ m := by
  induction m with
  | nil => left; simpa [Store.insert] using h
  | cons f m ih =>
    obtain ⟨k, v⟩ := f
    unfold Store.insert at h
    split at h
    · simpa using h
    · split at h
      · rcases List.mem_cons.mp h with h | h
        · exact .inl h
        · exact .inr (List.mem_cons_of_mem _ h)
      · rcases List.mem_cons.mp h with h | h
        · right; simp [h]
        · rcases ih h with h | h
          · exact .inl h
          · exact .inr (List.mem_cons_of_mem _ h)

/-- A write keeps the canonical form. -/
theorem Store.wf_put {ν : Type} [DecidableEq ν] (d : ν) (m : Store ν) (a : Nat) (x : ν)
    (h : Store.wf d m = true) : Store.wf d (Store.put d m a x) = true := by
  simp only [Store.wf, Bool.and_eq_true, List.all_eq_true, decide_eq_true_eq] at *
  refine ⟨Store.sorted_put d m a x h.1, ?_⟩
  intro e he
  unfold Store.put at he
  split at he
  · exact h.2 e (Store.mem_erase he)
  · rcases Store.mem_insert he with he | he
    · subst he; assumption
    · exact h.2 e he

/-- Clearing a range keeps the canonical form. -/
theorem Store.wf_clear {ν : Type} [DecidableEq ν] (d : ν) (m : Store ν) (lo hi : Nat)
    (h : Store.wf d m = true) : Store.wf d (Store.clear m lo hi) = true := by
  simp only [Store.wf, Bool.and_eq_true, List.all_eq_true, decide_eq_true_eq] at *
  exact ⟨Store.sorted_clear m lo hi h.1, fun e he => h.2 e (List.mem_of_mem_filter he)⟩

end Sys2Proof.Machine
end

