-- ==== Sys2Proof/Laws/Fields.lean ====
section
/-! SUPPORT. What reading gives after a write: fields of registers, records by number, bytes of memory; and what the end
of a command (State.settle) changes. -/

namespace Sys2Proof.Machine

/-! ### Fields -/

/-- A field reads as it was written, cut to its width. -/
@[simp] theorem State.rd_wr_same (s : State) (b : Nat) (f : Fld) (v : Nat) :
    (s.wr b f v).rd b f = v % 2 ^ (f.hi + 1 - f.lo) := by
  simp [State.rd, State.wr, Store.get_put_same]

/-- A write leaves every other field alone. -/
theorem State.rd_wr_other (s : State) (b c : Nat) (f g : Fld) (v : Nat) (h : fkey c g ≠ fkey b f) :
    (s.wr b f v).rd c g = s.rd c g := by
  simp [State.rd, State.wr, Store.get_put_other _ _ _ _ _ _ h]

/-- A write leaves every other key of the field store alone. -/
theorem State.get_wr_other (s : State) (b : Nat) (f : Fld) (v d k : Nat) (h : k ≠ fkey b f) :
    Store.get d (s.wr b f v).fld k = Store.get d s.fld k := by
  simp [State.wr, Store.get_put_other _ _ _ _ _ _ h]

/-- Two fields at different addresses of one block have different keys. -/
theorem fkey_ne_of_off (b : Nat) (f g : Fld) (hf : f.lo < 32) (hg : g.lo < 32) (h : f.off ≠ g.off) :
    fkey b f ≠ fkey b g := by
  unfold fkey; omega
/-- Two fields of one register with different low bits have different keys. -/
theorem fkey_ne_of_lo (b : Nat) (f g : Fld) (hf : f.lo < 32) (hg : g.lo < 32) (h : f.lo ≠ g.lo) :
    fkey b f ≠ fkey b g := by
  unfold fkey; omega

/-- Reading a field looks at the field store alone. -/
theorem State.rd_congr {s t : State} (h : s.fld = t.fld) (b : Nat) (f : Fld) : s.rd b f = t.rd b f := by
  simp [State.rd, h]

@[simp] theorem State.rd_modAgent (s : State) (a : Nat) (g : Agent → Agent) (b : Nat) (f : Fld) :
    (s.modAgent a g).rd b f = s.rd b f := rfl
@[simp] theorem State.rd_modChan (s : State) (a : Nat) (g : Chan → Chan) (b : Nat) (f : Fld) :
    (s.modChan a g).rd b f = s.rd b f := rfl
@[simp] theorem State.rd_modLd (s : State) (a : Nat) (g : LdX → LdX) (b : Nat) (f : Fld) :
    (s.modLd a g).rd b f = s.rd b f := rfl
@[simp] theorem State.rd_modCd (s : State) (a : Nat) (g : CdX → CdX) (b : Nat) (f : Fld) :
    (s.modCd a g).rd b f = s.rd b f := rfl
@[simp] theorem State.rd_modWing (s : State) (a : Nat) (g : WingX → WingX) (b : Nat) (f : Fld) :
    (s.modWing a g).rd b f = s.rd b f := rfl
@[simp] theorem State.rd_modSd (s : State) (a : Nat) (g : SdX → SdX) (b : Nat) (f : Fld) :
    (s.modSd a g).rd b f = s.rd b f := rfl
@[simp] theorem State.rd_modLink (s : State) (a : Nat) (g : LinkPort → LinkPort) (b : Nat) (f : Fld) :
    (s.modLink a g).rd b f = s.rd b f := rfl
@[simp] theorem State.rd_stb (s : State) (a : Nat) (x : Byte) (b : Nat) (f : Fld) :
    (s.stb a x).rd b f = s.rd b f := rfl

/-! ### Records by number -/

@[simp] theorem State.agent_modAgent_same (s : State) (a : Nat) (f : Agent → Agent) :
    (s.modAgent a f).agent a = f (s.agent a) := by
  simp [State.agent, State.modAgent, Store.get_put_same]
theorem State.agent_modAgent_other (s : State) (a b : Nat) (f : Agent → Agent) (h : b ≠ a) :
    (s.modAgent a f).agent b = s.agent b := by
  simp [State.agent, State.modAgent, Store.get_put_other _ _ _ _ _ _ h]
@[simp] theorem State.chan_modChan_same (s : State) (a : Nat) (f : Chan → Chan) :
    (s.modChan a f).chan a = f (s.chan a) := by
  simp [State.chan, State.modChan, Store.get_put_same]
@[simp] theorem State.ldx_modLd_same (s : State) (a : Nat) (f : LdX → LdX) : (s.modLd a f).ldx a = f (s.ldx a) := by
  simp [State.ldx, State.modLd, Store.get_put_same]
@[simp] theorem State.cdx_modCd_same (s : State) (a : Nat) (f : CdX → CdX) : (s.modCd a f).cdx a = f (s.cdx a) := by
  simp [State.cdx, State.modCd, Store.get_put_same]
theorem State.cdx_modCd_other (s : State) (a b : Nat) (f : CdX → CdX) (h : b ≠ a) :
    (s.modCd a f).cdx b = s.cdx b := by
  simp [State.cdx, State.modCd, Store.get_put_other _ _ _ _ _ _ h]
@[simp] theorem State.wingx_modWing_same (s : State) (a : Nat) (f : WingX → WingX) :
    (s.modWing a f).wingx a = f (s.wingx a) := by
  simp [State.wingx, State.modWing, Store.get_put_same]
@[simp] theorem State.sdx_modSd_same (s : State) (a : Nat) (f : SdX → SdX) : (s.modSd a f).sdx a = f (s.sdx a) := by
  simp [State.sdx, State.modSd, Store.get_put_same]
@[simp] theorem State.port_modLink_same (s : State) (a : Nat) (f : LinkPort → LinkPort) :
    (s.modLink a f).port a = f (s.port a) := by
  simp [State.port, State.modLink, Store.get_put_same]

/-! ### Memory -/

/-- A byte reads as it was written. -/
@[simp] theorem State.ldb_stb_same (s : State) (a : Nat) (x : Byte) : (s.stb a x).ldb a = x := by
  simp [State.ldb, State.stb, Store.get_put_same]
/-- A write leaves every other byte alone. -/
theorem State.ldb_stb_other (s : State) (a b : Nat) (x : Byte) (h : b ≠ a) : (s.stb a x).ldb b = s.ldb b := by
  simp [State.ldb, State.stb, Store.get_put_other _ _ _ _ _ _ h]
/-- A run of bytes leaves every byte outside it alone. -/
theorem State.ldb_stn_other (s : State) (a b : Nat) (l : List Byte) (h : b < a ∨ a + l.length ≤ b) :
    (s.stn a l).ldb b = s.ldb b := by
  induction l generalizing s a with
  | nil => rfl
  | cons x xs ih =>
    simp only [State.stn, List.length_cons] at *
    rw [ih _ _ (by omega), State.ldb_stb_other _ _ _ _ (by omega)]

/-! ### The end of a command -/

theorem State.settleDie_get (s : State) (n d k : Nat) (h1 : k ≠ fkey (cd n) R.INT_STAT_ASSERTED)
    (h2 : k ≠ fkey (cd n) R.INT_CNT_ASSERTS) : Store.get d (s.settleDie n).fld k = Store.get d s.fld k := by
  unfold State.settleDie
  split
  · split
    · rfl
    · simp only [State.inc]; rw [State.get_wr_other _ _ _ _ _ _ h2, State.get_wr_other _ _ _ _ _ _ h1]
  · rw [State.get_wr_other _ _ _ _ _ _ h1]
theorem State.wdtFreeze_get (s : State) (n d k : Nat) (h : k ≠ fkey (cd n) R.WDT_STAT_FROZEN) :
    Store.get d (s.wdtFreeze n).fld k = Store.get d s.fld k := by
  simp only [State.wdtFreeze, State.wrb]; rw [State.get_wr_other _ _ _ _ _ _ h]
theorem State.padSync_get (s : State) (n d k : Nat)
    (h : k ∉ [R.PAD_STAT_PERST, R.PAD_STAT_TAMPER, R.PAD_STAT_LIMP, R.PAD_STAT_MUTE, R.PAD_STAT_WDT_IN].map (fkey (cd n))) :
    Store.get d (s.padSync n).fld k = Store.get d s.fld k := by
  simp only [List.map_cons, List.map_nil, List.mem_cons, List.not_mem_nil, or_false, not_or] at h
  obtain ⟨h1, h2, h3, h4, h5⟩ := h
  unfold State.padSync
  split
  · simp only [State.wrb]
    rw [State.get_wr_other _ _ _ _ _ _ h5, State.get_wr_other _ _ _ _ _ _ h4, State.get_wr_other _ _ _ _ _ _ h3,
      State.get_wr_other _ _ _ _ _ _ h2, State.get_wr_other _ _ _ _ _ _ h1]
  · rfl

/-- The end of a command changes no other field. -/
theorem State.settle_get (s : State) (d k : Nat) (h : k ∉ settleKeys) :
    Store.get d s.settle.fld k = Store.get d s.fld k := by
  simp only [settleKeys, List.flatMap_cons, List.flatMap_nil, List.map_cons, List.map_nil, List.append_nil,
    List.cons_append, List.nil_append, List.mem_cons, List.not_mem_nil, or_false, not_or] at h
  obtain ⟨h1, h2, h3, h4, h5, h6, h7, h8, h9, h10, h11, h12, h13, h14, h15, h16⟩ := h
  unfold State.settle
  rw [State.padSync_get, State.padSync_get, State.wdtFreeze_get _ _ _ _ h11, State.wdtFreeze_get _ _ _ _ h3,
    State.settleDie_get _ _ _ _ h9 h10, State.settleDie_get _ _ _ _ h1 h2]
  · simp_all
  · simp_all
theorem State.settle_rd (s : State) (b : Nat) (f : Fld) (h : fkey b f ∉ settleKeys) : s.settle.rd b f = s.rd b f :=
  s.settle_get _ _ h

/-- The end of a command changes the field store alone: any part of the state that `wr` leaves alone it leaves alone. -/
theorem State.settle_keeps {α : Type} (p : State → α) (h : ∀ s b f v, p (State.wr s b f v) = p s) (s : State) :
    p s.settle = p s := by
  have hd : ∀ s n, p (State.settleDie s n) = p s := by
    intro s n; unfold State.settleDie; split
    · split
      · rfl
      · simp only [State.inc, h]
    · rw [h]
  have hw : ∀ s n, p (State.wdtFreeze s n) = p s := fun s n => h _ _ _ _
  have hp : ∀ s n, p (State.padSync s n) = p s := by
    intro s n; unfold State.padSync; split
    · simp only [State.wrb, h]
    · rfl
  unfold State.settle
  rw [hp, hp, hw, hw, hd, hd]
@[simp] theorem State.settle_mem (s : State) : s.settle.mem = s.mem := State.settle_keeps (·.mem) (fun _ _ _ _ => rfl) s
@[simp] theorem State.settle_chans (s : State) : s.settle.chans = s.chans := State.settle_keeps (·.chans) (fun _ _ _ _ => rfl) s
@[simp] theorem State.settle_lds (s : State) : s.settle.lds = s.lds := State.settle_keeps (·.lds) (fun _ _ _ _ => rfl) s
@[simp] theorem State.settle_cds (s : State) : s.settle.cds = s.cds := State.settle_keeps (·.cds) (fun _ _ _ _ => rfl) s
@[simp] theorem State.settle_agents (s : State) : s.settle.agents = s.agents := State.settle_keeps (·.agents) (fun _ _ _ _ => rfl) s
@[simp] theorem State.settle_waitq (s : State) : s.settle.waitq = s.waitq := State.settle_keeps (·.waitq) (fun _ _ _ _ => rfl) s
@[simp] theorem State.settle_comErr (s : State) : s.settle.comErr = s.comErr := State.settle_keeps (·.comErr) (fun _ _ _ _ => rfl) s
@[simp] theorem State.settle_fresh (s : State) : s.settle.fresh = s.fresh := State.settle_keeps (·.fresh) (fun _ _ _ _ => rfl) s
@[simp] theorem State.settle_sems (s : State) : s.settle.sems = s.sems := State.settle_keeps (·.sems) (fun _ _ _ _ => rfl) s
@[simp] theorem State.settle_ports (s : State) : s.settle.ports = s.ports := State.settle_keeps (·.ports) (fun _ _ _ _ => rfl) s
@[simp] theorem State.settle_inbox (s : State) : s.settle.inbox = s.inbox := State.settle_keeps (·.inbox) (fun _ _ _ _ => rfl) s
@[simp] theorem State.settle_creds (s : State) : s.settle.creds = s.creds := State.settle_keeps (·.creds) (fun _ _ _ _ => rfl) s
@[simp] theorem State.settle_poison (s : State) : s.settle.poison = s.poison := State.settle_keeps (·.poison) (fun _ _ _ _ => rfl) s
@[simp] theorem State.settle_parity (s : State) : s.settle.parity = s.parity := State.settle_keeps (·.parity) (fun _ _ _ _ => rfl) s
@[simp] theorem State.settle_acc (s : State) : s.settle.acc = s.acc := State.settle_keeps (·.acc) (fun _ _ _ _ => rfl) s
@[simp] theorem State.settle_shScale (s : State) : s.settle.shScale = s.shScale := State.settle_keeps (·.shScale) (fun _ _ _ _ => rfl) s
@[simp] theorem State.settle_flips (s : State) : s.settle.flips = s.flips := State.settle_keeps (·.flips) (fun _ _ _ _ => rfl) s
@[simp] theorem State.settle_wings (s : State) : s.settle.wings = s.wings := State.settle_keeps (·.wings) (fun _ _ _ _ => rfl) s
@[simp] theorem State.settle_sds (s : State) : s.settle.sds = s.sds := State.settle_keeps (·.sds) (fun _ _ _ _ => rfl) s
@[simp] theorem State.settle_pins (s : State) : s.settle.pins = s.pins := State.settle_keeps (·.pins) (fun _ _ _ _ => rfl) s
@[simp] theorem State.settle_rsp (s : State) : s.settle.rsp = s.rsp := State.settle_keeps (·.rsp) (fun _ _ _ _ => rfl) s
@[simp] theorem State.settle_pending (s : State) : s.settle.pending = s.pending := State.settle_keeps (·.pending) (fun _ _ _ _ => rfl) s

end Sys2Proof.Machine
end

