-- ==== Sys2Proof/Laws/Frames.lean ====
section
/-! SUPPORT. Frames: what an operation can change, said once per shared operation. `Within W p s t` says that going from
`s` to `t` changes no field with a key outside `W`, and nothing that `p` shows of the state. -/

namespace Sys2Proof.Machine

/-- From `s` to `t` only fields with keys in `W` change, and `p` shows the same of both. -/
def Within {α : Type} (W : Nat → Prop) (p : State → α) (s t : State) : Prop :=
  p t = p s ∧ ∀ d k, ¬ W k → Store.get d t.fld k = Store.get d s.fld k

variable {α : Type} {W : Nat → Prop} {p : State → α} {s t u : State}

theorem Within.refl (W : Nat → Prop) (p : State → α) (s : State) : Within W p s s := ⟨rfl, fun _ _ _ => rfl⟩
theorem Within.trans (h : Within W p s t) (h' : Within W p t u) : Within W p s u :=
  ⟨h'.1.trans h.1, fun d k hk => (h'.2 d k hk).trans (h.2 d k hk)⟩
theorem Within.mono {V : Nat → Prop} (h : Within V p s t) (hv : ∀ k, V k → W k) : Within W p s t :=
  ⟨h.1, fun d k hk => h.2 d k (fun hv' => hk (hv k hv'))⟩
/-- A write of a field of `W`. -/
theorem Within.wr (h : Within W p s t) (b : Nat) (f : Fld) (v : Nat) (hp : p (t.wr b f v) = p t)
    (hk : W ((b + f.off) * 32 + f.lo)) : Within W p s (t.wr b f v) :=
  ⟨hp.trans h.1, fun d k hk' => (State.get_wr_other t b f v d k (fun e => hk' (e ▸ hk))).trans (h.2 d k hk')⟩
/-- A change that leaves every field alone. -/
theorem Within.other (h : Within W p s t) (hp : p u = p t) (hf : u.fld = t.fld) : Within W p s u :=
  ⟨hp.trans h.1, fun d k hk => by rw [hf]; exact h.2 d k hk⟩
theorem Within.ite (c : Prop) [Decidable c] (h : c → Within W p s t) (h' : ¬ c → Within W p s u) :
    Within W p s (if c then t else u) := by
  split
  · exact h ‹_›
  · exact h' ‹_›
/-- A run over a list, each turn of which stays within. -/
theorem Within.foldl {β : Type} (g : State → β → State) (l : List β) (h : Within W p s t)
    (hg : ∀ u x, x ∈ l → Within W p u (g u x)) : Within W p s (l.foldl g t) := by
  induction l generalizing t with
  | nil => exact h
  | cons x xs ih =>
    exact ih (h.trans (hg t x (by simp))) (fun u y hy => hg u y (by simp [hy]))
/-- A range of registers goes back to reset. -/
theorem Within.clearRegs (h : Within W p s t) (lo hi : Nat) (hp : p (t.clearRegs lo hi) = p t)
    (hk : ∀ k, lo * 32 ≤ k → k < hi * 32 → W k) : Within W p s (t.clearRegs lo hi) := by
  refine ⟨hp.trans h.1, fun d k hk' => Eq.trans ?_ (h.2 d k hk')⟩
  refine Store.get_clear_other d t.fld _ _ k ?_
  have := hk k
  by_contra hc
  exact hk' (this (by omega) (by omega))
/-- What holds of a field outside `W`. -/
theorem Within.rd (h : Within W p s t) (b : Nat) (f : Fld) (hk : ¬ W ((b + f.off) * 32 + f.lo)) : t.rd b f = s.rd b f :=
  h.2 _ _ hk

/-- A field that counts. -/
theorem Within.inc (h : Within W p s t) (b : Nat) (f : Fld) (hp : ∀ v, p (t.wr b f v) = p t)
    (hk : W ((b + f.off) * 32 + f.lo)) : Within W p s (t.inc b f) := h.wr b f _ (hp _) hk
/-- Cause bits of one register with its COUNT (R11, R672). -/
theorem Within.raiseIn (h : Within W p s t) (b : Nat) (cnt : Fld) (l : List (Fld × Nat))
    (hp : ∀ u b f v, p (State.wr u b f v) = p u) (hc : W ((b + cnt.off) * 32 + cnt.lo))
    (hl : ∀ x ∈ l, W ((b + x.1.off) * 32 + x.1.lo)) : Within W p s (t.raiseIn b cnt l) := by
  have h' : Within W p s (l.foldl (fun s x => s.wr b x.1 (s.rd b x.1 ||| x.2)) t) :=
    h.foldl _ _ (fun u x hx => (Within.refl W p u).wr _ _ _ (hp _ _ _ _) (hl x hx))
  unfold State.raiseIn
  dsimp only
  split
  · exact h'.inc _ _ (fun _ => hp _ _ _ _) hc
  · exact h'

end Sys2Proof.Machine
end

