-- ==== Sys2Proof/Laws/Channels.lean ====
section
/-! SUPPORT. Load channels: what each shared operation of Machine/Channels.lean can change. Every one of them writes
registers of its own channel, and for a ganged pair of the pair, and the channel's record, and nothing else. -/

namespace Sys2Proof.Machine

/-- Keys of the registers of channel `c` of Load die `d` (64 bytes a channel, R45). -/
def chanRegs (d c k : Nat) : Prop := inRegs (ld d + 0x40 + 64 * c) (ld d + 0x80 + 64 * c) k

variable {α : Type} {p : State → α}

theorem State.cwr_within (hw : ∀ s b f v, p (State.wr s b f v) = p s) (s : State) (d c : Nat) (f : Fld) (v : Nat)
    (hs : f.stride = 64) (ho : 64 ≤ f.off ∧ f.off < 128) (hl : f.lo < 32) :
    Within (chanRegs d c) p s (s.cwr d c f v) := by
  refine (Within.refl _ _ _).wr _ _ _ (hw _ _ _ _) ?_
  simp only [chanRegs, inRegs, Fld.at, hs]
  omega

end Sys2Proof.Machine
end

