-- ==== Sys2Proof/Laws/Memory.lean ====
section
/-! SUPPORT. Every operation over the memories keeps their canonical form, and the memories after reset have it. -/

namespace Sys2Proof.Machine

/-- A value that differs from the default keeps the form when it is put in as it is. -/
theorem Store.wf_insert {ν : Type} [DecidableEq ν] (d : ν) (m : Store ν) (a : Nat) (x : ν) (hx : x ≠ d)
    (h : Store.wf d m = true) : Store.wf d (Store.insert m a x) = true := by
  simpa [Store.put, hx] using Store.wf_put d m a x h

/-- A copy of entries that differ from the default keeps the form. -/
theorem Store.wf_copy {ν : Type} [DecidableEq ν] (d : ν) (f : Nat → Nat) (l m : Store ν)
    (hl : ∀ e ∈ l, e.2 ≠ d) (h : Store.wf d m = true) :
    Store.wf d (l.foldl (fun a e => Store.insert a (f e.1) e.2) m) = true := by
  induction l generalizing m with
  | nil => exact h
  | cons e l ih =>
    exact ih _ (fun x hx => hl x (List.mem_cons_of_mem _ hx)) (Store.wf_insert d m _ _ (hl e (by simp)) h)

/-- Copying a range over another keeps the form. -/
theorem Store.wf_copyTo {ν : Type} [DecidableEq ν] (d : ν) (m : Store ν) (lo hi p : Nat)
    (h : Store.wf d m = true) : Store.wf d (Store.copyTo m lo hi p) = true := by
  have hm : ∀ e ∈ m, e.2 ≠ d := by
    simp only [Store.wf, Bool.and_eq_true, List.all_eq_true, decide_eq_true_eq] at h
    exact h.2
  exact Store.wf_copy d (fun k => p + (k - lo)) _ _ (fun e he => hm e (List.mem_filter.1 he).1)
    (Store.wf_clear d m _ _ h)

theorem State.stb_wf (s : State) (a : Nat) (x : Byte) (h : Memory.wf s.mem = true) :
    Memory.wf (s.stb a x).mem = true := Store.wf_put 0 s.mem a x h

theorem State.stn_wf (l : List Byte) (s : State) (a : Nat) (h : Memory.wf s.mem = true) :
    Memory.wf (s.stn a l).mem = true := by
  induction l generalizing s a with
  | nil => exact h
  | cons x l ih => exact ih _ _ (s.stb_wf a x h)

theorem State.stw_wf (s : State) (a n v : Nat) (h : Memory.wf s.mem = true) :
    Memory.wf (s.stw a n v).mem = true := State.stn_wf _ s a h

theorem State.clearMem_wf (s : State) (lo hi : Nat) (h : Memory.wf s.mem = true) :
    Memory.wf (s.clearMem lo hi).mem = true := Store.wf_clear 0 s.mem lo hi h

theorem State.reset_mem_wf : Memory.wf State.reset.mem = true := rfl

end Sys2Proof.Machine
end

