-- ==== Sys2Proof/WellFormed.lean ====
section
/-! DEFINITION. Commands whose operands fit where the device holds them: the widths of registers, frames, samples and
codes (chapters 7, 13, 14 and 15), and an extension word only with X (R281). A command that is not well formed stands for
nothing that can reach the device. -/

namespace Sys2Proof

/-- A number fits in `w` bits. -/
def fitsN (w n : Nat) : Bool := decide (n < 2 ^ w)
/-- Every number of a list fits in `w` bits. -/
def fitsAll (w : Nat) (l : List Nat) : Bool := l.all (fitsN w)
/-- Every answer that is there fits in `w` bits. -/
def fitsOpt (w : Nat) (l : List (Option Nat)) : Bool := l.all (fun o => o.all (fitsN w))
/-- Every number of every pair fits in 32 bits. -/
def fitsPairs (l : List (Nat × Nat)) : Bool := l.all (fun p => fitsN 32 p.1 && fitsN 32 p.2)

/-- An instruction has an extension word only where X is 1 (R281). -/
def Ins.wf (i : Ins) : Bool := i.x || i.ext == 0
/-- The surroundings of a bus access fit. -/
def BusIn.wf (x : BusIn) : Bool := fitsN 27 x.moved && x.hist.all (fitsAll 8) && fitsN 32 x.same && fitsPairs x.upset
/-- A frame holds eight microphones and beams of at most 160 samples of 16 bits, and 8-bit level codes. -/
def AudioIn.wf (x : AudioIn) : Bool :=
  x.mics.all (fun l => decide (l.length ≤ 160) && fitsAll 16 l) && x.beams.all (fun l => decide (l.length ≤ 160) && fitsAll 16 l)
    && decide (x.mics.length ≤ 8 ∧ x.beams.length ≤ 8) && fitsN 8 x.es && fitsAll 8 x.bands && x.history.all (fitsAll 8)

/-- The command is well formed. -/
def Instr.wf : Instr → Bool
  | .registerWrite _ _ _ size v x => fitsN (8 * size.val) v && x.wf
  | .vbatRise _ _ => true
  | .vaonLoss => true
  | .bootDomainClocked _ _ _ => true
  | .shelfListAdopt _ => true
  | .activeClaim _ => true
  | .cd1ClaimTimeout => true
  | .firmwareLoadDone _ => true
  | .bootfailYield _ => true
  | .hostfwVerify _ => true
  | .fallbackRequest _ => true
  | .hostWaitExpiry _ => true
  | .fallbackLoadDone _ => true
  | .perstNRise => true
  | .perstNLow => true
  | .pcieLinkUp _ => true
  | .stackPowerStart _ modes => fitsOpt 8 modes
  | .pmbusStatusPoll _ words => fitsOpt 16 words
  | .railFailTimeout _ _ => true
  | .readingRoomSweepDone _ => true
  | .wimgStart _ _ => true
  | .wimgAbort _ => true
  | .wimgLoadBegin _ _ => true
  | .wimgChunkDone _ _ => true
  | .wimgLoadEnd _ => true
  | .pwrReqDoze _ => true
  | .pwrReqStandby _ => true
  | .pwrReqListen _ => true
  | .pwrReqServe _ => true
  | .wakeNLow => true
  | .alarmExpiry => true
  | .loadDieWakeEvent _ => true
  | .flRead _ _ _ => true
  | .flProgram _ _ _ => true
  | .flEraseSector _ _ _ => true
  | .flEraseBlock _ _ _ => true
  | .flashOpDone _ _ => true
  | .add _ _ ins => ins.wf
  | .sub _ _ ins => ins.wf
  | .mul _ _ ins => ins.wf
  | .and _ _ ins => ins.wf
  | .or _ _ ins => ins.wf
  | .xor _ _ ins => ins.wf
  | .shl _ _ ins => ins.wf
  | .shr _ _ ins => ins.wf
  | .cmp _ _ ins => ins.wf
  | .li _ ins => ins.wf
  | .ld _ ins x => ins.wf && x.wf
  | .st _ ins x => ins.wf && x.wf
  | .b _ ins => ins.wf
  | .bc _ ins => ins.wf
  | .call _ ins => ins.wf
  | .callRemote _ ins => ins.wf
  | .ret _ ins => ins.wf
  | .loop _ ins => ins.wf
  | .yield _ ins => ins.wf
  | .halt _ ins => ins.wf
  | .trap _ ins => ins.wf
  | .mvm _ ins upset => ins.wf && fitsPairs upset
  | .accrd _ ins => ins.wf
  | .accclr _ ins => ins.wf
  | .scaleget _ ins => ins.wf
  | .vld _ ins => ins.wf
  | .vldWiden _ ins => ins.wf
  | .vst _ ins => ins.wf
  | .vadd _ ins => ins.wf
  | .vmul _ ins => ins.wf
  | .vfma _ ins => ins.wf
  | .vmax _ ins => ins.wf
  | .vsum _ ins => ins.wf
  | .vexp _ ins => ins.wf
  | .vrsq _ ins => ins.wf
  | .vrcp _ ins => ins.wf
  | .vcvtBf16ToI16 _ ins => ins.wf
  | .vcvtI16ToBf16 _ ins => ins.wf
  | .vcvtFp32ToBf16 _ ins => ins.wf
  | .vcvtBf16ToFp32 _ ins => ins.wf
  | .vqnt _ ins => ins.wf
  | .vtbl _ ins => ins.wf
  | .mov _ ins => ins.wf
  | .movt _ ins => ins.wf
  | .reshard _ ins => ins.wf
  | .park _ ins => ins.wf
  | .parkComplete _ _ => true
  | .unpark _ ins => ins.wf
  | .unparkChunkVerified _ _ => true
  | .semsig _ ins => ins.wf
  | .semsigRemote _ ins => ins.wf
  | .semwait _ ins => ins.wf
  | .semwt _ ins => ins.wf
  | .semwtTimeout _ => true
  | .semaphoreWaitDone _ => true
  | .fence _ ins => ins.wf
  | .credreq _ ins => ins.wf
  | .credgrant _ ins => ins.wf
  | .credrecl _ ins => ins.wf
  | .wrrem _ ins => ins.wf
  | .enq _ ins => ins.wf
  | .cancel _ ins => ins.wf
  | .cmpl _ ins => ins.wf
  | .ldsetOn _ ins => ins.wf
  | .ldsetOff _ ins => ins.wf
  | .ldsetRelimit _ ins => ins.wf
  | .ldgetState _ ins => ins.wf
  | .ldgetCurrent _ ins => ins.wf
  | .ldgetGrant _ ins => ins.wf
  | .budreq _ ins => ins.wf
  | .budrel _ ins => ins.wf
  | .rand _ ins => ins.wf
  | .seal _ ins => ins.wf
  | .unseal _ ins => ins.wf
  | .kdec _ ins => ins.wf
  | .engineInstrComplete _ _ => true
  | .trapDrainDone _ => true
  | .stopTimeout _ => true
  | .workStart _ => true
  | .workLoadprog _ => true
  | .workStop _ => true
  | .workClaim _ => true
  | .wingProgramStart _ _ => true
  | .doneReceive _ => true
  | .stopNorouteTimeout _ _ => true
  | .folioTakeoverStart _ _ => true
  | .folioReloadDone _ _ _ => true
  | .rowSweepDone _ _ upset => fitsPairs upset
  | .folioCutover _ _ => true
  | .folioReadmit _ _ => true
  | .shadowSwitch _ _ => true
  | .folioRetry _ _ => true
  | .scrubRead _ upset => fitsPairs (upset.map (·.2))
  | .leafPrecWrite _ _ _ _ => true
  | .shistClearAll _ _ => true
  | .shistSet _ _ _ _ => true
  | .shistClear _ _ _ => true
  | .slotPlanLoad _ _ => true
  | .slotPlanApply _ _ => true
  | .slotPlanStuck _ _ => true
  | .noslotTimeout _ _ => true
  | .patrolScrubRead _ _ _ upset => fitsN 16 upset
  | .creditGrantReceive _ _ => true
  | .writeReceive _ _ => true
  | .writeLanded _ _ => true
  | .creditReqReceive _ _ => true
  | .creqPopRead _ _ => true
  | .reclaimReqReceive _ _ => true
  | .reclaimAckReceive _ _ => true
  | .reclaimComplete _ _ _ => true
  | .reclaimTimeout _ _ _ => true
  | .kvSetpool _ _ _ => true
  | .kvReserve _ _ _ _ => true
  | .kvRelease _ _ _ _ => true
  | .laneFail _ lane => fitsN 4 lane
  | .shortTrainingDone _ _ => true
  | .linkFullTrainingDone _ _ => true
  | .packetReceive _ hdr payload crc => fitsAll 32 hdr && fitsN 32 crc && decide (payload.length ≤ 4096)
  | .ackReceive _ seq _ => fitsN 12 seq
  | .nakReceive _ seq _ => fitsN 12 seq
  | .tokenReceive _ _ count _ => fitsN 8 count
  | .retrainReceive _ _ => true
  | .ackSendTimer _ => true
  | .replayTimeout _ => true
  | .routeReceive _ => true
  | .fetchReceive _ _ => true
  | .fetchDataReceive _ _ => true
  | .memwrReceive _ _ => true
  | .kvchkReceive _ _ => true
  | .kvackReceive _ _ => true
  | .parkdataReceive _ _ => true
  | .unparkreqReceive _ _ => true
  | .telemSend _ temp droop => fitsN 16 temp && fitsN 32 droop
  | .qCmdRead _ => true
  | .qCmdWrite _ => true
  | .doorbellWrite _ _ _ => true
  | .queueSelect _ => true
  | .headSlipArrive _ _ words => words.length == 16 && fitsAll 32 words
  | .slipDispatch _ => true
  | .cancelPosWrite _ _ => true
  | .carrelCreate _ _ _ => true
  | .carrelRelease _ _ => true
  | .mirrorAckReceive _ => true
  | .pairHeartbeatSend _ _ _ => true
  | .pairHeartbeatLoss _ => true
  | .wdtInPulse _ => true
  | .peerResetSignal _ => true
  | .takeoverComplete _ => true
  | .seizeReceive _ => true
  | .seizeConfirmReceive _ => true
  | .seizeConfirmTimeout _ => true
  | .pairHandover _ => true
  | .pairSeize _ => true
  | .yieldReceive _ => true
  | .dieRestart _ => true
  | .seizeReleaseTimer _ => true
  | .rejoinReceive _ => true
  | .pairRejoin _ => true
  | .fullCopyDone _ => true
  | .sleepHeartbeatSend _ => true
  | .sleepBeatMiss _ => true
  | .sleepPartnerLost _ => true
  | .sleepSeizeReceive _ => true
  | .wdtKick _ _ => true
  | .wdtExpiryHandover _ => true
  | .wdtPulseEnd _ => true
  | .wdtExpiryTrap _ => true
  | .wdtHardTimerEnd _ => true
  | .chCmdOn _ _ _ => true
  | .chCmdOff _ _ => true
  | .chCmdRelimit _ _ => true
  | .inrushWindowEnd _ _ => true
  | .inrushLearnDone _ _ ms => fitsN 16 ms
  | .shortTrip _ _ also => fitsN 3 also
  | .otTrip _ _ temp also => fitsN 12 temp && fitsN 3 also
  | .i2tPeriodEnd _ _ meanSq cur _ => fitsN 32 meanSq && fitsN 16 cur
  | .retryWaitEnd _ _ => true
  | .goodTimeExpiry _ _ => true
  | .uvDetect _ => true
  | .uvRestartQualify _ => true
  | .uvRestartNext _ => true
  | .ldLowVbatReset _ => true
  | .openLoadOnDetect _ _ => true
  | .offstateDiagTest _ openLoad shortBat => fitsN 24 openLoad && fitsN 24 shortBat
  | .stuckOnDetect _ _ => true
  | .feedcutClear _ groups => fitsN 3 groups
  | .aggOverDetect _ => true
  | .limpHbTimeout _ => true
  | .limpNAssert => true
  | .limpExit _ _ => true
  | .adcTrig _ => true
  | .adcPeriodicTimer _ => true
  | .adcConversionDone _ code => fitsN 12 code
  | .adcStatRead _ => true
  | .otpProg _ => true
  | .otpProgDone _ mask => fitsN 16 mask
  | .lbusBridgeWrite _ _ unit off words => fitsN 4 unit && fitsN 32 off && fitsAll 16 words
  | .lbusBridgeRead _ _ unit off => fitsN 4 unit && fitsN 32 off
  | .lbusWriteFrame _ _ frame crc => fitsAll 16 frame && fitsN 8 crc
  | .lbusReadFrame _ _ frame crc => fitsAll 16 frame && fitsN 8 crc
  | .lbusHbFrame _ _ frame crc => fitsAll 16 frame && fitsN 8 crc
  | .lbusAckReceive _ _ frame crc => fitsAll 16 frame && fitsN 8 crc
  | .lbusDataReceive _ _ frame crc => fitsAll 16 frame && fitsN 8 crc
  | .lbusResendTimeout _ _ => true
  | .stagedDataExpiry _ _ => true
  | .lbLockReq _ _ _ => true
  | .lbLockRel _ _ _ => true
  | .lbLockExpiry _ _ => true
  | .lbusHbTimer _ _ => true
  | .lbusPoll _ _ => true
  | .telemetryRead _ => true
  | .sagLoopAdjust _ _ => true
  | .shedReleaseDone _ _ => true
  | .levelWrite _ _ _ _ => true
  | .levelLowerRelease _ _ => true
  | .lgSoftWrite _ v => fitsN 32 v
  | .lgSagWrite _ v => fitsN 32 v
  | .audioFrameEnd _ x => x.wf
  | .kwHoldExpiry _ => true
  | .force2 _ history => history.all (fitsAll 8)
  | .captureBlockMove _ => true
  | .capConsWrite _ _ => true
  | .pocketLoad _ _ _ _ => true
  | .pocketLoadDone _ history => history.all (fitsAll 8)
  | .kwPopRead _ => true
  | .muteNLow => true
  | .muteNRise => true
  | .muteRelease => true
  | .pbCtrlWrite _ _ => true
  | .pbProdWrite _ _ => true
  | .pbSampleConsume _ => true
  | .tamperNLow => true
  | .lcTransition _ _ _ => true
  | .lcBlowPubhash _ _ => true
  | .dbgGo _ => true
  | .macGo _ => true
  | .trngReady _ _ => true
  | .trngHealthFail _ _ => true
  | .monitorReset _ _ => true
  | .monitorRelease _ => true
  | .hbtestHold _ _ => true
  | .hbtestTimeout _ _ => true
  | .feedcutTestAssert _ groups => fitsN 3 groups
  | .sdSumPoll _ _ _ => true
  | .intEoiWrite _ => true
  | .eoiWindowEnd _ => true
  | .dmaGo _ _ _ => true
  | .dmaAbort _ _ _ => true
  | .dmaComplete _ _ failAt => fitsOpt 27 [failAt]
  | .dbgHalt _ _ => true
  | .dbgResume _ _ => true
  | .dbgStep _ _ => true
  | .pmbAlertScan _ words => fitsOpt 16 words
  | .thermalShutdown _ => true
  | .thermalCooled _ => true
  | .lpclkLoss _ => true
  | .lpclkReturn _ => true
  | .heartbeatPathSilence _ _ => true
  | .noResponseTimeout _ => true
  | .channelCool _ _ temp => fitsN 12 temp
  | .ledgerWindowTimer _ _ => true
  | .zeroisationDone => true
  | .tamperNRelease => true
  | .limpNRelease => true
  | .macDone _ => true

end Sys2Proof
end

