-- ==== Sys2Proof/Tests/Slice0.lean ====
section
/-! SUPPORT. Tests: ill-formed commands are refused by the check of well-formedness; small cases from the worked examples
of the spec and from published test vectors; and for every statement with hypotheses a state and operands that meet
them. -/

set_option linter.unusedVariables false
set_option Elab.async false
namespace Sys2Proof.Tests
open Sys2Proof Sys2Proof.Machine

/-! ### Ill-formed commands, one for each check -/

theorem test_wf_registerWrite :
    (Instr.registerWrite 1 false 0 2 65536 ⟨false, 0, [], 0, []⟩).wf = false ∧
    (Instr.registerWrite 1 false 0 2 0 ⟨false, 2 ^ 27, [], 0, []⟩).wf = false ∧
    (Instr.registerWrite 1 false 0 2 0 ⟨false, 0, [[256]], 0, []⟩).wf = false ∧
    (Instr.registerWrite 1 false 0 2 0 ⟨false, 0, [], 2 ^ 32, []⟩).wf = false ∧
    (Instr.registerWrite 1 false 0 2 0 ⟨false, 0, [], 0, [(0, 2 ^ 32)]⟩).wf = false := by decide +kernel
theorem test_wf_add :
    (Instr.add 47 true ⟨false, 0, 0, 0, 0, 0, 7⟩).wf = false := by decide +kernel
theorem test_wf_ld :
    (Instr.ld 47 ⟨false, 0, 0, 0, 0, 0, 7⟩ ⟨false, 0, [], 0, []⟩).wf = false ∧
    (Instr.ld 47 ⟨true, 0, 0, 0, 0, 0, 7⟩ ⟨false, 2 ^ 27, [], 0, []⟩).wf = false := by decide +kernel
theorem test_wf_st :
    (Instr.st 47 ⟨false, 0, 0, 0, 0, 0, 7⟩ ⟨false, 0, [], 0, []⟩).wf = false ∧
    (Instr.st 47 ⟨true, 0, 0, 0, 0, 0, 7⟩ ⟨false, 2 ^ 27, [], 0, []⟩).wf = false := by decide +kernel
theorem test_wf_mvm :
    (Instr.mvm 47 ⟨false, 0, 0, 0, 0, 0, 7⟩ []).wf = false ∧
    (Instr.mvm 47 ⟨true, 0, 0, 0, 0, 0, 7⟩ [(2 ^ 32, 0)]).wf = false := by decide +kernel
theorem test_wf_stackPowerStart :
    (Instr.stackPowerStart 1 [none, some 256]).wf = false := by decide +kernel
theorem test_wf_pmbusStatusPoll :
    (Instr.pmbusStatusPoll 1 [some 65536]).wf = false := by decide +kernel
theorem test_wf_pmbAlertScan :
    (Instr.pmbAlertScan 1 [some 65536]).wf = false := by decide +kernel
theorem test_wf_rowSweepDone :
    (Instr.rowSweepDone 3 7 [(0, 2 ^ 32)]).wf = false := by decide +kernel
theorem test_wf_scrubRead :
    (Instr.scrubRead 3 [(0, 2 ^ 32, 0)]).wf = false := by decide +kernel
theorem test_wf_patrolScrubRead :
    (Instr.patrolScrubRead 3 7 3 65536).wf = false := by decide +kernel
theorem test_wf_laneFail :
    (Instr.laneFail 12 16).wf = false := by decide +kernel
theorem test_wf_packetReceive :
    (Instr.packetReceive 25 [2 ^ 32] [] 0).wf = false ∧
    (Instr.packetReceive 25 [] [] (2 ^ 32)).wf = false ∧
    (Instr.packetReceive 25 [] (List.replicate 4097 0) 0).wf = false := by decide +kernel
theorem test_wf_ackReceive :
    (Instr.ackReceive 25 4096 true).wf = false := by decide +kernel
theorem test_wf_nakReceive :
    (Instr.nakReceive 25 4096 true).wf = false := by decide +kernel
theorem test_wf_tokenReceive :
    (Instr.tokenReceive 25 3 256 true).wf = false := by decide +kernel
theorem test_wf_telemSend :
    (Instr.telemSend 3 65536 0).wf = false ∧
    (Instr.telemSend 3 0 (2 ^ 32)).wf = false := by decide +kernel
theorem test_wf_headSlipArrive :
    (Instr.headSlipArrive 1 false (List.replicate 15 0)).wf = false ∧
    (Instr.headSlipArrive 1 false (2 ^ 32 :: List.replicate 15 0)).wf = false := by decide +kernel
theorem test_wf_inrushLearnDone :
    (Instr.inrushLearnDone 1 23 65536).wf = false := by decide +kernel
theorem test_wf_shortTrip :
    (Instr.shortTrip 1 23 8).wf = false := by decide +kernel
theorem test_wf_otTrip :
    (Instr.otTrip 1 23 4096 0).wf = false ∧
    (Instr.otTrip 1 23 0 8).wf = false := by decide +kernel
theorem test_wf_i2tPeriodEnd :
    (Instr.i2tPeriodEnd 1 23 (2 ^ 32) 0 true).wf = false ∧
    (Instr.i2tPeriodEnd 1 23 0 65536 true).wf = false := by decide +kernel
theorem test_wf_offstateDiagTest :
    (Instr.offstateDiagTest 1 (2 ^ 24) 0).wf = false ∧
    (Instr.offstateDiagTest 1 0 (2 ^ 24)).wf = false := by decide +kernel
theorem test_wf_feedcutClear :
    (Instr.feedcutClear 1 8).wf = false := by decide +kernel
theorem test_wf_feedcutTestAssert :
    (Instr.feedcutTestAssert 1 8).wf = false := by decide +kernel
theorem test_wf_adcConversionDone :
    (Instr.adcConversionDone 1 4096).wf = false := by decide +kernel
theorem test_wf_otpProgDone :
    (Instr.otpProgDone 1 65536).wf = false := by decide +kernel
theorem test_wf_channelCool :
    (Instr.channelCool 1 23 4096).wf = false := by decide +kernel
theorem test_wf_lbusBridgeWrite :
    (Instr.lbusBridgeWrite 1 1 16 0 []).wf = false ∧
    (Instr.lbusBridgeWrite 1 1 0 (2 ^ 32) []).wf = false ∧
    (Instr.lbusBridgeWrite 1 1 0 0 [65536]).wf = false := by decide +kernel
theorem test_wf_lbusBridgeRead :
    (Instr.lbusBridgeRead 1 1 16 0).wf = false ∧
    (Instr.lbusBridgeRead 1 1 0 (2 ^ 32)).wf = false := by decide +kernel
theorem test_wf_lbusWriteFrame :
    (Instr.lbusWriteFrame 1 1 [65536] 0).wf = false ∧
    (Instr.lbusWriteFrame 1 1 [] 256).wf = false := by decide +kernel
theorem test_wf_lbusReadFrame :
    (Instr.lbusReadFrame 1 1 [65536] 0).wf = false ∧
    (Instr.lbusReadFrame 1 1 [] 256).wf = false := by decide +kernel
theorem test_wf_lbusHbFrame :
    (Instr.lbusHbFrame 1 1 [65536] 0).wf = false ∧
    (Instr.lbusHbFrame 1 1 [] 256).wf = false := by decide +kernel
theorem test_wf_lbusAckReceive :
    (Instr.lbusAckReceive 1 1 [65536] 0).wf = false ∧
    (Instr.lbusAckReceive 1 1 [] 256).wf = false := by decide +kernel
theorem test_wf_lbusDataReceive :
    (Instr.lbusDataReceive 1 1 [65536] 0).wf = false ∧
    (Instr.lbusDataReceive 1 1 [] 256).wf = false := by decide +kernel
theorem test_wf_lgSoftWrite :
    (Instr.lgSoftWrite 1 (2 ^ 32)).wf = false := by decide +kernel
theorem test_wf_lgSagWrite :
    (Instr.lgSagWrite 1 (2 ^ 32)).wf = false := by decide +kernel
theorem test_wf_audioFrameEnd :
    (Instr.audioFrameEnd 1 ⟨[List.replicate 161 0], 0, 0, [], [], [], []⟩).wf = false ∧
    (Instr.audioFrameEnd 1 ⟨[[65536]], 0, 0, [], [], [], []⟩).wf = false ∧
    (Instr.audioFrameEnd 1 ⟨[], 0, 0, [], [], [List.replicate 161 0], []⟩).wf = false ∧
    (Instr.audioFrameEnd 1 ⟨[], 0, 0, [], [], [[65536]], []⟩).wf = false ∧
    (Instr.audioFrameEnd 1 ⟨List.replicate 9 [], 0, 0, [], [], [], []⟩).wf = false ∧
    (Instr.audioFrameEnd 1 ⟨[], 0, 0, [], [], List.replicate 9 [], []⟩).wf = false ∧
    (Instr.audioFrameEnd 1 ⟨[], 0, 256, [], [], [], []⟩).wf = false ∧
    (Instr.audioFrameEnd 1 ⟨[], 0, 0, [256], [], [], []⟩).wf = false ∧
    (Instr.audioFrameEnd 1 ⟨[], 0, 0, [], [[256]], [], []⟩).wf = false := by decide +kernel
theorem test_wf_force2 :
    (Instr.force2 1 [[256]]).wf = false := by decide +kernel
theorem test_wf_pocketLoadDone :
    (Instr.pocketLoadDone 1 [[256]]).wf = false := by decide +kernel
theorem test_wf_dmaComplete :
    (Instr.dmaComplete 1 7 (some (2 ^ 27))).wf = false := by decide +kernel
/-- The same commands with operands that fit are well formed. -/
theorem test_wf_accepts : (Instr.registerWrite 1 false 0 2 65535 ⟨false, 2 ^ 27 - 1, [[255]], 2 ^ 32 - 1, []⟩).wf = true ∧
    (Instr.add 47 true ⟨true, 0, 0, 0, 0, 0, 7⟩).wf = true ∧ (Instr.laneFail 12 15).wf = true ∧
    (Instr.packetReceive 25 [2 ^ 32 - 1] (List.replicate 4096 0) (2 ^ 32 - 1)).wf = true := by decide +kernel

/-! ### Cases from the spec's worked examples and from published vectors -/

/-- Byte 0x1_2340 of bank B2 of wing 5 on SD2 (worked example of chapter 2). -/
theorem test_kv_address : rrAddr 2 5 (2 * 2 ^ 21 + 0x12340) = 0x6002C12340 := by decide
/-- Folio 9, leaf 2, row 52, byte 196 of wing 2 on SD1 (worked example of chapter 4). -/
theorem test_weight_address : cellAddr 1 2 9 2 52 + 196 = 0x51052834C4 := by decide
/-- The frame of the lamp and its CRC (worked example of chapter 14). -/
theorem test_lbus_frame : lbCrc [0x1503, 0x0300, 0x0028, 0x0000, 0x0001] = 0x99 := by decide +kernel
/-- The overflow replay (worked example of chapter 5): run 0 stops at the fourth row group, run 1 commits. -/
theorem test_overflow_replay : (sumRun 2146000000 0 (List.replicate 8 404000)).2 = some 3 ∧
    sumRun 1073000000 0 (List.replicate 8 200000) = (1074600000, none) ∧ (1074600000 : Nat) = 0x400D1840 := by
  decide +kernel
/-- The compensated logit (worked example of chapter 5): the third promotion is lost to a tie and kept in q. -/
theorem test_mode_k : (promoteK 0 0 21 (-1)).1 = 0x41280000 ∧ (promoteK 0x41280000 0 11 (-1)).1 = 0x41800000 ∧
    promoteK 0x41800000 0 1 (-20) = (0x41800000, 0xB5800000, false) ∧
    promoteK 0x41800000 0xB5800000 1 (-20) = (0x41800001, 0, false) ∧
    promoteK 0x41800001 0 1 (-20) = (0x41800002, 0x35800000, false) ∧ (promoteC 0x41800000 1 (-20)).1 = 0x41800000 := by
  decide +kernel
/-- SHA-256 of "abc" (FIPS 180-4). -/
theorem test_sha256 : sha256 [0x61, 0x62, 0x63] = toBE 32
    0xBA7816BF8F01CFEA414140DE5DAE2223B00361A396177A9CB410FF61F20015AD := by decide +kernel
/-- CRC-32 of "123456789" (the check value of the polynomial of R222). -/
theorem test_crc32 : crc32 [0x31, 0x32, 0x33, 0x34, 0x35, 0x36, 0x37, 0x38, 0x39] = 0xCBF43926 := by decide +kernel
/-- No row of the table gives bits. -/
theorem test_no_bits : decodeTableWord 8 0 = none ∧ State.reset.withFetchWord 8 0 = State.reset := ⟨rfl, rfl⟩

/-! ### States and operands for the statements -/

/-- Agent `a` runs and nothing holds it. -/
def running (s : State) (a : Nat) : State :=
  ((s.setAgState a 1).setPc a (s.pc a % 4000)).modAgent a (fun g => { s := g.s, ad := g.ad, p := g.p, v := g.v, vp := g.vp, calls := g.calls, prog := true })
/-- Link `l` is up and does not train. -/
def linkOn (s : State) (l : Nat) : State :=
  (linkEnds l).foldl (fun s k => (s.wr (fUp k).1 (fUp k).2 1).wr (fTrain k).1 (fTrain k).2 0) s
/-- Every link is up. -/
def linksOn (s : State) : State := (List.range 13).foldl linkOn s
/-- A message waits at its die, first of all. -/
def got (s : State) (m : Msg) : State := { s with inbox := m :: s.inbox }
/-- Vector registers with some values. -/
def vregs (seed : Nat) : Store (List Nat) :=
  (List.range 32).map (fun r => (r, (List.range 64).map (fun l =>
    (l * 1021 + r * 7919 + seed * 31 + 1) * (if (l + r + seed) % 5 = 0 then 1 else 37) % 65536)))
/-- Agent `a` runs, with those vector registers. -/
def runV (s : State) (a : Nat) : State := (running s a).modAgent a (fun g => { g with v := vregs a, vp := [] })
/-- Words of the record of a queue. -/
def mkQ (s : State) (n q : Nat) (w : List Nat) : State := (w.zipIdx).foldl (fun s p => s.stw (qAddr n q p.2) 4 p.1) s
/-- Die `n` holds the active role with its main islands up. -/
def actv (s : State) (n : Nat) : State := (s.wr (cd n) R.PAIR_STAT_ROLE 1).modCd n (fun x => { x with mainUp := true })

theorem wit_ChannelCommandsSwitch_1 : ∃ (d : Fin 2) (ch : Fin 24) (slow : Bool) (s : State), (s.flag (ld d) R.LD_STAT_LIMP = false) ∧ (s.flag (ld d) R.LD_STAT_UV = false) ∧ ((if s.ganged d ch then 10 else 5) ≤ s.crd d ch R.CH_ILIM_ILIM) ∧ (s.crd d ch R.CH_INRUSH_WINDOW ≤ 1000) ∧ (s.oddHalf d ch = false) ∧ (¬ (s.cflag d ch R.CH_STAT_LATCHED = true ∧ s.isHot d ch = true)) ∧ (s.cflag d ch R.CH_STAT_ON = false) ∧ (s.cflag d ch R.CH_STAT_RETRY_WAIT = false) ∧ (s.cflag d ch R.CH_STAT_RESTART_PEND = false) :=
  ⟨(1 : Fin 2), (23 : Fin 24), (true : Bool), ((fun (d : Fin 2) (ch : Fin 24) (slow : Bool) (s : State) => (((((((((s.wr (ld d) R.LD_STAT_LIMP 0).wr (ld d) R.LD_STAT_UV 0).cwr d ch R.CH_ILIM_ILIM 40).cwr d ch R.CH_INRUSH_WINDOW 300).cwr d ch R.CH_STAT_LATCHED 0).cwr d ch R.CH_STAT_ON 0).cwr d ch R.CH_STAT_RETRY_WAIT 0).cwr d ch R.CH_STAT_RESTART_PEND 0) : State)) (1 : Fin 2) (23 : Fin 24) (true : Bool) State.reset), by decide +kernel⟩
theorem wit_ChannelCommandsSwitch_2 : ∃ (d : Fin 2) (ch : Fin 24) (s : State), (s.flag (ld d) R.LD_STAT_LIMP = false) ∧ (s.oddHalf d ch = false) :=
  ⟨(0 : Fin 2), (0 : Fin 24), ((fun (d : Fin 2) (ch : Fin 24) (s : State) => (((s.wr (ld d) R.LD_STAT_LIMP 0).wr (ld d) R.LD_STAT_UV 0).cwr d ch R.CH_STAT_ON 1 : State)) (0 : Fin 2) (0 : Fin 24) State.reset), by decide +kernel⟩
theorem wit_ChannelCommandsSwitch_3 : ∃ (d : Fin 2) (ch : Fin 24) (s : State), (s.flag (ld d) R.LD_STAT_LIMP = false) ∧ ((if s.ganged d ch then 10 else 5) ≤ s.crd d ch R.CH_ILIM_ILIM) ∧ (s.crd d ch R.CH_INRUSH_WINDOW ≤ 1000) ∧ (s.oddHalf d ch = false) :=
  ⟨(0 : Fin 2), (5 : Fin 24), ((fun (d : Fin 2) (ch : Fin 24) (s : State) => (((((s.wr (ld d) R.LD_STAT_LIMP 0).wr (ld d) R.LD_STAT_UV 0).cwr d ch R.CH_ILIM_ILIM 5).cwr d ch R.CH_INRUSH_WINDOW 1000) : State)) (0 : Fin 2) (5 : Fin 24) State.reset), by decide +kernel⟩
theorem wit_ChannelTimersAndDiagnosis_1 : ∃ (d : Fin 2) (ch : Fin 24) (s : State), (s.cflag d ch R.CH_STAT_INRUSH = true) :=
  ⟨(1 : Fin 2), (0 : Fin 24), ((fun (d : Fin 2) (ch : Fin 24) (s : State) => (s.cwr d ch R.CH_STAT_INRUSH 1 : State)) (1 : Fin 2) (0 : Fin 24) State.reset), by decide +kernel⟩
theorem wit_ChannelTimersAndDiagnosis_2 : ∃ (d : Fin 2) (ch : Fin 24) (ms : Nat) (s : State), ((s.chan (cix d ch)).learning = true) :=
  ⟨(0 : Fin 2), (7 : Fin 24), (1023 : Nat), ((fun (d : Fin 2) (ch : Fin 24) (ms : Nat) (s : State) => (s.modChan (cix d ch) (fun x => { x with learning := true }) : State)) (0 : Fin 2) (7 : Fin 24) (1023 : Nat) State.reset), by decide +kernel⟩
theorem wit_ChannelTimersAndDiagnosis_3 : ∃ (d : Fin 2) (ch : Fin 24) (s : State), (s.cflag d ch R.CH_STAT_RETRY_WAIT = true) ∧ (s.isHot d ch = false) :=
  ⟨(0 : Fin 2), (1 : Fin 24), ((fun (d : Fin 2) (ch : Fin 24) (s : State) => (s.cwr d ch R.CH_STAT_RETRY_WAIT 1 : State)) (0 : Fin 2) (1 : Fin 24) State.reset), by decide +kernel⟩
theorem wit_ChannelTimersAndDiagnosis_4 : ∃ (d : Fin 2) (ch : Fin 24) (temp : Nat) (s : State), (s.oddHalf d ch = false) ∧ (s.cflag d ch R.CH_STAT_RETRY_WAIT = true) ∧ ((s.chan (cix d ch)).waitDone = true) ∧ ((s.wiring d ch).1 = 0) :=
  ⟨(1 : Fin 2), (2 : Fin 24), (900 : Nat), ((fun (d : Fin 2) (ch : Fin 24) (temp : Nat) (s : State) => (((s.cwr d ch R.CH_STAT_RETRY_WAIT 1).modChan (cix d ch) (fun x => { x with waitDone := true })).cwr d ch R.CH_WIRE_WIRE_I 0 : State)) (1 : Fin 2) (2 : Fin 24) (900 : Nat) State.reset), by decide +kernel⟩
theorem wit_ChannelTimersAndDiagnosis_5 : ∃ (d : Fin 2) (ch : Fin 24) (s : State), (s.crd d ch R.CH_RETRY2_GOOD ≠ 0) ∧ (s.cflag d ch R.CH_STAT_OUT = true) :=
  ⟨(1 : Fin 2), (11 : Fin 24), ((fun (d : Fin 2) (ch : Fin 24) (s : State) => ((s.cwr d ch R.CH_RETRY2_GOOD 3).cwr d ch R.CH_STAT_OUT 1 : State)) (1 : Fin 2) (11 : Fin 24) State.reset), by decide +kernel⟩
theorem wit_ChannelTimersAndDiagnosis_6 : ∃ (d : Fin 2) (ch : Fin 24) (s : State), (s.cflag d ch R.CH_STAT_OUT = true) ∧ (s.cflag d ch R.CH_STAT_INRUSH = false) ∧ (s.oddHalf d ch = false) :=
  ⟨(0 : Fin 2), (23 : Fin 24), ((fun (d : Fin 2) (ch : Fin 24) (s : State) => ((s.cwr d ch R.CH_STAT_OUT 1).cwr d ch R.CH_STAT_INRUSH 0 : State)) (0 : Fin 2) (23 : Fin 24) State.reset), by decide +kernel⟩
theorem wit_TripsAndUnderVoltage_1 : ∃ (d : Fin 2) (ch : Fin 24) (also : Nat) (s : State), (s.oddHalf d ch = false) ∧ (s.cflag d ch R.CH_STAT_ON = true) ∧ (s.cflag d ch R.CH_STAT_OUT = true) ∧ (s.crd d ch R.CH_RETRY_STRAT = 0) :=
  ⟨(0 : Fin 2), (6 : Fin 24), (0 : Nat), ((fun (d : Fin 2) (ch : Fin 24) (also : Nat) (s : State) => (((s.cwr d ch R.CH_STAT_ON 1).cwr d ch R.CH_STAT_OUT 1).cwr d ch R.CH_RETRY_STRAT 0 : State)) (0 : Fin 2) (6 : Fin 24) (0 : Nat) State.reset), by decide +kernel⟩
theorem wit_TripsAndUnderVoltage_2 : ∃ (d : Fin 2) (ch : Fin 24) (temp also : Nat) (s : State), (s.oddHalf d ch = false) ∧ (s.cflag d ch R.CH_STAT_ON = true) ∧ (s.cflag d ch R.CH_STAT_OUT = true) ∧ (s.crd d ch R.CH_RETRY_STRAT = 0) :=
  ⟨(1 : Fin 2), (23 : Fin 24), (4095 : Nat), (4 : Nat), ((fun (d : Fin 2) (ch : Fin 24) (temp : Nat) (also : Nat) (s : State) => (((s.cwr d ch R.CH_STAT_ON 1).cwr d ch R.CH_STAT_OUT 1).cwr d ch R.CH_RETRY_STRAT 0 : State)) (1 : Fin 2) (23 : Fin 24) (4095 : Nat) (4 : Nat) State.reset), by decide +kernel⟩
theorem wit_TripsAndUnderVoltage_3 : ∃ (d : Fin 2) (ch : Fin 24) (meanSq cur : Nat) (lim : Bool) (s : State), (s.oddHalf d ch = false) ∧ (s.cflag d ch R.CH_STAT_ON = true) ∧ (s.cflag d ch R.CH_STAT_OUT = true) ∧ (s.crd d ch R.CH_RETRY_STRAT = 0) ∧ ((s.wiring d ch).1 ≠ 0) ∧ (((s.wiring d ch).2 * 4000000 : Int) < (s.chan (cix d ch)).q + ((meanSq : Int) - ((10 * (s.wiring d ch).1 * (10 * (s.wiring d ch).1) : Nat) : Int)) * (s.crd d ch R.CH_I2T_PER_PER : Int)) :=
  ⟨(0 : Fin 2), (4 : Fin 24), (50000 : Nat), (5000 : Nat), (false : Bool), ((fun (d : Fin 2) (ch : Fin 24) (meanSq : Nat) (cur : Nat) (lim : Bool) (s : State) => ((((s.cwr d ch R.CH_STAT_ON 1).cwr d ch R.CH_STAT_OUT 1).cwr d ch R.CH_RETRY_STRAT 0).cwr d ch R.CH_WIRE_WIRE_I 20 : State)) (0 : Fin 2) (4 : Fin 24) (50000 : Nat) (5000 : Nat) (false : Bool) State.reset), by decide +kernel⟩
theorem wit_TripsAndUnderVoltage_4 : ∃ (d : Fin 2) (s : State), (s.flag (ld d) R.LD_STAT_UV = false) :=
  ⟨(1 : Fin 2), ((fun (d : Fin 2) (s : State) => (((s.wr (ld d) R.LD_STAT_UV 0).cwr d 3 R.CH_STAT_ON 1).cwr d 8 R.CH_STAT_ON 1 : State)) (1 : Fin 2) State.reset), by decide +kernel⟩
theorem wit_TripsAndUnderVoltage_5 : ∃ (d : Fin 2) (s : State), (s.flag (ld d) R.LD_STAT_UV = true) :=
  ⟨(0 : Fin 2), ((fun (d : Fin 2) (s : State) => (((s.wr (ld d) R.LD_STAT_UV 1).cwr d 3 R.CH_STAT_RESTART_PEND 1).cwr d 8 R.CH_STAT_RESTART_PEND 1 : State)) (0 : Fin 2) State.reset), by decide +kernel⟩
theorem wit_TripsAndUnderVoltage_6 : ∃ (d : Fin 2) (s : State), (s.flag (ld d) R.LD_STAT_RESTARTING = true) :=
  ⟨(1 : Fin 2), ((fun (d : Fin 2) (s : State) => (((s.wr (ld d) R.LD_STAT_RESTARTING 1).cwr d 3 R.CH_STAT_RESTART_PEND 1).cwr d 8 R.CH_STAT_RESTART_PEND 1 : State)) (1 : Fin 2) State.reset), by decide +kernel⟩
theorem wit_LoadDieResetAndLimpHome_3 : ∃ (d : Fin 2) (s : State), ((s.ldx d).inReset = true) :=
  ⟨(1 : Fin 2), ((fun (d : Fin 2) (s : State) => (s.modLd d (fun x => { x with inReset := true }) : State)) (1 : Fin 2) State.reset), by decide +kernel⟩
theorem wit_LoadDieResetAndLimpHome_4 : ∃ (d : Fin 2) (s : State), ((s.ldx d).inReset = false) ∧ (s.flag (ld d) R.LD_STAT_LIMP = false) :=
  ⟨(0 : Fin 2), ((fun (d : Fin 2) (s : State) => ((s.modLd d (fun x => { x with inReset := false })).wr (ld d) R.LD_STAT_LIMP 0 : State)) (0 : Fin 2) State.reset), by decide +kernel⟩
theorem wit_LoadDieResetAndLimpHome_5 : ∃ (d : Fin 2) (s : State), ((s.ldx d).inReset = false) ∧ (s.flag (ld d) R.LD_STAT_LIMP = false) :=
  ⟨(1 : Fin 2), ((fun (d : Fin 2) (s : State) => ((s.modLd d (fun x => { x with inReset := false })).wr (ld d) R.LD_STAT_LIMP 0 : State)) (1 : Fin 2) State.reset), by decide +kernel⟩
theorem wit_LoadDieResetAndLimpHome_7 : ∃ (d n : Fin 2) (s : State), (s.flag (ld d) R.LD_STAT_LIMP = true) ∧ (s.pins.limpN = false) ∧ (s.rd (ld d) R.HB_STAT_AGE < 30) ∧ (s.isActive n = true) :=
  ⟨(0 : Fin 2), (1 : Fin 2), ((fun (d : Fin 2) (n : Fin 2) (s : State) => (((({ s with pins := { s.pins with limpN := false } }).wr (ld d) R.LD_STAT_LIMP 1).wr (ld d) R.HB_STAT_AGE 29).wr (cd n) R.PAIR_STAT_ROLE 1 : State)) (0 : Fin 2) (1 : Fin 2) State.reset), by decide +kernel⟩
theorem wit_GroupFeedAndDieDiagnosis_1 : ∃ (d : Fin 2) (ch : Fin 24) (s : State), (s.oddHalf d ch = false) ∧ (s.cflag d ch R.CH_STAT_OUT = false) :=
  ⟨(1 : Fin 2), (16 : Fin 24), ((fun (d : Fin 2) (ch : Fin 24) (s : State) => ((s.cwr d ch R.CH_STAT_OUT 0) : State)) (1 : Fin 2) (16 : Fin 24) State.reset), by decide +kernel⟩
theorem wit_GroupFeedAndDieDiagnosis_3 : ∃ (d : Fin 2) (groups : Nat) (s : State), (s.flag (ld d) R.LD_STAT_LIMP = true) :=
  ⟨(0 : Fin 2), (7 : Nat), ((fun (d : Fin 2) (groups : Nat) (s : State) => ((s.wr (ld d) R.LD_STAT_LIMP 1) : State)) (0 : Fin 2) (7 : Nat) State.reset), by decide +kernel⟩
theorem wit_AdcAndOtpCommandsRun_1 : ∃ (d : Fin 2) (s : State), (s.flag (ld d) R.ADC_STAT_RUN = false) ∧ (s.rd (ld d) R.ADC_CTRL_LEN ≠ 0) :=
  ⟨(0 : Fin 2), ((fun (d : Fin 2) (s : State) => ((s.wr (ld d) R.ADC_STAT_RUN 0).wr (ld d) R.ADC_CTRL_LEN 2 : State)) (0 : Fin 2) State.reset), by decide +kernel⟩
theorem wit_AdcAndOtpCommandsRun_2 : ∃ (d : Fin 2) (s : State), (s.flag (ld d) R.ADC_STAT_RUN = true) ∧ (s.flag (ld d) R.ADC_STAT_PEND = true) :=
  ⟨(1 : Fin 2), ((fun (d : Fin 2) (s : State) => ((s.wr (ld d) R.ADC_STAT_RUN 1).wr (ld d) R.ADC_STAT_PEND 1 : State)) (1 : Fin 2) State.reset), by decide +kernel⟩
theorem wit_AdcAndOtpCommandsRun_3 : ∃ (d : Fin 2) (s : State), (s.flag (ld d) R.ADC_CTRL_PER_EN = true) ∧ (s.rd (ld d) R.ADC_PER_PERIOD ≠ 0) ∧ (s.flag (ld d) R.ADC_STAT_RUN = true) ∧ (s.flag (ld d) R.ADC_STAT_PEND = false) :=
  ⟨(1 : Fin 2), ((fun (d : Fin 2) (s : State) => ((((s.wr (ld d) R.ADC_STAT_RUN 1).wr (ld d) R.ADC_STAT_PEND 0).wr (ld d) R.ADC_CTRL_PER_EN 1).wr (ld d) R.ADC_PER_PERIOD 9 : State)) (1 : Fin 2) State.reset), by decide +kernel⟩
theorem wit_AdcAndOtpCommandsRun_4 : ∃ (d : Fin 2) (code : Nat) (s : State), (s.flag (ld d) R.ADC_STAT_RUN = true) ∧ ((s.ldx d).adcPos < 31) ∧ (s.rd (ld d) R.ADC_CTRL_LEN = (s.ldx d).adcPos + 1) ∧ (s.rd (ld d) (R.ADC_SEQ_SRC.at (s.ldx d).adcPos) < 0x1E) ∧ (s.flag (ld d) R.ADC_STAT_PEND = false) :=
  ⟨(1 : Fin 2), (5000 : Nat), ((fun (d : Fin 2) (code : Nat) (s : State) => (((((s.wr (ld d) R.ADC_STAT_RUN 1).wr (ld d) R.ADC_STAT_PEND 0).wr (ld d) R.ADC_CTRL_LEN 3).wr (ld d) (R.ADC_SEQ_SRC.at 2) 7).modLd d (fun x => { x with adcPos := 2 }) : State)) (1 : Fin 2) (5000 : Nat) State.reset), by decide +kernel⟩
theorem wit_AdcAndOtpCommandsRun_6 : ∃ (d : Fin 2) (s : State), (s.flag (ld d) R.OTP_STAT_BUSY = false) :=
  ⟨(0 : Fin 2), ((fun (d : Fin 2) (s : State) => (s.wr (ld d) R.OTP_STAT_BUSY 0 : State)) (0 : Fin 2) State.reset), by decide +kernel⟩
theorem wit_AdcAndOtpCommandsRun_7 : ∃ (d : Fin 2) (mask : Nat) (s : State), (s.flag (ld d) R.OTP_STAT_BUSY = true) ∧ (s.rd (ld d) R.OTP_ADDR_WORD < 72) :=
  ⟨(1 : Fin 2), (0x00FF : Nat), ((fun (d : Fin 2) (mask : Nat) (s : State) => (((s.wr (ld d) R.OTP_STAT_BUSY 1).wr (ld d) R.OTP_ADDR_WORD 71).wr (ld d) R.OTP_DATA_DATA 0xF0F0 : State)) (1 : Fin 2) (0x00FF : Nat) State.reset), by decide +kernel⟩
theorem wit_BridgeAccessesAreSent_1 : ∃ (n d : Fin 2) (unit off : Nat) (w : Nat) (s : State), (off % 2 = 0) ∧ (off + 2 ≤ 0x8000) ∧ (s.rd (cd n) (diesFld (6 + d)) ≠ 0) ∧ (s.lbRefused n (off / 2) 1 = false) ∧ (s.lbLockedOut n d (unitCode n unit) = false) :=
  ⟨(0 : Fin 2), (1 : Fin 2), (11 : Nat), (0x7FFE : Nat), (77 : Nat), ((fun (n : Fin 2) (d : Fin 2) (unit : Nat) (off : Nat) (w : Nat) (s : State) => ((((s.wr (cd n) (diesFld (6 + d)) 2).wr (cd n) (R.LB_LOCK_HELD.at d) 0).wr (cd n) R.PAIR_STAT_ROLE 1) : State)) (0 : Fin 2) (1 : Fin 2) (11 : Nat) (0x7FFE : Nat) (77 : Nat) State.reset), by decide +kernel⟩
theorem wit_BridgeAccessesAreSent_2 : ∃ (n d : Fin 2) (unit off : Nat) (words : List Nat) (s : State), (off % 2 = 1) :=
  ⟨(0 : Fin 2), (0 : Fin 2), (0 : Nat), (1 : Nat), ([] : List Nat), ((fun (n : Fin 2) (d : Fin 2) (unit : Nat) (off : Nat) (words : List Nat) (s : State) => (s : State)) (0 : Fin 2) (0 : Fin 2) (0 : Nat) (1 : Nat) ([] : List Nat) State.reset), by decide +kernel⟩
theorem wit_BridgeAccessesAreSent_3 : ∃ (n d : Fin 2) (unit off : Nat) (s : State), (off % 2 = 0) ∧ (off < 0x8000) ∧ (s.rd (cd n) (diesFld (6 + d)) ≠ 0) ∧ (s.lbLockedOut n d (unitCode n unit) = false) ∧ ((∀ e : Fin 8, (s.stage n e).used = false)) :=
  ⟨(1 : Fin 2), (0 : Fin 2), (3 : Nat), (0x7FFE : Nat), ((fun (n : Fin 2) (d : Fin 2) (unit : Nat) (off : Nat) (s : State) => ((((s.wr (cd n) (diesFld (6 + d)) 2).wr (cd n) (R.LB_LOCK_HELD.at d) 0).modCd n (fun x => { x with stages := [] })) : State)) (1 : Fin 2) (0 : Fin 2) (3 : Nat) (0x7FFE : Nat) State.reset), by decide +kernel⟩
theorem wit_BridgeAccessesAreSent_4 : ∃ (n d : Fin 2) (unit off : Nat) (v : Nat) (s : State), (off % 2 = 0) ∧ (off < 0x8000) ∧ (s.rd (cd n) (diesFld (6 + d)) ≠ 0) ∧ (s.lbLockedOut n d (unitCode n unit) = false) ∧ (s.stage n 0 = { used := true, init := unitCode n unit, addr := ld d + off, data := some v }) :=
  ⟨(0 : Fin 2), (0 : Fin 2), (11 : Nat), (0 : Nat), (9 : Nat), ((fun (n : Fin 2) (d : Fin 2) (unit : Nat) (off : Nat) (v : Nat) (s : State) => ((((s.wr (cd n) (diesFld (6 + d)) 2).wr (cd n) (R.LB_LOCK_HELD.at d) 0).modCd n (fun x => { x with stages := Store.put {} x.stages 0 { used := true, init := unitCode n unit, addr := ld d + off, data := some v } })) : State)) (0 : Fin 2) (0 : Fin 2) (11 : Nat) (0 : Nat) (9 : Nat) State.reset), by decide +kernel⟩
theorem wit_BridgeAccessesAreSent_5 : ∃ (n : Fin 2) (e : Fin 8) (s : State), ((s.stage n e).used = true) ∧ ((s.stage n e).data.isSome = true) :=
  ⟨(0 : Fin 2), (7 : Fin 8), ((fun (n : Fin 2) (e : Fin 8) (s : State) => ((s.modCd n (fun x => { x with stages := Store.put {} x.stages e { used := true, init := 0x13, addr := ld 1 + 4, data := some 5 } })) : State)) (0 : Fin 2) (7 : Fin 8) State.reset), by decide +kernel⟩
theorem wit_LoadDieAnswersFrames_1 : ∃ (d n : Fin 2) (h w crc : Nat) (s : State), (s.ldTakes d n [h, 6, w] crc = true) ∧ (bits h 15 12 = 1) ∧ (bits h 7 5 = 0) ∧ (bits h 4 0 = 1) ∧ ((s.ldx d).owner = some n.val) :=
  ⟨(0 : Fin 2), (1 : Fin 2), (0x1501 : Nat), (17 : Nat), (lbCrc [0x1501, 6, 17] : Nat), ((fun (d : Fin 2) (n : Fin 2) (h : Nat) (w : Nat) (crc : Nat) (s : State) => (s.modLd d (fun x => { x with inReset := false, owner := some n.val, kept := [] }) : State)) (0 : Fin 2) (1 : Fin 2) (0x1501 : Nat) (17 : Nat) (lbCrc [0x1501, 6, 17] : Nat) State.reset), by decide +kernel⟩
theorem wit_LoadDieAnswersFrames_2 : ∃ (d n : Fin 2) (h idx w crc : Nat) (s : State), (s.ldTakes d n [h, idx, w] crc = true) ∧ (bits h 15 12 = 1) ∧ (bits h 7 5 = 0) ∧ (bits h 4 0 = 1) ∧ (idx < 16384) ∧ ((s.ldx d).owner ≠ some n.val) :=
  ⟨(1 : Fin 2), (1 : Fin 2), (0x1F01 : Nat), (32 : Nat), (17 : Nat), (lbCrc [0x1F01, 32, 17] : Nat), ((fun (d : Fin 2) (n : Fin 2) (h : Nat) (idx : Nat) (w : Nat) (crc : Nat) (s : State) => (s.modLd d (fun x => { x with inReset := false, owner := some (1 - n.val), kept := [] }) : State)) (1 : Fin 2) (1 : Fin 2) (0x1F01 : Nat) (32 : Nat) (17 : Nat) (lbCrc [0x1F01, 32, 17] : Nat) State.reset), by decide +kernel⟩
theorem wit_LoadDieAnswersFrames_3 : ∃ (d n : Fin 2) (h idx crc : Nat) (s : State), (s.ldTakes d n [h, idx] crc = true) ∧ (bits h 15 12 = 2) ∧ (bits h 7 5 = 0) ∧ (bits h 4 0 = 1) ∧ (idx < 16384) ∧ (idx ≠ 0xB) :=
  ⟨(1 : Fin 2), (0 : Fin 2), (0x2001 : Nat), (0 : Nat), (lbCrc [0x2001, 0] : Nat), ((fun (d : Fin 2) (n : Fin 2) (h : Nat) (idx : Nat) (crc : Nat) (s : State) => (s.modLd d (fun x => { x with inReset := false, kept := [] }) : State)) (1 : Fin 2) (0 : Fin 2) (0x2001 : Nat) (0 : Nat) (lbCrc [0x2001, 0] : Nat) State.reset), by decide +kernel⟩
theorem wit_LoadDieAnswersFrames_4 : ∃ (d n : Fin 2) (h epoch crc : Nat) (s : State), (s.ldTakes d n [h, epoch] crc = true) ∧ (bits h 15 12 = 3) ∧ (bits h 6 0 = 0) ∧ (epoch < 65536) ∧ (s.hbAccept d n epoch (bitOf h 7) = true) :=
  ⟨(0 : Fin 2), (1 : Fin 2), (0x3000 : Nat), (4 : Nat), (lbCrc [0x3000, 4] : Nat), ((fun (d : Fin 2) (n : Fin 2) (h : Nat) (epoch : Nat) (crc : Nat) (s : State) => (s.modLd d (fun x => { x with inReset := false, kept := [], eMax := 3, owner := some 0 }) : State)) (0 : Fin 2) (1 : Fin 2) (0x3000 : Nat) (4 : Nat) (lbCrc [0x3000, 4] : Nat) State.reset), by decide +kernel⟩
theorem wit_LoadDieAnswersFrames_5 : ∃ (d n : Fin 2) (h epoch crc : Nat) (s : State), (s.ldTakes d n [h, epoch] crc = true) ∧ (bits h 15 12 = 3) ∧ (bits h 6 0 = 0) ∧ (epoch < 65536) ∧ (s.hbAccept d n epoch (bitOf h 7) = false) :=
  ⟨(0 : Fin 2), (1 : Fin 2), (0x3000 : Nat), (3 : Nat), (lbCrc [0x3000, 3] : Nat), ((fun (d : Fin 2) (n : Fin 2) (h : Nat) (epoch : Nat) (crc : Nat) (s : State) => (s.modLd d (fun x => { x with inReset := false, kept := [], eMax := 3, owner := some 0 }) : State)) (0 : Fin 2) (1 : Fin 2) (0x3000 : Nat) (3 : Nat) (lbCrc [0x3000, 3] : Nat) State.reset), by decide +kernel⟩
theorem wit_BridgeAnswersAndTimers_1 : ∃ (n d : Fin 2) (seq : Fin 16) (ep new : Nat) (s : State), ((s.lbPort n d).out = some (seq.val, ⟨3, 0, new, [ep], .hb⟩)) :=
  ⟨(0 : Fin 2), (1 : Fin 2), (15 : Fin 16), (1 : Nat), (1 : Nat), ((fun (n : Fin 2) (d : Fin 2) (seq : Fin 16) (ep : Nat) (new : Nat) (s : State) => (s.modPort n d (fun p => { p with out := some (seq.val, ⟨3, 0, new, [ep], .hb⟩) }) : State)) (0 : Fin 2) (1 : Fin 2) (15 : Fin 16) (1 : Nat) (1 : Nat) State.reset), by decide +kernel⟩
theorem wit_BridgeAnswersAndTimers_2 : ∃ (n d : Fin 2) (seq : Fin 16) (e : Fin 8) (idx v : Nat) (s : State), ((s.lbPort n d).out = some (seq.val, ⟨2, idx, 1, [], .staged e⟩)) ∧ ((s.stage n e).used = true) ∧ ((s.stage n e).init = unitCode n 0xB) :=
  ⟨(1 : Fin 2), (0 : Fin 2), (0 : Fin 16), (7 : Fin 8), (3 : Nat), (5 : Nat), ((fun (n : Fin 2) (d : Fin 2) (seq : Fin 16) (e : Fin 8) (idx : Nat) (v : Nat) (s : State) => ((s.modPort n d (fun p => { p with out := some (seq.val, ⟨2, idx, 1, [], .staged e⟩) })).modCd n (fun x => { x with stages := Store.put {} x.stages e { used := true, init := unitCode n 0xB, addr := ld d + 2 * idx } }) : State)) (1 : Fin 2) (0 : Fin 2) (0 : Fin 16) (7 : Fin 8) (3 : Nat) (5 : Nat) State.reset), by decide +kernel⟩
theorem wit_BridgeAnswersAndTimers_3 : ∃ (n d : Fin 2) (seq : Nat) (r : LbReq) (s : State), ((s.lbPort n d).out = some (seq, r)) ∧ ((s.lbPort n d).tries < 3) :=
  ⟨(1 : Fin 2), (1 : Fin 2), (4 : Nat), (⟨2, 0, 1, [], .poll⟩ : LbReq), ((fun (n : Fin 2) (d : Fin 2) (seq : Nat) (r : LbReq) (s : State) => (s.modPort n d (fun p => { p with out := some (seq, r), tries := 2 }) : State)) (1 : Fin 2) (1 : Fin 2) (4 : Nat) (⟨2, 0, 1, [], .poll⟩ : LbReq) State.reset), by decide +kernel⟩
theorem wit_BridgeAnswersAndTimers_4 : ∃ (n d : Fin 2) (s : State), (s.isActive n = true) ∧ ((s.cdx n).mainUp = true) ∧ ((s.cdx n).kicked = true) ∧ (bitOf (s.rd (cd n) R.LB_HBTEST_HOLD) d = false) :=
  ⟨(0 : Fin 2), (1 : Fin 2), ((fun (n : Fin 2) (d : Fin 2) (s : State) => (((s.wr (cd n) R.PAIR_STAT_ROLE 1).wr (cd n) R.LB_HBTEST_HOLD 0).modCd n (fun x => { x with mainUp := true, kicked := true }) : State)) (0 : Fin 2) (1 : Fin 2) State.reset), by decide +kernel⟩
theorem wit_BridgeAnswersAndTimers_5 : ∃ (n d : Fin 2) (s : State), (s.isActive n = true) ∧ ((s.cdx n).mainUp = true) ∧ (s.rd (cd n) R.LB_CTRL_POLL_US ≠ 0) ∧ (s.inService n (6 + d) = true) :=
  ⟨(1 : Fin 2), (0 : Fin 2), ((fun (n : Fin 2) (d : Fin 2) (s : State) => ((((s.wr (cd n) R.PAIR_STAT_ROLE 1).wr (cd n) (diesFld (6 + d)) 2).wr (cd n) R.LB_CTRL_POLL_US 2).modCd n (fun x => { x with mainUp := true }) : State)) (1 : Fin 2) (0 : Fin 2) State.reset), by decide +kernel⟩
theorem wit_BridgeAnswersAndTimers_6 : ∃ (n d : Fin 2) (s : State), ((s.cdx n).mainUp = true) ∧ (s.rd (cd n) R.LB_CTRL_TEL_PER ≠ 0) ∧ (s.inService n (6 + d) = true) :=
  ⟨(0 : Fin 2), (1 : Fin 2), ((fun (n : Fin 2) (d : Fin 2) (s : State) => (((s.wr (cd n) (diesFld (6 + d)) 2).wr (cd n) R.LB_CTRL_TEL_PER 10).modCd n (fun x => { x with mainUp := true }) : State)) (0 : Fin 2) (1 : Fin 2) State.reset), by decide +kernel⟩
theorem wit_LoadDieLocksAndTests_1 : ∃ (n d : Fin 2) (unit : Fin 16) (s : State), (s.flag (cd n) (R.LB_LOCK_HELD.at d) = false) :=
  ⟨(0 : Fin 2), (0 : Fin 2), (15 : Fin 16), ((fun (n : Fin 2) (d : Fin 2) (unit : Fin 16) (s : State) => (s.wr (cd n) (R.LB_LOCK_HELD.at d) 0 : State)) (0 : Fin 2) (0 : Fin 2) (15 : Fin 16) State.reset), by decide +kernel⟩
theorem wit_LoadDieLocksAndTests_2 : ∃ (n d : Fin 2) (unit : Fin 16) (s : State), (s.flag (cd n) (R.LB_LOCK_HELD.at d) = true) ∧ (s.rd (cd n) (R.LB_LOCK_HOLDER.at d) = unitCode n unit) :=
  ⟨(1 : Fin 2), (0 : Fin 2), (0 : Fin 16), ((fun (n : Fin 2) (d : Fin 2) (unit : Fin 16) (s : State) => ((s.wr (cd n) (R.LB_LOCK_HELD.at d) 1).wr (cd n) (R.LB_LOCK_HOLDER.at d) (unitCode n unit) : State)) (1 : Fin 2) (0 : Fin 2) (0 : Fin 16) State.reset), by decide +kernel⟩
theorem wit_LoadDieLocksAndTests_3 : ∃ (n d : Fin 2) (s : State), (s.flag (cd n) (R.LB_LOCK_HELD.at d) = true) :=
  ⟨(0 : Fin 2), (1 : Fin 2), ((fun (n : Fin 2) (d : Fin 2) (s : State) => ((s.wr (cd n) (R.LB_LOCK_HELD.at d) 1) : State)) (0 : Fin 2) (1 : Fin 2) State.reset), by decide +kernel⟩
theorem wit_LoadDieLocksAndTests_4 : ∃ (n d : Fin 2) (s : State), (s.isActive n = true) ∧ (bitOf (s.ldc n d).stat 15 = true) :=
  ⟨(0 : Fin 2), (0 : Fin 2), ((fun (n : Fin 2) (d : Fin 2) (s : State) => ((s.wr (cd n) R.PAIR_STAT_ROLE 1).modLdc n d (fun c => { c with stat := 0x9000 }) : State)) (0 : Fin 2) (0 : Fin 2) State.reset), by decide +kernel⟩
theorem wit_LoadDieLocksAndTests_5 : ∃ (n d : Fin 2) (s : State), (bitOf (s.rd (cd n) R.LB_HBTEST_HOLD) d = true) :=
  ⟨(1 : Fin 2), (1 : Fin 2), ((fun (n : Fin 2) (d : Fin 2) (s : State) => (s.wr (cd n) R.LB_HBTEST_HOLD 3 : State)) (1 : Fin 2) (1 : Fin 2) State.reset), by decide +kernel⟩
theorem wit_LedgerLimitsFollowWrites_3 : ∃ (n : Fin 2) (tenMs : Bool) (s : State), (s.inService n 6 = true) ∧ (s.inService n 7 = false) ∧ (Store.get 0 (s.ldc n 0).adc 0x18 < 8 * s.rd (cd n) R.LG_SAG_VMIN) ∧ (s.lgC n < 65536) :=
  ⟨(1 : Fin 2), (false : Bool), ((fun (n : Fin 2) (tenMs : Bool) (s : State) => ((((s.wr (cd n) (diesFld 6) 2).wr (cd n) (diesFld 7) 1).wr (cd n) R.LG_SAG_VMIN 105).modLdc n 0 (fun c => { c with adc := Store.put 0 c.adc 0x18 800 }) : State)) (1 : Fin 2) (false : Bool) State.reset), by decide +kernel⟩
theorem wit_LedgerLimitsFollowWrites_4 : ∃ (n : Fin 2) (e : Fin 48) (s : State), (s.lgSt n e = 1) ∧ (s.rd (cd n) (R.GNT_A_EXCESS.at e) ≠ 0) ∧ (s.lgFrozen n e = false) :=
  ⟨(0 : Fin 2), (47 : Fin 48), ((fun (n : Fin 2) (e : Fin 48) (s : State) => (((s.wr (cd n) (diesFld (6 + e / 24)) 2).lgWr n e R.GNT_B_STATE 1).lgWr n e R.GNT_A_EXCESS 40 : State)) (0 : Fin 2) (47 : Fin 48) State.reset), by decide +kernel⟩
theorem wit_LedgerLimitsFollowWrites_5 : ∃ (n : Fin 2) (e : Fin 48) (q : LgReq) (s : State), (s.lgSt n e = 3) ∧ ((s.lgx n e).failed = false) ∧ ((s.lgx n e).waits = []) ∧ ((s.lgx n e).req = some q) ∧ (q.op = 1) :=
  ⟨(0 : Fin 2), (0 : Fin 48), ({ op := 1 } : LgReq), ((fun (n : Fin 2) (e : Fin 48) (q : LgReq) (s : State) => ((s.lgWr n e R.GNT_B_STATE 3).modLg n e (fun x => { x with req := some q, waits := [], failed := false }) : State)) (0 : Fin 2) (0 : Fin 48) ({ op := 1 } : LgReq) State.reset), by decide +kernel⟩
theorem wit_LedgerLimitsFollowWrites_6 : ∃ (n : Fin 2) (d : Fin 4) (level : Fin 16) (s : State), (s.rd (sd d) R.SD_EPOCH_NODE = n.val + 1) ∧ ((s.lvl n d).pend = some level.val) ∧ ((s.lvl n d).raise = []) :=
  ⟨(0 : Fin 2), (3 : Fin 4), (15 : Fin 16), ((fun (n : Fin 2) (d : Fin 4) (level : Fin 16) (s : State) => ((s.wr (sd d) R.SD_EPOCH_NODE (n.val + 1)).modLvl n d (fun x => { x with pend := some level.val, raise := [] }) : State)) (0 : Fin 2) (3 : Fin 4) (15 : Fin 16) State.reset), by decide +kernel⟩
theorem wit_LedgerLimitsFollowWrites_7 : ∃ (n : Fin 2) (d : Fin 4) (e : Fin 32) (s : State), ((s.lvl n d).pend = none) ∧ ((s.lvl n d).lower = [(48 + e.val, false)]) :=
  ⟨(1 : Fin 2), (0 : Fin 4), (31 : Fin 32), ((fun (n : Fin 2) (d : Fin 4) (e : Fin 32) (s : State) => ((s.lgWr n (48 + e) R.GNT_B_STATE 1).modLvl n d (fun x => { x with pend := none, lower := [(48 + e.val, false)] }) : State)) (1 : Fin 2) (0 : Fin 4) (31 : Fin 32) State.reset), by decide +kernel⟩
theorem wit_PowerInstructionsReachLedger_1 : ∃ (a : Fin 16) (ins : Ins) (g : Fin 48) (v : Nat) (s : State), (ins.x = false) ∧ (csemOk a ins = true) ∧ (ins.ef 16 0 = 0) ∧ (s.issues a ins [ins.a.val, ins.b.val, ins.c.val]) ∧ (s.isActive (sqDie a) = true) ∧ ((s.sR a ins.b).toNat = g) ∧ ((s.sR a ins.c).toNat = v) ∧ (s.badChannel (sqDie a) g = false) ∧ (bits v 31 20 = 0 ∧ bits v 17 8 ≤ 1000) ∧ ((if s.lgGang (sqDie a) g then 10 else 5) ≤ bits v 7 0 ∧ bits v 7 0 ≤ (if s.lgGang (sqDie a) g then 240 else 120)) ∧ (s.lgEntry (sqDie a) g = g) ∧ (s.lgFrozen (sqDie a) g = false) ∧ ((s.lgHalves (sqDie a) g).all (fun p => !bitOf (s.chc (sqDie a) (24 * p.1 + p.2)).stat 15 && !bitOf (s.chc (sqDie a) (24 * p.1 + p.2)).stat 10) = true) ∧ ((∀ x : Fin 84, s.lgSt (sqDie a) x = 0)) ∧ ((let q : LgReq := { op := 1, ilim := bits v 7 0, mult := bits v 19 18, window := bits v 17 8 }; s.lgS (sqDie a) g q + s.lgE (sqDie a) g q ≤ min (s.lgC (sqDie a)) (s.lgCeil (sqDie a)))) :=
  ⟨(15 : Fin 16), (⟨false, 0, 1, 2, 3, 0, 0⟩ : Ins), (47 : Fin 48), (0x1405 : Nat), ((fun (a : Fin 16) (ins : Ins) (g : Fin 48) (v : Nat) (s : State) => ((running (((((s.wr (cd (sqDie a)) R.PAIR_STAT_ROLE 1).wr (cd (sqDie a)) (diesFld (6 + g / 24)) 2 |>.modChc (sqDie a) g (fun c => { c with stat := 0, otpA := 0 }) |>.modLdc (sqDie a) (g / 24) (fun c => { c with stat := 0 })).clearRegs (cd (sqDie a) + 0x7200) (cd (sqDie a) + 0x7500)).modCd (sqDie a) (fun y => { y with lg := [] })).sW a ins.b (BitVec.ofNat 32 g.val) |>.sW a ins.c (BitVec.ofNat 32 v)) a) : State)) (15 : Fin 16) (⟨false, 0, 1, 2, 3, 0, 0⟩ : Ins) (47 : Fin 48) (0x1405 : Nat) State.reset), by decide +kernel⟩
theorem wit_PowerInstructionsReachLedger_2 : ∃ (a : Fin 16) (ins : Ins) (g : Fin 48) (s : State), (ins.x = false) ∧ (csemOk a ins = true) ∧ (ins.ef 16 0 = 0) ∧ (s.issues a ins [ins.a.val, ins.b.val]) ∧ (s.isActive (sqDie a) = true) ∧ ((s.sR a ins.b).toNat = g) ∧ (s.badChannel (sqDie a) g = false) ∧ (s.lgSt (sqDie a) (s.lgEntry (sqDie a) g) = 2) ∧ ((s.lgHalves (sqDie a) (s.lgEntry (sqDie a) g)).any (s.lgUp (sqDie a)) = true) :=
  ⟨(0 : Fin 16), (⟨false, 0, 1, 2, 0, 0, 0⟩ : Ins), (24 : Fin 48), ((fun (a : Fin 16) (ins : Ins) (g : Fin 48) (s : State) => ((running ((s.wr (cd (sqDie a)) R.PAIR_STAT_ROLE 1).wr (cd (sqDie a)) (diesFld (6 + g / 24)) 2 |>.lgWr (sqDie a) (s.lgEntry (sqDie a) g) R.GNT_B_STATE 2) a).sW a ins.b (BitVec.ofNat 32 g.val) : State)) (0 : Fin 16) (⟨false, 0, 1, 2, 0, 0, 0⟩ : Ins) (24 : Fin 48) State.reset), by decide +kernel⟩
theorem wit_PowerInstructionsReachLedger_3 : ∃ (a : Fin 16) (ins : Ins) (g : Fin 48) (v : Nat) (s : State), (ins.x = false) ∧ (csemOk a ins = true) ∧ (ins.ef 16 0 = 0) ∧ (s.issues a ins [ins.a.val, ins.b.val, ins.c.val]) ∧ (s.isActive (sqDie a) = true) ∧ ((s.sR a ins.b).toNat = g) ∧ ((s.sR a ins.c).toNat = v) ∧ (s.badChannel (sqDie a) g = false) ∧ (bits v 31 20 = 0 ∧ bits v 17 8 ≤ 1000) ∧ ((if s.lgGang (sqDie a) g then 10 else 5) ≤ bits v 7 0 ∧ bits v 7 0 ≤ (if s.lgGang (sqDie a) g then 240 else 120)) ∧ (s.lgSt (sqDie a) (s.lgEntry (sqDie a) g) = 2) :=
  ⟨(7 : Fin 16), (⟨false, 0, 1, 2, 3, 0, 0⟩ : Ins), (0 : Fin 48), (0x78 : Nat), ((fun (a : Fin 16) (ins : Ins) (g : Fin 48) (v : Nat) (s : State) => ((running ((s.wr (cd (sqDie a)) R.PAIR_STAT_ROLE 1).lgWr (sqDie a) (s.lgEntry (sqDie a) g) R.GNT_B_STATE 2) a).sW a ins.b (BitVec.ofNat 32 g.val) |>.sW a ins.c (BitVec.ofNat 32 v) : State)) (7 : Fin 16) (⟨false, 0, 1, 2, 3, 0, 0⟩ : Ins) (0 : Fin 48) (0x78 : Nat) State.reset), by decide +kernel⟩
theorem wit_PowerInstructionsReachLedger_4 : ∃ (a : Fin 16) (ins : Ins) (g : Fin 48) (s : State), (ins.x = false) ∧ (csemOk a ins = true) ∧ (ins.c = 0) ∧ (ins.ef 19 0 = 0) ∧ (s.issues a ins [ins.a.val, ins.b.val]) ∧ ((s.sR a ins.b).toNat = g) ∧ (s.badChannel (sqDie a) g = false) :=
  ⟨(9 : Fin 16), (⟨false, 0, 1, 2, 0, 0, 0⟩ : Ins), (47 : Fin 48), ((fun (a : Fin 16) (ins : Ins) (g : Fin 48) (s : State) => ((running (s) a).sW a ins.b (BitVec.ofNat 32 g.val) : State)) (9 : Fin 16) (⟨false, 0, 1, 2, 0, 0, 0⟩ : Ins) (47 : Fin 48) State.reset), by decide +kernel⟩
theorem wit_PowerInstructionsReachLedger_5 : ∃ (a : Fin 16) (ins : Ins) (g : Fin 48) (s : State), (ins.x = false) ∧ (csemOk a ins = true) ∧ (ins.c = 0) ∧ (ins.ef 19 0 = 0) ∧ (s.issues a ins [ins.a.val, ins.b.val]) ∧ ((s.sR a ins.b).toNat = g) ∧ (s.badChannel (sqDie a) g = false) :=
  ⟨(9 : Fin 16), (⟨false, 0, 1, 2, 0, 0, 0⟩ : Ins), (0 : Fin 48), ((fun (a : Fin 16) (ins : Ins) (g : Fin 48) (s : State) => ((running (s) a).sW a ins.b (BitVec.ofNat 32 g.val) : State)) (9 : Fin 16) (⟨false, 0, 1, 2, 0, 0, 0⟩ : Ins) (0 : Fin 48) State.reset), by decide +kernel⟩
theorem wit_PowerInstructionsReachLedger_6 : ∃ (a : Fin 16) (ins : Ins) (g : Fin 48) (s : State), (ins.x = false) ∧ (csemOk a ins = true) ∧ (ins.c = 0) ∧ (ins.ef 19 0 = 0) ∧ (s.issues a ins [ins.a.val, ins.b.val]) ∧ ((s.sR a ins.b).toNat = g) ∧ (s.badChannel (sqDie a) g = false) :=
  ⟨(9 : Fin 16), (⟨false, 0, 1, 2, 0, 0, 0⟩ : Ins), (24 : Fin 48), ((fun (a : Fin 16) (ins : Ins) (g : Fin 48) (s : State) => ((running (s) a).sW a ins.b (BitVec.ofNat 32 g.val) : State)) (9 : Fin 16) (⟨false, 0, 1, 2, 0, 0, 0⟩ : Ins) (24 : Fin 48) State.reset), by decide +kernel⟩
theorem wit_PowerInstructionsReachLedger_7 : ∃ (a : Fin 16) (ins : Ins) (s : State), (ins.x = false) ∧ (csemOk a ins = true) ∧ (ins.b = 0) ∧ (ins.c = 0) ∧ (ins.ef 12 0 = 0) ∧ (s.issues a ins [ins.a.val]) ∧ (s.isActive (sqDie a) = true) ∧ (s.inService (sqDie a) (2 + ins.ef 18 17) = true) ∧ ((∀ x : Fin 84, s.lgSt (sqDie a) x = 0)) ∧ ((∀ l : Fin 16, s.lvlCur (sqDie a) l ≤ min (s.lgC (sqDie a)) (s.lgCeil (sqDie a)))) :=
  ⟨(3 : Fin 16), (⟨false, 0, 1, 0, 0, 0x68000, 0⟩ : Ins), ((fun (a : Fin 16) (ins : Ins) (s : State) => ((running (((((s.wr (cd (sqDie a)) R.PAIR_STAT_ROLE 1).wr (cd (sqDie a)) (diesFld (2 + ins.ef 18 17)) 2 |>.wr (cd (sqDie a)) R.LG_CAP_CAP 500 |>.wr (cd (sqDie a)) R.LG_SOFT_SOFT 500 |>.modCd (sqDie a) (fun x => { x with lgMax := 500, shelf := {} }) |>.clearRegs (cd (sqDie a) + 0x7040) (cd (sqDie a) + 0x7084)).clearRegs (cd (sqDie a) + 0x7200) (cd (sqDie a) + 0x7500)).modCd (sqDie a) (fun y => { y with lg := [] }))) a) : State)) (3 : Fin 16) (⟨false, 0, 1, 0, 0, 0x68000, 0⟩ : Ins) State.reset), by decide +kernel⟩
theorem wit_PowerInstructionsReachLedger_8 : ∃ (a : Fin 16) (ins : Ins) (k : Fin 32) (s : State), (ins.x = false) ∧ (csemOk a ins = true) ∧ (ins.c = 0) ∧ (ins.ef 22 0 = 0) ∧ (s.issues a ins [ins.a.val, ins.b.val]) ∧ (s.isActive (sqDie a) = true) ∧ ((s.sR a ins.b).toNat = k) ∧ (s.lgSt (sqDie a) (48 + k) = 2) :=
  ⟨(1 : Fin 16), (⟨false, 0, 1, 2, 0, 0, 0⟩ : Ins), (31 : Fin 32), ((fun (a : Fin 16) (ins : Ins) (k : Fin 32) (s : State) => ((running ((s.wr (cd (sqDie a)) R.PAIR_STAT_ROLE 1).lgWr (sqDie a) (48 + k) R.GNT_B_STATE 2) a).sW a ins.b (BitVec.ofNat 32 k.val) : State)) (1 : Fin 16) (⟨false, 0, 1, 2, 0, 0, 0⟩ : Ins) (31 : Fin 32) State.reset), by decide +kernel⟩
theorem wit_ScalarArithmeticResults_1 : ∃ (a : Fin 48) (imm : Bool) (ins : Ins) (s : State), (ins.x = false) ∧ (ins.sub = 0) ∧ (ins.riOk imm = true) ∧ (s.issues a ins ([ins.a.val, ins.b.val] ++ (if imm then [] else [ins.c.val]))) :=
  ⟨(47 : Fin 48), (true : Bool), (⟨false, 0, 3, 4, 0, BitVec.ofNat 37 (0 * 2 ^ 32 + 7), 0⟩ : Ins), ((fun (a : Fin 48) (imm : Bool) (ins : Ins) (s : State) => ((running s a) : State)) (47 : Fin 48) (true : Bool) (⟨false, 0, 3, 4, 0, BitVec.ofNat 37 (0 * 2 ^ 32 + 7), 0⟩ : Ins) State.reset), by decide +kernel⟩
theorem wit_ScalarArithmeticResults_2 : ∃ (a : Fin 48) (imm : Bool) (ins : Ins) (s : State), (ins.x = false) ∧ (ins.sub = 16) ∧ (ins.riOk imm = true) ∧ (ins.a < 16) ∧ (ins.b < 16) ∧ (s.issues a ins ([32 + ins.a.val, 32 + ins.b.val] ++ (if imm then [] else [ins.c.val]))) :=
  ⟨(47 : Fin 48), (true : Bool), (⟨false, 0, 15, 1, 0, BitVec.ofNat 37 (16 * 2 ^ 32 + 0xFFFFFFFF), 0⟩ : Ins), ((fun (a : Fin 48) (imm : Bool) (ins : Ins) (s : State) => ((running s a) : State)) (47 : Fin 48) (true : Bool) (⟨false, 0, 15, 1, 0, BitVec.ofNat 37 (16 * 2 ^ 32 + 0xFFFFFFFF), 0⟩ : Ins) State.reset), by decide +kernel⟩
theorem wit_ScalarArithmeticResults_3 : ∃ (a : Fin 48) (imm : Bool) (ins : Ins) (s : State), (ins.x = false) ∧ (ins.sub = 0) ∧ (ins.riOk imm = true) ∧ (s.issues a ins ([ins.a.val, ins.b.val] ++ (if imm then [] else [ins.c.val]))) :=
  ⟨(47 : Fin 48), (true : Bool), (⟨false, 0, 3, 4, 0, BitVec.ofNat 37 (0 * 2 ^ 32 + 7), 0⟩ : Ins), ((fun (a : Fin 48) (imm : Bool) (ins : Ins) (s : State) => ((running s a) : State)) (47 : Fin 48) (true : Bool) (⟨false, 0, 3, 4, 0, BitVec.ofNat 37 (0 * 2 ^ 32 + 7), 0⟩ : Ins) State.reset), by decide +kernel⟩
theorem wit_ScalarArithmeticResults_4 : ∃ (a : Fin 48) (imm : Bool) (ins : Ins) (s : State), (ins.x = false) ∧ (ins.sub = 16) ∧ (ins.riOk imm = true) ∧ (ins.a < 16) ∧ (ins.b < 16) ∧ (s.issues a ins ([32 + ins.a.val, 32 + ins.b.val] ++ (if imm then [] else [ins.c.val]))) :=
  ⟨(47 : Fin 48), (true : Bool), (⟨false, 0, 15, 1, 0, BitVec.ofNat 37 (16 * 2 ^ 32 + 0xFFFFFFFF), 0⟩ : Ins), ((fun (a : Fin 48) (imm : Bool) (ins : Ins) (s : State) => ((running s a) : State)) (47 : Fin 48) (true : Bool) (⟨false, 0, 15, 1, 0, BitVec.ofNat 37 (16 * 2 ^ 32 + 0xFFFFFFFF), 0⟩ : Ins) State.reset), by decide +kernel⟩
theorem wit_ScalarArithmeticResults_5 : ∃ (a : Fin 48) (imm : Bool) (ins : Ins) (s : State), (ins.x = false) ∧ (ins.sub = 0) ∧ (ins.riOk imm = true) ∧ (s.issues a ins ([ins.a.val, ins.b.val] ++ (if imm then [] else [ins.c.val]))) :=
  ⟨(47 : Fin 48), (true : Bool), (⟨false, 0, 3, 4, 0, BitVec.ofNat 37 (0 * 2 ^ 32 + 7), 0⟩ : Ins), ((fun (a : Fin 48) (imm : Bool) (ins : Ins) (s : State) => ((running s a) : State)) (47 : Fin 48) (true : Bool) (⟨false, 0, 3, 4, 0, BitVec.ofNat 37 (0 * 2 ^ 32 + 7), 0⟩ : Ins) State.reset), by decide +kernel⟩
theorem wit_ScalarArithmeticResults_6 : ∃ (a : Fin 48) (imm : Bool) (ins : Ins) (s : State), (ins.x = false) ∧ (ins.sub = 1) ∧ (ins.riOk imm = true) ∧ (s.issues a ins ([ins.a.val, ins.b.val] ++ (if imm then [] else [ins.c.val]))) :=
  ⟨(47 : Fin 48), (true : Bool), (⟨false, 0, 3, 4, 0, BitVec.ofNat 37 (1 * 2 ^ 32 + 7), 0⟩ : Ins), ((fun (a : Fin 48) (imm : Bool) (ins : Ins) (s : State) => ((running s a) : State)) (47 : Fin 48) (true : Bool) (⟨false, 0, 3, 4, 0, BitVec.ofNat 37 (1 * 2 ^ 32 + 7), 0⟩ : Ins) State.reset), by decide +kernel⟩
theorem wit_ScalarArithmeticResults_7 : ∃ (a : Fin 48) (imm : Bool) (ins : Ins) (s : State), (ins.x = false) ∧ (ins.sub = 3) ∧ (ins.riOk imm = true) ∧ (s.issues a ins ([ins.a.val, ins.b.val] ++ (if imm then [] else [ins.c.val]))) :=
  ⟨(47 : Fin 48), (true : Bool), (⟨false, 0, 3, 4, 0, BitVec.ofNat 37 (3 * 2 ^ 32 + 7), 0⟩ : Ins), ((fun (a : Fin 48) (imm : Bool) (ins : Ins) (s : State) => ((running s a) : State)) (47 : Fin 48) (true : Bool) (⟨false, 0, 3, 4, 0, BitVec.ofNat 37 (3 * 2 ^ 32 + 7), 0⟩ : Ins) State.reset), by decide +kernel⟩
theorem wit_ScalarArithmeticResults_8 : ∃ (a : Fin 48) (imm : Bool) (ins : Ins) (s : State), (ins.x = false) ∧ (ins.sub = 0) ∧ (ins.riOk imm = true) ∧ (s.issues a ins ([ins.a.val, ins.b.val] ++ (if imm then [] else [ins.c.val]))) :=
  ⟨(47 : Fin 48), (true : Bool), (⟨false, 0, 3, 4, 0, BitVec.ofNat 37 (0 * 2 ^ 32 + 7), 0⟩ : Ins), ((fun (a : Fin 48) (imm : Bool) (ins : Ins) (s : State) => ((running s a) : State)) (47 : Fin 48) (true : Bool) (⟨false, 0, 3, 4, 0, BitVec.ofNat 37 (0 * 2 ^ 32 + 7), 0⟩ : Ins) State.reset), by decide +kernel⟩
theorem wit_ScalarArithmeticResults_9 : ∃ (a : Fin 48) (imm : Bool) (ins : Ins) (s : State), (ins.x = false) ∧ (ins.sub = 0) ∧ (ins.riOk imm = true) ∧ (s.issues a ins ([ins.a.val, ins.b.val] ++ (if imm then [] else [ins.c.val]))) :=
  ⟨(47 : Fin 48), (true : Bool), (⟨false, 0, 3, 4, 0, BitVec.ofNat 37 (0 * 2 ^ 32 + 7), 0⟩ : Ins), ((fun (a : Fin 48) (imm : Bool) (ins : Ins) (s : State) => ((running s a) : State)) (47 : Fin 48) (true : Bool) (⟨false, 0, 3, 4, 0, BitVec.ofNat 37 (0 * 2 ^ 32 + 7), 0⟩ : Ins) State.reset), by decide +kernel⟩
theorem wit_ScalarArithmeticResults_10 : ∃ (a : Fin 48) (imm : Bool) (ins : Ins) (s : State), (ins.x = false) ∧ (ins.sub = 0) ∧ (ins.riOk imm = true) ∧ (s.issues a ins ([ins.a.val, ins.b.val] ++ (if imm then [] else [ins.c.val]))) :=
  ⟨(47 : Fin 48), (true : Bool), (⟨false, 0, 3, 4, 0, BitVec.ofNat 37 (0 * 2 ^ 32 + 7), 0⟩ : Ins), ((fun (a : Fin 48) (imm : Bool) (ins : Ins) (s : State) => ((running s a) : State)) (47 : Fin 48) (true : Bool) (⟨false, 0, 3, 4, 0, BitVec.ofNat 37 (0 * 2 ^ 32 + 7), 0⟩ : Ins) State.reset), by decide +kernel⟩
theorem wit_ScalarArithmeticResults_11 : ∃ (a : Fin 48) (imm : Bool) (ins : Ins) (s : State), (ins.x = false) ∧ (ins.sub = 0) ∧ (ins.riOk imm = true) ∧ (s.issues a ins ([ins.a.val, ins.b.val] ++ (if imm then [] else [ins.c.val]))) :=
  ⟨(47 : Fin 48), (true : Bool), (⟨false, 0, 3, 4, 0, BitVec.ofNat 37 (0 * 2 ^ 32 + 7), 0⟩ : Ins), ((fun (a : Fin 48) (imm : Bool) (ins : Ins) (s : State) => ((running s a) : State)) (47 : Fin 48) (true : Bool) (⟨false, 0, 3, 4, 0, BitVec.ofNat 37 (0 * 2 ^ 32 + 7), 0⟩ : Ins) State.reset), by decide +kernel⟩
theorem wit_ScalarArithmeticResults_12 : ∃ (a : Fin 48) (imm : Bool) (ins : Ins) (s : State), (ins.x = false) ∧ (ins.sub = 0) ∧ (ins.riOk imm = true) ∧ (s.issues a ins ([ins.a.val, ins.b.val] ++ (if imm then [] else [ins.c.val]))) :=
  ⟨(47 : Fin 48), (true : Bool), (⟨false, 0, 3, 4, 0, BitVec.ofNat 37 (0 * 2 ^ 32 + 7), 0⟩ : Ins), ((fun (a : Fin 48) (imm : Bool) (ins : Ins) (s : State) => ((running s a) : State)) (47 : Fin 48) (true : Bool) (⟨false, 0, 3, 4, 0, BitVec.ofNat 37 (0 * 2 ^ 32 + 7), 0⟩ : Ins) State.reset), by decide +kernel⟩
theorem wit_ScalarArithmeticResults_13 : ∃ (a : Fin 48) (imm : Bool) (ins : Ins) (s : State), (ins.x = false) ∧ (ins.sub = 1) ∧ (ins.riOk imm = true) ∧ (s.issues a ins ([ins.a.val, ins.b.val] ++ (if imm then [] else [ins.c.val]))) :=
  ⟨(47 : Fin 48), (true : Bool), (⟨false, 0, 3, 4, 0, BitVec.ofNat 37 (1 * 2 ^ 32 + 7), 0⟩ : Ins), ((fun (a : Fin 48) (imm : Bool) (ins : Ins) (s : State) => ((running s a) : State)) (47 : Fin 48) (true : Bool) (⟨false, 0, 3, 4, 0, BitVec.ofNat 37 (1 * 2 ^ 32 + 7), 0⟩ : Ins) State.reset), by decide +kernel⟩
theorem wit_ScalarArithmeticResults_14 : ∃ (a : Fin 48) (imm : Bool) (ins : Ins) (s : State), (ins.x = false) ∧ (ins.sub < 6) ∧ (ins.riOk imm = true) ∧ (ins.a < 8) ∧ (s.issues a ins (ins.b.val :: (if imm then [] else [ins.c.val]))) :=
  ⟨(47 : Fin 48), (true : Bool), (⟨false, 0, 7, 4, 0, BitVec.ofNat 37 (2 * 2 ^ 32 + 7), 0⟩ : Ins), ((fun (a : Fin 48) (imm : Bool) (ins : Ins) (s : State) => ((running s a) : State)) (47 : Fin 48) (true : Bool) (⟨false, 0, 7, 4, 0, BitVec.ofNat 37 (2 * 2 ^ 32 + 7), 0⟩ : Ins) State.reset), by decide +kernel⟩
theorem wit_ScalarArithmeticResults_15 : ∃ (a : Fin 48) (ins : Ins) (s : State), (ins.x = false) ∧ (16 ≤ ins.sub ∧ ins.sub < 22) ∧ (ins.imm = 0) ∧ (ins.a < 8) ∧ (ins.b < 16) ∧ (ins.c < 16) ∧ (s.issues a ins [32 + ins.b.val, 32 + ins.c.val]) :=
  ⟨(0 : Fin 48), (⟨false, 0, 1, 15, 0, BitVec.ofNat 37 (21 * 2 ^ 32), 0⟩ : Ins), ((fun (a : Fin 48) (ins : Ins) (s : State) => ((running s a) : State)) (0 : Fin 48) (⟨false, 0, 1, 15, 0, BitVec.ofNat 37 (21 * 2 ^ 32), 0⟩ : Ins) State.reset), by decide +kernel⟩
theorem wit_LoadImmediate_1 : ∃ (a : Fin 48) (ins : Ins) (s : State), (ins.x = false) ∧ (ins.sub = 0) ∧ (ins.b = 0) ∧ (ins.c = 0) ∧ (s.issues a ins [ins.a.val]) :=
  ⟨(16 : Fin 48), (⟨false, 0, 31, 0, 0, 0xFFFFFFFF, 0⟩ : Ins), ((fun (a : Fin 48) (ins : Ins) (s : State) => ((running s a) : State)) (16 : Fin 48) (⟨false, 0, 31, 0, 0, 0xFFFFFFFF, 0⟩ : Ins) State.reset), by decide +kernel⟩
theorem wit_LoadImmediate_2 : ∃ (a : Fin 48) (ins : Ins) (s : State), (ins.sub = 1) ∧ (ins.b = 0) ∧ (ins.c = 0) ∧ (ins.a < 16) ∧ (ins.xw < 256) ∧ (s.issues a ins [32 + ins.a.val]) :=
  ⟨(16 : Fin 48), (⟨true, 0, 15, 0, 0, 0x1FFFFFFFF, 0x93⟩ : Ins), ((fun (a : Fin 48) (ins : Ins) (s : State) => ((running s a) : State)) (16 : Fin 48) (⟨true, 0, 15, 0, 0, 0x1FFFFFFFF, 0x93⟩ : Ins) State.reset), by decide +kernel⟩
theorem wit_LoadImmediate_3 : ∃ (a : Fin 48) (ins : Ins) (s : State), (ins.x = false) ∧ (ins.sub = 1) ∧ (ins.b = 0) ∧ (ins.c = 0) ∧ (ins.a < 16) ∧ (s.issues a ins [32 + ins.a.val]) :=
  ⟨(16 : Fin 48), (⟨false, 0, 15, 0, 0, 0x1FFFFFFFF, 0⟩ : Ins), ((fun (a : Fin 48) (ins : Ins) (s : State) => ((running s a) : State)) (16 : Fin 48) (⟨false, 0, 15, 0, 0, 0x1FFFFFFFF, 0⟩ : Ins) State.reset), by decide +kernel⟩
theorem wit_ControlFlowMovesThePc_1 : ∃ (a : Fin 48) (ins : Ins) (s : State), (ins.x = false) ∧ (ins.f 36 24 = 0) ∧ (ins.a = 0) ∧ (ins.b = 0) ∧ (ins.c = 0) ∧ (s.issues a ins []) ∧ ((s.agent a).loops = []) ∧ (0 ≤ (s.pc a : Int) + ins.disp ∧ (s.pc a : Int) + ins.disp < pmWords a) :=
  ⟨(3 : Fin 48), (⟨false, 0, 0, 0, 0, 2047, 0⟩ : Ins), ((fun (a : Fin 48) (ins : Ins) (s : State) => ((running s a) : State)) (3 : Fin 48) (⟨false, 0, 0, 0, 0, 2047, 0⟩ : Ins) State.reset), by decide +kernel⟩
theorem wit_ControlFlowMovesThePc_2 : ∃ (a : Fin 48) (ins : Ins) (s : State), (ins.x = false) ∧ (ins.f 36 24 = 0) ∧ (ins.b < 2) ∧ (ins.c = 0) ∧ (s.issues a ins [ins.a.val]) ∧ ((s.agent a).loops = []) ∧ (0 ≤ (s.pc a : Int) + ins.disp ∧ (s.pc a : Int) + ins.disp < pmWords a) :=
  ⟨(40 : Fin 48), (⟨false, 0, 5, 1, 0, 1, 0⟩ : Ins), ((fun (a : Fin 48) (ins : Ins) (s : State) => ((running s a) : State)) (40 : Fin 48) (⟨false, 0, 5, 1, 0, 1, 0⟩ : Ins) State.reset), by decide +kernel⟩
theorem wit_ControlFlowMovesThePc_3 : ∃ (a : Fin 48) (ins : Ins) (s : State), (ins.x = false) ∧ (ins.f 36 24 = 0) ∧ (ins.a = 0) ∧ (ins.b = 0) ∧ (ins.c = 0) ∧ (s.issues a ins []) ∧ ((s.agent a).calls.length < 16) ∧ (0 ≤ (s.pc a : Int) + ins.disp ∧ (s.pc a : Int) + ins.disp < pmWords a) :=
  ⟨(0 : Fin 48), (⟨false, 0, 0, 0, 0, 100, 0⟩ : Ins), ((fun (a : Fin 48) (ins : Ins) (s : State) => ((running s a) : State)) (0 : Fin 48) (⟨false, 0, 0, 0, 0, 100, 0⟩ : Ins) State.reset), by decide +kernel⟩
theorem wit_ControlFlowMovesThePc_4 : ∃ (a : Fin 48) (ins : Ins) (t1 : Fin 4096) (rest : List Nat) (s : State), (ins.x = false) ∧ (ins.low = 0) ∧ (ins.a = 0) ∧ (ins.b = 0) ∧ (ins.c = 0) ∧ (s.issues a ins []) ∧ ((s.agent a).calls = t1.val :: rest) :=
  ⟨(47 : Fin 48), (⟨false, 0, 0, 0, 0, 0, 0⟩ : Ins), (4095 : Fin 4096), ([3] : List Nat), ((fun (a : Fin 48) (ins : Ins) (t1 : Fin 4096) (rest : List Nat) (s : State) => ((running s a).modAgent a (fun g => { g with calls := t1.val :: rest }) : State)) (47 : Fin 48) (⟨false, 0, 0, 0, 0, 0, 0⟩ : Ins) (4095 : Fin 4096) ([3] : List Nat) State.reset), by decide +kernel⟩
theorem wit_ControlFlowMovesThePc_5 : ∃ (a : Fin 48) (ins : Ins) (s : State), (ins.x = false) ∧ (ins.f 36 24 = 0) ∧ (ins.b = 0) ∧ (ins.c = 0) ∧ (2 ≤ ins.disp) ∧ (s.issues a ins [ins.a.val]) ∧ (s.sR a ins.a ≠ 0) ∧ ((s.agent a).loops.length < 4) ∧ (s.pc a + 1 < pmWords a) :=
  ⟨(20 : Fin 48), (⟨false, 0, 5, 0, 0, 2, 0⟩ : Ins), ((fun (a : Fin 48) (ins : Ins) (s : State) => (((running s a).modAgent a (fun g => { g with loops := [(1, 4, 2), (0, 9, 1)] })).sW a ins.a 9 : State)) (20 : Fin 48) (⟨false, 0, 5, 0, 0, 2, 0⟩ : Ins) State.reset), by decide +kernel⟩
theorem wit_ControlFlowMovesThePc_6 : ∃ (a : Fin 48) (ins : Ins) (s : State), (ins.x = false) ∧ (ins.f 36 24 = 0) ∧ (ins.b = 0) ∧ (ins.c = 0) ∧ (1 ≤ ins.disp) ∧ (s.issues a ins [ins.a.val]) ∧ (s.sR a ins.a = 0) ∧ (0 ≤ (s.pc a : Int) + ins.disp ∧ (s.pc a : Int) + ins.disp < pmWords a) :=
  ⟨(20 : Fin 48), (⟨false, 0, 0, 0, 0, 1, 0⟩ : Ins), ((fun (a : Fin 48) (ins : Ins) (s : State) => ((running s a) : State)) (20 : Fin 48) (⟨false, 0, 0, 0, 0, 1, 0⟩ : Ins) State.reset), by decide +kernel⟩
theorem wit_StopPointsAndTrap_1 : ∃ (a : Fin 48) (ins : Ins) (s : State), (ins.x = false) ∧ (ins.low = 0) ∧ (ins.a = 0) ∧ (ins.b = 0) ∧ (ins.c = 0) ∧ (s.issues a ins []) ∧ (s.flag (agBase a) (fStopReq a) = false) ∧ ((s.agent a).halt = none) :=
  ⟨(31 : Fin 48), (⟨false, 0, 0, 0, 0, 0, 0⟩ : Ins), ((fun (a : Fin 48) (ins : Ins) (s : State) => ((running s a).wr (agBase a) (fStopReq a) 0 : State)) (31 : Fin 48) (⟨false, 0, 0, 0, 0, 0, 0⟩ : Ins) State.reset), by decide +kernel⟩
theorem wit_StopPointsAndTrap_2 : ∃ (a : Fin 48) (ins : Ins) (s : State), (ins.x = false) ∧ (ins.low = 0) ∧ (ins.a = 0) ∧ (ins.b = 0) ∧ (ins.c = 0) ∧ (s.issues a ins []) ∧ (s.flag (agBase a) (fStopReq a) = true) ∧ (s.enginesIdle a = false) :=
  ⟨(2 : Fin 48), (⟨false, 0, 0, 0, 0, 0, 0⟩ : Ins), ((fun (a : Fin 48) (ins : Ins) (s : State) => (((running s a).wr (agBase a) (fStopReq a) 1).modAgent a (fun g => { g with memOps := [⟨0, 4, none, 0⟩] }) : State)) (2 : Fin 48) (⟨false, 0, 0, 0, 0, 0, 0⟩ : Ins) State.reset), by decide +kernel⟩
theorem wit_StopPointsAndTrap_3 : ∃ (a : Fin 48) (ins : Ins) (s : State), (ins.x = false) ∧ (ins.low.toNat < 16) ∧ (ins.a = 0) ∧ (ins.b = 0) ∧ (ins.c = 0) ∧ (s.issues a ins []) ∧ (s.flag (agBase a) (fStopReq a) = false) ∧ (s.enginesIdle a = true) ∧ ((s.agent a).pendFault = none) ∧ ((s.agent a).stopDue = false) ∧ ((s.agent a).step = 0) :=
  ⟨(16 : Fin 48), (⟨false, 0, 0, 0, 0, 15, 0⟩ : Ins), ((fun (a : Fin 48) (ins : Ins) (s : State) => ((running s a).wr (agBase a) (fStopReq a) 0 : State)) (16 : Fin 48) (⟨false, 0, 0, 0, 0, 15, 0⟩ : Ins) State.reset), by decide +kernel⟩
theorem wit_StopPointsAndTrap_4 : ∃ (a : Fin 48) (ins : Ins) (s : State), (ins.x = false) ∧ (ins.low.toNat < 65536) ∧ (ins.a = 0) ∧ (ins.b = 0) ∧ (ins.c = 0) ∧ (s.issues a ins []) :=
  ⟨(47 : Fin 48), (⟨false, 0, 0, 0, 0, 0xFFFF, 0⟩ : Ins), ((fun (a : Fin 48) (ins : Ins) (s : State) => ((running s a) : State)) (47 : Fin 48) (⟨false, 0, 0, 0, 0, 0xFFFF, 0⟩ : Ins) State.reset), by decide +kernel⟩
theorem wit_StopPointsAndTrap_5 : ∃ (a : Fin 48) (s : State), (s.flag (agBase a) (fStopReq a) = true) ∧ (s.agState a = 1 ∨ s.agState a = 2) ∧ ((s.agent a).firm = false) ∧ (s.enginesIdle a = false) :=
  ⟨(7 : Fin 48), ((fun (a : Fin 48) (s : State) => (((running s a).wr (agBase a) (fStopReq a) 1).modAgent a (fun g => { g with memOps := [⟨0, 4, none, 0⟩] }) : State)) (7 : Fin 48) State.reset), by decide +kernel⟩
theorem wit_StopPointsAndTrap_6 : ∃ (a : Fin 48) (e : Ending) (s : State), ((s.agent a).ending = some e) ∧ (s.agState a = 3 ∨ s.agState a = 4) ∧ (s.enginesIdle a = true) ∧ ((s.agent a).dbgHalt = false) ∧ ((s.agent a).step = 0) :=
  ⟨(5 : Fin 48), ({ status := 1, code := 5 } : Ending), ((fun (a : Fin 48) (e : Ending) (s : State) => (((running s a).setAgState a 4).modAgent a (fun g => { g with ending := some e }) : State)) (5 : Fin 48) ({ status := 1, code := 5 } : Ending) State.reset), by decide +kernel⟩
theorem wit_SemaphoreInstructions_1 : ∃ (a : Fin 48) (ins : Ins) (s : State), (ins.x = false) ∧ (ins.noRegs = true) ∧ (ins.f 7 0 = 0) ∧ (Ins.sem ins < semLimit a) ∧ (Ins.count ins ≠ 0) ∧ (s.issues a ins []) :=
  ⟨(40 : Fin 48), (⟨false, 0, 0, 0, 0, BitVec.ofNat 37 (511 * 2 ^ 24 + 65535 * 2 ^ 8), 0⟩ : Ins), ((fun (a : Fin 48) (ins : Ins) (s : State) => ((running s a) : State)) (40 : Fin 48) (⟨false, 0, 0, 0, 0, BitVec.ofNat 37 (511 * 2 ^ 24 + 65535 * 2 ^ 8), 0⟩ : Ins) State.reset), by decide +kernel⟩
theorem wit_SemaphoreInstructions_2 : ∃ (a : Fin 48) (ins : Ins) (s : State), (ins.x = false) ∧ (ins.noRegs = true) ∧ (ins.f 2 0 = 0 ∨ 4 ≤ ins.f 6 3 ∧ ins.f 6 3 < 8) ∧ (4 ≤ ins.f 6 3 ∧ ins.f 6 3 < 8 → Ins.sem ins < 512) ∧ (Ins.count ins ≠ 0) ∧ (s.issues a ins []) ∧ (4 ≤ ins.f 6 3 ∧ ins.f 6 3 < 8) ∧ (ins.f 6 3 ≠ agNode a) ∧ (s.reaches (agNode a) (ins.f 6 3) = true) ∧ ((s.routePort (agNode a) (ins.f 6 3)).isSome = true) :=
  ⟨(3 : Fin 48), (⟨false, 0, 0, 0, 0, BitVec.ofNat 37 (511 * 2 ^ 24 + 7 * 2 ^ 8 + 7 * 8 + 7), 0⟩ : Ins), ((fun (a : Fin 48) (ins : Ins) (s : State) => ((running ((linksOn s).wr (sd (ins.f 6 3 - 4)) R.ROUTE_SD 0 |>.wr (sd (wcDie a)) R.ROUTE_SD 0x55) a) : State)) (3 : Fin 48) (⟨false, 0, 0, 0, 0, BitVec.ofNat 37 (511 * 2 ^ 24 + 7 * 2 ^ 8 + 7 * 8 + 7), 0⟩ : Ins) State.reset), by decide +kernel⟩
theorem wit_SemaphoreInstructions_3 : ∃ (a : Fin 48) (ins : Ins) (s : State), (ins.x = false) ∧ (ins.noRegs = true) ∧ (ins.f 7 0 = 0) ∧ (Ins.sem ins < semLimit a) ∧ (s.issues a ins []) ∧ (Ins.count ins ≤ Store.get 0 s.sems (agSem a (Ins.sem ins))) ∧ (s.waitq.any (fun w => w.1 == (agSem a (Ins.sem ins))) = false) :=
  ⟨(0 : Fin 48), (⟨false, 0, 0, 0, 0, BitVec.ofNat 37 (8191 * 2 ^ 24 + 60000 * 2 ^ 8), 0⟩ : Ins), ((fun (a : Fin 48) (ins : Ins) (s : State) => ({ (running s a) with sems := Store.put 0 s.sems (agSem a (Ins.sem ins)) 60000 } : State)) (0 : Fin 48) (⟨false, 0, 0, 0, 0, BitVec.ofNat 37 (8191 * 2 ^ 24 + 60000 * 2 ^ 8), 0⟩ : Ins) State.reset), by decide +kernel⟩
theorem wit_SemaphoreInstructions_4 : ∃ (a : Fin 48) (ins : Ins) (s : State), (ins.x = false) ∧ (ins.noRegs = true) ∧ (ins.f 7 0 = 0) ∧ (Ins.sem ins < semLimit a) ∧ (s.issues a ins []) ∧ (Store.get 0 s.sems (agSem a (Ins.sem ins)) < Ins.count ins) ∧ (s.flag (agBase a) (fStopReq a) = false) :=
  ⟨(47 : Fin 48), (⟨false, 0, 0, 0, 0, BitVec.ofNat 37 (1 * 2 ^ 24 + 1 * 2 ^ 8), 0⟩ : Ins), ((fun (a : Fin 48) (ins : Ins) (s : State) => ((running s a).wr (agBase a) (fStopReq a) 0 : State)) (47 : Fin 48) (⟨false, 0, 0, 0, 0, BitVec.ofNat 37 (1 * 2 ^ 24 + 1 * 2 ^ 8), 0⟩ : Ins) State.reset), by decide +kernel⟩
theorem wit_SemaphoreInstructions_5 : ∃ (a : Fin 48) (ins : Ins) (s : State), (ins.x = true) ∧ (ins.noRegs = true) ∧ (ins.f 7 3 = 0) ∧ (Ins.sem ins < semLimit a) ∧ (ins.e 63 32 = 0) ∧ (s.issues a ins []) ∧ (Ins.count ins ≤ Store.get 0 s.sems (agSem a (Ins.sem ins))) ∧ (s.waitq.any (fun w => w.1 == (agSem a (Ins.sem ins))) = false) :=
  ⟨(16 : Fin 48), (⟨true, 0, 0, 0, 0, BitVec.ofNat 37 (511 * 2 ^ 24 + 7), 0⟩ : Ins), ((fun (a : Fin 48) (ins : Ins) (s : State) => ({ (running s a) with sems := Store.put 0 s.sems (agSem a (Ins.sem ins)) 60000 } : State)) (16 : Fin 48) (⟨true, 0, 0, 0, 0, BitVec.ofNat 37 (511 * 2 ^ 24 + 7), 0⟩ : Ins) State.reset), by decide +kernel⟩
theorem wit_SemaphoreInstructions_6 : ∃ (a : Fin 48) (ins : Ins) (s : State), (ins.x = true) ∧ (ins.noRegs = true) ∧ (ins.f 7 3 = 0) ∧ (Ins.sem ins < semLimit a) ∧ (ins.ext = 0) ∧ (s.issues a ins []) ∧ (Store.get 0 s.sems (agSem a (Ins.sem ins)) < Ins.count ins) ∧ (ins.f 2 0 ≠ 0) :=
  ⟨(15 : Fin 48), (⟨true, 0, 0, 0, 0, BitVec.ofNat 37 (511 * 2 ^ 24 + 256 + 7), 0⟩ : Ins), ((fun (a : Fin 48) (ins : Ins) (s : State) => ((running s a) : State)) (15 : Fin 48) (⟨true, 0, 0, 0, 0, BitVec.ofNat 37 (511 * 2 ^ 24 + 256 + 7), 0⟩ : Ins) State.reset), by decide +kernel⟩
theorem wit_SemaphoreInstructions_7 : ∃ (a : Fin 48) (k n : Nat) (p : Fin 8) (s : State), ((s.agent a).wait = some (k, n, some p.val)) ∧ (p ≠ 0) :=
  ⟨(20 : Fin 48), (5 : Nat), (3 : Nat), (7 : Fin 8), ((fun (a : Fin 48) (k : Nat) (n : Nat) (p : Fin 8) (s : State) => ((running s a).hold a (fun g => { g with wait := some (k, n, some p.val) }) : State)) (20 : Fin 48) (5 : Nat) (3 : Nat) (7 : Fin 8) State.reset), by decide +kernel⟩
theorem wit_SemaphoreInstructions_8 : ∃ (a : Fin 48) (k : Fin 32768) (x n : Nat) (s : State), (s.waitq.find? (fun w => w.1 == k.val) = some (k.val, a.val)) ∧ ((s.agent a).wait = some (x, n, none)) ∧ (n ≤ Store.get 0 s.sems k) :=
  ⟨(3 : Fin 48), (16400 : Fin 32768), (16400 : Nat), (2 : Nat), ((fun (a : Fin 48) (k : Fin 32768) (x : Nat) (n : Nat) (s : State) => ({ ((running s a).hold a (fun g => { g with wait := some (x, n, none) })) with waitq := (k.val, a.val) :: s.waitq, sems := Store.put 0 s.sems k (n + 5) } : State)) (3 : Fin 48) (16400 : Fin 32768) (16400 : Nat) (2 : Nat) State.reset), by decide +kernel⟩
theorem wit_FenceAndCreditInstructions_1 : ∃ (a : Fin 48) (ins : Ins) (s : State), (ins.x = false) ∧ (ins.noRegs = true) ∧ (ins.low.toNat < 64) ∧ (ins.low.toNat % 2 = 0) ∧ (s.issues a ins []) :=
  ⟨(17 : Fin 48), (⟨false, 0, 0, 0, 0, 0x3E, 0⟩ : Ins), ((fun (a : Fin 48) (ins : Ins) (s : State) => ((if a.val % 2 == 0 then running s a else (running s a).modAgent a (fun g => { g with memOps := [⟨0, 4, none, 0⟩] })) : State)) (17 : Fin 48) (⟨false, 0, 0, 0, 0, 0x3E, 0⟩ : Ins) State.reset), by decide +kernel⟩
theorem wit_FenceAndCreditInstructions_2 : ∃ (a : Fin 48) (ins : Ins) (s : State), (16 ≤ a.val) ∧ (ins.x = false) ∧ (Ins.sem ins < 512) ∧ (ins.f 19 16 = 0) ∧ (ins.f 7 0 = 0) ∧ (s.issues a ins [ins.a.val, ins.b.val, ins.c.val]) ∧ (s.rd (wg (wcDie a) (wcWing a)) (R.CW_SRC_STATE.at (ins.f 23 20)) = 0) ∧ ((s.sR a ins.a).toNat + (s.sR a ins.b).toNat ≤ 131072) ∧ ((s.sR a ins.a).toNat < 131072) ∧ ((∀ b : Fin 4, 32768 * b.val < (s.sR a ins.a).toNat + (s.sR a ins.b).toNat → (s.sR a ins.a).toNat < 32768 * (b.val + 1) → inboundIn (s.slotCur (wcDie a) (wcWing a)) b = true)) ∧ ((s.sR a ins.c).toNat < 2 ^ 18) ∧ ((s.routePort (sdNode (wcDie a)) (ins.f 15 12)).isSome = true ∨ ins.f 15 12 = sdNode (wcDie a)) ∧ (ins.f 15 12 < 8 ∧ ins.f 15 12 ≠ 0 ∧ ins.f 15 12 ≠ 3) :=
  ⟨(47 : Fin 48), (⟨false, 0, 1, 2, 3, BitVec.ofNat 37 (511 * 2 ^ 24 + 15 * 2 ^ 20 + 1 * 2 ^ 12 + 3 * 2 ^ 8), 0⟩ : Ins), ((fun (a : Fin 48) (ins : Ins) (s : State) => ((((running (linksOn (s.wr (wg (wcDie a) (wcWing a)) (R.CW_SRC_STATE.at (ins.f 23 20)) 0)) a).sW a ins.a 0x1F000).sW a ins.b 0x200).sW a ins.c 99 : State)) (47 : Fin 48) (⟨false, 0, 1, 2, 3, BitVec.ofNat 37 (511 * 2 ^ 24 + 15 * 2 ^ 20 + 1 * 2 ^ 12 + 3 * 2 ^ 8), 0⟩ : Ins) State.reset), by decide +kernel⟩
theorem wit_FenceAndCreditInstructions_3 : ∃ (a : Fin 48) (ins : Ins) (s : State), (16 ≤ a.val) ∧ (ins.x = false) ∧ (ins.noRegs = true) ∧ (Ins.sem ins < 512) ∧ (ins.f 19 0 = 0) ∧ (s.issues a ins []) ∧ (s.rd (wg (wcDie a) (wcWing a)) (R.CW_SRC_STATE.at (ins.f 23 20)) = 1) :=
  ⟨(16 : Fin 48), (⟨false, 0, 0, 0, 0, BitVec.ofNat 37 (511 * 2 ^ 24), 0⟩ : Ins), ((fun (a : Fin 48) (ins : Ins) (s : State) => ((running (linksOn (s.wr (wg (wcDie a) (wcWing a)) (R.CW_SRC_STATE.at (ins.f 23 20)) 1)) a) : State)) (16 : Fin 48) (⟨false, 0, 0, 0, 0, BitVec.ofNat 37 (511 * 2 ^ 24), 0⟩ : Ins) State.reset), by decide +kernel⟩
theorem wit_FenceAndCreditInstructions_4 : ∃ (a : Fin 48) (ins : Ins) (s : State), (16 ≤ a.val) ∧ (ins.x = false) ∧ (ins.noRegs = true) ∧ (Ins.sem ins < 512) ∧ (ins.f 19 0 = 0) ∧ (s.issues a ins []) ∧ (s.rd (wg (wcDie a) (wcWing a)) (R.CW_SRC_STATE.at (ins.f 23 20)) = 0) :=
  ⟨(47 : Fin 48), (⟨false, 0, 0, 0, 0, BitVec.ofNat 37 (15 * 2 ^ 20), 0⟩ : Ins), ((fun (a : Fin 48) (ins : Ins) (s : State) => ((running (linksOn (s.wr (wg (wcDie a) (wcWing a)) (R.CW_SRC_STATE.at (ins.f 23 20)) 0)) a) : State)) (47 : Fin 48) (⟨false, 0, 0, 0, 0, BitVec.ofNat 37 (15 * 2 ^ 20), 0⟩ : Ins) State.reset), by decide +kernel⟩
theorem wit_WorkOrdersAtAStackDie_1 : ∃ (d : Fin 4) (m : Msg) (s : State), (s.inbox.head? = some m) ∧ (m.ty = 0x01) ∧ (m.dn = sdNode d) ∧ (bits m.m0 15 12 = 1) ∧ (m.sn = 1 ∨ m.sn = 2) ∧ (workBad m = false) ∧ (bits m.m0 31 16 = s.rd (sd d) R.SD_EPOCH_EPOCH) ∧ (m.sn = s.rd (sd d) R.SD_EPOCH_NODE) ∧ ((s.wingx (wix d m.du)).starts.length < 4) :=
  ⟨(3 : Fin 4), (⟨1, 7, 7, 2, 5, 300 * 65536 + 1 * 4096, 0x12340000, toBytes 4 0x20FFF ++ toBytes 4 7 ++ toBytes 4 9 ++ List.replicate 52 0, 0⟩ : Msg), ((fun (d : Fin 4) (m : Msg) (s : State) => (got (linksOn ((s.wr (sd d) R.SD_EPOCH_EPOCH (bits m.m0 31 16)).wr (sd d) R.SD_EPOCH_NODE m.sn)) m : State)) (3 : Fin 4) (⟨1, 7, 7, 2, 5, 300 * 65536 + 1 * 4096, 0x12340000, toBytes 4 0x20FFF ++ toBytes 4 7 ++ toBytes 4 9 ++ List.replicate 52 0, 0⟩ : Msg) State.reset), by decide +kernel⟩
theorem wit_WorkOrdersAtAStackDie_2 : ∃ (d : Fin 4) (m : Msg) (s : State), (s.inbox.head? = some m) ∧ (m.ty = 0x01) ∧ (m.dn = sdNode d) ∧ (bits m.m0 15 12 = 2) ∧ (m.sn = 1 ∨ m.sn = 2) ∧ (workBad m = false) ∧ (bits m.m0 31 16 = s.rd (sd d) R.SD_EPOCH_EPOCH) ∧ (m.sn = s.rd (sd d) R.SD_EPOCH_NODE) ∧ (s.agState (wcix d m.du) = 0) ∧ ((s.wingx (wix d m.du)).starts = []) :=
  ⟨(3 : Fin 4), (⟨1, 7, 0, 2, 5, 300 * 65536 + 2 * 4096, 0, toBytes 4 (2 * 4096 + 4094) ++ List.replicate 12 0 ++ List.replicate 16 5, 0⟩ : Msg), ((fun (d : Fin 4) (m : Msg) (s : State) => (((got (linksOn ((s.wr (sd d) R.SD_EPOCH_EPOCH (bits m.m0 31 16)).wr (sd d) R.SD_EPOCH_NODE m.sn)) m).modWing (wix d m.du) (fun x => { x with starts := [] })).setAgState (wcix d m.du) 0 : State)) (3 : Fin 4) (⟨1, 7, 0, 2, 5, 300 * 65536 + 2 * 4096, 0, toBytes 4 (2 * 4096 + 4094) ++ List.replicate 12 0 ++ List.replicate 16 5, 0⟩ : Msg) State.reset), by decide +kernel⟩
theorem wit_WorkOrdersAtAStackDie_3 : ∃ (d : Fin 4) (m : Msg) (o : WorkOrd) (s : State), (s.inbox.head? = some m) ∧ (m.ty = 0x01) ∧ (m.dn = sdNode d) ∧ (bits m.m0 15 12 = 3) ∧ (m.sn = 1 ∨ m.sn = 2) ∧ (workBad m = false) ∧ (bits m.m0 31 16 = s.rd (sd d) R.SD_EPOCH_EPOCH) ∧ (m.sn = s.rd (sd d) R.SD_EPOCH_NODE) ∧ ((s.wingx (wix d m.du)).starts.find? (fun o => o.msg1 / 65536 == bits (m.word 0) 15 0 && o.node == m.sn && o.unit == m.su) = some o) :=
  ⟨(3 : Fin 4), (⟨1, 7, 4, 2, 5, 300 * 65536 + 3 * 4096, 0, toBytes 4 77 ++ List.replicate 12 0, 0⟩ : Msg), ({ node := 2, unit := 5, epoch := 1, msg1 := 77 * 65536 } : WorkOrd), ((fun (d : Fin 4) (m : Msg) (o : WorkOrd) (s : State) => (((got (linksOn ((s.wr (sd d) R.SD_EPOCH_EPOCH (bits m.m0 31 16)).wr (sd d) R.SD_EPOCH_NODE m.sn)) m).modWing (wix d m.du) (fun x => { x with starts := [{ node := 3, unit := 0, epoch := 0, msg1 := 0 }, o] })) : State)) (3 : Fin 4) (⟨1, 7, 4, 2, 5, 300 * 65536 + 3 * 4096, 0, toBytes 4 77 ++ List.replicate 12 0, 0⟩ : Msg) ({ node := 2, unit := 5, epoch := 1, msg1 := 77 * 65536 } : WorkOrd) State.reset), by decide +kernel⟩
theorem wit_WorkOrdersAtAStackDie_4 : ∃ (d : Fin 4) (m : Msg) (o : WorkOrd) (s : State), (s.inbox.head? = some m) ∧ (m.ty = 0x01) ∧ (m.dn = sdNode d) ∧ (bits m.m0 15 12 = 3) ∧ (m.sn = 1 ∨ m.sn = 2) ∧ (workBad m = false) ∧ (bits m.m0 31 16 = s.rd (sd d) R.SD_EPOCH_EPOCH) ∧ (m.sn = s.rd (sd d) R.SD_EPOCH_NODE) ∧ ((s.wingx (wix d m.du)).starts = []) ∧ ((s.wingx (wix d m.du)).cur = some o) ∧ (o.msg1 / 65536 = bits (m.word 0) 15 0) ∧ (o.node = m.sn) ∧ (o.unit = m.su) ∧ (s.agState (wcix d m.du) = 1) ∧ ((s.agent (wcix d m.du)).stalled = false) :=
  ⟨(3 : Fin 4), (⟨1, 7, 4, 2, 5, 300 * 65536 + 3 * 4096, 0, toBytes 4 77 ++ List.replicate 12 0, 0⟩ : Msg), ({ node := 2, unit := 5, epoch := 1, msg1 := 77 * 65536 } : WorkOrd), ((fun (d : Fin 4) (m : Msg) (o : WorkOrd) (s : State) => (running (((got (linksOn ((s.wr (sd d) R.SD_EPOCH_EPOCH (bits m.m0 31 16)).wr (sd d) R.SD_EPOCH_NODE m.sn)) m).modWing (wix d m.du) (fun x => { x with starts := [], cur := some o }))) (wcix d m.du) : State)) (3 : Fin 4) (⟨1, 7, 4, 2, 5, 300 * 65536 + 3 * 4096, 0, toBytes 4 77 ++ List.replicate 12 0, 0⟩ : Msg) ({ node := 2, unit := 5, epoch := 1, msg1 := 77 * 65536 } : WorkOrd) State.reset), by decide +kernel⟩
theorem wit_WorkOrdersAtAStackDie_5 : ∃ (d : Fin 4) (m : Msg) (s : State), (s.inbox.head? = some m) ∧ (m.ty = 0x01) ∧ (m.dn = sdNode d) ∧ (bits m.m0 15 12 = 4) ∧ (m.sn = 1 ∨ m.sn = 2) ∧ (workBad m = false) ∧ (s.rd (sd d) R.SD_EPOCH_EPOCH < bits m.m0 31 16) :=
  ⟨(3 : Fin 4), (⟨1, 7, 8, 2, 5, 65535 * 65536 + 4 * 4096, 0, List.replicate 16 0, 0⟩ : Msg), ((fun (d : Fin 4) (m : Msg) (s : State) => (got (linksOn (s.wr (sd d) R.SD_EPOCH_EPOCH (bits m.m0 31 16 - 1))) m : State)) (3 : Fin 4) (⟨1, 7, 8, 2, 5, 65535 * 65536 + 4 * 4096, 0, List.replicate 16 0, 0⟩ : Msg) State.reset), by decide +kernel⟩
theorem wit_WorkOrdersAtAStackDie_6 : ∃ (d : Fin 4) (w : Fin 8) (o : WorkOrd) (rest : List WorkOrd) (s : State), ((s.wingx (wix d w)).starts = o :: rest) ∧ (s.agState (wcix d w) = 0) ∧ (o.entry < 4096) ∧ (o.epoch < 65536) ∧ (o.msg1 < 2 ^ 32) ∧ (o.args.length ≤ 15) :=
  ⟨(3 : Fin 4), (7 : Fin 8), ({ node := 1, unit := 0, epoch := 65535, msg1 := 0xFFFFFFFF, entry := 4095, args := [9, 8, 7] } : WorkOrd), ([] : List WorkOrd), ((fun (d : Fin 4) (w : Fin 8) (o : WorkOrd) (rest : List WorkOrd) (s : State) => ((s.modWing (wix d w) (fun x => { x with starts := o :: rest })).setAgState (wcix d w) 0 : State)) (3 : Fin 4) (7 : Fin 8) ({ node := 1, unit := 0, epoch := 65535, msg1 := 0xFFFFFFFF, entry := 4095, args := [9, 8, 7] } : WorkOrd) ([] : List WorkOrd) State.reset), by decide +kernel⟩
theorem wit_OrdersOfASequencer_1 : ∃ (a : Fin 16) (ins : Ins) (s : State), (ins.x = true) ∧ (ins.c = 0) ∧ (ins.low = 0) ∧ (4 ≤ ins.e 63 60 ∧ ins.e 63 60 < 8) ∧ (ins.e 59 59 = 0) ∧ (ins.e 39 38 = 0) ∧ (ins.e 23 0 = 0) ∧ (ins.b.val + ins.e 43 40 ≤ 32) ∧ (ins.a ≠ 0) ∧ (s.issues a ins (ins.a.val :: (List.range (ins.e 43 40)).map (fun k => ins.b.val + k))) ∧ ((s.agent a).orders.length < 64) ∧ (s.cdReaches (sqDie a) (ins.e 63 60 - 4) = true) :=
  ⟨(15 : Fin 16), (⟨true, 0, 1, 2, 0, 0, BitVec.ofNat 64 (7 * 2 ^ 60 + 7 * 2 ^ 56 + 4095 * 2 ^ 44 + 15 * 2 ^ 40 + 2 ^ 37)⟩ : Ins), ((fun (a : Fin 16) (ins : Ins) (s : State) => ((running (linksOn (s.wr (cd (sqDie a)) R.PAIR_STAT_ROLE 1)) a) : State)) (15 : Fin 16) (⟨true, 0, 1, 2, 0, 0, BitVec.ofNat 64 (7 * 2 ^ 60 + 7 * 2 ^ 56 + 4095 * 2 ^ 44 + 15 * 2 ^ 40 + 2 ^ 37)⟩ : Ins) State.reset), by decide +kernel⟩
theorem wit_OrdersOfASequencer_2 : ∃ (n : Fin 2) (k : Fin 8) (m : Msg) (o : SqOrder) (s : State), (s.inbox.head? = some m) ∧ (m.ty = 0x03) ∧ (m.dn = cdNode n) ∧ (m.du = k.val) ∧ (m.su < 8) ∧ (o ∈ (s.agent (sqix n k)).orders) ∧ (o.msg1 / 65536 = m.m1 / 65536) ∧ (o.d + 4 = m.sn) ∧ (o.w = m.su) ∧ ((s.agent (sqix n k)).orders.length < 65) :=
  ⟨(1 : Fin 2), (7 : Fin 8), (⟨3, 2, 7, 6, 3, 0, 99 * 65536 + 32768, toBytes 4 0 ++ toBytes 4 6, 0⟩ : Msg), (⟨2, 3, 99 * 65536, 0⟩ : SqOrder), ((fun (n : Fin 2) (k : Fin 8) (m : Msg) (o : SqOrder) (s : State) => ((got s m).modAgent (sqix n k) (fun g => { g with orders := [⟨0, 0, 5, 5⟩, o] }) : State)) (1 : Fin 2) (7 : Fin 8) (⟨3, 2, 7, 6, 3, 0, 99 * 65536 + 32768, toBytes 4 0 ++ toBytes 4 6, 0⟩ : Msg) (⟨2, 3, 99 * 65536, 0⟩ : SqOrder) State.reset), by decide +kernel⟩
theorem wit_OrdersOfASequencer_3 : ∃ (a : Fin 16) (num : Fin 65536) (o : SqOrder) (s : State), (o ∈ (s.agent a).orders) ∧ (o.msg1 / 65536 = num.val) ∧ ((s.agent a).stops.contains num.val = true) :=
  ⟨(15 : Fin 16), (65535 : Fin 65536), (⟨3, 7, 65535 * 65536, 0⟩ : SqOrder), ((fun (a : Fin 16) (num : Fin 65536) (o : SqOrder) (s : State) => (s.modAgent a (fun g => { g with orders := [⟨0, 0, 5, 5⟩, o], stops := [num.val] }) : State)) (15 : Fin 16) (65535 : Fin 65536) (⟨3, 7, 65535 * 65536, 0⟩ : SqOrder) State.reset), by decide +kernel⟩
theorem wit_OrdersOfASequencer_4 : ∃ (n : Fin 2) (mask : BitVec 8) (k : Fin 8) (s : State), (s.dbgOpen n = true) ∧ (bitOf mask.toNat k = true) ∧ (s.agState (sqix n k) = 0) :=
  ⟨(1 : Fin 2), (0xFF : BitVec 8), (7 : Fin 8), ((fun (n : Fin 2) (mask : BitVec 8) (k : Fin 8) (s : State) => ((s.wr (cd n) R.SEC_STAT_DBG_OPEN 1).setAgState (sqix n k) 0 : State)) (1 : Fin 2) (0xFF : BitVec 8) (7 : Fin 8) State.reset), by decide +kernel⟩
theorem wit_OrdersOfASequencer_5 : ∃ (n : Fin 2) (mask : BitVec 8) (k : Fin 8) (s : State), (s.dbgOpen n = true) ∧ (bitOf mask.toNat k = true) ∧ (s.agState (sqix n k) = 5) ∧ ((s.agent (sqix n k)).prog = true) :=
  ⟨(0 : Fin 2), (1 : BitVec 8), (0 : Fin 8), ((fun (n : Fin 2) (mask : BitVec 8) (k : Fin 8) (s : State) => (((s.wr (cd n) R.SEC_STAT_DBG_OPEN 1).setAgState (sqix n k) 5).modAgent (sqix n k) (fun g => { g with prog := true }) : State)) (0 : Fin 2) (1 : BitVec 8) (0 : Fin 8) State.reset), by decide +kernel⟩
theorem wit_OrdersOfASequencer_6 : ∃ (n : Fin 2) (mask : BitVec 8) (k : Fin 8) (s : State), (s.dbgOpen n = true) ∧ (bitOf mask.toNat k = true) ∧ (s.agState (sqix n k) = 5) ∧ ((s.agent (sqix n k)).prog = true) :=
  ⟨(0 : Fin 2), (128 : BitVec 8), (7 : Fin 8), ((fun (n : Fin 2) (mask : BitVec 8) (k : Fin 8) (s : State) => (((s.wr (cd n) R.SEC_STAT_DBG_OPEN 1).setAgState (sqix n k) 5).modAgent (sqix n k) (fun g => { g with prog := true }) : State)) (0 : Fin 2) (128 : BitVec 8) (7 : Fin 8) State.reset), by decide +kernel⟩
theorem wit_SlotPlansAndPatrol_1 : ∃ (d : Fin 4) (w : Fin 8) (s : State), (planInvalid (s.slotNext d w) = none) ∧ (planOversub (s.slotNext d w) = none) ∧ (s.planConflict d w (s.slotNext d w) = none) :=
  ⟨(0 : Fin 4), (0 : Fin 8), ((fun (d : Fin 4) (w : Fin 8) (s : State) => (((List.range 4).foldl (fun s b => (s.wr (wg d w) (R.SLOT_NEXT_LO_S.at b) (0x77777777)).wr (wg d w) (R.SLOT_NEXT_HI_S.at b) (0x77777777)) s) : State)) (0 : Fin 4) (0 : Fin 8) State.reset), by decide +kernel⟩
theorem wit_SlotPlansAndPatrol_2 : ∃ (d : Fin 4) (w : Fin 8) (b : Fin 4) (i : Fin 16) (s : State), (planInvalid (s.slotNext d w) = some (b.val, i.val)) :=
  ⟨(3 : Fin 4), (7 : Fin 8), (3 : Fin 4), (15 : Fin 16), ((fun (d : Fin 4) (w : Fin 8) (b : Fin 4) (i : Fin 16) (s : State) => ((((List.range 4).foldl (fun s b => (s.wr (wg d w) (R.SLOT_NEXT_LO_S.at b) (0)).wr (wg d w) (R.SLOT_NEXT_HI_S.at b) (0)) s)).wr (wg d w) ((if i.val < 8 then R.SLOT_NEXT_LO_S else R.SLOT_NEXT_HI_S).at b) (8 * 16 ^ (i.val % 8)) : State)) (3 : Fin 4) (7 : Fin 8) (3 : Fin 4) (15 : Fin 16) State.reset), by decide +kernel⟩
theorem wit_SlotPlansAndPatrol_3 : ∃ (d : Fin 4) (w : Fin 8) (p : List Nat) (s : State), ((s.wingx (wix d w)).plan = some p) ∧ (s.planConflict d w p = none) ∧ (p.length = 8) ∧ ((∀ x ∈ p, x < 2 ^ 32)) :=
  ⟨(0 : Fin 4), (0 : Fin 8), ([0x66666666, 1, 0x60606060, 3, 0x66666666, 5, 0x66666666, 7] : List Nat), ((fun (d : Fin 4) (w : Fin 8) (p : List Nat) (s : State) => (s.modWing (wix d w) (fun x => { x with plan := some p }) : State)) (0 : Fin 4) (0 : Fin 8) ([0x66666666, 1, 0x60606060, 3, 0x66666666, 5, 0x66666666, 7] : List Nat) State.reset), by decide +kernel⟩
theorem wit_SlotPlansAndPatrol_4 : ∃ (d : Fin 4) (w : Fin 8) (s : State), ((s.wingx (wix d w)).plan.isSome = true) :=
  ⟨(0 : Fin 4), (0 : Fin 8), ((fun (d : Fin 4) (w : Fin 8) (s : State) => (s.modWing (wix d w) (fun x => { x with plan := some [] }) : State)) (0 : Fin 4) (0 : Fin 8) State.reset), by decide +kernel⟩
theorem wit_SlotPlansAndPatrol_6 : ∃ (d : Fin 4) (w : Fin 8) (b : Fin 4) (upset : Nat) (s : State), ((s.sdx d).up = true) :=
  ⟨(0 : Fin 4), (0 : Fin 8), (3 : Fin 4), (65535 : Nat), ((fun (d : Fin 4) (w : Fin 8) (b : Fin 4) (upset : Nat) (s : State) => (s.modSd d (fun x => { x with up := true }) : State)) (0 : Fin 4) (0 : Fin 8) (3 : Fin 4) (65535 : Nat) State.reset), by decide +kernel⟩
theorem wit_WritesLandThroughWindows_1 : ∃ (d : Fin 4) (w : Fin 8) (m : Msg) (s : State), (s.inbox.head? = some m) ∧ (m.ty = 0x12) ∧ (m.dn = sdNode d) ∧ (m.du = w.val) ∧ (s.writeCheck d w m = none) ∧ (m.data ≠ []) :=
  ⟨(3 : Fin 4), (7 : Fin 8), (⟨0x12, 7, 7, 5, 3, 15 * 2 ^ 28 + 255 * 2 ^ 20 + 3 * 2 ^ 18, 5, List.replicate 70 9, 0⟩ : Msg), ((fun (d : Fin 4) (w : Fin 8) (m : Msg) (s : State) => (got ((((((s.wr (wg d w) (R.CW_SRC_STATE.at (bits m.m0 31 28)) 1).wr (wg d w) (R.CW_SRC_EPOCH.at (bits m.m0 31 28)) (bits m.m0 27 20)).wr (wg d w) (R.CW_SRC_SRC_NODE.at (bits m.m0 31 28)) m.sn).wr (wg d w) (R.CW_SRC_SRC_UNIT.at (bits m.m0 31 28)) m.su).wr (wg d w) (R.CW_LEN_LEN.at (bits m.m0 31 28)) 4096).wr (wg d w) (R.CW_CRED_CRED.at (bits m.m0 31 28)) 4000) m : State)) (3 : Fin 4) (7 : Fin 8) (⟨0x12, 7, 7, 5, 3, 15 * 2 ^ 28 + 255 * 2 ^ 20 + 3 * 2 ^ 18, 5, List.replicate 70 9, 0⟩ : Msg) State.reset), by decide +kernel⟩
theorem wit_WritesLandThroughWindows_2 : ∃ (d : Fin 4) (w : Fin 8) (m : Msg) (s : State), (s.inbox.head? = some m) ∧ (m.ty = 0x12) ∧ (m.dn = sdNode d) ∧ (m.du = w.val) ∧ (s.rd (wg d w) (R.CW_SRC_STATE.at (bits m.m0 31 28)) = 0) :=
  ⟨(3 : Fin 4), (7 : Fin 8), (⟨0x12, 7, 7, 5, 3, 15 * 2 ^ 28 + 255 * 2 ^ 20 + 3 * 2 ^ 18, 5, List.replicate 70 9, 0⟩ : Msg), ((fun (d : Fin 4) (w : Fin 8) (m : Msg) (s : State) => (got (s.wr (wg d w) (R.CW_SRC_STATE.at (bits m.m0 31 28)) 0) m : State)) (3 : Fin 4) (7 : Fin 8) (⟨0x12, 7, 7, 5, 3, 15 * 2 ^ 28 + 255 * 2 ^ 20 + 3 * 2 ^ 18, 5, List.replicate 70 9, 0⟩ : Msg) State.reset), by decide +kernel⟩
theorem wit_WritesLandThroughWindows_3 : ∃ (d : Fin 4) (w : Fin 8) (win : Fin 16) (m : Msg) (rest : List (Nat × Msg)) (s : State), ((s.wingx (wix d w)).landing = (win.val, m) :: rest) :=
  ⟨(3 : Fin 4), (7 : Fin 8), (15 : Fin 16), (⟨0x12, 7, 7, 5, 3, 15 * 2 ^ 28 + 255 * 2 ^ 20 + 3 * 2 ^ 18, 5, List.replicate 70 9, 0⟩ : Msg), ([] : List (Nat × Msg)), ((fun (d : Fin 4) (w : Fin 8) (win : Fin 16) (m : Msg) (rest : List (Nat × Msg)) (s : State) => (s.modWing (wix d w) (fun x => { x with landing := (win.val, m) :: rest }) : State)) (3 : Fin 4) (7 : Fin 8) (15 : Fin 16) (⟨0x12, 7, 7, 5, 3, 15 * 2 ^ 28 + 255 * 2 ^ 20 + 3 * 2 ^ 18, 5, List.replicate 70 9, 0⟩ : Msg) ([] : List (Nat × Msg)) State.reset), by decide +kernel⟩
theorem wit_WritesLandThroughWindows_4 : ∃ (d : Fin 4) (w : Fin 8) (m : Msg) (s : State), (s.inbox.head? = some m) ∧ (m.ty = 0x10) ∧ (m.dn = sdNode d) ∧ (m.du = w.val) ∧ (s.flag (wg d w) R.CREQ_SEM_EN = true) ∧ ((s.wingx (wix d w)).creq.length < 16) :=
  ⟨(3 : Fin 4), (0 : Fin 8), (⟨0x10, 7, 0, 4, 2, 15 * 2 ^ 28 + 0x3FFFF, 0, [], 0⟩ : Msg), ((fun (d : Fin 4) (w : Fin 8) (m : Msg) (s : State) => (got (s.wr (wg d w) R.CREQ_SEM_EN 1) m : State)) (3 : Fin 4) (0 : Fin 8) (⟨0x10, 7, 0, 4, 2, 15 * 2 ^ 28 + 0x3FFFF, 0, [], 0⟩ : Msg) State.reset), by decide +kernel⟩
theorem wit_WritesLandThroughWindows_6 : ∃ (d : Fin 4) (w : Fin 8) (m : Msg) (s : State), (s.inbox.head? = some m) ∧ (m.ty = 0x15) ∧ (m.dn = sdNode d) ∧ (m.du = w.val) ∧ (m.sn = sdNode d ∨ 4 ≤ m.sn ∧ m.sn < 8 ∧ (s.routePort (sdNode d) m.sn).isSome = true) :=
  ⟨(3 : Fin 4), (7 : Fin 8), (⟨0x15, 7, 7, 4, 2, 0x10000000, 0, [], 0⟩ : Msg), ((fun (d : Fin 4) (w : Fin 8) (m : Msg) (s : State) => (got (linksOn s) m |>.wr (sd d) R.ROUTE_SD 0x55 : State)) (3 : Fin 4) (7 : Fin 8) (⟨0x15, 7, 7, 4, 2, 0x10000000, 0, [], 0⟩ : Msg) State.reset), by decide +kernel⟩
theorem wit_ReclaimsAndKvPools_1 : ∃ (d : Fin 4) (w : Fin 8) (m : Msg) (r : Reclaim) (s : State), (s.inbox.head? = some m) ∧ (m.ty = 0x14) ∧ (m.dn = sdNode d) ∧ (m.du = w.val) ∧ (s.rd (wg d w) (R.CW_SRC_STATE.at (bits m.m0 31 28)) = 2) ∧ (s.rd (wg d w) (R.CW_SRC_EPOCH.at (bits m.m0 31 28)) = bits m.m0 27 20) ∧ (Store.get none (s.wingx (wix d w)).recl (bits m.m0 31 28) = some r) :=
  ⟨(3 : Fin 4), (7 : Fin 8), (⟨0x14, 7, 7, 5, 1, 0xFFF00000, 0, [], 0⟩ : Msg), ({ sem := 4 } : Reclaim), ((fun (d : Fin 4) (w : Fin 8) (m : Msg) (r : Reclaim) (s : State) => ((got ((s.wr (wg d w) (R.CW_SRC_STATE.at (bits m.m0 31 28)) 2).wr (wg d w) (R.CW_SRC_EPOCH.at (bits m.m0 31 28)) (bits m.m0 27 20)) m).modWing (wix d w) (fun x => { x with recl := Store.put none x.recl (bits m.m0 31 28) (some r) }) : State)) (3 : Fin 4) (7 : Fin 8) (⟨0x14, 7, 7, 5, 1, 0xFFF00000, 0, [], 0⟩ : Msg) ({ sem := 4 } : Reclaim) State.reset), by decide +kernel⟩
theorem wit_ReclaimsAndKvPools_2 : ∃ (d : Fin 4) (w : Fin 8) (c : Fin 16) (r : Reclaim) (s : State), (Store.get none (s.wingx (wix d w)).recl c = some r) ∧ (r.acked = true) ∧ ((s.wingx (wix d w)).landing.all (fun p => p.1 != c.val) = true) :=
  ⟨(0 : Fin 4), (0 : Fin 8), (15 : Fin 16), ({ sem := 511, acked := true } : Reclaim), ((fun (d : Fin 4) (w : Fin 8) (c : Fin 16) (r : Reclaim) (s : State) => (s.modWing (wix d w) (fun x => { x with landing := [], recl := Store.put none x.recl c (some r) }) |>.wr (wg d w) (R.CW_SRC_EPOCH.at c) 255 : State)) (0 : Fin 4) (0 : Fin 8) (15 : Fin 16) ({ sem := 511, acked := true } : Reclaim) State.reset), by decide +kernel⟩
theorem wit_ReclaimsAndKvPools_3 : ∃ (d : Fin 4) (w : Fin 8) (c : Fin 16) (r : Reclaim) (s : State), (Store.get none (s.wingx (wix d w)).recl c = some r) ∧ (r.acked = false) :=
  ⟨(3 : Fin 4), (7 : Fin 8), (0 : Fin 16), ({ sem := 0 } : Reclaim), ((fun (d : Fin 4) (w : Fin 8) (c : Fin 16) (r : Reclaim) (s : State) => (s.modWing (wix d w) (fun x => { x with recl := Store.put none x.recl c (some r) }) : State)) (3 : Fin 4) (7 : Fin 8) (0 : Fin 16) ({ sem := 0 } : Reclaim) State.reset), by decide +kernel⟩
theorem wit_ReclaimsAndKvPools_4 : ∃ (n : Fin 2) (unit : Fin 16) (d : Fin 4) (s : State), (s.rd (sd d) R.SD_EPOCH_NODE = cdNode n) ∧ (s.kvResult d 1 0 (s.rd (sd d) R.KV_ARG_WING) (s.rd (sd d) R.KV_ARG_BASE) (s.rd (sd d) R.KV_ARG_COUNT) = 1) ∧ (s.rd (sd d) R.KV_ARG_WING < 8) :=
  ⟨(0 : Fin 2), (0 : Fin 16), (0 : Fin 4), ((fun (n : Fin 2) (unit : Fin 16) (d : Fin 4) (s : State) => ((let b := sd d; ((s.wr b R.SD_EPOCH_NODE (n.val + 1)).wr b R.KV_ARG_WING 7).wr b R.KV_ARG_BASE 100 |>.wr b R.KV_ARG_COUNT 50 |>.clearRegs (sd d + 0x800) (sd d + 0xC00)) : State)) (0 : Fin 2) (0 : Fin 16) (0 : Fin 4) State.reset), by decide +kernel⟩
theorem wit_ReclaimsAndKvPools_5 : ∃ (n : Fin 2) (unit : Fin 16) (d : Fin 4) (c : Fin 256) (s : State), (s.rd (sd d) R.SD_EPOCH_NODE = cdNode n) ∧ (s.kvResult d 2 c (s.rd (sd d) R.KV_ARG_WING) (s.rd (sd d) R.KV_ARG_BASE) (s.rd (sd d) R.KV_ARG_COUNT) = 1) ∧ (s.rd (wg d (s.rd (sd d) R.KV_ARG_WING)) R.KV_USED_BLOCKS + s.rd (sd d) R.KV_ARG_COUNT < 4096) :=
  ⟨(0 : Fin 2), (0 : Fin 16), (0 : Fin 4), (255 : Fin 256), ((fun (n : Fin 2) (unit : Fin 16) (d : Fin 4) (c : Fin 256) (s : State) => ((let b := sd d; ((s.wr b R.SD_EPOCH_NODE (n.val + 1)).wr b R.KV_ARG_WING 7).wr b R.KV_ARG_BASE 100 |>.wr b R.KV_ARG_COUNT 50 |>.clearRegs (sd d + 0x800) (sd d + 0xC00) |>.wr (wg d 7) R.KV_POOL_COUNT 2048 |>.wr (wg d 7) R.KV_POOL_BASE 0) : State)) (0 : Fin 2) (0 : Fin 16) (0 : Fin 4) (255 : Fin 256) State.reset), by decide +kernel⟩
theorem wit_ReclaimsAndKvPools_6 : ∃ (n : Fin 2) (unit : Fin 16) (d : Fin 4) (c : Fin 256) (x : Nat × Nat × Nat) (s : State), (s.rd (sd d) R.SD_EPOCH_NODE = cdNode n) ∧ (s.kvEntry d c = some x) :=
  ⟨(0 : Fin 2), (0 : Fin 16), (0 : Fin 4), (0 : Fin 256), ((7, 2047, 1) : Nat × Nat × Nat), ((fun (n : Fin 2) (unit : Fin 16) (d : Fin 4) (c : Fin 256) (x : Nat × Nat × Nat) (s : State) => ((let b := sd d; ((s.wr b R.SD_EPOCH_NODE (n.val + 1)).wr b R.KV_ARG_WING 7).wr b R.KV_ARG_BASE 100 |>.wr b R.KV_ARG_COUNT 50 |>.wr (sd d) (R.KV_TAB_VALID.at c) 1 |>.wr (sd d) (R.KV_TAB_WING.at c) x.1 |>.wr (sd d) (R.KV_TAB_BASE.at c) x.2.1 |>.wr (sd d) (R.KV_TAB_COUNT.at c) x.2.2) : State)) (0 : Fin 2) (0 : Fin 16) (0 : Fin 4) (0 : Fin 256) ((7, 2047, 1) : Nat × Nat × Nat) State.reset), by decide +kernel⟩
theorem wit_VectorArithmeticResults_1 : ∃ (a : Fin 48) (ins : Ins) (s : State), (16 ≤ a.val) ∧ (ins.x = false) ∧ (csemOk a ins = true) ∧ (ins.ef 22 16 ≤ 64) ∧ (ins.ef 9 0 = 0) ∧ (ins.ef 14 14 = 0) ∧ (ins.ef 15 15 = 1) ∧ (ins.ef 13 10 = 0) ∧ ((s.engine a 3).run = none) ∧ ((s.engine a 3).q = []) ∧ (s.issues a ins []) :=
  ⟨(47 : Fin 48), (⟨false, 0, 3, 4, 5, BitVec.ofNat 37 ((64) * 2 ^ 16 + 2 ^ 15), 0⟩ : Ins), ((fun (a : Fin 48) (ins : Ins) (s : State) => ((runV s a) : State)) (47 : Fin 48) (⟨false, 0, 3, 4, 5, BitVec.ofNat 37 ((64) * 2 ^ 16 + 2 ^ 15), 0⟩ : Ins) State.reset), by decide +kernel⟩
theorem wit_VectorArithmeticResults_2 : ∃ (a : Fin 48) (ins : Ins) (s : State), (16 ≤ a.val) ∧ (ins.x = false) ∧ (csemOk a ins = true) ∧ (ins.ef 22 16 ≤ 64) ∧ (ins.ef 9 0 = 0) ∧ (ins.ef 14 14 = 0) ∧ (ins.ef 15 15 = 1) ∧ ((s.engine a 3).run = none) ∧ ((s.engine a 3).q = []) ∧ (s.issues a ins []) :=
  ⟨(47 : Fin 48), (⟨false, 0, 3, 4, 5, BitVec.ofNat 37 ((64) * 2 ^ 16 + 2 ^ 15 + (15) * 2 ^ 10), 0⟩ : Ins), ((fun (a : Fin 48) (ins : Ins) (s : State) => ((runV s a) : State)) (47 : Fin 48) (⟨false, 0, 3, 4, 5, BitVec.ofNat 37 ((64) * 2 ^ 16 + 2 ^ 15 + (15) * 2 ^ 10), 0⟩ : Ins) State.reset), by decide +kernel⟩
theorem wit_VectorArithmeticResults_3 : ∃ (a : Fin 48) (ins : Ins) (s : State), (16 ≤ a.val) ∧ (ins.x = false) ∧ (csemOk a ins = true) ∧ (ins.ef 22 16 ≤ 64) ∧ (ins.ef 9 0 = 0) ∧ (ins.ef 14 14 = 0) ∧ (ins.ef 15 15 = 1) ∧ ((s.engine a 3).run = none) ∧ ((s.engine a 3).q = []) ∧ (s.issues a ins []) :=
  ⟨(47 : Fin 48), (⟨false, 0, 3, 4, 5, BitVec.ofNat 37 ((64) * 2 ^ 16 + 2 ^ 15 + (15) * 2 ^ 10), 0⟩ : Ins), ((fun (a : Fin 48) (ins : Ins) (s : State) => ((runV s a) : State)) (47 : Fin 48) (⟨false, 0, 3, 4, 5, BitVec.ofNat 37 ((64) * 2 ^ 16 + 2 ^ 15 + (15) * 2 ^ 10), 0⟩ : Ins) State.reset), by decide +kernel⟩
theorem wit_VectorArithmeticResults_4 : ∃ (a : Fin 48) (ins : Ins) (s : State), (16 ≤ a.val) ∧ (ins.x = false) ∧ (csemOk a ins = true) ∧ (ins.ef 22 16 ≤ 64) ∧ (ins.ef 9 0 = 0) ∧ (ins.ef 14 14 = 0) ∧ (ins.ef 15 15 = 1) ∧ (ins.ef 13 10 = 0) ∧ ((s.engine a 3).run = none) ∧ ((s.engine a 3).q = []) ∧ (s.issues a ins []) :=
  ⟨(47 : Fin 48), (⟨false, 0, 3, 4, 5, BitVec.ofNat 37 ((64) * 2 ^ 16 + 2 ^ 15), 0⟩ : Ins), ((fun (a : Fin 48) (ins : Ins) (s : State) => ((runV s a) : State)) (47 : Fin 48) (⟨false, 0, 3, 4, 5, BitVec.ofNat 37 ((64) * 2 ^ 16 + 2 ^ 15), 0⟩ : Ins) State.reset), by decide +kernel⟩
theorem wit_VectorArithmeticResults_5 : ∃ (a : Fin 48) (ins : Ins) (s : State), (16 ≤ a.val) ∧ (ins.x = false) ∧ (csemOk a ins = true) ∧ (ins.ef 22 16 ≤ 64) ∧ (ins.ef 9 0 = 0) ∧ (ins.ef 14 14 = 0) ∧ (ins.ef 13 10 = 0) ∧ (ins.ef 15 15 = 0) ∧ ((s.engine a 3).run = none) ∧ ((s.engine a 3).q = []) ∧ (s.issues a ins []) :=
  ⟨(47 : Fin 48), (⟨false, 0, 3, 4, 5, BitVec.ofNat 37 ((64) * 2 ^ 16), 0⟩ : Ins), ((fun (a : Fin 48) (ins : Ins) (s : State) => ((runV s a) : State)) (47 : Fin 48) (⟨false, 0, 3, 4, 5, BitVec.ofNat 37 ((64) * 2 ^ 16), 0⟩ : Ins) State.reset), by decide +kernel⟩
theorem wit_VectorArithmeticResults_6 : ∃ (a : Fin 48) (ins : Ins) (s : State), (16 ≤ a.val) ∧ (ins.x = false) ∧ (csemOk a ins = true) ∧ (ins.ef 22 16 ≤ 64) ∧ (ins.ef 9 0 = 0) ∧ (ins.ef 14 14 = 0) ∧ (ins.ef 13 10 = 0) ∧ (ins.ef 15 15 = 0) ∧ ((s.engine a 3).run = none) ∧ ((s.engine a 3).q = []) ∧ (s.issues a ins []) :=
  ⟨(47 : Fin 48), (⟨false, 0, 3, 4, 5, BitVec.ofNat 37 ((64) * 2 ^ 16), 0⟩ : Ins), ((fun (a : Fin 48) (ins : Ins) (s : State) => ((runV s a) : State)) (47 : Fin 48) (⟨false, 0, 3, 4, 5, BitVec.ofNat 37 ((64) * 2 ^ 16), 0⟩ : Ins) State.reset), by decide +kernel⟩
theorem wit_VectorArithmeticResults_7 : ∃ (a : Fin 48) (ins : Ins) (s : State), (16 ≤ a.val) ∧ (ins.x = false) ∧ (csemOk a ins = true) ∧ (ins.c = 0) ∧ (ins.ef 22 16 ≤ 64) ∧ (ins.ef 13 0 = 0) ∧ (ins.ef 15 15 = 1) ∧ (ins.ef 14 14 = 0) ∧ ((s.engine a 3).run = none) ∧ ((s.engine a 3).q = []) ∧ (s.issues a ins []) :=
  ⟨(47 : Fin 48), (⟨false, 0, 3, 4, 0, BitVec.ofNat 37 (64 * 2 ^ 16 + 2 ^ 15), 0⟩ : Ins), ((fun (a : Fin 48) (ins : Ins) (s : State) => ((runV s a) : State)) (47 : Fin 48) (⟨false, 0, 3, 4, 0, BitVec.ofNat 37 (64 * 2 ^ 16 + 2 ^ 15), 0⟩ : Ins) State.reset), by decide +kernel⟩
theorem wit_VectorFunctionsAndConversions_1 : ∃ (a : Fin 48) (ins : Ins) (s : State), (16 ≤ a.val) ∧ (ins.x = false) ∧ (csemOk a ins = true) ∧ (ins.c = 0) ∧ (ins.ef 22 16 ≤ 64) ∧ (ins.ef 15 0 = 0) ∧ ((s.engine a 3).run = none) ∧ ((s.engine a 3).q = []) ∧ (s.issues a ins []) :=
  ⟨(47 : Fin 48), (⟨false, 0, 3, 4, 0, BitVec.ofNat 37 (64 * 2 ^ 16), 0⟩ : Ins), ((fun (a : Fin 48) (ins : Ins) (s : State) => ((runV s a) : State)) (47 : Fin 48) (⟨false, 0, 3, 4, 0, BitVec.ofNat 37 (64 * 2 ^ 16), 0⟩ : Ins) State.reset), by decide +kernel⟩
theorem wit_VectorFunctionsAndConversions_2 : ∃ (a : Fin 48) (ins : Ins) (s : State), (16 ≤ a.val) ∧ (ins.x = false) ∧ (csemOk a ins = true) ∧ (ins.c = 0) ∧ (ins.ef 22 16 ≤ 64) ∧ (ins.ef 15 0 = 0) ∧ ((s.engine a 3).run = none) ∧ ((s.engine a 3).q = []) ∧ (s.issues a ins []) :=
  ⟨(47 : Fin 48), (⟨false, 0, 3, 4, 0, BitVec.ofNat 37 (64 * 2 ^ 16), 0⟩ : Ins), ((fun (a : Fin 48) (ins : Ins) (s : State) => ((runV s a) : State)) (47 : Fin 48) (⟨false, 0, 3, 4, 0, BitVec.ofNat 37 (64 * 2 ^ 16), 0⟩ : Ins) State.reset), by decide +kernel⟩
theorem wit_VectorFunctionsAndConversions_3 : ∃ (a : Fin 48) (ins : Ins) (s : State), (16 ≤ a.val) ∧ (ins.x = false) ∧ (csemOk a ins = true) ∧ (ins.c = 0) ∧ (ins.ef 22 16 ≤ 64) ∧ (ins.ef 15 0 = 0) ∧ ((s.engine a 3).run = none) ∧ ((s.engine a 3).q = []) ∧ (s.issues a ins []) :=
  ⟨(47 : Fin 48), (⟨false, 0, 3, 4, 0, BitVec.ofNat 37 (64 * 2 ^ 16), 0⟩ : Ins), ((fun (a : Fin 48) (ins : Ins) (s : State) => ((runV s a) : State)) (47 : Fin 48) (⟨false, 0, 3, 4, 0, BitVec.ofNat 37 (64 * 2 ^ 16), 0⟩ : Ins) State.reset), by decide +kernel⟩
theorem wit_VectorFunctionsAndConversions_4 : ∃ (a : Fin 48) (ins : Ins) (s : State), (16 ≤ a.val) ∧ (ins.x = false) ∧ (csemOk a ins = true) ∧ (ins.c = 0) ∧ (ins.ef 22 16 ≤ 64) ∧ (ins.ef 7 0 = 0) ∧ (ins.ef 8 8 = 0) ∧ ((s.engine a 3).run = none) ∧ ((s.engine a 3).q = []) ∧ (s.issues a ins []) :=
  ⟨(47 : Fin 48), (⟨false, 0, 3, 4, 0, BitVec.ofNat 37 (64 * 2 ^ 16 + 31 * 2 ^ 9), 0⟩ : Ins), ((fun (a : Fin 48) (ins : Ins) (s : State) => ((runV s a) : State)) (47 : Fin 48) (⟨false, 0, 3, 4, 0, BitVec.ofNat 37 (64 * 2 ^ 16 + 31 * 2 ^ 9), 0⟩ : Ins) State.reset), by decide +kernel⟩
theorem wit_VectorFunctionsAndConversions_5 : ∃ (a : Fin 48) (ins : Ins) (s : State), (16 ≤ a.val) ∧ (ins.x = false) ∧ (csemOk a ins = true) ∧ (ins.c = 0) ∧ (ins.ef 22 16 ≤ 64) ∧ (ins.ef 7 0 = 0) ∧ (ins.ef 8 8 = 0) ∧ ((s.engine a 3).run = none) ∧ ((s.engine a 3).q = []) ∧ (s.issues a ins []) :=
  ⟨(47 : Fin 48), (⟨false, 0, 3, 4, 0, BitVec.ofNat 37 (64 * 2 ^ 16 + 31 * 2 ^ 9), 0⟩ : Ins), ((fun (a : Fin 48) (ins : Ins) (s : State) => ((runV s a) : State)) (47 : Fin 48) (⟨false, 0, 3, 4, 0, BitVec.ofNat 37 (64 * 2 ^ 16 + 31 * 2 ^ 9), 0⟩ : Ins) State.reset), by decide +kernel⟩
theorem wit_VectorFunctionsAndConversions_6 : ∃ (a : Fin 48) (ins : Ins) (s : State), (16 ≤ a.val) ∧ (ins.x = false) ∧ (csemOk a ins = true) ∧ (ins.c = 0) ∧ (ins.ef 22 16 ≤ 32) ∧ (ins.ef 7 0 = 0) ∧ ((s.engine a 3).run = none) ∧ ((s.engine a 3).q = []) ∧ (s.issues a ins []) :=
  ⟨(47 : Fin 48), (⟨false, 0, 3, 4, 0, BitVec.ofNat 37 (32 * 2 ^ 16 + 31 * 2 ^ 9), 0⟩ : Ins), ((fun (a : Fin 48) (ins : Ins) (s : State) => ((runV s a) : State)) (47 : Fin 48) (⟨false, 0, 3, 4, 0, BitVec.ofNat 37 (32 * 2 ^ 16 + 31 * 2 ^ 9), 0⟩ : Ins) State.reset), by decide +kernel⟩
theorem wit_VectorFunctionsAndConversions_7 : ∃ (a : Fin 48) (ins : Ins) (s : State), (16 ≤ a.val) ∧ (ins.x = false) ∧ (csemOk a ins = true) ∧ (ins.c = 0) ∧ (ins.ef 22 16 ≤ 32) ∧ (ins.ef 7 0 = 0) ∧ ((s.engine a 3).run = none) ∧ ((s.engine a 3).q = []) ∧ (s.issues a ins []) :=
  ⟨(47 : Fin 48), (⟨false, 0, 3, 4, 0, BitVec.ofNat 37 (32 * 2 ^ 16 + 31 * 2 ^ 9), 0⟩ : Ins), ((fun (a : Fin 48) (ins : Ins) (s : State) => ((runV s a) : State)) (47 : Fin 48) (⟨false, 0, 3, 4, 0, BitVec.ofNat 37 (32 * 2 ^ 16 + 31 * 2 ^ 9), 0⟩ : Ins) State.reset), by decide +kernel⟩
theorem wit_VectorFunctionsAndConversions_8 : ∃ (a : Fin 48) (ins : Ins) (s : State), (16 ≤ a.val) ∧ (ins.x = false) ∧ (csemOk a ins = true) ∧ (ins.ef 22 16 ≤ 64) ∧ (ins.ef 15 15 = 0) ∧ (ins.ef 14 14 = 0) ∧ (ins.ef 13 9 = 0) ∧ (ins.ef 7 0 = 0) ∧ ((s.engine a 3).run = none) ∧ ((s.engine a 3).q = []) ∧ (s.issues a ins []) :=
  ⟨(47 : Fin 48), (⟨false, 0, 3, 4, 5, BitVec.ofNat 37 (63 * 2 ^ 16 + 256), 0⟩ : Ins), ((fun (a : Fin 48) (ins : Ins) (s : State) => ((runV s a) : State)) (47 : Fin 48) (⟨false, 0, 3, 4, 5, BitVec.ofNat 37 (63 * 2 ^ 16 + 256), 0⟩ : Ins) State.reset), by decide +kernel⟩
theorem wit_VectorFunctionsAndConversions_9 : ∃ (a : Fin 48) (ins : Ins) (s : State), (16 ≤ a.val) ∧ (ins.x = false) ∧ (csemOk a ins = true) ∧ (ins.ef 22 16 ≤ 64) ∧ (ins.ef 14 0 = 0) ∧ (ins.ef 15 15 = 1 → ins.c ≠ 31) ∧ ((s.vR a ins.c).length = 64) ∧ ((s.engine a 3).run = none) ∧ ((s.engine a 3).q = []) ∧ (s.issues a ins []) :=
  ⟨(47 : Fin 48), (⟨false, 0, 3, 4, 30, BitVec.ofNat 37 (64 * 2 ^ 16 + 2 ^ 15), 0⟩ : Ins), ((fun (a : Fin 48) (ins : Ins) (s : State) => ((runV s a) : State)) (47 : Fin 48) (⟨false, 0, 3, 4, 30, BitVec.ofNat 37 (64 * 2 ^ 16 + 2 ^ 15), 0⟩ : Ins) State.reset), by decide +kernel⟩
theorem wit_LoadsAndStoresOfAWing_1 : ∃ (a : Fin 48) (ins : Ins) (s : State), (16 ≤ a.val) ∧ (ins.x = false) ∧ (csemOk a ins = true) ∧ (ins.ef 22 21 = 0) ∧ (ins.ef 20 19 = 2) ∧ (ins.b < 16) ∧ (ins.ef 18 0 = 0) ∧ (ins.e 63 21 = 0) ∧ ((s.engine a 3).run = none) ∧ ((s.engine a 3).q = []) ∧ (s.issues a ins [32 + ins.b.val, ins.c.val]) ∧ ((((s.adR a ins.b).toNat + (s.sR a ins.c).toNat) % 2 ^ 40) % 64 = 0 ∧ ownBytes (wcDie a) (wcWing a) (((s.adR a ins.b).toNat + (s.sR a ins.c).toNat) % 2 ^ 40) 128 = true) :=
  ⟨(47 : Fin 48), (⟨false, 0, 3, 4, 5, BitVec.ofNat 37 (2 * 2 ^ 19), 0⟩ : Ins), ((fun (a : Fin 48) (ins : Ins) (s : State) => ((let u := ((let u := (runV s a).sW a ins.c 64; u.adW a ins.b (BitVec.ofNat 40 (rrAddr (wcDie a) (wcWing a) (64 * (a.val * 99 + 5))) - 64)).stn (rrAddr (wcDie a) (wcWing a) (64 * (a.val * 99 + 5))) ((List.range 128).map (fun i => BitVec.ofNat 8 (i * 7 + 3)))); u) : State)) (47 : Fin 48) (⟨false, 0, 3, 4, 5, BitVec.ofNat 37 (2 * 2 ^ 19), 0⟩ : Ins) State.reset), by decide +kernel⟩
theorem wit_LoadsAndStoresOfAWing_2 : ∃ (a : Fin 48) (ins : Ins) (s : State), (16 ≤ a.val) ∧ (ins.x = false) ∧ (csemOk a { ins with low := BitVec.ofNat 37 (putBits ins.low.toNat 22 21 2) } = true) ∧ (ins.ef 20 19 = 1) ∧ (ins.b < 16) ∧ (ins.ef 18 0 = 0) ∧ (ins.e 63 21 = 0) ∧ ((s.engine a 3).run = none) ∧ ((s.engine a 3).q = []) ∧ (s.issues a ins [32 + ins.b.val, ins.c.val]) ∧ ((((s.adR a ins.b).toNat + (s.sR a ins.c).toNat) % 2 ^ 40) % 64 = 0 ∧ ownBytes (wcDie a) (wcWing a) (((s.adR a ins.b).toNat + (s.sR a ins.c).toNat) % 2 ^ 40) 64 = true) :=
  ⟨(16 : Fin 48), (⟨false, 0, 3, 4, 5, BitVec.ofNat 37 (1 * 2 ^ 19), 0⟩ : Ins), ((fun (a : Fin 48) (ins : Ins) (s : State) => ((let u := ((let u := (runV s a).sW a ins.c 64; u.adW a ins.b (BitVec.ofNat 40 (rrAddr (wcDie a) (wcWing a) (64 * (a.val * 99 + 5))) - 64)).stn (rrAddr (wcDie a) (wcWing a) (64 * (a.val * 99 + 5))) ((List.range 128).map (fun i => BitVec.ofNat 8 (i * 7 + 3)))); u) : State)) (16 : Fin 48) (⟨false, 0, 3, 4, 5, BitVec.ofNat 37 (1 * 2 ^ 19), 0⟩ : Ins) State.reset), by decide +kernel⟩
theorem wit_LoadsAndStoresOfAWing_3 : ∃ (a : Fin 48) (ins : Ins) (s : State), (16 ≤ a.val) ∧ (ins.x = false) ∧ (csemOk a ins = true) ∧ (ins.ef 22 21 = 0) ∧ (ins.ef 20 19 = 2) ∧ (ins.b < 16) ∧ (ins.ef 18 0 = 0) ∧ (ins.e 63 21 = 0) ∧ ((s.engine a 3).run = none) ∧ ((s.engine a 3).q = []) ∧ (s.issues a ins [32 + ins.b.val, ins.c.val]) ∧ ((((s.adR a ins.b).toNat + (s.sR a ins.c).toNat) % 2 ^ 40) % 64 = 0 ∧ ownBytes (wcDie a) (wcWing a) (((s.adR a ins.b).toNat + (s.sR a ins.c).toNat) % 2 ^ 40) 128 = true) ∧ ((s.vR a ins.a).length = 64) :=
  ⟨(47 : Fin 48), (⟨false, 0, 3, 4, 5, BitVec.ofNat 37 (2 * 2 ^ 19), 0⟩ : Ins), ((fun (a : Fin 48) (ins : Ins) (s : State) => ((let u := ((let u := (runV s a).sW a ins.c 64; u.adW a ins.b (BitVec.ofNat 40 (rrAddr (wcDie a) (wcWing a) (64 * (a.val * 99 + 5))) - 64)).stn (rrAddr (wcDie a) (wcWing a) (64 * (a.val * 99 + 5))) ((List.range 128).map (fun i => BitVec.ofNat 8 (i * 7 + 3)))); u) : State)) (47 : Fin 48) (⟨false, 0, 3, 4, 5, BitVec.ofNat 37 (2 * 2 ^ 19), 0⟩ : Ins) State.reset), by decide +kernel⟩
theorem wit_LoadsAndStoresOfAWing_4 : ∃ (a : Fin 48) (ins : Ins) (x : BusIn) (s : State), (16 ≤ a.val) ∧ (memLegal ins = true) ∧ (memReg ins < 32) ∧ (ins.a ≠ 0) ∧ (x.upset = []) ∧ ((s.engine a 3).run = none) ∧ ((s.engine a 3).q = []) ∧ (s.issues a ins [memReg ins, 32 + ins.b.val, ins.c.val]) ∧ ((s.effAddr a ins).toNat % memBytes (ins.f 36 34) = 0) ∧ (ownBytes (wcDie a) (wcWing a) (s.effAddr a ins).toNat (memBytes (ins.f 36 34)) = true) :=
  ⟨(47 : Fin 48), (⟨false, 0, 3, 4, 5, BitVec.ofNat 37 (2 * 2 ^ 34 + 2 ^ 33 + 8), 0⟩ : Ins), (⟨false, 0, [], 0, []⟩ : BusIn), ((fun (a : Fin 48) (ins : Ins) (x : BusIn) (s : State) => ((let u := ((let u := (runV s a).sW a ins.c 64; u.adW a ins.b (BitVec.ofNat 40 (rrAddr (wcDie a) (wcWing a) (64 * (a.val * 99 + 5))) - 64)).stn (rrAddr (wcDie a) (wcWing a) (64 * (a.val * 99 + 5))) ((List.range 128).map (fun i => BitVec.ofNat 8 (i * 7 + 3)))); u) : State)) (47 : Fin 48) (⟨false, 0, 3, 4, 5, BitVec.ofNat 37 (2 * 2 ^ 34 + 2 ^ 33 + 8), 0⟩ : Ins) (⟨false, 0, [], 0, []⟩ : BusIn) State.reset), by decide +kernel⟩
theorem wit_LoadsAndStoresOfAWing_5 : ∃ (a : Fin 48) (ins : Ins) (x : BusIn) (s : State), (16 ≤ a.val) ∧ (memLegal ins = true) ∧ (memReg ins < 32) ∧ ((s.engine a 3).run = none) ∧ ((s.engine a 3).q = []) ∧ (s.issues a ins [memReg ins, 32 + ins.b.val, ins.c.val]) ∧ ((s.effAddr a ins).toNat % memBytes (ins.f 36 34) = 0) ∧ (ownBytes (wcDie a) (wcWing a) (s.effAddr a ins).toNat (memBytes (ins.f 36 34)) = true) :=
  ⟨(47 : Fin 48), (⟨false, 0, 3, 4, 5, BitVec.ofNat 37 (0 * 2 ^ 34 + 7), 0⟩ : Ins), (⟨false, 0, [], 0, []⟩ : BusIn), ((fun (a : Fin 48) (ins : Ins) (x : BusIn) (s : State) => ((let u := ((let u := (runV s a).sW a ins.c 64; u.adW a ins.b (BitVec.ofNat 40 (rrAddr (wcDie a) (wcWing a) (64 * (a.val * 99 + 5))) - 64)).stn (rrAddr (wcDie a) (wcWing a) (64 * (a.val * 99 + 5))) ((List.range 128).map (fun i => BitVec.ofNat 8 (i * 7 + 3)))); u) : State)) (47 : Fin 48) (⟨false, 0, 3, 4, 5, BitVec.ofNat 37 (0 * 2 ^ 34 + 7), 0⟩ : Ins) (⟨false, 0, [], 0, []⟩ : BusIn) State.reset), by decide +kernel⟩
theorem wit_CimInstructions_1 : ∃ (f : Fin 14) (k : Fin 1024) (a : Fin 48) (ins : Ins) (s : State), (16 ≤ a.val) ∧ (ins.x = true) ∧ (csemOk a ins = true) ∧ (ins.a = 0) ∧ (ins.b < 16) ∧ (ins.ef 2 1 ≠ 3) ∧ (ins.ef 0 0 = 0) ∧ (ins.e 63 24 = 0) ∧ ((s.engine a 2).run = none) ∧ ((s.engine a 2).q = []) ∧ (s.issues a ins [32 + ins.b.val, ins.c.val]) ∧ (s.mvmCheck (wcDie a) (wcWing a) (mvmOf ({ op := 0x40, pc := 0, csen := false, csem := 0, ef := ins.low.toNat % 2 ^ 23, ext := ins.xw, a := 0, b := 0, c := 0, vb := (s.adR a ins.b).toNat, vc := (s.sR a ins.c).toNat, vx := (List.range 14).map (fun f => s.rd (wg (wcDie a) (wcWing a)) (R.LEAF_PREC_L.at f)) } : EngIns)) = 0) ∧ ((mvmOf ({ op := 0x40, pc := 0, csen := false, csem := 0, ef := ins.low.toNat % 2 ^ 23, ext := ins.xw, a := 0, b := 0, c := 0, vb := (s.adR a ins.b).toNat, vc := (s.sR a ins.c).toNat, vx := (List.range 14).map (fun f => s.rd (wg (wcDie a) (wcWing a)) (R.LEAF_PREC_L.at f)) } : EngIns)).folios = [f.val]) ∧ ((mvmOf ({ op := 0x40, pc := 0, csen := false, csem := 0, ef := ins.low.toNat % 2 ^ 23, ext := ins.xw, a := 0, b := 0, c := 0, vb := (s.adR a ins.b).toNat, vc := (s.sR a ins.c).toNat, vx := (List.range 14).map (fun f => s.rd (wg (wcDie a) (wcWing a)) (R.LEAF_PREC_L.at f)) } : EngIns)).count = 0) ∧ ((mvmOf ({ op := 0x40, pc := 0, csen := false, csem := 0, ef := ins.low.toNat % 2 ^ 23, ext := ins.xw, a := 0, b := 0, c := 0, vb := (s.adR a ins.b).toNat, vc := (s.sR a ins.c).toNat, vx := (List.range 14).map (fun f => s.rd (wg (wcDie a) (wcWing a)) (R.LEAF_PREC_L.at f)) } : EngIns)).acc = false) ∧ ((mvmOf ({ op := 0x40, pc := 0, csen := false, csem := 0, ef := ins.low.toNat % 2 ^ 23, ext := ins.xw, a := 0, b := 0, c := 0, vb := (s.adR a ins.b).toNat, vc := (s.sR a ins.c).toNat, vx := (List.range 14).map (fun f => s.rd (wg (wcDie a) (wcWing a)) (R.LEAF_PREC_L.at f)) } : EngIns)).mode = 0) ∧ (k.val < (mvmOf ({ op := 0x40, pc := 0, csen := false, csem := 0, ef := ins.low.toNat % 2 ^ 23, ext := ins.xw, a := 0, b := 0, c := 0, vb := (s.adR a ins.b).toNat, vc := (s.sR a ins.c).toNat, vx := (List.range 14).map (fun f => s.rd (wg (wcDie a) (wcWing a)) (R.LEAF_PREC_L.at f)) } : EngIns)).entries f) ∧ (s.shadowOf (wcDie a) (wcWing a) f = none) :=
  ⟨(13 : Fin 14), (255 : Fin 1024), (47 : Fin 48), (⟨true, 0, 0, 4, 5, BitVec.ofNat 37 (2 ^ 22), 0⟩ : Ins), ((fun (f : Fin 14) (k : Fin 1024) (a : Fin 48) (ins : Ins) (s : State) => ((let u := (let u := ((let u := (runV s a).sW a ins.c 64; u.adW a ins.b (BitVec.ofNat 40 (rrAddr (wcDie a) (wcWing a) (64 * (a.val * 99 + 5))) - 64)).stn (rrAddr (wcDie a) (wcWing a) (64 * (a.val * 99 + 5))) ((List.range 128).map (fun i => BitVec.ofNat 8 (i * 7 + 3)))); u); let n := u.act; u.wr (cd n) R.WING_LOADED_LOADED 0xFFFFFFFF) : State)) (13 : Fin 14) (255 : Fin 1024) (47 : Fin 48) (⟨true, 0, 0, 4, 5, BitVec.ofNat 37 (2 ^ 22), 0⟩ : Ins) State.reset), by decide +kernel⟩
theorem wit_CimInstructions_2 : ∃ (f : Fin 14) (k : Fin 1024) (a : Fin 48) (ins : Ins) (s : State), (16 ≤ a.val) ∧ (ins.x = true) ∧ (csemOk a ins = true) ∧ (ins.a = 0) ∧ (ins.b < 16) ∧ (ins.ef 2 1 ≠ 3) ∧ (ins.ef 0 0 = 0) ∧ (ins.e 63 24 = 0) ∧ ((s.engine a 2).run = none) ∧ ((s.engine a 2).q = []) ∧ (s.issues a ins [32 + ins.b.val, ins.c.val]) ∧ (s.mvmCheck (wcDie a) (wcWing a) (mvmOf ({ op := 0x40, pc := 0, csen := false, csem := 0, ef := ins.low.toNat % 2 ^ 23, ext := ins.xw, a := 0, b := 0, c := 0, vb := (s.adR a ins.b).toNat, vc := (s.sR a ins.c).toNat, vx := (List.range 14).map (fun f => s.rd (wg (wcDie a) (wcWing a)) (R.LEAF_PREC_L.at f)) } : EngIns)) = 0) ∧ ((mvmOf ({ op := 0x40, pc := 0, csen := false, csem := 0, ef := ins.low.toNat % 2 ^ 23, ext := ins.xw, a := 0, b := 0, c := 0, vb := (s.adR a ins.b).toNat, vc := (s.sR a ins.c).toNat, vx := (List.range 14).map (fun f => s.rd (wg (wcDie a) (wcWing a)) (R.LEAF_PREC_L.at f)) } : EngIns)).folios = [f.val]) ∧ ((mvmOf ({ op := 0x40, pc := 0, csen := false, csem := 0, ef := ins.low.toNat % 2 ^ 23, ext := ins.xw, a := 0, b := 0, c := 0, vb := (s.adR a ins.b).toNat, vc := (s.sR a ins.c).toNat, vx := (List.range 14).map (fun f => s.rd (wg (wcDie a) (wcWing a)) (R.LEAF_PREC_L.at f)) } : EngIns)).count = 1) ∧ ((mvmOf ({ op := 0x40, pc := 0, csen := false, csem := 0, ef := ins.low.toNat % 2 ^ 23, ext := ins.xw, a := 0, b := 0, c := 0, vb := (s.adR a ins.b).toNat, vc := (s.sR a ins.c).toNat, vx := (List.range 14).map (fun f => s.rd (wg (wcDie a) (wcWing a)) (R.LEAF_PREC_L.at f)) } : EngIns)).acc = false) ∧ ((mvmOf ({ op := 0x40, pc := 0, csen := false, csem := 0, ef := ins.low.toNat % 2 ^ 23, ext := ins.xw, a := 0, b := 0, c := 0, vb := (s.adR a ins.b).toNat, vc := (s.sR a ins.c).toNat, vx := (List.range 14).map (fun f => s.rd (wg (wcDie a) (wcWing a)) (R.LEAF_PREC_L.at f)) } : EngIns)).mode = 0) ∧ (k.val < (mvmOf ({ op := 0x40, pc := 0, csen := false, csem := 0, ef := ins.low.toNat % 2 ^ 23, ext := ins.xw, a := 0, b := 0, c := 0, vb := (s.adR a ins.b).toNat, vc := (s.sR a ins.c).toNat, vx := (List.range 14).map (fun f => s.rd (wg (wcDie a) (wcWing a)) (R.LEAF_PREC_L.at f)) } : EngIns)).entries f) ∧ (s.shadowOf (wcDie a) (wcWing a) f = none) ∧ (s.hist (wcDie a) (wcWing a) (mvmOf ({ op := 0x40, pc := 0, csen := false, csem := 0, ef := ins.low.toNat % 2 ^ 23, ext := ins.xw, a := 0, b := 0, c := 0, vb := (s.adR a ins.b).toNat, vc := (s.sR a ins.c).toNat, vx := (List.range 14).map (fun f => s.rd (wg (wcDie a) (wcWing a)) (R.LEAF_PREC_L.at f)) } : EngIns)).tag = 0) :=
  ⟨(13 : Fin 14), (255 : Fin 1024), (47 : Fin 48), (⟨true, 0, 0, 4, 5, BitVec.ofNat 37 (2 ^ 22), 15 * 2 ^ 19 + 2 ^ 13⟩ : Ins), ((fun (f : Fin 14) (k : Fin 1024) (a : Fin 48) (ins : Ins) (s : State) => ((let u := (let u := ((let u := (runV s a).sW a ins.c 64; u.adW a ins.b (BitVec.ofNat 40 (rrAddr (wcDie a) (wcWing a) (64 * (a.val * 99 + 5))) - 64)).stn (rrAddr (wcDie a) (wcWing a) (64 * (a.val * 99 + 5))) ((List.range 128).map (fun i => BitVec.ofNat 8 (i * 7 + 3)))); u); let n := u.act; u.wr (cd n) R.WING_LOADED_LOADED 0xFFFFFFFF) : State)) (13 : Fin 14) (255 : Fin 1024) (47 : Fin 48) (⟨true, 0, 0, 4, 5, BitVec.ofNat 37 (2 ^ 22), 15 * 2 ^ 19 + 2 ^ 13⟩ : Ins) State.reset), by decide +kernel⟩
theorem wit_CimInstructions_3 : ∃ (a : Fin 48) (ins : Ins) (s : State), (16 ≤ a.val) ∧ (ins.x = true) ∧ (csemOk a ins = true) ∧ (ins.a = 0) ∧ (ins.b < 16) ∧ (ins.ef 16 15 = 0) ∧ (ins.ef 14 0 = 0) ∧ (ins.e 63 21 = 0) ∧ ((s.engine a 2).run = none) ∧ ((s.engine a 2).q = []) ∧ (s.issues a ins [32 + ins.b.val, ins.c.val]) ∧ (ins.ef 22 19 ≤ 13) ∧ (s.folioPos (wcDie a) (wcWing a) (ins.ef 22 19) ≠ 15) ∧ (ins.e 20 10 = 1) ∧ ((((s.adR a ins.b).toNat + (s.sR a ins.c).toNat) % 2 ^ 40) % 64 = 0 ∧ ownBytes (wcDie a) (wcWing a) (((s.adR a ins.b).toNat + (s.sR a ins.c).toNat) % 2 ^ 40) 64 = true) :=
  ⟨(47 : Fin 48), (⟨true, 0, 0, 4, 5, BitVec.ofNat 37 (13 * 2 ^ 19 + 3 * 2 ^ 17), 2 ^ 10 + 1023⟩ : Ins), ((fun (a : Fin 48) (ins : Ins) (s : State) => ((let u := (let u := ((let u := (runV s a).sW a ins.c 64; u.adW a ins.b (BitVec.ofNat 40 (rrAddr (wcDie a) (wcWing a) (64 * (a.val * 99 + 5))) - 64)).stn (rrAddr (wcDie a) (wcWing a) (64 * (a.val * 99 + 5))) ((List.range 128).map (fun i => BitVec.ofNat 8 (i * 7 + 3)))); u); u.accPut (accKey (wcDie a) (wcWing a) (s.folioPos (wcDie a) (wcWing a) (ins.ef 22 19)) (ins.ef 18 17) (ins.e 9 0)) 3735928559 false) : State)) (47 : Fin 48) (⟨true, 0, 0, 4, 5, BitVec.ofNat 37 (13 * 2 ^ 19 + 3 * 2 ^ 17), 2 ^ 10 + 1023⟩ : Ins) State.reset), by decide +kernel⟩
theorem wit_CimInstructions_4 : ∃ (f : Fin 14) (k : Fin 1024) (a : Fin 48) (ins : Ins) (s : State), (16 ≤ a.val) ∧ (ins.x = false) ∧ (csemOk a ins = true) ∧ (ins.noRegs = true) ∧ (ins.ef 6 0 = 0) ∧ ((s.engine a 2).run = none) ∧ ((s.engine a 2).q = []) ∧ (s.issues a ins []) ∧ ((∀ g : Fin 14, bitOf (ins.low.toNat % 2 ^ 23) (9 + g) = true → s.folioPos (wcDie a) (wcWing a) g ≠ 15)) ∧ (bitOf (ins.low.toNat % 2 ^ 23) (9 + f) = true) :=
  ⟨(0 : Fin 14), (1023 : Fin 1024), (16 : Fin 48), (⟨false, 0, 0, 0, 0, BitVec.ofNat 37 (0x3FFF * 2 ^ 9 + 3 * 2 ^ 7), 0⟩ : Ins), ((fun (f : Fin 14) (k : Fin 1024) (a : Fin 48) (ins : Ins) (s : State) => ((let u := (runV s a); u.accPut (accKey (wcDie a) (wcWing a) (s.folioPos (wcDie a) (wcWing a) f) (ins.ef 8 7) k) 7 true) : State)) (0 : Fin 14) (1023 : Fin 1024) (16 : Fin 48) (⟨false, 0, 0, 0, 0, BitVec.ofNat 37 (0x3FFF * 2 ^ 9 + 3 * 2 ^ 7), 0⟩ : Ins) State.reset), by decide +kernel⟩
theorem wit_ScalegetReturnsKindAndShift_1 : ∃ (a : Fin 48) (ins : Ins) (s : State), (16 ≤ a.val) ∧ (ins.x = false) ∧ (csemOk a ins = true) ∧ (ins.b = 0) ∧ (ins.c = 0) ∧ (ins.ef 16 0 = 0) ∧ (ins.a ≠ 0) ∧ ((s.engine a 2).run = none) ∧ ((s.engine a 2).q = []) ∧ (s.issues a ins [ins.a.val]) ∧ (ins.ef 22 19 ≤ 13) ∧ (s.folioPos (wcDie a) (wcWing a) (ins.ef 22 19) ≠ 15) :=
  ⟨(31 : Fin 48), (⟨false, 0, 31, 0, 0, BitVec.ofNat 37 (13 * 2 ^ 19 + 3 * 2 ^ 17), 0⟩ : Ins), ((fun (a : Fin 48) (ins : Ins) (s : State) => ((runV s a) : State)) (31 : Fin 48) (⟨false, 0, 31, 0, 0, BitVec.ofNat 37 (13 * 2 ^ 19 + 3 * 2 ^ 17), 0⟩ : Ins) State.reset), by decide +kernel⟩
theorem wit_MoveEngineInstructions_1 : ∃ (a : Fin 48) (ins : Ins) (s : State), (16 ≤ a.val) ∧ (ins.x = true) ∧ (csemOk a ins = true) ∧ (ins.b < 16) ∧ (ins.c < 16) ∧ (ins.ef 22 21 = 0) ∧ (ins.ef 20 19 = 0) ∧ (ins.ef 18 6 = 0) ∧ (ins.ef 5 0 = 0) ∧ (ins.e 63 42 = 0) ∧ (ins.e 20 0 ≤ 2 ^ 20) ∧ (ins.e 41 21 ≤ 2 ^ 20) ∧ ((s.engine a 4).run = none) ∧ ((s.engine a 4).q = []) ∧ (s.issues a ins [ins.a.val, 32 + ins.b.val, 32 + ins.c.val]) ∧ ((s.sR a ins.a).toNat = 1) ∧ ((s.adR a ins.b).toNat % 64 = 0) ∧ (ownBytes (wcDie a) (wcWing a) ((s.adR a ins.b).toNat) 64 = true) ∧ ((s.adR a ins.c).toNat % 64 = 0) ∧ (ownBytes (wcDie a) (wcWing a) ((s.adR a ins.c).toNat) 64 = true) :=
  ⟨(47 : Fin 48), (⟨true, 0, 3, 4, 5, 0, BitVec.ofNat 64 (2 ^ 20 + 2 ^ 41)⟩ : Ins), ((fun (a : Fin 48) (ins : Ins) (s : State) => ((let u := running s a; let u := u.stn (rrAddr (wcDie a) (wcWing a) (64 * 77)) ((List.range 4096).map (fun i => BitVec.ofNat 8 (i * 7 + i / 64 + a.val))); let u := u.sW a ins.a (1); let u := u.adW a ins.b (BitVec.ofNat 40 (rrAddr (wcDie a) (wcWing a) (64 * 77))); u.adW a ins.c (BitVec.ofNat 40 (rrAddr (wcDie a) (wcWing a) (64 * 131071)))) : State)) (47 : Fin 48) (⟨true, 0, 3, 4, 5, 0, BitVec.ofNat 64 (2 ^ 20 + 2 ^ 41)⟩ : Ins) State.reset), by decide +kernel⟩
theorem wit_MoveEngineInstructions_2 : ∃ (a : Fin 48) (ins : Ins) (s : State), (16 ≤ a.val) ∧ (ins.x = true) ∧ (csemOk a ins = true) ∧ (ins.b < 16) ∧ (ins.c < 16) ∧ (ins.ef 22 22 = 0) ∧ (ins.ef 21 20 = 0) ∧ (ins.ef 19 7 = 0) ∧ (ins.ef 6 0 = 0) ∧ (ins.e 63 42 = 0) ∧ (ins.e 20 0 = 1) ∧ (ins.e 41 21 = 1) ∧ ((s.engine a 4).run = none) ∧ ((s.engine a 4).q = []) ∧ (s.issues a ins [ins.a.val, 32 + ins.b.val, 32 + ins.c.val]) ∧ ((s.sR a ins.a).toNat = 1) ∧ ((s.adR a ins.b).toNat % 64 = 0) ∧ (ownBytes (wcDie a) (wcWing a) ((s.adR a ins.b).toNat) 2048 = true) ∧ ((s.adR a ins.c).toNat % 64 = 0) ∧ (ownBytes (wcDie a) (wcWing a) ((s.adR a ins.c).toNat) 2048 = true) :=
  ⟨(47 : Fin 48), (⟨true, 0, 3, 4, 5, 0, BitVec.ofNat 64 (1 + 2 ^ 21)⟩ : Ins), ((fun (a : Fin 48) (ins : Ins) (s : State) => ((let u := running s a; let u := u.stn (rrAddr (wcDie a) (wcWing a) (64 * 77)) ((List.range 4096).map (fun i => BitVec.ofNat 8 (i * 7 + i / 64 + a.val))); let u := u.sW a ins.a (1); let u := u.adW a ins.b (BitVec.ofNat 40 (rrAddr (wcDie a) (wcWing a) (64 * 77))); u.adW a ins.c (BitVec.ofNat 40 (rrAddr (wcDie a) (wcWing a) (64 * (90 + a.val * 40))))) : State)) (47 : Fin 48) (⟨true, 0, 3, 4, 5, 0, BitVec.ofNat 64 (1 + 2 ^ 21)⟩ : Ins) State.reset), by decide +kernel⟩
theorem wit_MoveEngineInstructions_3 : ∃ (a : Fin 48) (ins : Ins) (s : State), (16 ≤ a.val) ∧ (ins.x = false) ∧ (csemOk a ins = true) ∧ (ins.b < 16) ∧ (ins.ef 22 0 = 0) ∧ ((s.engine a 4).run = none) ∧ ((s.engine a 4).q = []) ∧ (s.issues a ins [ins.a.val, 32 + ins.b.val, ins.c.val]) ∧ ((s.sR a ins.a).toNat = 1) ∧ ((((s.adR a ins.b).toNat + (s.sR a ins.c).toNat) % 2 ^ 40) % 32 = 0) ∧ (ownBytes (wcDie a) (wcWing a) (((s.adR a ins.b).toNat + (s.sR a ins.c).toNat) % 2 ^ 40) 32 = true) ∧ (planBad ((List.range 8).map (fun i => s.ldw ((((s.adR a ins.b).toNat + (s.sR a ins.c).toNat) % 2 ^ 40) + 4 * i) 4)) = false) ∧ ((entryXfer (wcDie a) (wcWing a) ((List.range 8).map (fun i => s.ldw ((((s.adR a ins.b).toNat + (s.sR a ins.c).toNat) % 2 ^ 40) + 4 * i) 4))).dk = 0) ∧ ((entryXfer (wcDie a) (wcWing a) ((List.range 8).map (fun i => s.ldw ((((s.adR a ins.b).toNat + (s.sR a ins.c).toNat) % 2 ^ 40) + 4 * i) 4))).kv = none) ∧ ((entryXfer (wcDie a) (wcWing a) ((List.range 8).map (fun i => s.ldw ((((s.adR a ins.b).toNat + (s.sR a ins.c).toNat) % 2 ^ 40) + 4 * i) 4))).tile = 0) ∧ ((entryXfer (wcDie a) (wcWing a) ((List.range 8).map (fun i => s.ldw ((((s.adR a ins.b).toNat + (s.sR a ins.c).toNat) % 2 ^ 40) + 4 * i) 4))).srcs = [rrAddr (wcDie a) (wcWing a) (64 * bits (((List.range 8).map (fun i => s.ldw ((((s.adR a ins.b).toNat + (s.sR a ins.c).toNat) % 2 ^ 40) + 4 * i) 4)).getD 1 0) 16 0)]) ∧ (bits (((List.range 8).map (fun i => s.ldw ((((s.adR a ins.b).toNat + (s.sR a ins.c).toNat) % 2 ^ 40) + 4 * i) 4)).getD 2 0) 20 0 ≤ 2 ^ 20 ∧ bits (((List.range 8).map (fun i => s.ldw ((((s.adR a ins.b).toNat + (s.sR a ins.c).toNat) % 2 ^ 40) + 4 * i) 4)).getD 5 0) 20 0 ≤ 2 ^ 20) :=
  ⟨(47 : Fin 48), (⟨false, 0, 3, 4, 5, 0, 0⟩ : Ins), ((fun (a : Fin 48) (ins : Ins) (s : State) => ((let u := (running s a).stn (rrAddr (wcDie a) (wcWing a) 4096) ([(4 + wcDie a) * 2 ^ 24 + wcWing a * 2 ^ 20, 64, 1, 1, 131071, 1, 0, 0].flatMap (toBytes 4) ++ List.replicate 60 9); ((u.sW a ins.a 1).sW a ins.c 0).adW a ins.b (BitVec.ofNat 40 (rrAddr (wcDie a) (wcWing a) 4096))) : State)) (47 : Fin 48) (⟨false, 0, 3, 4, 5, 0, 0⟩ : Ins) State.reset), by decide +kernel⟩
theorem wit_MoveEngineInstructions_4 : ∃ (b c : Nat) (a : Fin 48) (ins : Ins) (s : State), (16 ≤ a.val) ∧ (ins.x = false) ∧ (csemOk a ins = true) ∧ (ins.b < 16) ∧ (ins.ef 22 0 = 0) ∧ ((s.engine a 4).run = none) ∧ ((s.engine a 4).q = []) ∧ (s.issues a ins [ins.a.val, 32 + ins.b.val, ins.c.val]) ∧ (apertureAddr (s.adR a ins.b).toNat = true) ∧ (s.parkEntry (wcDie a) (wcWing a) (s.sR a ins.a).toNat = some (b, c)) ∧ (0 < (s.sR a ins.c).toNat ∧ (s.sR a ins.c).toNat ≤ c) ∧ (s.reaches (sdNode (wcDie a)) (cdNode (s.aliasDie a)) = true) ∧ (s.slotOk (s.aliasDie a) (s.rd (cd (s.aliasDie a)) R.PARK_CFG_SLOT) 1 = true) ∧ (s.rd (cd (s.aliasDie a)) R.PARK_NEXT_NO ≠ 0) ∧ (s.rd (cd (s.aliasDie a)) R.PARK_NEXT_NO < 2 ^ 32 - 1) :=
  ⟨(5 : Nat), (2 : Nat), (47 : Fin 48), (⟨false, 0, 3, 4, 5, 0, 0⟩ : Ins), ((fun (b : Nat) (c : Nat) (a : Fin 48) (ins : Ins) (s : State) => ((let n := s.aliasDie a; let u := linksOn (running s a); let u := ((u.wr (cd n) R.PARK_CFG_SLOT 3).wr (cd n) (R.SLOT_ATTR_VALID.at 3) 1 |>.wr (cd n) (R.SLOT_ATTR_KIND.at 3) 1).wr (cd n) (R.SLOT_ATTR_PURPOSE.at 3) 2; let u := u.wr (cd n) R.PARK_NEXT_NO 77; let b := sd (wcDie a); let u := (((u.wr b (R.KV_TAB_VALID.at 9) 1).wr b (R.KV_TAB_WING.at 9) (wcWing a)).wr b (R.KV_TAB_BASE.at 9) 5).wr b (R.KV_TAB_COUNT.at 9) 2; ((u.sW a ins.a 9).sW a ins.c 2).adW a ins.b 0x700000040) : State)) (5 : Nat) (2 : Nat) (47 : Fin 48) (⟨false, 0, 3, 4, 5, 0, 0⟩ : Ins) State.reset), by decide +kernel⟩
theorem wit_MoveEngineInstructions_5 : ∃ (b c : Nat) (a : Fin 48) (ins : Ins) (s : State), (16 ≤ a.val) ∧ (ins.x = false) ∧ (csemOk a ins = true) ∧ (ins.b < 16) ∧ (ins.ef 22 0 = 0) ∧ (ins.c = 0) ∧ ((s.engine a 4).run = none) ∧ ((s.engine a 4).q = []) ∧ (s.issues a ins [ins.a.val, 32 + ins.b.val]) ∧ (apertureAddr (s.adR a ins.b).toNat = true) ∧ (s.parkEntry (wcDie a) (wcWing a) (s.sR a ins.a).toNat = some (b, c)) ∧ (s.reaches (sdNode (wcDie a)) (cdNode (s.aliasDie a)) = true) ∧ ((s.routePort (sdNode (wcDie a)) (cdNode (s.aliasDie a))).isSome = true) :=
  ⟨(5 : Nat), (2 : Nat), (16 : Fin 48), (⟨false, 0, 3, 4, 0, 0, 0⟩ : Ins), ((fun (b : Nat) (c : Nat) (a : Fin 48) (ins : Ins) (s : State) => ((let n := s.aliasDie a; let u := linksOn (running s a); let u := ((u.wr (cd n) R.PARK_CFG_SLOT 3).wr (cd n) (R.SLOT_ATTR_VALID.at 3) 1 |>.wr (cd n) (R.SLOT_ATTR_KIND.at 3) 1).wr (cd n) (R.SLOT_ATTR_PURPOSE.at 3) 2; let u := u.wr (cd n) R.PARK_NEXT_NO 77; let b := sd (wcDie a); let u := (((u.wr b (R.KV_TAB_VALID.at 9) 1).wr b (R.KV_TAB_WING.at 9) (wcWing a)).wr b (R.KV_TAB_BASE.at 9) 5).wr b (R.KV_TAB_COUNT.at 9) 2; ((u.sW a ins.a 9).sW a ins.c 2).adW a ins.b 0x700000040) : State)) (5 : Nat) (2 : Nat) (16 : Fin 48) (⟨false, 0, 3, 4, 0, 0, 0⟩ : Ins) State.reset), by decide +kernel⟩
theorem wit_LinkEngineInstructions_1 : ∃ (a : Fin 48) (ins : Ins) (s : State), (ins.x = false) ∧ (csemOk a ins = true) ∧ (ins.a = 0) ∧ (ins.b = 0) ∧ (ins.ef 11 0 = 0) ∧ ((s.engine a 5).run = none) ∧ ((s.engine a 5).q = []) ∧ (s.issues a ins [ins.c.val]) ∧ ((s.sR a ins.c).toNat < 2 ^ 18) ∧ (4 ≤ ins.ef 22 19 ∧ ins.ef 22 19 < 8) ∧ (ins.ef 22 19 ≠ agNode a) ∧ (s.reaches (agNode a) (ins.ef 22 19) = true) ∧ ((s.routePort (agNode a) (ins.ef 22 19)).isSome = true) :=
  ⟨(47 : Fin 48), (⟨false, 0, 0, 0, 5, BitVec.ofNat 37 (4 * 2 ^ 19 + 7 * 2 ^ 16 + 15 * 2 ^ 12), 0⟩ : Ins), ((fun (a : Fin 48) (ins : Ins) (s : State) => (((running (linksOn s |>.wr (sd (wcDie a)) R.ROUTE_SD 0x55) a).sW a ins.c 99) : State)) (47 : Fin 48) (⟨false, 0, 0, 0, 5, BitVec.ofNat 37 (4 * 2 ^ 19 + 7 * 2 ^ 16 + 15 * 2 ^ 12), 0⟩ : Ins) State.reset), by decide +kernel⟩
theorem wit_LinkEngineInstructions_2 : ∃ (r : CredRec) (a : Fin 48) (ins : Ins) (s : State), (16 ≤ a.val) ∧ (ins.x = false) ∧ (csemOk a ins = true) ∧ (ins.b < 16) ∧ (ins.ef 10 0 = 0) ∧ ((s.engine a 5).run = none) ∧ ((s.engine a 5).q = []) ∧ (s.issues a ins [ins.a.val, 32 + ins.b.val, ins.c.val]) ∧ ((s.sR a ins.a).toNat % 4 = 0 ∧ 0 < (s.sR a ins.a).toNat ∧ (s.adR a ins.b).toNat % 4 = 0 ∧ (s.sR a ins.c).toNat % 4 = 0) ∧ ((s.adR a ins.b).toNat % 64 + (s.sR a ins.a).toNat ≤ 64) ∧ (ownBytes (wcDie a) (wcWing a) (s.adR a ins.b).toNat (s.sR a ins.a).toNat = true) ∧ ((s.sR a ins.c).toNat < 2 ^ 23) ∧ (4 ≤ ins.ef 22 19 ∧ ins.ef 22 19 < 8) ∧ (ins.ef 22 19 ≠ agNode a) ∧ (s.cred (ckey (agNode a) (agUnit a) (ins.ef 22 19) (ins.ef 18 16) (ins.ef 15 12)) = some r) ∧ (linesOf (s.sR a ins.c).toNat (s.sR a ins.a).toNat ≤ r.credits) ∧ (r.epoch < 256) ∧ (s.reaches (agNode a) (ins.ef 22 19) = true) ∧ ((s.routePort (agNode a) (ins.ef 22 19)).isSome = true) :=
  ⟨({ epoch := 255, credits := 2 } : CredRec), (47 : Fin 48), (⟨false, 0, 3, 4, 5, BitVec.ofNat 37 (4 * 2 ^ 19 + 7 * 2 ^ 16 + 15 * 2 ^ 12 + 2 ^ 11), 0⟩ : Ins), ((fun (r : CredRec) (a : Fin 48) (ins : Ins) (s : State) => ((let u := (running (linksOn s |>.wr (sd (wcDie a)) R.ROUTE_SD 0x55) a).setCred (ckey (agNode a) (agUnit a) (ins.ef 22 19) (ins.ef 18 16) (ins.ef 15 12)) (some r); let u := u.stn (rrAddr (wcDie a) (wcWing a) 6400) ((List.range 64).map (fun i => BitVec.ofNat 8 (i * 7 + 3))); ((u.sW a ins.a 40).sW a ins.c 4092).adW a ins.b (BitVec.ofNat 40 (rrAddr (wcDie a) (wcWing a) 6408))) : State)) ({ epoch := 255, credits := 2 } : CredRec) (47 : Fin 48) (⟨false, 0, 3, 4, 5, BitVec.ofNat 37 (4 * 2 ^ 19 + 7 * 2 ^ 16 + 15 * 2 ^ 12 + 2 ^ 11), 0⟩ : Ins) State.reset), by decide +kernel⟩
theorem wit_LinkEngineInstructions_3 : ∃ (a : Fin 48) (e : Fin 6) (r : EngRun) (s : State), (2 ≤ e.val) ∧ (s.running a e = some r) ∧ ((s.engine a e).q = []) ∧ (r.finished = true) ∧ (r.fault = 0) ∧ (r.hits = []) ∧ (r.shadow = none) ∧ (r.estat < 16) ∧ (s.agState a = 1) ∧ ((s.agent a).pendFault = none) ∧ ((s.agent a).stopDue = false) ∧ ((s.agent a).halt = none) :=
  ⟨(47 : Fin 48), (5 : Fin 6), ({ ins := { op := 0xA4, pc := 0, csen := true, csem := 511, ef := 0, ext := 0, a := 0, b := 0, c := 0 } } : EngRun), ((fun (a : Fin 48) (e : Fin 6) (r : EngRun) (s : State) => ((running s a).modEng a e (fun _ => { run := some r }) : State)) (47 : Fin 48) (5 : Fin 6) ({ ins := { op := 0xA4, pc := 0, csen := true, csem := 511, ef := 0, ext := 0, a := 0, b := 0, c := 0 } } : EngRun) State.reset), by decide +kernel⟩
theorem wit_EngineMessagesArrive_1 : ∃ (node unit : Fin 16) (m : Msg) (s : State), (s.inbox.head? = some m) ∧ (m.ty = 0x11) ∧ (m.dn = node.val) ∧ (m.du = unit.val) ∧ (s.cred (ckey node unit m.sn m.su (bits m.m0 31 28)) = none) ∧ ((s.engine (nodeAgent node unit) 4).run = none) ∧ ((s.engine (nodeAgent node unit) 5).run = none) :=
  ⟨(7 : Fin 16), (7 : Fin 16), (⟨0x11, 7, 7, 4, 0, 0xFFF00000, 64, [5, 0, 0, 0], 0⟩ : Msg), ((fun (node : Fin 16) (unit : Fin 16) (m : Msg) (s : State) => (got s m : State)) (7 : Fin 16) (7 : Fin 16) (⟨0x11, 7, 7, 4, 0, 0xFFF00000, 64, [5, 0, 0, 0], 0⟩ : Msg) State.reset), by decide +kernel⟩
theorem wit_EngineMessagesArrive_2 : ∃ (node unit : Fin 16) (m : Msg) (s : State), (s.inbox.head? = some m) ∧ (m.ty = 0x13) ∧ (m.dn = node.val) ∧ (m.du = unit.val) ∧ (m.sn ≠ node.val) ∧ (4 ≤ m.sn ∧ m.sn < 8) ∧ ((node.val < 3 ∧ 0 < node.val) ∨ 4 ≤ node.val ∧ node.val < 8) ∧ ((s.routePort node m.sn).isSome = true) :=
  ⟨(7 : Fin 16), (7 : Fin 16), (⟨0x13, 7, 7, 4, 0, 0xFFF00000, 0, [], 0⟩ : Msg), ((fun (node : Fin 16) (unit : Fin 16) (m : Msg) (s : State) => (got ((linksOn s |>.wr (sd (node - 4)) R.ROUTE_SD 0x55).setCred (ckey node unit m.sn m.su (bits m.m0 31 28)) (some { epoch := bits m.m0 27 20, sent := 77 })) m : State)) (7 : Fin 16) (7 : Fin 16) (⟨0x13, 7, 7, 4, 0, 0xFFF00000, 0, [], 0⟩ : Msg) State.reset), by decide +kernel⟩
theorem wit_EngineMessagesArrive_3 : ∃ (n : Fin 2) (m : Msg) (data : List Byte) (s : State), (s.inbox.head? = some m) ∧ (m.ty = 0x09) ∧ (m.dn = cdNode n) ∧ (4 ≤ m.sn ∧ m.sn < 8) ∧ (4 ≤ (m.m0 + bits m.m1 7 0 * 2 ^ 32) / 2 ^ 32 % 16 ∧ (m.m0 + bits m.m1 7 0 * 2 ^ 32) / 2 ^ 32 % 16 < 8) ∧ (s.hostGet n (m.m0 + bits m.m1 7 0 * 2 ^ 32) (bits m.m1 28 16) = some data) :=
  ⟨(1 : Fin 2), (⟨9, 2, 8, 7, 3, 0x100, 0x405 + 32 * 65536, [], 0⟩ : Msg), ((List.range 32).map (fun i => BitVec.ofNat 8 (i * 7 + 3)) : List Byte), ((fun (n : Fin 2) (m : Msg) (data : List Byte) (s : State) => (got ((let u := ((s.wr (cd n) (R.HOST_AP_LO_EN.at 1) 1).wr (cd n) (R.HOST_AP_HI_BASE.at 1) 3).wr (cd n) R.PAIR_STAT_ROLE 1; linksOn u).stn (hostKey 0x300000100) ((List.range 256).map (fun i => BitVec.ofNat 8 (i * 7 + 3)))) m : State)) (1 : Fin 2) (⟨9, 2, 8, 7, 3, 0x100, 0x405 + 32 * 65536, [], 0⟩ : Msg) ((List.range 32).map (fun i => BitVec.ofNat 8 (i * 7 + 3)) : List Byte) State.reset), by decide +kernel⟩
theorem wit_EngineMessagesArrive_4 : ∃ (n : Fin 2) (m : Msg) (s : State), (s.inbox.head? = some m) ∧ (m.ty = 0x08) ∧ (m.dn = cdNode n) ∧ (bits m.m1 7 0 % 16 = 0) ∧ (m.m0 % 64 = 0) ∧ (m.data.length % 64 = 0) ∧ (m.m0 + m.data.length ≤ 2 ^ 24) :=
  ⟨(1 : Fin 2), (⟨8, 2, 8, 7, 3, 0xFFFFC0, 0x20, List.replicate 64 9, 0⟩ : Msg), ((fun (n : Fin 2) (m : Msg) (s : State) => (got s m : State)) (1 : Fin 2) (⟨8, 2, 8, 7, 3, 0xFFFFC0, 0x20, List.replicate 64 9, 0⟩ : Msg) State.reset), by decide +kernel⟩
theorem wit_EngineMessagesArrive_5 : ∃ (d : Fin 4) (w : Fin 8) (m : Msg) (r : EngRun) (s : State), (s.inbox.head? = some m) ∧ (m.ty = 0x0A) ∧ (m.dn = sdNode d) ∧ (m.du = w.val) ∧ (s.running (wcix d w) 4 = some r) ∧ (r.fault = 0) ∧ (r.ins.op = 0x84) ∧ (r.todo = []) ∧ (bits m.m0 7 0 = 0) :=
  ⟨(3 : Fin 4), (7 : Fin 8), (⟨0x0A, 7, 7, 1, 8, 0, 0, List.replicate 128 9, 0⟩ : Msg), ({ ins := { op := 0x84, pc := 0, csen := false, csem := 0, ef := 0, ext := 0, a := 0, b := 0, c := 0 }, sealing := true, ent := [3], stop := 9 } : EngRun), ((fun (d : Fin 4) (w : Fin 8) (m : Msg) (r : EngRun) (s : State) => ((got (running s (wcix d w)) m).modEng (wcix d w) 4 (fun _ => { run := some r }) : State)) (3 : Fin 4) (7 : Fin 8) (⟨0x0A, 7, 7, 1, 8, 0, 0, List.replicate 128 9, 0⟩ : Msg) ({ ins := { op := 0x84, pc := 0, csen := false, csem := 0, ef := 0, ext := 0, a := 0, b := 0, c := 0 }, sealing := true, ent := [3], stop := 9 } : EngRun) State.reset), by decide +kernel⟩
theorem wit_EngineMessagesArrive_6 : ∃ (d : Fin 4) (w : Fin 8) (m : Msg) (r : EngRun) (s : State), (s.inbox.head? = some m) ∧ (m.ty = 0x16) ∧ (m.dn = sdNode d) ∧ (m.du = w.val) ∧ (s.running (wcix d w) 4 = some r) ∧ (r.fault = 0) ∧ (r.ins.op ≠ 0x82) ∧ (r.ack = true) ∧ (bitOf r.estat 3 = false) ∧ (bitOf m.m0 0 = false) :=
  ⟨(3 : Fin 4), (7 : Fin 8), (⟨0x16, 7, 7, 5, 1, 0, 0, [], 0⟩ : Msg), ({ ins := { op := 0x80, pc := 0, csen := false, csem := 0, ef := 0, ext := 0, a := 0, b := 0, c := 0 }, ack := true, ent := [3], stop := 9 } : EngRun), ((fun (d : Fin 4) (w : Fin 8) (m : Msg) (r : EngRun) (s : State) => ((got (running s (wcix d w)) m).modEng (wcix d w) 4 (fun _ => { run := some r }) : State)) (3 : Fin 4) (7 : Fin 8) (⟨0x16, 7, 7, 5, 1, 0, 0, [], 0⟩ : Msg) ({ ins := { op := 0x80, pc := 0, csen := false, csem := 0, ef := 0, ext := 0, a := 0, b := 0, c := 0 }, ack := true, ent := [3], stop := 9 } : EngRun) State.reset), by decide +kernel⟩
theorem wit_EngineMessagesArrive_7 : ∃ (d : Fin 4) (w : Fin 8) (m : Msg) (r : EngRun) (s : State), (s.inbox.head? = some m) ∧ (m.ty = 0x16) ∧ (m.dn = sdNode d) ∧ (m.du = w.val) ∧ (s.running (wcix d w) 4 = some r) ∧ (r.fault = 0) ∧ (r.ins.op ≠ 0x82) ∧ (r.ack = true) ∧ (bitOf r.estat 3 = false) ∧ (bitOf m.m0 0 = true) ∧ ((r.xfer d w).srcs ≠ []) ∧ ((r.xfer d w).sk = 2) ∧ (r.fetch = []) ∧ (r.todo = []) ∧ (s.aliasNode (wcix d w) = 1 ∨ s.aliasNode (wcix d w) = 2) :=
  ⟨(3 : Fin 4), (7 : Fin 8), (⟨0x16, 7, 7, 5, 1, 1, 0, [], 0⟩ : Msg), ({ ins := { op := 0x80, pc := 0, csen := false, csem := 0, ef := 2 * 2 ^ 21, ext := 2, a := 0, b := 0, c := 0, va := 3, vb := 0x500000000 }, ack := true } : EngRun), ((fun (d : Fin 4) (w : Fin 8) (m : Msg) (r : EngRun) (s : State) => ((got (running ((linksOn s).wr (sd d) R.SD_EPOCH_NODE 2) (wcix d w)) m).modEng (wcix d w) 4 (fun _ => { run := some r }) : State)) (3 : Fin 4) (7 : Fin 8) (⟨0x16, 7, 7, 5, 1, 1, 0, [], 0⟩ : Msg) ({ ins := { op := 0x80, pc := 0, csen := false, csem := 0, ef := 2 * 2 ^ 21, ext := 2, a := 0, b := 0, c := 0, va := 3, vb := 0x500000000 }, ack := true } : EngRun) State.reset), by decide +kernel⟩
theorem wit_SealEngineAtTheControlDie_1 : ∃ (n : Fin 2) (m : Msg) (j : SealJob) (rest : List SealJob) (s : State), (s.inbox.head? = some m) ∧ (m.ty = 0x0B) ∧ (m.dn = cdNode n) ∧ ((s.cdx n).jobs = j :: rest) ∧ (j.unpark = false) ∧ (j.die = m.sn - 4) ∧ (j.wing = m.su) ∧ (j.full = false) ∧ (bits m.m1 9 8 = 0) ∧ (j.got.length + m.data.length < 65536) :=
  ⟨(1 : Fin 2), (⟨0x0B, 2, 8, 7, 7, 0, 255, List.replicate 64 3, 0⟩ : Msg), ({ unpark := false, die := 3, wing := 7, carrel := 255, blocks := 40, addr := 0x500000000, slot := 1, key := [], no := 5, hdr := [], got := [1] } : SealJob), ([] : List SealJob), ((fun (n : Fin 2) (m : Msg) (j : SealJob) (rest : List SealJob) (s : State) => ((got s m).modCd n (fun x => { x with jobs := j :: rest }) : State)) (1 : Fin 2) (⟨0x0B, 2, 8, 7, 7, 0, 255, List.replicate 64 3, 0⟩ : Msg) ({ unpark := false, die := 3, wing := 7, carrel := 255, blocks := 40, addr := 0x500000000, slot := 1, key := [], no := 5, hdr := [], got := [1] } : SealJob) ([] : List SealJob) State.reset), by decide +kernel⟩
theorem wit_SealEngineAtTheControlDie_2 : ∃ (n : Fin 2) (j : SealJob) (rest : List SealJob) (s : State), ((s.cdx n).jobs = j :: rest) ∧ (j.unpark = false) ∧ (j.full = true) ∧ (j.err = false) :=
  ⟨(1 : Fin 2), ({ unpark := false, die := 3, wing := 7, carrel := 255, blocks := 40, addr := 0x500000000, slot := 1, key := [], no := 5, hdr := [], full := true } : SealJob), ([] : List SealJob), ((fun (n : Fin 2) (j : SealJob) (rest : List SealJob) (s : State) => (s.modCd n (fun x => { x with jobs := j :: rest }) : State)) (1 : Fin 2) ({ unpark := false, die := 3, wing := 7, carrel := 255, blocks := 40, addr := 0x500000000, slot := 1, key := [], no := 5, hdr := [], full := true } : SealJob) ([] : List SealJob) State.reset), by decide +kernel⟩
theorem wit_SealEngineAtTheControlDie_3 : ∃ (n : Fin 2) (m : Msg) (h : List Byte) (s : State), (s.inbox.head? = some m) ∧ (m.ty = 0x0C) ∧ (m.dn = cdNode n) ∧ (s.hostGet n (m.m0 + bits m.m1 7 0 * 2 ^ 32) 64 = some h) ∧ (s.unparkCheck n (m.sn - 4) (bits m.m1 15 8) h = none) ∧ (fromBytes ((h.drop 8).take 4) ≠ 0) :=
  ⟨(1 : Fin 2), (⟨0x0C, 2, 8, 7, 3, 0x100, 5 + 255 * 256, [], 0⟩ : Msg), (parkHeader 3 255 3 2 77 : List Byte), ((fun (n : Fin 2) (m : Msg) (h : List Byte) (s : State) => ((let u := ((let u := ((s.wr (cd n) (R.HOST_AP_LO_EN.at 1) 1).wr (cd n) (R.HOST_AP_HI_BASE.at 1) 3).wr (cd n) R.PAIR_STAT_ROLE 1; linksOn u).stn (hostKey 0x300000100) (parkHeader (m.sn - 4) (bits m.m1 15 8) 3 2 77)); let u := ((u.wr (cd n) R.PARK_CFG_SLOT 3).wr (cd n) (R.SLOT_ATTR_VALID.at 3) 1 |>.wr (cd n) (R.SLOT_ATTR_KIND.at 3) 1).wr (cd n) (R.SLOT_ATTR_PURPOSE.at 3) 2; let b := sd (m.sn - 4); let u := ((u.wr b (R.KV_TAB_VALID.at (bits m.m1 15 8)) 1).wr b (R.KV_TAB_COUNT.at (bits m.m1 15 8)) 9); got (u.modCd n (fun x => { x with parks := Store.put 0 x.parks (256 * (m.sn - 4) + bits m.m1 15 8) 77 })) m) : State)) (1 : Fin 2) (⟨0x0C, 2, 8, 7, 3, 0x100, 5 + 255 * 256, [], 0⟩ : Msg) (parkHeader 3 255 3 2 77 : List Byte) State.reset), by decide +kernel⟩
theorem wit_SealEngineAtTheControlDie_4 : ∃ (n : Fin 2) (j : SealJob) (rest : List SealJob) (c data : List Byte) (s : State), ((s.cdx n).jobs = j :: rest) ∧ (j.unpark = true) ∧ (s.hostGet n (j.addr + chunkOff j.chunk) (4096 * (min 16 (j.blocks - 16 * j.chunk)) + 16) = some c) ∧ (gcmOpen j.key (parkIv j.no j.die j.carrel j.chunk) j.hdr (c.take (4096 * (min 16 (j.blocks - 16 * j.chunk)))) (c.drop (4096 * (min 16 (j.blocks - 16 * j.chunk)))) = some data) ∧ (j.blocks ≤ 16 * (j.chunk + 1)) :=
  ⟨(0 : Fin 2), ({ unpark := true, die := 3, wing := 7, carrel := 255, blocks := 0, addr := 0x500000000, slot := 1, key := List.replicate 32 0, no := 5, hdr := [] } : SealJob), ([] : List SealJob), (gcmTag (aesKeys (List.replicate 32 0)) (parkIv 5 3 255 0) [] [] : List Byte), ([] : List Byte), ((fun (n : Fin 2) (j : SealJob) (rest : List SealJob) (c : List Byte) (data : List Byte) (s : State) => ((let u := ((let u := ((s.wr (cd n) (R.HOST_AP_LO_EN.at 1) 1).wr (cd n) (R.HOST_AP_HI_BASE.at 1) 3).wr (cd n) R.PAIR_STAT_ROLE 1; linksOn u).stn (hostKey (0x300000000 + chunkOff 0)) (gcmTag (aesKeys j.key) (parkIv j.no j.die j.carrel 0) j.hdr [])); u.modCd n (fun x => { x with jobs := j :: rest })) : State)) (0 : Fin 2) ({ unpark := true, die := 3, wing := 7, carrel := 255, blocks := 0, addr := 0x500000000, slot := 1, key := List.replicate 32 0, no := 5, hdr := [] } : SealJob) ([] : List SealJob) (gcmTag (aesKeys (List.replicate 32 0)) (parkIv 5 3 255 0) [] [] : List Byte) ([] : List Byte) State.reset), by decide +kernel⟩
theorem wit_AccessesOnTheBus_1 : ∃ (a : Fin 48) (ins : Ins) (x : BusIn) (s : State), (ins.a ≠ 0) ∧ (a.val < 16) ∧ (memLegal ins = true) ∧ (memReg ins < 32) ∧ (s.issues a ins [memReg ins, 32 + ins.b.val, ins.c.val]) ∧ ((s.effAddr a ins).toNat % (memBytes (ins.f 36 34)) = 0) ∧ ((s.effAddr a ins).toNat / 2 ^ 36 = 0 ∨ (s.effAddr a ins).toNat / 2 ^ 36 = cdNode (sqDie a)) ∧ ((s.effAddr a ins).toNat / 2 ^ 32 % 16 = 0) ∧ (((s.effAddr a ins).toNat % 2 ^ 32) + (memBytes (ins.f 36 34)) ≤ 2 ^ 24) ∧ (x.upset = []) ∧ (Store.get [] s.comErr (comWord (sqDie a) (((s.effAddr a ins).toNat % 2 ^ 32) / 8)) = []) :=
  ⟨(15 : Fin 48), (⟨false, 0, 3, 4, 5, BitVec.ofNat 37 (2 * 2 ^ 34 + 2 ^ 33 + 8), 0⟩ : Ins), (⟨false, 0, [], 0, []⟩ : BusIn), ((fun (a : Fin 48) (ins : Ins) (x : BusIn) (s : State) => ((let u := (running s a).stn (comAddr (sqDie a) 4000) ((List.range 128).map (fun i => BitVec.ofNat 8 (i * 7 + 3))); (u.sW a ins.c 16).adW a ins.b (BitVec.ofNat 40 ((if a.val % 2 = 0 then 0 else comAddr (sqDie a) 0) + 4000))) : State)) (15 : Fin 48) (⟨false, 0, 3, 4, 5, BitVec.ofNat 37 (2 * 2 ^ 34 + 2 ^ 33 + 8), 0⟩ : Ins) (⟨false, 0, [], 0, []⟩ : BusIn) State.reset), by decide +kernel⟩
theorem wit_AccessesOnTheBus_2 : ∃ (a : Fin 48) (ins : Ins) (x : BusIn) (s : State), (a.val < 16) ∧ (memLegal ins = true) ∧ (memReg ins < 32) ∧ (s.issues a ins [memReg ins, 32 + ins.b.val, ins.c.val]) ∧ ((s.effAddr a ins).toNat % (memBytes (ins.f 36 34)) = 0) ∧ ((s.effAddr a ins).toNat / 2 ^ 36 = 0 ∨ (s.effAddr a ins).toNat / 2 ^ 36 = cdNode (sqDie a)) ∧ ((s.effAddr a ins).toNat / 2 ^ 32 % 16 = 0) ∧ (((s.effAddr a ins).toNat % 2 ^ 32) + (memBytes (ins.f 36 34)) ≤ 2 ^ 24) ∧ (x.upset = []) ∧ (Store.get [] s.comErr (comWord (sqDie a) (((s.effAddr a ins).toNat % 2 ^ 32) / 8)) = []) :=
  ⟨(0 : Fin 48), (⟨false, 0, 3, 4, 5, BitVec.ofNat 37 (0 * 2 ^ 34 + 7), 0⟩ : Ins), (⟨false, 0, [], 0, []⟩ : BusIn), ((fun (a : Fin 48) (ins : Ins) (x : BusIn) (s : State) => ((let u := (running s a).stn (comAddr (sqDie a) 4000) ((List.range 128).map (fun i => BitVec.ofNat 8 (i * 7 + 3))); (u.sW a ins.c 16).adW a ins.b (BitVec.ofNat 40 ((if a.val % 2 = 0 then 0 else comAddr (sqDie a) 0) + 4000))) : State)) (0 : Fin 48) (⟨false, 0, 3, 4, 5, BitVec.ofNat 37 (0 * 2 ^ 34 + 7), 0⟩ : Ins) (⟨false, 0, [], 0, []⟩ : BusIn) State.reset), by decide +kernel⟩
theorem wit_AccessesOnTheBus_3 : ∃ (n : Fin 2) (v : Nat) (x : BusIn) (s : State), (s.isActive n = true) ∧ ((s.cdx n).hostUp = true) ∧ ((s.cdx n).mainUp = true) ∧ (x.same = 0) :=
  ⟨(1 : Fin 2), (0x1FFFF : Nat), (⟨false, 0, [], 0, []⟩ : BusIn), ((fun (n : Fin 2) (v : Nat) (x : BusIn) (s : State) => ((s.wr (cd n) R.PAIR_STAT_ROLE 1).modCd n (fun x => { x with hostUp := true, mainUp := true }) : State)) (1 : Fin 2) (0x1FFFF : Nat) (⟨false, 0, [], 0, []⟩ : BusIn) State.reset), by decide +kernel⟩
theorem wit_AccessesOnTheBus_4 : ∃ (n : Fin 2) (o : Fin (2 ^ 21)) (v : Nat) (x : BusIn) (s : State), (s.dbgOpen n = true) ∧ ((s.cdx n).mainUp = true) ∧ (x.upset = []) :=
  ⟨(1 : Fin 2), (2097151 : Fin (2 ^ 21)), (0x123456789 : Nat), (⟨false, 0, [], 0, []⟩ : BusIn), ((fun (n : Fin 2) (o : Fin (2 ^ 21)) (v : Nat) (x : BusIn) (s : State) => ((s.wr (cd n) R.SEC_STAT_DBG_OPEN 1).modCd n (fun x => { x with mainUp := true }) : State)) (1 : Fin 2) (2097151 : Fin (2 ^ 21)) (0x123456789 : Nat) (⟨false, 0, [], 0, []⟩ : BusIn) State.reset), by decide +kernel⟩
theorem wit_AccessesOnTheBus_5 : ∃ (n : Fin 2) (u addr : Nat) (write : Bool) (rest : List (Nat × Bool × Nat)) (s : State), ((s.cdx n).waitAcc = (u, write, addr) :: rest) ∧ (8 ≤ u) :=
  ⟨(0 : Fin 2), (11 : Nat), (0x400000000 : Nat), (false : Bool), ([] : List (Nat × Bool × Nat)), ((fun (n : Fin 2) (u : Nat) (addr : Nat) (write : Bool) (rest : List (Nat × Bool × Nat)) (s : State) => (s.modCd n (fun x => { x with waitAcc := (u, write, addr) :: rest }) : State)) (0 : Fin 2) (11 : Nat) (0x400000000 : Nat) (false : Bool) ([] : List (Nat × Bool × Nat)) State.reset), by decide +kernel⟩
theorem wit_InterruptSummariesAndDma_1 : ∃ (n : Fin 2) (d : Fin 4) (s : State), (s.isActive n = true) ∧ ((s.cdx n).mainUp = true) ∧ (s.rd (cd n) R.INT_CTRL_SD_POLL ≠ 0) ∧ (s.inService n (2 + d) = true) ∧ (s.reaches (cdNode n) (sdNode d) = true) ∧ ((s.sdx d).up = true) :=
  ⟨(1 : Fin 2), (3 : Fin 4), ((fun (n : Fin 2) (d : Fin 4) (s : State) => (((linksOn (s.wr (cd n) R.PAIR_STAT_ROLE 1)).wr (cd n) (diesFld (2 + d)) 2).modCd n (fun x => { x with mainUp := true }) |>.modSd d (fun x => { x with up := true }) |>.wr (cd n) R.INT_CTRL_SD_POLL 4 : State)) (1 : Fin 2) (3 : Fin 4) State.reset), by decide +kernel⟩
theorem wit_InterruptSummariesAndDma_2 : ∃ (n : Fin 2) (d : Fin 4) (s : State), (s.isActive n = true) ∧ ((s.cdx n).mainUp = true) ∧ (s.rd (cd n) R.INT_CTRL_SD_POLL ≠ 0) :=
  ⟨(0 : Fin 2), (0 : Fin 4), ((fun (n : Fin 2) (d : Fin 4) (s : State) => ((s.wr (cd n) R.PAIR_STAT_ROLE 1).modCd n (fun x => { x with mainUp := true }) |>.wr (cd n) R.INT_CTRL_SD_POLL 4 : State)) (0 : Fin 2) (0 : Fin 4) State.reset), by decide +kernel⟩
theorem wit_InterruptSummariesAndDma_3 : ∃ (n : Fin 2) (s : State), (s.flag (cd n) R.INT_CTRL_EDGE = true) ∧ (s.flag (cd n) R.INT_STAT_ASSERTED = true) :=
  ⟨(0 : Fin 2), ((fun (n : Fin 2) (s : State) => ((s.wr (cd n) R.INT_CTRL_EDGE 1).wr (cd n) R.INT_STAT_ASSERTED 1 : State)) (0 : Fin 2) State.reset), by decide +kernel⟩
theorem wit_InterruptSummariesAndDma_5 : ∃ (n : Fin 2) (c : Fin 8) (s : State), (s.isActive n = true) ∧ ((s.cdx n).mainUp = true) ∧ (s.flag (cd n) (R.DMA_STAT_BUSY.at c) = false) ∧ (s.dmaCheck n (s.dmaJob n c) = 0) ∧ (dmaStack (s.dmaJob n c).dst = false) :=
  ⟨(1 : Fin 2), (7 : Fin 8), ((fun (n : Fin 2) (c : Fin 8) (s : State) => (((((((s.wr (cd n) R.PAIR_STAT_ROLE 1).wr (cd n) (R.DMA_STAT_BUSY.at c) 0).modCd n (fun x => { x with mainUp := true })).wr (cd n) (R.DMA_SRC_HI_ADDR.at c) 0).wr (cd n) (R.DMA_SRC_LO_ADDR.at c) 4096 |>.wr (cd n) (R.DMA_DST_HI_ADDR.at c) 0).wr (cd n) (R.DMA_DST_LO_ADDR.at c) 8192 |>.wr (cd n) (R.DMA_LEN_LEN.at c) 64) : State)) (1 : Fin 2) (7 : Fin 8) State.reset), by decide +kernel⟩
theorem wit_InterruptSummariesAndDma_6 : ∃ (n : Fin 2) (c : Fin 8) (j : DmaJob) (s : State), (s.dmaRun n c = some j) ∧ (dmaStack j.dst = false) ∧ (j.src / 2 ^ 32 = 0 ∧ j.dst / 2 ^ 32 = 0) ∧ (j.dst % 8 = 0 ∧ j.len % 8 = 0) ∧ (j.src + j.len ≤ 2 ^ 24 ∧ j.dst + j.len ≤ 2 ^ 24) ∧ (j.src + j.len ≤ j.dst ∨ j.dst + j.len ≤ j.src) ∧ (s.comErr = []) :=
  ⟨(1 : Fin 2), (7 : Fin 8), ({ src := 4096, dst := 8192, len := 64, wing := 0, win := 0, sig := false } : DmaJob), ((fun (n : Fin 2) (c : Fin 8) (j : DmaJob) (s : State) => ({ (s.modCd n (fun x => { x with dma := Store.put none x.dma c (some j) })).stn (comAddr n j.src) ((List.range 128).map (fun i => BitVec.ofNat 8 (i * 7 + 3))) with comErr := [] } : State)) (1 : Fin 2) (7 : Fin 8) ({ src := 4096, dst := 8192, len := 64, wing := 0, win := 0, sig := false } : DmaJob) State.reset), by decide +kernel⟩
theorem wit_InterruptSummariesAndDma_7 : ∃ (n : Fin 2) (c : Fin 8) (moved : Fin (2 ^ 27)) (j : DmaJob) (s : State), ((s.cdx n).mainUp = true) ∧ (s.flag (cd n) (R.DMA_STAT_BUSY.at c) = true) ∧ (s.dmaRun n c = some j) ∧ (dmaStack j.dst = false) ∧ (j.src / 2 ^ 32 = 0 ∧ j.dst / 2 ^ 32 = 0) :=
  ⟨(0 : Fin 2), (0 : Fin 8), (0 : Fin (2 ^ 27)), ({ src := 4096, dst := 8192, len := 64, wing := 0, win := 0, sig := false } : DmaJob), ((fun (n : Fin 2) (c : Fin 8) (moved : Fin (2 ^ 27)) (j : DmaJob) (s : State) => (((s.wr (cd n) (R.DMA_STAT_BUSY.at c) 1).modCd n (fun x => { x with mainUp := true, dma := Store.put none x.dma c (some j) })) : State)) (0 : Fin 2) (0 : Fin 8) (0 : Fin (2 ^ 27)) ({ src := 4096, dst := 8192, len := 64, wing := 0, win := 0, sig := false } : DmaJob) State.reset), by decide +kernel⟩
theorem wit_QueuesAndSlips_1 : ∃ (n : Fin 2) (q : Fin 131072) (v : Word) (s : State), (s.isActive n = true) ∧ (s.qIsDev n q = false) ∧ (s.qIsCq n q = false) ∧ (s.qSize n q ≠ 0) ∧ (sub32 v.toNat (s.qCons n q) ≤ s.qSize n q) ∧ (sub32 v.toNat (s.qProd n q) ≤ s.qSize n q) :=
  ⟨(1 : Fin 2), (131071 : Fin 131072), (3 : Word), ((fun (n : Fin 2) (q : Fin 131072) (v : Word) (s : State) => (mkQ (actv s n) n q [4096, (2 ^ 24 + 4 * 256), 0xFFFFFFFC, 0xFFFFFFFA] : State)) (1 : Fin 2) (131071 : Fin 131072) (3 : Word) State.reset), by decide +kernel⟩
theorem wit_QueuesAndSlips_2 : ∃ (n : Fin 2) (s : State), (s.flag (cd n) R.Q_RES_BUSY = false) :=
  ⟨(0 : Fin 2), ((fun (n : Fin 2) (s : State) => (mkQ (s.wr (cd n) R.Q_RES_BUSY 0) n (s.rd (cd n) R.Q_SEL_QUEUE) [1, 2, 3, 0xFFFFFFFF, 5, 6, 7, 8] : State)) (0 : Fin 2) State.reset), by decide +kernel⟩
theorem wit_QueuesAndSlips_3 : ∃ (n : Fin 2) (s : State), (s.flag (cd n) R.Q_RES_BUSY = false) ∧ (s.mirOn n = false) ∧ (qInvalid ((List.range 6).map (fun k => s.rd (cd n) (R.Q_DATA_WORD.at k))) = false) ∧ (s.qLive n (s.rd (cd n) R.Q_SEL_QUEUE) ((List.range 6).map (fun k => s.rd (cd n) (R.Q_DATA_WORD.at k))) = false) :=
  ⟨(0 : Fin 2), ((fun (n : Fin 2) (s : State) => (((((s.wr (cd n) R.Q_RES_BUSY 0).wr (cd n) R.MIRROR_STAT_VALID 0).wr (cd n) R.Q_SEL_QUEUE 77).clearRegs (cd n + 0x10018) (cd n + 0x10040) |>.wr (cd n) (R.Q_DATA_WORD.at 1) (2 ^ 24 + 4 * 256) |>.wr (cd n) (R.Q_DATA_WORD.at 0) 4096 |>.wr (cd n) (R.Q_DATA_WORD.at 4) 0x10005 |>.wr (cd n) R.Q_RES_BUSY 0) : State)) (0 : Fin 2) State.reset), by decide +kernel⟩
theorem wit_QueuesAndSlips_4 : ∃ (n : Fin 2) (c q : Nat) (s : State), (s.dispatchOn n = true) ∧ ((s.idleSq n).isSome = true) ∧ (s.qPick n = some (c, q)) :=
  ⟨(1 : Fin 2), (0 : Nat), (9 : Nat), ((fun (n : Fin 2) (c : Nat) (q : Nat) (s : State) => ((mkQ (((actv s n).wr (cd n) R.CAT_CTRL_DISPATCH_EN 1).wr (cd n) R.PWR_STATE_CUR 4 |>.wr (cd n) R.CAT_CTRL_SQ_EN 255 |>.setAgState (sqix n 7) 0) n 9 [4096, (2 ^ 24 + 4 * 256), 5, 0, 0, 0, 0, 0]).modCd n (fun x => { x with handover := false, sels := [], rr := [] }) : State)) (1 : Fin 2) (0 : Nat) (9 : Nat) State.reset), by decide +kernel⟩
theorem wit_QueuesAndSlips_5 : ∃ (n : Fin 2) (q : Nat) (rest : List Nat) (s : State), ((s.cdx n).sels = q :: rest) ∧ (s.headOf n q = none) ∧ ((s.cdx n).cancels.contains (q, (s.qCons n q % max (s.qSize n q) 1)) = false) ∧ (s.qBase n q / 2 ^ 32 = 0) ∧ (s.qBase n q + 64 * s.qSize n q ≤ 2 ^ 24) ∧ (s.qSize n q ≠ 0) ∧ (s.mirOn n = false) ∧ (s.comErr = []) ∧ (s.slipOutcome n q (slipWords (s.ldn (comAddr n ((s.qBase n q + 64 * (s.qCons n q % max (s.qSize n q) 1)) % 2 ^ 24)) 64)) = 0) ∧ (bitOf ((slipWords (s.ldn (comAddr n ((s.qBase n q + 64 * (s.qCons n q % max (s.qSize n q) 1)) % 2 ^ 24)) 64)).getD 3 0) 31 = false) ∧ (bitOf ((slipWords (s.ldn (comAddr n ((s.qBase n q + 64 * (s.qCons n q % max (s.qSize n q) 1)) % 2 ^ 24)) 64)).getD 2 0) 31 = true) :=
  ⟨(1 : Fin 2), (131071 : Nat), ([] : List Nat), ((fun (n : Fin 2) (q : Nat) (rest : List Nat) (s : State) => ({ (((mkQ (s.wr (cd n) R.MIRROR_STAT_VALID 0) n q [8192, (2 ^ 24 + 4 * 256) + 16384, 7, 5, 0x90000, 0, 0, 0]).stn (comAddr n (8192 + 64 * 5)) ([0x11, 0x90008, 2 ^ 31, 0, 2, 71, 72].flatMap (toBytes 4) ++ List.replicate 40 0)).modCd n (fun x => { x with sels := q :: rest, heads := [], cancels := [] })) with comErr := [] } : State)) (1 : Fin 2) (131071 : Nat) ([] : List Nat) State.reset), by decide +kernel⟩
theorem wit_QueuesAndSlips_6 : ∃ (n : Fin 2) (k : Fin 8) (x : Slip) (rest : List Slip) (s : State), ((s.cdx n).disp = x :: rest) ∧ (s.idleSq n = some k.val) ∧ (s.dispatchOn n = true) ∧ (bitOf (s.ldw (sqMem n k x.prog) 4) 31 = true) ∧ (x.args.length ≤ 11) ∧ (x.carrel = none) :=
  ⟨(1 : Fin 2), (7 : Fin 8), ({ q := 7, pos := 3, gen := 5, tag := 9, prog := 11, args := [1, 2, 3] } : Slip), ([] : List Slip), ((fun (n : Fin 2) (k : Fin 8) (x : Slip) (rest : List Slip) (s : State) => (((((actv s n).wr (cd n) R.CAT_CTRL_DISPATCH_EN 1).wr (cd n) R.PWR_STATE_CUR 4 |>.wr (cd n) R.CAT_CTRL_SQ_EN (2 ^ k.val) |>.setAgState (sqix n k) 0).stw (sqMem n k x.prog) 4 (2 ^ 31 + 8191)).modCd n (fun y => { y with handover := false, disp := x :: rest }) : State)) (1 : Fin 2) (7 : Fin 8) ({ q := 7, pos := 3, gen := 5, tag := 9, prog := 11, args := [1, 2, 3] } : Slip) ([] : List Slip) State.reset), by decide +kernel⟩
theorem wit_QueuesAndSlips_7 : ∃ (n : Fin 2) (x : Slip) (rest : List MirAct) (s : State), ((s.cdx n).mirQ = .dispatch x :: rest) :=
  ⟨(0 : Fin 2), ({ q := 7, pos := 3, gen := 5, tag := 9, prog := 11, args := [1, 2, 3] } : Slip), ([] : List MirAct), ((fun (n : Fin 2) (x : Slip) (rest : List MirAct) (s : State) => (s.modCd n (fun y => { y with mirQ := .dispatch x :: rest }) : State)) (0 : Fin 2) ({ q := 7, pos := 3, gen := 5, tag := 9, prog := 11, args := [1, 2, 3] } : Slip) ([] : List MirAct) State.reset), by decide +kernel⟩
theorem wit_QueuesAndSlips_8 : ∃ (n : Fin 2) (r : Fin 256) (rest : List MirAct) (s : State), ((s.cdx n).mirQ = .qcmd r :: rest) :=
  ⟨(0 : Fin 2), (1 : Fin 256), ([] : List MirAct), ((fun (n : Fin 2) (r : Fin 256) (rest : List MirAct) (s : State) => (s.modCd n (fun y => { y with mirQ := .qcmd r :: rest }) : State)) (0 : Fin 2) (1 : Fin 256) ([] : List MirAct) State.reset), by decide +kernel⟩
theorem wit_CatalogueInstructionsAndCarrels_1 : ∃ (a : Fin 16) (ins : Ins) (s : State), (ins.x = false) ∧ (csemOk a ins = true) ∧ (ins.b < 16) ∧ (ins.ef 22 0 = 0) ∧ (ins.a ≠ 0) ∧ (s.issues a ins [ins.a.val, 32 + ins.b.val, ins.c.val]) ∧ (s.isActive (sqDie a) = true) ∧ ((s.adR a ins.b).toNat % 64 = 0) ∧ ((s.adR a ins.b).toNat / 2 ^ 32 = 0 ∧ (s.adR a ins.b).toNat + 64 ≤ 2 ^ 24) ∧ ((s.sR a ins.c).toNat < 131072) ∧ (s.qIsDev (sqDie a) (s.sR a ins.c).toNat = true) ∧ (s.qSize (sqDie a) (s.sR a ins.c).toNat ≠ 0) ∧ (sub32 (s.qProd (sqDie a) (s.sR a ins.c).toNat) (s.qCons (sqDie a) (s.sR a ins.c).toNat) < s.qSize (sqDie a) (s.sR a ins.c).toNat) ∧ (s.qBase (sqDie a) (s.sR a ins.c).toNat + 64 * s.qSize (sqDie a) (s.sR a ins.c).toNat ≤ 2 ^ 24) ∧ (s.comErr = []) :=
  ⟨(15 : Fin 16), (⟨false, 0, 3, 4, 5, 0, 0⟩ : Ins), ((fun (a : Fin 16) (ins : Ins) (s : State) => ({ (((running ((mkQ (actv s (sqDie a)) (sqDie a) 99 [8192, (2 ^ 24 + 4 * 256) + 16384, 0xFFFFFFFF, 0xFFFFFFFA, 0, 0, 0, 0]).stn (comAddr (sqDie a) 4096) ((List.range 64).map (BitVec.ofNat 8))) a).sW a ins.c 99).adW a ins.b 4096) with comErr := [] } : State)) (15 : Fin 16) (⟨false, 0, 3, 4, 5, 0, 0⟩ : Ins) State.reset), by decide +kernel⟩
theorem wit_CatalogueInstructionsAndCarrels_2 : ∃ (a : Fin 16) (ins : Ins) (s : State), (ins.x = false) ∧ (csemOk a ins = true) ∧ (ins.ef 22 0 = 0) ∧ (ins.a ≠ 0) ∧ (s.issues a ins [ins.a.val, ins.b.val, ins.c.val]) ∧ (s.isActive (sqDie a) = true) ∧ ((s.sR a ins.c).toNat < 131072 ∧ (s.sR a ins.b).toNat < 65536) ∧ (s.slipReady (sqDie a) (s.sR a ins.c).toNat (s.sR a ins.b).toNat = true) :=
  ⟨(0 : Fin 16), (⟨false, 0, 3, 4, 5, 0, 0⟩ : Ins), ((fun (a : Fin 16) (ins : Ins) (s : State) => ({ (((running (mkQ (actv s (sqDie a)) (sqDie a) 99 [8192, (2 ^ 24 + 4 * 256) + 16384, 9, 5, 0, 0, 0, 0]) a).sW a ins.c 99).sW a ins.b 7) with comErr := [] } : State)) (0 : Fin 16) (⟨false, 0, 3, 4, 5, 0, 0⟩ : Ins) State.reset), by decide +kernel⟩
theorem wit_CatalogueInstructionsAndCarrels_3 : ∃ (n : Fin 2) (pos : Fin 65536) (s : State), (s.isActive n = true) ∧ (s.flag (cd n) R.CANCEL_STAT_BUSY = false) ∧ (s.slipReady n (s.rd (cd n) R.CANCEL_Q_QUEUE) pos = true) :=
  ⟨(1 : Fin 2), (8 : Fin 65536), ((fun (n : Fin 2) (pos : Fin 65536) (s : State) => (mkQ (((actv s n).wr (cd n) R.CANCEL_Q_QUEUE 99).wr (cd n) R.CANCEL_STAT_BUSY 0) n 99 [8192, (2 ^ 24 + 4 * 256) + 16384, 9, 5, 0, 0, 0, 0] : State)) (1 : Fin 2) (8 : Fin 65536) State.reset), by decide +kernel⟩
theorem wit_CatalogueInstructionsAndCarrels_4 : ∃ (a : Fin 16) (ins : Ins) (x : Slip) (s : State), (ins.x = false) ∧ (csemOk a ins = true) ∧ (ins.b = 0) ∧ (ins.c = 0) ∧ (ins.ef 22 16 = 0) ∧ (ins.ef 7 3 = 0) ∧ (ins.ef 2 0 ≤ 4) ∧ (ins.a.val + ins.ef 2 0 ≤ 32) ∧ (s.issues a ins ((List.range (ins.ef 2 0)).map (ins.a.val + ·))) ∧ (s.isActive (sqDie a) = true) ∧ (ins.csen = false) ∧ (s.runSlip (sqDie a) (a % 8) = some x) ∧ (x.cq = none) :=
  ⟨(15 : Fin 16), (⟨false, 0, 28, 0, 0, 4, 0⟩ : Ins), ({ q := 7, pos := 3, gen := 5, tag := 9, prog := 11, args := [1, 2, 3] } : Slip), ((fun (a : Fin 16) (ins : Ins) (x : Slip) (s : State) => ((running (actv s (sqDie a)) a).setRun (sqDie a) (a % 8) (some x) : State)) (15 : Fin 16) (⟨false, 0, 28, 0, 0, 4, 0⟩ : Ins) ({ q := 7, pos := 3, gen := 5, tag := 9, prog := 11, args := [1, 2, 3] } : Slip) State.reset), by decide +kernel⟩
theorem wit_CatalogueInstructionsAndCarrels_5 : ∃ (n : Fin 2) (c : Fin 256) (w : Fin 8) (s : State), (s.isActive n = true) ∧ (s.flag (cd n) R.CARREL_STAT_BUSY = false) ∧ (s.flag (cd n) (R.CARREL_TAB_ADMITTED.at c) = false) ∧ ((∀ d : Fin 4, s.inService n (2 + d) = true)) ∧ (s.mirOn n = false) ∧ ((∀ d : Fin 4, s.kvResult d 2 c w (s.rd (cd n) (R.CARREL_ARG_BASE.at d)) (s.rd (cd n) (R.CARREL_ARG_COUNT.at d)) = 1)) :=
  ⟨(1 : Fin 2), (255 : Fin 256), (7 : Fin 8), ((fun (n : Fin 2) (c : Fin 256) (w : Fin 8) (s : State) => ((let u := (actv s n).wr (cd n) (R.CARREL_TAB_ADMITTED.at c) 0; let u := (u.wr (cd n) R.CARREL_STAT_BUSY 0).wr (cd n) R.MIRROR_STAT_VALID 0; (List.range 4).foldl (fun (u : State) d => (((u.wr (cd n) (diesFld (2 + d)) 2).clearRegs (sd d + 0x800) (sd d + 0xC00)).wr (wg d w) R.KV_POOL_COUNT 2047).wr (wg d w) R.KV_POOL_BASE 0 |>.wr (cd n) (R.CARREL_ARG_BASE.at d) (4 * d) |>.wr (cd n) (R.CARREL_ARG_COUNT.at d) (d + 1)) u) : State)) (1 : Fin 2) (255 : Fin 256) (7 : Fin 8) State.reset), by decide +kernel⟩
theorem wit_CatalogueInstructionsAndCarrels_6 : ∃ (n : Fin 2) (c : Fin 256) (s : State), (s.isActive n = true) ∧ (s.flag (cd n) R.CARREL_STAT_BUSY = false) ∧ (s.flag (cd n) (R.CARREL_TAB_ADMITTED.at c) = true) ∧ (s.mirOn n = false) :=
  ⟨(0 : Fin 2), (0 : Fin 256), ((fun (n : Fin 2) (c : Fin 256) (s : State) => ((let u := (actv s n).wr (cd n) (R.CARREL_TAB_ADMITTED.at c) 1; let u := (u.wr (cd n) R.CARREL_STAT_BUSY 0).wr (cd n) R.MIRROR_STAT_VALID 0; (List.range 4).foldl (fun (u : State) d => ((u.wr (cd n) (diesFld (2 + d)) 2).wr (sd d) (R.KV_TAB_VALID.at c) 1)) u) : State)) (0 : Fin 2) (0 : Fin 256) State.reset), by decide +kernel⟩
theorem wit_SecurityInstructions_1 : ∃ (a : Fin 16) (ins : Ins) (s : State), (ins.x = false) ∧ (csemOk a ins = true) ∧ (ins.c = 0) ∧ (ins.ef 22 0 = 0) ∧ (ins.b ≠ 0) ∧ (s.issues a ins [ins.a.val, ins.b.val]) :=
  ⟨(15 : Fin 16), (⟨false, 0, 3, 4, 0, 0, 0⟩ : Ins), ((fun (a : Fin 16) (ins : Ins) (s : State) => ((running s a).wr (cd (sqDie a)) R.TRNG_STAT_STATE (a.val % 4) : State)) (15 : Fin 16) (⟨false, 0, 3, 4, 0, 0, 0⟩ : Ins) State.reset), by decide +kernel⟩
theorem wit_SecurityInstructions_2 : ∃ (a : Fin 16) (ins : Ins) (s : State), (ins.x = false) ∧ (csemOk a ins = true) ∧ (ins.b < 16) ∧ (ins.c < 16) ∧ (ins.ef 17 0 = 0) ∧ (ins.a ≠ 0) ∧ (s.issues a ins [ins.a.val, 32 + ins.b.val, 32 + ins.c.val]) ∧ (s.isActive (sqDie a) = true) ∧ (s.slotFault (sqDie a) (ins.ef 22 18) 1 = none) ∧ ((s.sR a ins.a).toNat ≤ 65536 ∧ (s.sR a ins.a).toNat % 4 = 0) ∧ (secOk (sqDie a) (s.adR a ins.b).toNat (s.sR a ins.a).toNat (s.adR a ins.c).toNat ((s.sR a ins.a).toNat + 32) = true) ∧ ((s.adR a ins.b).toNat / 2 ^ 32 = 0 ∧ (s.adR a ins.b).toNat + (s.sR a ins.a).toNat ≤ 2 ^ 24) ∧ ((s.adR a ins.c).toNat / 2 ^ 32 = 0 ∧ (s.adR a ins.c).toNat + ((s.sR a ins.a).toNat + 32) ≤ 2 ^ 24) ∧ (s.comErr = []) :=
  ⟨(15 : Fin 16), (⟨false, 0, 3, 4, 5, BitVec.ofNat 37 (31 * 2 ^ 18), 0⟩ : Ins), ((fun (a : Fin 16) (ins : Ins) (s : State) => ((let n := sqDie a; let k := ins.ef 22 18; let u := actv s n; let u := (((u.wr (cd n) (R.SLOT_ATTR_VALID.at k) 1).wr (cd n) (R.SLOT_ATTR_KIND.at k) 0).wr (cd n) (R.SLOT_ATTR_USES.at k) 2).wr (cd n) (R.SLOT_ATTR_PURPOSE.at k) 2; let u := u.modCd n (fun x => { x with keys := Store.put [] x.keys k (List.replicate 32 7) }); let u := running u a; { ((u.sW a ins.a 40).adW a ins.b 4096).adW a ins.c 0x20000 with comErr := [] }) : State)) (15 : Fin 16) (⟨false, 0, 3, 4, 5, BitVec.ofNat 37 (31 * 2 ^ 18), 0⟩ : Ins) State.reset), by decide +kernel⟩
theorem wit_SecurityInstructions_3 : ∃ (pt : List Byte) (a : Fin 16) (ins : Ins) (s : State), (ins.x = false) ∧ (csemOk a ins = true) ∧ (ins.b < 16) ∧ (ins.c < 16) ∧ (ins.ef 17 0 = 0) ∧ (ins.a ≠ 0) ∧ (s.issues a ins [ins.a.val, 32 + ins.b.val, 32 + ins.c.val]) ∧ (s.isActive (sqDie a) = true) ∧ (s.slotFault (sqDie a) (ins.ef 22 18) 1 = none) ∧ ((s.sR a ins.a).toNat ≤ 65536) ∧ (secOk (sqDie a) (s.adR a ins.b).toNat ((s.sR a ins.a).toNat + 32) (s.adR a ins.c).toNat (s.sR a ins.a).toNat = true) ∧ ((s.adR a ins.b).toNat / 2 ^ 32 = 0 ∧ (s.adR a ins.b).toNat + ((s.sR a ins.a).toNat + 32) ≤ 2 ^ 24) ∧ ((s.adR a ins.c).toNat / 2 ^ 32 = 0 ∧ (s.adR a ins.c).toNat + (s.sR a ins.a).toNat ≤ 2 ^ 24) ∧ (s.comErr = []) ∧ ((s.ldn (comAddr (sqDie a) (s.adR a ins.b).toNat) 16).take 4 = [0, 0, 0, 0]) ∧ ((fromBytes ((s.ldn (comAddr (sqDie a) (s.adR a ins.b).toNat) 16).drop 12)) % 4 = 0 ∧ (fromBytes ((s.ldn (comAddr (sqDie a) (s.adR a ins.b).toNat) 16).drop 12)) ≤ (s.sR a ins.a).toNat) ∧ (unsealBlob (s.slotKey (sqDie a) (ins.ef 22 18)) (s.ldn (comAddr (sqDie a) (s.adR a ins.b).toNat) 16) (s.ldn (comAddr (sqDie a) ((s.adR a ins.b).toNat + 16)) ((fromBytes ((s.ldn (comAddr (sqDie a) (s.adR a ins.b).toNat) 16).drop 12)) + 16)) = some pt) ∧ (pt.length = (fromBytes ((s.ldn (comAddr (sqDie a) (s.adR a ins.b).toNat) 16).drop 12))) :=
  ⟨([] : List Byte), (0 : Fin 16), (⟨false, 0, 3, 4, 5, 0, 0⟩ : Ins), ((fun (pt : List Byte) (a : Fin 16) (ins : Ins) (s : State) => ((let u := (let n := sqDie a; let k := ins.ef 22 18; let u := actv s n; let u := (((u.wr (cd n) (R.SLOT_ATTR_VALID.at k) 1).wr (cd n) (R.SLOT_ATTR_KIND.at k) 0).wr (cd n) (R.SLOT_ATTR_USES.at k) 2).wr (cd n) (R.SLOT_ATTR_PURPOSE.at k) 2; let u := u.modCd n (fun x => { x with keys := Store.put [] x.keys k (List.replicate 32 7) }); let u := running u a; { ((u.sW a ins.a 0).adW a ins.b 4096).adW a ins.c 0x20000 with comErr := [] }); u.stn (comAddr (sqDie a) 4096) (blobOf (List.replicate 32 7) 9 [])) : State)) ([] : List Byte) (0 : Fin 16) (⟨false, 0, 3, 4, 5, 0, 0⟩ : Ins) State.reset), by decide +kernel⟩
theorem wit_SecurityInstructions_4 : ∃ (a : Fin 16) (ins : Ins) (s : State), (ins.x = false) ∧ (csemOk a ins = true) ∧ (ins.b < 16) ∧ (ins.ef 22 0 = 0) ∧ (ins.a ≠ 0) ∧ (s.issues a ins [ins.a.val, 32 + ins.b.val, ins.c.val]) ∧ (s.isActive (sqDie a) = true) ∧ ((s.adR a ins.b).toNat % 4 = 0) ∧ ((s.sR a ins.c).toNat ≤ 4096) ∧ ((s.adR a ins.b).toNat / 2 ^ 32 = 0 ∧ (s.adR a ins.b).toNat + (s.sR a ins.c).toNat ≤ 2 ^ 24) ∧ (s.comErr = []) ∧ (((s.recCheck (sqDie a) (s.ldn (comAddr (sqDie a) (s.adR a ins.b).toNat) (s.sR a ins.c).toNat)).1 = 0 → s.slotBusy (sqDie a) (s.recCheck (sqDie a) (s.ldn (comAddr (sqDie a) (s.adR a ins.b).toNat) (s.sR a ins.c).toNat)).2 = false)) :=
  ⟨(8 : Fin 16), (⟨false, 0, 3, 4, 5, 0, 0⟩ : Ins), ((fun (a : Fin 16) (ins : Ins) (s : State) => ({ (((running (actv s (sqDie a)) a).adW a ins.b 4096).sW a ins.c 320) with comErr := [] } : State)) (8 : Fin 16) (⟨false, 0, 3, 4, 5, 0, 0⟩ : Ins) State.reset), by decide +kernel⟩
theorem wit_ZeroisationAndLifeCycle_1 : ∃ (n : Fin 2) (k : Fin 32) (s : State), (s.pins.tamperN = false) ∧ (s.pins.vaon = true) :=
  ⟨(1 : Fin 2), (31 : Fin 32), ((fun (n : Fin 2) (k : Fin 32) (s : State) => ({ (s.wr (cd n) (R.SLOT_ATTR_VALID.at k) 1) with pins := { s.pins with tamperN := false, vaon := true } } : State)) (1 : Fin 2) (31 : Fin 32) State.reset), by decide +kernel⟩
theorem wit_ZeroisationAndLifeCycle_3 : ∃ (n : Fin 2) (k : Nat) (s : State), (s.flag (cd n) R.SEC_STAT_ZEROISING = true) ∧ ((∀ m : Fin 2, (s.cdx m).lcWait = [])) :=
  ⟨(1 : Fin 2), (5 : Nat), ((fun (n : Fin 2) (k : Nat) (s : State) => (((s.wr (cd n) R.SEC_STAT_ZEROISING 1).modCd 0 (fun x => { x with lcWait := [] })).modCd 1 (fun x => { x with lcWait := [], vault := [(5, { good := true, key := [1] })] }) : State)) (1 : Fin 2) (5 : Nat) State.reset), by decide +kernel⟩
theorem wit_ZeroisationAndLifeCycle_4 : ∃ (n : Fin 2) (target : Fin 8) (s : State), (s.isActive n = true) ∧ (s.flag (cd n) R.SEC_STAT_ZEROISING = false) ∧ (lcStep (s.rd (cd n) R.SEC_STAT_LC) target = true) ∧ (target ≠ 7) ∧ ((target = 2 → s.flag (cd n) R.SEC_STAT_PUBHASH_SET = true)) ∧ ((target ≠ 5 → s.rd (cd n) R.SEC_STAT_VGEN ≠ 32)) :=
  ⟨(1 : Fin 2), (3 : Fin 8), ((fun (n : Fin 2) (target : Fin 8) (s : State) => (((actv s n).wr (cd n) R.SEC_STAT_ZEROISING 0).wr (cd n) R.SEC_STAT_LC (target - 1) |>.wr (cd n) R.SEC_STAT_PUBHASH_SET 1 |>.wr (cd n) R.SEC_STAT_VGEN 3 : State)) (1 : Fin 2) (3 : Fin 8) State.reset), by decide +kernel⟩
theorem wit_ZeroisationAndLifeCycle_5 : ∃ (n : Fin 2) (k : Fin 12) (s : State), (s.isActive n = true) ∧ (s.flag (cd n) R.SEC_STAT_ZEROISING = false) ∧ (s.rd (cd n) R.SEC_STAT_LC = 1) ∧ (s.flag (cd n) R.SEC_STAT_PUBHASH_SET = false) :=
  ⟨(0 : Fin 2), (11 : Fin 12), ((fun (n : Fin 2) (k : Fin 12) (s : State) => (((actv s n).wr (cd n) R.SEC_STAT_ZEROISING 0).wr (cd n) R.SEC_STAT_LC 1 |>.wr (cd n) R.SEC_STAT_PUBHASH_SET 0 : State)) (0 : Fin 2) (11 : Fin 12) State.reset), by decide +kernel⟩
theorem wit_DebugMacAndTrng_1 : ∃ (n : Fin 2) (m : Fin 2) (s : State), (s.isActive n = true) ∧ (s.rd (cd n) R.DBG_CTRL_FAILS < 3) ∧ (s.slotOk n (s.rd (cd n) R.DBG_CTRL_SLOT) 3 = true) :=
  ⟨(1 : Fin 2), (0 : Fin 2), ((fun (n : Fin 2) (m : Fin 2) (s : State) => (((((((actv s n).wr (cd n) R.DBG_CTRL_SLOT 4).wr (cd n) (R.SLOT_ATTR_VALID.at 4) 1).wr (cd n) (R.SLOT_ATTR_KIND.at 4) 1).wr (cd n) R.DBG_CTRL_FAILS 1).wr (cd n) (R.SLOT_ATTR_PURPOSE.at 4) 8) : State)) (1 : Fin 2) (0 : Fin 2) State.reset), by decide +kernel⟩
theorem wit_DebugMacAndTrng_2 : ∃ (n : Fin 2) (s : State), (s.flag (cd n) R.MAC_CTRL_BUSY = false) ∧ (s.isActive n = true) ∧ (s.slotFault n (s.rd (cd n) R.MAC_CTRL_SLOT) 2 = none) ∧ (s.rd (cd n) R.MAC_LEN_LEN ≤ 65536) ∧ (s.rd (cd n) R.MAC_SRC_OFF + s.rd (cd n) R.MAC_LEN_LEN ≤ 2 ^ 24) :=
  ⟨(1 : Fin 2), ((fun (n : Fin 2) (s : State) => ((let u := ((actv s n).wr (cd n) R.MAC_CTRL_SLOT 4).wr (cd n) R.MAC_CTRL_BUSY 0; let u := ((u.wr (cd n) (R.SLOT_ATTR_VALID.at 4) 1).wr (cd n) (R.SLOT_ATTR_KIND.at 4) 1).wr (cd n) (R.SLOT_ATTR_PURPOSE.at 4) 4; (u.wr (cd n) R.MAC_LEN_LEN 100).wr (cd n) R.MAC_SRC_OFF 0xFFFF00) : State)) (1 : Fin 2) State.reset), by decide +kernel⟩
theorem wit_DebugMacAndTrng_3 : ∃ (n : Fin 2) (key : List Byte) (off len : Nat) (s : State), ((s.cdx n).mac = some (key, off, len)) ∧ (off + len ≤ 2 ^ 24) ∧ (s.comErr = []) :=
  ⟨(1 : Fin 2), ([1, 2, 3] : List Byte), (16777115 : Nat), (101 : Nat), ((fun (n : Fin 2) (key : List Byte) (off : Nat) (len : Nat) (s : State) => ({ s.modCd n (fun x => { x with mac := some (key, off, len) }) with comErr := [] } : State)) (1 : Fin 2) ([1, 2, 3] : List Byte) (16777115 : Nat) (101 : Nat) State.reset), by decide +kernel⟩
theorem wit_DebugMacAndTrng_4 : ∃ (n : Fin 2) (us : Fin 65536) (s : State), (s.rd (cd n) R.TRNG_STAT_STATE = 1) :=
  ⟨(1 : Fin 2), (65535 : Fin 65536), ((fun (n : Fin 2) (us : Fin 65536) (s : State) => (s.wr (cd n) R.TRNG_STAT_STATE 1 : State)) (1 : Fin 2) (65535 : Fin 65536) State.reset), by decide +kernel⟩
theorem wit_DebugMacAndTrng_5 : ∃ (n : Fin 2) (apt : Bool) (s : State), (s.rd (cd n) R.TRNG_STAT_STATE = 2) :=
  ⟨(0 : Fin 2), (true : Bool), ((fun (n : Fin 2) (apt : Bool) (s : State) => (s.wr (cd n) R.TRNG_STAT_STATE 2 : State)) (0 : Fin 2) (true : Bool) State.reset), by decide +kernel⟩
theorem wit_ListeningAndCapture_1 : ∃ (n : Fin 2) (x : AudioIn) (s : State), (s.pins.vaon = true) :=
  ⟨(1 : Fin 2), (⟨[], 1, 0, [], [], [], []⟩ : AudioIn), ((fun (n : Fin 2) (x : AudioIn) (s : State) => ((let u := (actv { s with pins := { s.pins with vaon := true, muteN := false, muted := false } } n); let u := u.wr (cd n) R.LS_STAT_MUTED (n.val * 0); u.modAud n (fun a => { a with settle := n.val })) : State)) (1 : Fin 2) (⟨[], 1, 0, [], [], [], []⟩ : AudioIn) State.reset), by decide +kernel⟩
theorem wit_ListeningAndCapture_2 : ∃ (n : Fin 2) (s : State), (s.lsStage n = 1) ∧ (s.rd (cd n) R.LS_TIME0_KW_HOLD ≤ 10 * (s.aud n).quiet) :=
  ⟨(1 : Fin 2), ((fun (n : Fin 2) (s : State) => ((s.wr (cd n) R.LS_STAT_STAGE 1).modAud n (fun a => { a with quiet := 100000 }) : State)) (1 : Fin 2) State.reset), by decide +kernel⟩
theorem wit_ListeningAndCapture_3 : ∃ (n : Fin 2) (history : List (List Nat)) (s : State), (s.stage0On n = true) ∧ (s.lsStage n < 2) :=
  ⟨(1 : Fin 2), ([] : List (List Nat)), ((fun (n : Fin 2) (history : List (List Nat)) (s : State) => ((let u := (actv { s with pins := { s.pins with vaon := true, muteN := false, muted := false } } n); ((((u.wr (cd n) R.PWR_STATE_CUR 3).wr (cd n) R.LS_CTRL_LISTEN_EN 1).wr (cd n) R.LS_STAT_MUTED 0).wr (cd n) R.LS_TIME1_PREROLL 2).wr (cd n) R.LS_STAT_STAGE n.val) : State)) (1 : Fin 2) ([] : List (List Nat)) State.reset), by decide +kernel⟩
theorem wit_ListeningAndCapture_4 : ∃ (n : Fin 2) (x : List Byte) (rest : List (List Byte)) (s : State), ((s.aud n).blocks = x :: rest) ∧ (s.flag (cd n) R.CAP_CTRL_EN = true) ∧ ((s.cdx n).mainUp = true) ∧ (sub32 (s.rd (cd n) R.CAP_PROD_IDX) (s.rd (cd n) R.CAP_CONS_IDX) < 2 ^ s.rd (cd n) R.CAP_CTRL_SIZE_LOG) :=
  ⟨(1 : Fin 2), (List.replicate 1024 7 : List Byte), ([[]] : List (List Byte)), ((fun (n : Fin 2) (x : List Byte) (rest : List (List Byte)) (s : State) => ((let u := (actv s n).modAud n (fun a => { a with blocks := x :: rest, drop := false }); let u := ((u.wr (cd n) R.CAP_CTRL_EN 1).wr (cd n) R.CAP_PROD_IDX 0xFFFFFFFF).wr (cd n) R.CAP_CONS_IDX 0xFFFFFFFE; { (u.wr (cd n) R.CAP_CTRL_SIZE_LOG 4).wr (cd n) R.CAP_BASE_OFF 16368 with comErr := [] }) : State)) (1 : Fin 2) (List.replicate 1024 7 : List Byte) ([[]] : List (List Byte)) State.reset), by decide +kernel⟩
theorem wit_ListeningAndCapture_6 : ∃ (n leaf : Fin 2) (first : Fin 1024) (count : Fin 2048) (s : State), (s.flag (cd n) R.POCKET_STAT_BUSY = false) ∧ (s.rd (cd n) R.POCKET_LD_SRC_OFF * 64 + 256 * count.val ≤ 2 ^ 24) ∧ (first.val + count.val ≤ 1024) ∧ (s.lsStage n ≠ 1) :=
  ⟨(1 : Fin 2), (1 : Fin 2), (1023 : Fin 1024), (1 : Fin 2048), ((fun (n : Fin 2) (leaf : Fin 2) (first : Fin 1024) (count : Fin 2048) (s : State) => (((s.wr (cd n) R.POCKET_STAT_BUSY 0).wr (cd n) R.POCKET_LD_SRC_OFF 0x3FFFC).wr (cd n) R.LS_STAT_STAGE 0 : State)) (1 : Fin 2) (1 : Fin 2) (1023 : Fin 1024) (1 : Fin 2048) State.reset), by decide +kernel⟩
theorem wit_ListeningAndCapture_7 : ∃ (n : Fin 2) (history : List (List Nat)) (src leaf first count : Nat) (s : State), ((s.aud n).load = some (src, leaf, first, count)) :=
  ⟨(1 : Fin 2), ([] : List (List Nat)), (0xFFFF00 : Nat), (1 : Nat), (1023 : Nat), (1 : Nat), ((fun (n : Fin 2) (history : List (List Nat)) (src : Nat) (leaf : Nat) (first : Nat) (count : Nat) (s : State) => ({ s.modAud n (fun a => { a with load := some (src, leaf, first, count) }) with comErr := [] } : State)) (1 : Fin 2) ([] : List (List Nat)) (0xFFFF00 : Nat) (1 : Nat) (1023 : Nat) (1 : Nat) State.reset), by decide +kernel⟩
theorem wit_ListeningAndCapture_9 : ∃ (n : Fin 2) (s : State), (s.pins.muted = false) ∧ (s.pins.vaon = true) :=
  ⟨(1 : Fin 2), ((fun (n : Fin 2) (s : State) => ({ s with pins := { s.pins with muted := false, vaon := true } } : State)) (1 : Fin 2) State.reset), by decide +kernel⟩
theorem wit_ListeningAndCapture_11 : ∃ (n : Fin 2) (s : State), (s.pins.muteN = false) ∧ (s.pins.muted = true) ∧ (s.pins.vaon = true) :=
  ⟨(1 : Fin 2), ((fun (n : Fin 2) (s : State) => ({ s with pins := { s.pins with muted := true, muteN := false, vaon := true } } : State)) (1 : Fin 2) State.reset), by decide +kernel⟩
theorem wit_ListeningAndCapture_14 : ∃ (n : Fin 2) (s : State), (s.flag (cd n) R.PB_CTRL_EN = true) ∧ (s.isActive n = true) ∧ ((s.cdx n).mainUp = true) :=
  ⟨(1 : Fin 2), ((fun (n : Fin 2) (s : State) => (((actv s n).wr (cd n) R.PB_CTRL_EN 1).wr (cd n) R.PB_PROD_IDX (n.val * 17) : State)) (1 : Fin 2) State.reset), by decide +kernel⟩
theorem wit_FailedPositionsAreReplaced_1 : ∃ (d : Fin 4) (w : Fin 8) (q f : Nat) (s : State), (s.canReload d w = true) ∧ (s.flag (wg d w) R.FOLIO_CTRL_AUTO_TAKEOVER = true) ∧ (s.posIn d w 1 = some q) ∧ ((s.suspects d w).find? (fun f => !((s.wingx (wix d w)).halted.any (fun h => h.1 == 1 && h.2.2 == f))) = some f) :=
  ⟨(3 : Fin 4), (7 : Fin 8), (14 : Nat), (13 : Nat), ((fun (d : Fin 4) (w : Fin 8) (q : Nat) (f : Nat) (s : State) => ((let u := ((s.wr (cd s.act) R.PWR_STATE_CUR 4).wr (wg d w) R.FOLIO_STAT_OP 0); let u := u.wr (wg d w) R.FOLIO_CTRL_AUTO_TAKEOVER 1; let u := (u.setPosState d w 14 1).setPosState d w (u.folioPos d w 13) 4; u.modWing (wix d w) (fun x => { x with halted := none })) : State)) (3 : Fin 4) (7 : Fin 8) (14 : Nat) (13 : Nat) State.reset), by decide +kernel⟩
theorem wit_FailedPositionsAreReplaced_2 : ∃ (d : Fin 4) (w : Fin 8) (hostErr : Bool) (s : State), (s.folioIdle d w = false) ∧ (s.rd (wg d w) R.FOLIO_STAT_PHASE = 1) ∧ ((bitOf (s.cdx s.act).wingFb (wix d w) = true ∨ hostErr = false)) ∧ (((if bitOf (s.cdx s.act).wingFb (wix d w) then s.flashImg (s.cdx s.act).fbCs else s.hostImg s.act (s.rd (cd s.act) R.WIMG_BASE_HI_ADDR * 2 ^ 32 + s.rd (cd s.act) R.WIMG_BASE_LO_ADDR * 64)) 0 260).isSome = true) ∧ (colDigest ((((if bitOf (s.cdx s.act).wingFb (wix d w) then s.flashImg (s.cdx s.act).fbCs else s.hostImg s.act (s.rd (cd s.act) R.WIMG_BASE_HI_ADDR * 2 ^ 32 + s.rd (cd s.act) R.WIMG_BASE_LO_ADDR * 64)) 0 260).getD []).take 256) = (Store.get ([], 0) (s.cdx s.act).img (b2n (bitOf (s.cdx s.act).wingFb (wix d w)))).1) ∧ (s.slotOk s.act (Store.get ([], 0) (s.cdx s.act).img (b2n (bitOf (s.cdx s.act).wingFb (wix d w)))).2 0 = true) ∧ (((if bitOf (s.cdx s.act).wingFb (wix d w) then s.flashImg (s.cdx s.act).fbCs else s.hostImg s.act (s.rd (cd s.act) R.WIMG_BASE_HI_ADDR * 2 ^ 32 + s.rd (cd s.act) R.WIMG_BASE_LO_ADDR * 64)) 260 (16 * fieldAt (((if bitOf (s.cdx s.act).wingFb (wix d w) then s.flashImg (s.cdx s.act).fbCs else s.hostImg s.act (s.rd (cd s.act) R.WIMG_BASE_HI_ADDR * 2 ^ 32 + s.rd (cd s.act) R.WIMG_BASE_LO_ADDR * 64)) 0 260).getD []) 256 4)).isSome = true) ∧ ((imgOpenAll (if bitOf (s.cdx s.act).wingFb (wix d w) then s.flashImg (s.cdx s.act).fbCs else s.hostImg s.act (s.rd (cd s.act) R.WIMG_BASE_HI_ADDR * 2 ^ 32 + s.rd (cd s.act) R.WIMG_BASE_LO_ADDR * 64)) (s.slotKey s.act (Store.get ([], 0) (s.cdx s.act).img (b2n (bitOf (s.cdx s.act).wingFb (wix d w)))).2) ((((if bitOf (s.cdx s.act).wingFb (wix d w) then s.flashImg (s.cdx s.act).fbCs else s.hostImg s.act (s.rd (cd s.act) R.WIMG_BASE_HI_ADDR * 2 ^ 32 + s.rd (cd s.act) R.WIMG_BASE_LO_ADDR * 64)) 0 260).getD []).take 256) (fieldAt (((if bitOf (s.cdx s.act).wingFb (wix d w) then s.flashImg (s.cdx s.act).fbCs else s.hostImg s.act (s.rd (cd s.act) R.WIMG_BASE_HI_ADDR * 2 ^ 32 + s.rd (cd s.act) R.WIMG_BASE_LO_ADDR * 64)) 0 260).getD []) 256 4) (needChunk (imgSecs (((if bitOf (s.cdx s.act).wingFb (wix d w) then s.flashImg (s.cdx s.act).fbCs else s.hostImg s.act (s.rd (cd s.act) R.WIMG_BASE_HI_ADDR * 2 ^ 32 + s.rd (cd s.act) R.WIMG_BASE_LO_ADDR * 64)) 260 (16 * fieldAt (((if bitOf (s.cdx s.act).wingFb (wix d w) then s.flashImg (s.cdx s.act).fbCs else s.hostImg s.act (s.rd (cd s.act) R.WIMG_BASE_HI_ADDR * 2 ^ 32 + s.rd (cd s.act) R.WIMG_BASE_LO_ADDR * 64)) 0 260).getD []) 256 4)).getD [])) (wix d w) (s.rd (wg d w) R.FOLIO_STAT_FOLIO)) (imgChunks ((((if bitOf (s.cdx s.act).wingFb (wix d w) then s.flashImg (s.cdx s.act).fbCs else s.hostImg s.act (s.rd (cd s.act) R.WIMG_BASE_HI_ADDR * 2 ^ 32 + s.rd (cd s.act) R.WIMG_BASE_LO_ADDR * 64)) 0 260).getD []).take 256) (fieldAt (((if bitOf (s.cdx s.act).wingFb (wix d w) then s.flashImg (s.cdx s.act).fbCs else s.hostImg s.act (s.rd (cd s.act) R.WIMG_BASE_HI_ADDR * 2 ^ 32 + s.rd (cd s.act) R.WIMG_BASE_LO_ADDR * 64)) 0 260).getD []) 256 4))).1 = 0) :=
  ⟨(3 : Fin 4), (7 : Fin 8), (false : Bool), ((fun (d : Fin 4) (w : Fin 8) (hostErr : Bool) (s : State) => ((let u := (s.flProgram 0 0x100000C [4, 0, 0, 0]).flProgram 0 0x1000100 [0, 0, 0, 0]; let u := actv u u.act; let u := ((u.wr (cd u.act) (R.SLOT_ATTR_VALID.at 3) 1).wr (cd u.act) (R.SLOT_ATTR_KIND.at 3) 1).wr (cd u.act) (R.SLOT_ATTR_PURPOSE.at 3) 1; let u := u.modCd u.act (fun x => { x with wingFb := 2 ^ 32 - 1, fbCs := 0, img := [(1, (List.replicate 48 255, 3))], keys := Store.put [] x.keys 3 (List.replicate 32 9) }); let s := u; (((s.wr (wg d w) R.FOLIO_STAT_OP 1).wr (wg d w) R.FOLIO_STAT_PHASE 1).wr (wg d w) R.FOLIO_STAT_TARGET 3).wr (wg d w) R.FOLIO_STAT_FOLIO 5) : State)) (3 : Fin 4) (7 : Fin 8) (false : Bool) State.reset), by decide +kernel⟩
theorem wit_FailedPositionsAreReplaced_3 : ∃ (d : Fin 4) (w : Fin 8) (upset : List (Nat × Nat)) (s : State), (s.folioIdle d w = false) ∧ (s.rd (wg d w) R.FOLIO_STAT_PHASE = 2) :=
  ⟨(2 : Fin 4), (1 : Fin 8), ([] : List (Nat × Nat)), ((fun (d : Fin 4) (w : Fin 8) (upset : List (Nat × Nat)) (s : State) => ((((s.wr (wg d w) R.FOLIO_STAT_OP 2).wr (wg d w) R.FOLIO_STAT_PHASE 2).wr (wg d w) R.FOLIO_STAT_TARGET 3).wr (wg d w) R.FOLIO_STAT_FOLIO 5 : State)) (2 : Fin 4) (1 : Fin 8) ([] : List (Nat × Nat)) State.reset), by decide +kernel⟩
theorem wit_FailedPositionsAreReplaced_4 : ∃ (d : Fin 4) (w : Fin 8) (s : State), (s.rd (wg d w) R.FOLIO_STAT_OP = 1 ∨ s.rd (wg d w) R.FOLIO_STAT_OP = 2) ∧ (s.rd (wg d w) R.FOLIO_STAT_PHASE = 3) ∧ (s.folioQuiet d w (s.rd (wg d w) R.FOLIO_STAT_FOLIO) = true) ∧ ((s.rd (wg d w) R.FOLIO_STAT_FOLIO) < 14) ∧ ((s.rd (wg d w) R.FOLIO_STAT_TARGET) < 15) :=
  ⟨(2 : Fin 4), (1 : Fin 8), ((fun (d : Fin 4) (w : Fin 8) (s : State) => ((((s.wr (wg d w) R.FOLIO_STAT_OP (1 + w.val % 2)).wr (wg d w) R.FOLIO_STAT_PHASE 3).wr (wg d w) R.FOLIO_STAT_TARGET 14).wr (wg d w) R.FOLIO_STAT_FOLIO 13 : State)) (2 : Fin 4) (1 : Fin 8) State.reset), by decide +kernel⟩
theorem wit_FailedPositionsAreReplaced_5 : ∃ (d : Fin 4) (w : Fin 8) (q : Nat) (s : State), (s.canReload d w = true) ∧ (s.flag (wg d w) R.FOLIO_CTRL_RETRY = false) ∧ (s.posIn d w 5 = some q) :=
  ⟨(0 : Fin 4), (5 : Fin 8), (14 : Nat), ((fun (d : Fin 4) (w : Fin 8) (q : Nat) (s : State) => ((((s.wr (cd s.act) R.PWR_STATE_CUR 4).wr (wg d w) R.FOLIO_STAT_OP 0)).setPosState d w 14 5 |>.wr (wg d w) R.FOLIO_CTRL_RETRY 0 : State)) (0 : Fin 4) (5 : Fin 8) (14 : Nat) State.reset), by decide +kernel⟩
theorem wit_FailedPositionsAreReplaced_6 : ∃ (d : Fin 4) (w : Fin 8) (op q f : Nat) (s : State), (s.canReload d w = true) ∧ ((s.wingx (wix d w)).halted = some (op, q, f)) ∧ (op = 1 ∨ op = 2) ∧ (q < 15) ∧ (f < 14) :=
  ⟨(0 : Fin 4), (5 : Fin 8), (2 : Nat), (14 : Nat), (13 : Nat), ((fun (d : Fin 4) (w : Fin 8) (op : Nat) (q : Nat) (f : Nat) (s : State) => ((((s.wr (cd s.act) R.PWR_STATE_CUR 4).wr (wg d w) R.FOLIO_STAT_OP 0)).modWing (wix d w) (fun x => { x with halted := some (op, q, f) }) : State)) (0 : Fin 4) (5 : Fin 8) (2 : Nat) (14 : Nat) (13 : Nat) State.reset), by decide +kernel⟩
theorem wit_FailedPositionsAreReplaced_7 : ∃ (d : Fin 4) (w : Fin 8) (s : State), (s.rd (wg d w) R.FOLIO_STAT_OP = 2) ∧ (s.rd (wg d w) R.FOLIO_STAT_PHASE = 4) ∧ (s.folioQuiet d w (s.rd (wg d w) R.FOLIO_STAT_FOLIO) = true) ∧ (s.rd (wg d w) R.SHADOW_CNT_COUNT = 1024) ∧ (s.posState d w (s.folioPos d w (s.rd (wg d w) R.FOLIO_STAT_FOLIO)) ≠ 4) ∧ ((s.rd (wg d w) R.FOLIO_STAT_FOLIO) < 14) :=
  ⟨(2 : Fin 4), (1 : Fin 8), ((fun (d : Fin 4) (w : Fin 8) (s : State) => ((let s := (((s.wr (wg d w) R.FOLIO_STAT_OP 2).wr (wg d w) R.FOLIO_STAT_PHASE 4).wr (wg d w) R.FOLIO_STAT_TARGET 14).wr (wg d w) R.FOLIO_STAT_FOLIO 5; s.wr (wg d w) R.SHADOW_CNT_COUNT 1024) : State)) (2 : Fin 4) (1 : Fin 8) State.reset), by decide +kernel⟩
theorem wit_FailedPositionsAreReplaced_8 : ∃ (d : Fin 4) (s : State), (s.rd (sd d) R.SCRUB_PERIOD_SECONDS ≠ 0) ∧ (s.rd (sd d) R.SCRUB_WHERE_POS < 15) ∧ (s.scrubs d (15 * s.rd (sd d) R.SCRUB_WHERE_WING + s.rd (sd d) R.SCRUB_WHERE_POS) = true) ∧ ((1024 * s.rd (sd d) R.SCRUB_WHERE_LEAF + s.rd (sd d) R.SCRUB_WHERE_ROW) < 8191) ∧ (s.rowFlips (rowKey d (s.rd (sd d) R.SCRUB_WHERE_WING) (s.rd (sd d) R.SCRUB_WHERE_POS * 8192 + (1024 * s.rd (sd d) R.SCRUB_WHERE_LEAF + s.rd (sd d) R.SCRUB_WHERE_ROW))) = []) :=
  ⟨(3 : Fin 4), ((fun (d : Fin 4) (s : State) => ((let u := (s.wr (sd d) R.SCRUB_PERIOD_SECONDS 5).wr (cd s.act) R.WING_LOADED_LOADED 0xFFFFFFFF; let u := ((u.wr (sd d) R.SCRUB_WHERE_WING 7).wr (sd d) R.SCRUB_WHERE_POS 13).setPosState d 7 13 0; (u.wr (sd d) R.SCRUB_WHERE_LEAF 6).wr (sd d) R.SCRUB_WHERE_ROW 1023) : State)) (3 : Fin 4) State.reset), by decide +kernel⟩
theorem wit_LinksTrainAndCarryPackets_1 : ∃ (l : Fin 13) (lane : Nat) (s : State), (s.linkUp l = true) ∧ (lane < 16) :=
  ⟨(12 : Fin 13), (15 : Nat), ((fun (l : Fin 13) (lane : Nat) (s : State) => (linksOn s : State)) (12 : Fin 13) (15 : Nat) State.reset), by decide +kernel⟩
theorem wit_LinksTrainAndCarryPackets_2 : ∃ (l : Fin 13) (ok : Bool) (s : State), (∃ k ∈ linkEnds l, s.rd (fTrain k).1 (fTrain k).2 = 2) :=
  ⟨(3 : Fin 13), (false : Bool), ((fun (l : Fin 13) (ok : Bool) (s : State) => ((linkEnds l).foldl (fun s k => s.wr (fTrain k).1 (fTrain k).2 2) (linksOn s) : State)) (3 : Fin 13) (false : Bool) State.reset), by decide +kernel⟩
theorem wit_LinksTrainAndCarryPackets_3 : ∃ (l : Fin 13) (ok : Bool) (s : State), (∃ k ∈ linkEnds l, s.rd (fTrain k).1 (fTrain k).2 = 1) :=
  ⟨(0 : Fin 13), (true : Bool), ((fun (l : Fin 13) (ok : Bool) (s : State) => ((linkEnds l).foldl (fun s k => s.wr (fTrain k).1 (fTrain k).2 1) (linksOn s) : State)) (0 : Fin 13) (true : Bool) State.reset), by decide +kernel⟩
theorem wit_LinksTrainAndCarryPackets_4 : ∃ (k : Fin 26) (h0 h1 h2 h3 : Nat) (payload : List Byte) (crc : Nat) (s : State), (s.portSends k = true) ∧ (crc32 (packetBytes [h0, h1, h2, h3] payload) = crc) ∧ (bits h1 31 20 = (s.port k).exp) ∧ (vcOf (bits h0 31 24) = some (bits h0 23 22)) ∧ (bits h1 15 12 = portNode k) ∧ (bits h0 31 24 ≠ 0x02 ∧ bits h0 31 24 ≠ 0x04 ∧ bits h0 31 24 ≠ 0x20) :=
  ⟨(4 : Fin 26), (0x03 * 2 ^ 24 : Nat), (5 * 2 ^ 12 : Nat), (1 : Nat), (2 : Nat), ([] : List Byte), (crc32 (packetBytes [0x03 * 2 ^ 24, 5 * 2 ^ 12, 1, 2] []) : Nat), ((fun (k : Fin 26) (h0 : Nat) (h1 : Nat) (h2 : Nat) (h3 : Nat) (payload : List Byte) (crc : Nat) (s : State) => ((linksOn s).modLink k (fun p => { p with exp := p.exp % 4096 }) : State)) (4 : Fin 26) (0x03 * 2 ^ 24 : Nat) (5 * 2 ^ 12 : Nat) (1 : Nat) (2 : Nat) ([] : List Byte) (crc32 (packetBytes [0x03 * 2 ^ 24, 5 * 2 ^ 12, 1, 2] []) : Nat) State.reset), by decide +kernel⟩
theorem wit_LinksTrainAndCarryPackets_5 : ∃ (k : Fin 26) (seq : Nat) (s : State), ((s.port k).unacked.any (fun x => x.1 == seq) = true) ∧ ((s.port k).q = []) :=
  ⟨(25 : Fin 26), (4095 : Nat), ((fun (k : Fin 26) (seq : Nat) (s : State) => (s.modLink k (fun p => { p with q := [], unacked := p.unacked ++ [(seq, ⟨3, 4, 0, 1, 0, 0, 0, [], 0⟩, 0), (seq + 1, ⟨3, 4, 0, 1, 0, 0, 0, [], 0⟩, 0)] }) : State)) (25 : Fin 26) (4095 : Nat) State.reset), by decide +kernel⟩
theorem wit_LinksTrainAndCarryPackets_6 : ∃ (k : Fin 26) (seq : Nat) (m : Msg) (c : Nat) (rest : List (Nat × Msg × Nat)) (s : State), ((s.port k).unacked = (seq, m, c) :: rest) ∧ (c < 8) ∧ (c ≠ 4 ∨ (s.port k).replayed = true) :=
  ⟨(25 : Fin 26), (4095 : Nat), (⟨0, 0, 0, 0, 0, 0, 0, [], 0⟩ : Msg), (7 : Nat), ([] : List (Nat × Msg × Nat)), ((fun (k : Fin 26) (seq : Nat) (m : Msg) (c : Nat) (rest : List (Nat × Msg × Nat)) (s : State) => (s.modLink k (fun p => { p with unacked := (seq, m, c) :: rest, replayed := true }) : State)) (25 : Fin 26) (4095 : Nat) (⟨0, 0, 0, 0, 0, 0, 0, [], 0⟩ : Msg) (7 : Nat) ([] : List (Nat × Msg × Nat)) State.reset), by decide +kernel⟩
theorem wit_LinksTrainAndCarryPackets_7 : ∃ (k : Fin 26) (seq : Nat) (m : Msg) (c : Nat) (rest : List (Nat × Msg × Nat)) (s : State), ((s.port k).unacked = (seq, m, c) :: rest) ∧ (s.portSends k = true) ∧ (c < 8) ∧ (c ≠ 4 ∨ (s.port k).replayed = true) :=
  ⟨(25 : Fin 26), (4095 : Nat), (⟨0, 0, 0, 0, 0, 0, 0, [], 0⟩ : Msg), (3 : Nat), ([] : List (Nat × Msg × Nat)), ((fun (k : Fin 26) (seq : Nat) (m : Msg) (c : Nat) (rest : List (Nat × Msg × Nat)) (s : State) => ((linksOn s).modLink k (fun p => { p with unacked := (seq, m, c) :: rest, replayed := false }) : State)) (25 : Fin 26) (4095 : Nat) (⟨0, 0, 0, 0, 0, 0, 0, [], 0⟩ : Msg) (3 : Nat) ([] : List (Nat × Msg × Nat)) State.reset), by decide +kernel⟩
theorem wit_LinksTrainAndCarryPackets_8 : ∃ (k : Fin 26) (vc : Fin 4) (count : Nat) (s : State), ((s.port k).q = []) :=
  ⟨(25 : Fin 26), (2 : Fin 4), (4 : Nat), ((fun (k : Fin 26) (vc : Fin 4) (count : Nat) (s : State) => (s.modLink k (fun p => { p with q := [], used := [(2, 9)] }) : State)) (25 : Fin 26) (2 : Fin 4) (4 : Nat) State.reset), by decide +kernel⟩
theorem wit_LinksTrainAndCarryPackets_9 : ∃ (k : Fin 26) (s : State), (s.portSends k = true) :=
  ⟨(25 : Fin 26), ((fun (k : Fin 26) (s : State) => (linksOn s : State)) (25 : Fin 26) State.reset), by decide +kernel⟩
theorem wit_LinksTrainAndCarryPackets_10 : ∃ (k : Fin 26) (s : State), ((s.port k).ackDue = true) :=
  ⟨(25 : Fin 26), ((fun (k : Fin 26) (s : State) => (s.modLink k (fun p => { p with ackDue := true }) : State)) (25 : Fin 26) State.reset), by decide +kernel⟩
theorem wit_LinksTrainAndCarryPackets_11 : ∃ (d : Fin 4) (m : Msg) (rest : List Msg) (s : State), (s.inbox = m :: rest) ∧ (m.ty = 0x21) ∧ (m.dn = sdNode d) :=
  ⟨(3 : Fin 4), (⟨0x21, 7, 8, 1, 0, 0xE4, 0, [], 0⟩ : Msg), ([] : List Msg), ((fun (d : Fin 4) (m : Msg) (rest : List Msg) (s : State) => ({ s with inbox := m :: rest } : State)) (3 : Fin 4) (⟨0x21, 7, 8, 1, 0, 0xE4, 0, [], 0⟩ : Msg) ([] : List Msg) State.reset), by decide +kernel⟩
theorem wit_LinksTrainAndCarryPackets_12 : ∃ (d : Fin 4) (temp droop : Nat) (s : State), ((s.sdx d).up = true) ∧ (temp < 65536) :=
  ⟨(3 : Fin 4), (700 : Nat), (70000 : Nat), ((fun (d : Fin 4) (temp : Nat) (droop : Nat) (s : State) => ((linksOn s).modSd d (fun x => { x with up := true }) : State)) (3 : Fin 4) (700 : Nat) (70000 : Nat) State.reset), by decide +kernel⟩
theorem wit_FlashAndImageLoads_1 : ∃ (n cs : Fin 2) (len : Fin 512) (s : State), (s.flag (cd n) R.FL_CMD_BUSY = false) ∧ (s.isActive n = true) ∧ (s.flashUp n cs = true) ∧ (len.val ≤ 256) :=
  ⟨(1 : Fin 2), (1 : Fin 2), (256 : Fin 512), ((fun (n : Fin 2) (cs : Fin 2) (len : Fin 512) (s : State) => ((actv (((s.wr (cd n) R.FL_CMD_BUSY 0).wr (cd n) R.BOOT_STAT_FLASH1_PRESENT 1).wr (cd n) R.FL_ADDR_ADDR 0x3123456) n).modCd n (fun x => { x with flash0 := true }) : State)) (1 : Fin 2) (1 : Fin 2) (256 : Fin 512) State.reset), by decide +kernel⟩
theorem wit_FlashAndImageLoads_2 : ∃ (n cs : Fin 2) (len : Fin 512) (s : State), (s.flag (cd n) R.FL_CMD_BUSY = false) ∧ (s.isActive n = true) ∧ (s.flashUp n cs = true) ∧ (len.val ≤ 256) ∧ (s.flProtected n cs (s.rd (cd n) R.FL_ADDR_ADDR) len = false) :=
  ⟨(1 : Fin 2), (1 : Fin 2), (256 : Fin 512), ((fun (n : Fin 2) (cs : Fin 2) (len : Fin 512) (s : State) => ((actv (((s.wr (cd n) R.FL_CMD_BUSY 0).wr (cd n) R.BOOT_STAT_FLASH1_PRESENT 1).wr (cd n) R.FL_ADDR_ADDR 0x3123456) n).modCd n (fun x => { x with flash0 := true }) : State)) (1 : Fin 2) (1 : Fin 2) (256 : Fin 512) State.reset), by decide +kernel⟩
theorem wit_FlashAndImageLoads_3 : ∃ (n cs : Fin 2) (len : Fin 512) (s : State), (s.flag (cd n) R.FL_CMD_BUSY = false) ∧ (s.isActive n = true) ∧ (s.flashUp n cs = true) ∧ (s.flProtected n cs ((s.rd (cd n) R.FL_ADDR_ADDR) - (s.rd (cd n) R.FL_ADDR_ADDR) % 0x1000) 0x1000 = false) :=
  ⟨(1 : Fin 2), (0 : Fin 2), (511 : Fin 512), ((fun (n : Fin 2) (cs : Fin 2) (len : Fin 512) (s : State) => ((actv (((s.wr (cd n) R.FL_CMD_BUSY 0).wr (cd n) R.BOOT_STAT_FLASH1_PRESENT 1).wr (cd n) R.FL_ADDR_ADDR 0x3123456) n).modCd n (fun x => { x with flash0 := true }) : State)) (1 : Fin 2) (0 : Fin 2) (511 : Fin 512) State.reset), by decide +kernel⟩
theorem wit_FlashAndImageLoads_4 : ∃ (n cs : Fin 2) (len : Fin 512) (s : State), (s.flag (cd n) R.FL_CMD_BUSY = false) ∧ (s.isActive n = true) ∧ (s.flashUp n cs = true) ∧ (s.flProtected n cs ((s.rd (cd n) R.FL_ADDR_ADDR) - (s.rd (cd n) R.FL_ADDR_ADDR) % 0x10000) 0x10000 = false) :=
  ⟨(1 : Fin 2), (0 : Fin 2), (511 : Fin 512), ((fun (n : Fin 2) (cs : Fin 2) (len : Fin 512) (s : State) => ((actv (((s.wr (cd n) R.FL_CMD_BUSY 0).wr (cd n) R.BOOT_STAT_FLASH1_PRESENT 1).wr (cd n) R.FL_ADDR_ADDR 0x3123456) n).modCd n (fun x => { x with flash0 := true }) : State)) (1 : Fin 2) (0 : Fin 2) (511 : Fin 512) State.reset), by decide +kernel⟩
theorem wit_FlashAndImageLoads_5 : ∃ (n : Fin 2) (op cs a len : Nat) (s : State), ((s.cdx n).flop = some (op, cs, a, len)) ∧ (len ≤ 256 ∨ 2 < op) ∧ (1 ≤ op) :=
  ⟨(1 : Fin 2), (4 : Nat), (1 : Nat), (0x10000 : Nat), (9 : Nat), ((fun (n : Fin 2) (op : Nat) (cs : Nat) (a : Nat) (len : Nat) (s : State) => (((List.range 64).foldl (fun (s : State) k => s.wr (cd n) (R.FL_BUF_DATA.at k) (k * 12345678 + 9)) (s.flProgram cs a [1, 2, 3, 4, 5])).modCd n (fun x => { x with flop := some (op, cs, a, len) }) : State)) (1 : Fin 2) (4 : Nat) (1 : Nat) (0x10000 : Nat) (9 : Nat) State.reset), by decide +kernel⟩
theorem wit_FlashAndImageLoads_6 : ∃ (n : Fin 2) (hostErr : Bool) (s : State), (s.isActive n = true) ∧ (s.rd (cd n) R.PWR_STATE_CUR ≠ 3) ∧ ((s.cdx n).hostUp = true ∨ s.rd (cd n) R.PWR_STATE_CUR = 4) ∧ ((s.cdx n).wload = none) ∧ ((s.cdx n).fb = false) ∧ (s.rd (cd n) R.WIMG_STAT_STATE ≠ 1) :=
  ⟨(1 : Fin 2), (false : Bool), ((fun (n : Fin 2) (hostErr : Bool) (s : State) => (((actv s n).wr (cd n) R.WIMG_STAT_STATE 3 |>.wr (cd n) R.PWR_STATE_CUR 0).modCd n (fun x => { x with wload := none, fb := false, locked := true, hostUp := true, hostWait := true }) : State)) (1 : Fin 2) (false : Bool) State.reset), by decide +kernel⟩
theorem wit_FlashAndImageLoads_7 : ∃ (n : Fin 2) (s : State), (s.rd (cd n) R.WIMG_STAT_STATE = 1) ∧ (s.stacksReady n = true) :=
  ⟨(0 : Fin 2), ((fun (n : Fin 2) (s : State) => ((s.wr (cd n) R.WIMG_STAT_STATE 1).modCd n (fun x => { x with stackOn := true }) : State)) (0 : Fin 2) State.reset), by decide +kernel⟩
theorem wit_FlashAndImageLoads_8 : ∃ (n : Fin 2) (l : WLoad) (hostErr : Bool) (s : State), ((s.cdx n).wload = some l) ∧ (l.chunk < imgChunks l.col l.secs.length) :=
  ⟨(1 : Fin 2), (⟨2 ^ 40, 3, (toBytes 4 0 ++ toBytes 8 0 ++ toBytes 4 21 ++ List.replicate 240 0), [], [], 0⟩ : WLoad), (false : Bool), ((fun (n : Fin 2) (l : WLoad) (hostErr : Bool) (s : State) => ((s.stn 0 (List.replicate 4 9)).modCd n (fun x => { x with wload := some l, hostUp := true, keys := Store.put [] x.keys 3 (List.replicate 32 9) }) : State)) (1 : Fin 2) (⟨2 ^ 40, 3, (toBytes 4 0 ++ toBytes 8 0 ++ toBytes 4 21 ++ List.replicate 240 0), [], [], 0⟩ : WLoad) (false : Bool) State.reset), by decide +kernel⟩
theorem wit_FlashAndImageLoads_9 : ∃ (n : Fin 2) (l : WLoad) (s : State), ((s.cdx n).wload = some l) ∧ (imgChunks l.col l.secs.length ≤ l.chunk) :=
  ⟨(1 : Fin 2), (⟨2 ^ 40, 3, (toBytes 4 0 ++ toBytes 8 0 ++ toBytes 4 21 ++ List.replicate 240 0), [], [], 1⟩ : WLoad), ((fun (n : Fin 2) (l : WLoad) (s : State) => (s.modCd n (fun x => { x with wload := some l }) : State)) (1 : Fin 2) (⟨2 ^ 40, 3, (toBytes 4 0 ++ toBytes 8 0 ++ toBytes 4 21 ++ List.replicate 240 0), [], [], 1⟩ : WLoad) State.reset), by decide +kernel⟩
theorem wit_FlashAndImageLoads_10 : ∃ (n : Fin 2) (d : Fin 4) (w : Fin 8) (s : State), (s.isActive n = true) :=
  ⟨(1 : Fin 2), (3 : Fin 4), (7 : Fin 8), ((fun (n : Fin 2) (d : Fin 4) (w : Fin 8) (s : State) => ((((actv s n).wr (wg d w) R.FOLIO_STAT_OP 1).wr (wg d w) R.FOLIO_STAT_PHASE 1).modCd n (fun x => { x with wload := some default }) : State)) (1 : Fin 2) (3 : Fin 4) (7 : Fin 8) State.reset), by decide +kernel⟩
theorem wit_FlashAndImageLoads_11 : ∃ (n : Fin 2) (s : State), (s.isActive n = true) ∧ ((s.cdx n).locked = true) ∧ (s.rd (cd n) R.PWR_STATE_CUR ≠ 3) ∧ ((s.cdx n).wload = none) ∧ ((s.cdx n).fb = false) ∧ (s.rd (cd n) R.WIMG_STAT_STATE ≠ 1) :=
  ⟨(1 : Fin 2), ((fun (n : Fin 2) (s : State) => (((actv s n).wr (cd n) R.WIMG_STAT_STATE 3 |>.wr (cd n) R.PWR_STATE_CUR 0).modCd n (fun x => { x with wload := none, fb := false, locked := true, hostUp := true, hostWait := true }) : State)) (1 : Fin 2) State.reset), by decide +kernel⟩
theorem wit_FlashAndImageLoads_12 : ∃ (n : Fin 2) (s : State), ((s.cdx n).hostWait = true) ∧ (s.isActive n = true) ∧ ((s.cdx n).locked = true) ∧ (s.rd (cd n) R.PWR_STATE_CUR ≠ 3) ∧ ((s.cdx n).wload = none) ∧ ((s.cdx n).fb = false) ∧ (s.rd (cd n) R.WIMG_STAT_STATE ≠ 1) :=
  ⟨(1 : Fin 2), ((fun (n : Fin 2) (s : State) => (((actv s n).wr (cd n) R.WIMG_STAT_STATE 3 |>.wr (cd n) R.PWR_STATE_CUR 0).modCd n (fun x => { x with wload := none, fb := false, locked := true, hostUp := true, hostWait := true }) : State)) (1 : Fin 2) State.reset), by decide +kernel⟩
theorem wit_FlashAndImageLoads_13 : ∃ (n : Fin 2) (s : State), ((s.cdx n).fb = true) ∧ (s.stacksReady n = true) :=
  ⟨(1 : Fin 2), ((fun (n : Fin 2) (s : State) => (s.modCd n (fun x => { x with fb := true, stackOn := true }) : State)) (1 : Fin 2) State.reset), by decide +kernel⟩
theorem wit_BootFromTheBattery_1 : ∃ (n : Fin 2) (testmode lpclk : Bool) (d : Fin 2) (s : State), (s.pins.vbat = false) ∧ (s.pins.tamperN = false) :=
  ⟨(1 : Fin 2), (false : Bool), (false : Bool), (0 : Fin 2), ((fun (n : Fin 2) (testmode : Bool) (lpclk : Bool) (d : Fin 2) (s : State) => ({ s with pins := { s.pins with vbat := false, tamperN := false } } : State)) (1 : Fin 2) (false : Bool) (false : Bool) (0 : Fin 2) State.reset), by decide +kernel⟩
theorem wit_BootFromTheBattery_3 : ∃ (n : Fin 2) (flash0 flash1 : Bool) (s : State), ((s.cdx n).bootUp = true) ∧ ((s.cdx n).bootClk = false) ∧ ((s.cdx n).factory = false) :=
  ⟨(1 : Fin 2), (false : Bool), (false : Bool), ((fun (n : Fin 2) (flash0 : Bool) (flash1 : Bool) (s : State) => (s.modCd n (fun x => { x with bootUp := true, bootClk := false, factory := false }) : State)) (1 : Fin 2) (false : Bool) (false : Bool) State.reset), by decide +kernel⟩
theorem wit_BootFromTheBattery_4 : ∃ (n : Fin 2) (s : State), ((s.cdx n).bootClk = true) ∧ (s.phase n = 1) ∧ (s.claimed = false) :=
  ⟨(1 : Fin 2), ((fun (n : Fin 2) (s : State) => (((s.wr (cd n) R.BOOT_STAT_PHASE 1).wr (cd (1 - n)) R.BOOT_STAT_PHASE 1).modCd n (fun x => { x with bootClk := true }) : State)) (1 : Fin 2) State.reset), by decide +kernel⟩
theorem wit_BootFromTheBattery_5 : ∃ (n : Fin 2) (s : State), (s.mayClaim n = true) ∧ (n = 0 ∨ bitOf (s.cdx 1).shelf.retire 0 = true ∨ (s.cdx 0).sleepSeized = true) :=
  ⟨(1 : Fin 2), ((fun (n : Fin 2) (s : State) => ((let u := (s.wr (cd n) R.BOOT_STAT_PHASE 2).wr (cd (1 - n.val)) R.BOOT_STAT_PHASE 2; u.modCd n (fun x => { x with bootClk := true, sleepSeized := false, shelf := { x.shelf with retire := 0 } }) |>.modCd 0 (fun x => if n.val = 1 then { x with sleepSeized := true } else x)) : State)) (1 : Fin 2) State.reset), by decide +kernel⟩
theorem wit_BootFromTheBattery_6 : ∃ (s : State), (s.mayClaim 1 = true) :=
  ⟨((fun  (s : State) => (((s.wr (cd 0) R.BOOT_STAT_PHASE 2).wr (cd 1) R.BOOT_STAT_PHASE 2).modCd 1 (fun x => { x with bootClk := true, sleepSeized := false, shelf := { x.shelf with retire := 0 } }) : State))  State.reset), by decide +kernel⟩
theorem wit_BootFromTheBattery_9 : ∃ (n : Fin 2) (s : State), ((s.cdx n).hostTrain = true) ∧ ((s.cdx n).hostUp = false) ∧ (s.pins.perstN = false) :=
  ⟨(1 : Fin 2), ((fun (n : Fin 2) (s : State) => ({ ((actv s n).wr (cd n) R.BOOT_STAT_PHASE 4 |>.wr (cd n) R.PWR_STATE_CUR 0).modCd n (fun x => { x with hostTrain := true, hostUp := false, locked := true }) with pins := { s.pins with perstN := false } } : State)) (1 : Fin 2) State.reset), by decide +kernel⟩
theorem wit_BootFromTheBattery_10 : ∃ (n : Fin 2) (modes : List (Option Nat)) (s : State), (s.isActive n = true) ∧ ((s.cdx n).locked = true) ∧ ((s.cdx n).stackOn = false) ∧ ((s.cdx n).mainUp = true) ∧ (s.rd (cd n) R.PWR_STATE_CUR < 3) :=
  ⟨(0 : Fin 2), ([] : List (Option Nat)), ((fun (n : Fin 2) (modes : List (Option Nat)) (s : State) => (((actv s n).wr (cd n) R.PWR_STATE_CUR 0).modCd n (fun x => { x with locked := true, stackOn := false, shelf := { x.shelf with target := if n.val = 0 then 4 else 2 } }) : State)) (0 : Fin 2) ([] : List (Option Nat)) State.reset), by decide +kernel⟩
theorem wit_BootFromTheBattery_11 : ∃ (n : Fin 2) (k : Fin 16) (d w : Nat) (words : List (Option Nat)) (s : State), (s.isActive n = true) ∧ (s.railState n k = 2) ∧ (s.railDie n k = some d) ∧ (words.getD k none = some w) ∧ ((∀ j : Fin 16, (words.getD j none).isSome = true)) ∧ (w < 65536) ∧ (bitOf w 11 = false ∧ bitOf w 6 = false) :=
  ⟨(1 : Fin 2), (15 : Fin 16), (3 : Nat), (1 : Nat), (List.replicate 16 (some 1) : List (Option Nat)), ((fun (n : Fin 2) (k : Fin 16) (d : Nat) (w : Nat) (words : List (Option Nat)) (s : State) => (((actv s n).wr (cd n) (R.PMB_STAT_STATE.at k) 2).modCd n (fun x => { x with shelf := { x.shelf with rails := List.replicate 16 ⟨d, 5, 6, 7⟩ } }) : State)) (1 : Fin 2) (15 : Fin 16) (3 : Nat) (1 : Nat) (List.replicate 16 (some 1) : List (Option Nat)) State.reset), by decide +kernel⟩
theorem wit_BootFromTheBattery_12 : ∃ (n : Fin 2) (k : Fin 16) (d : Fin 4) (s : State), (s.isActive n = true) ∧ (s.railState n k = 2) ∧ (s.railDie n k = some d.val) :=
  ⟨(1 : Fin 2), (15 : Fin 16), (3 : Fin 4), ((fun (n : Fin 2) (k : Fin 16) (d : Fin 4) (s : State) => (((actv s n).wr (cd n) (R.PMB_STAT_STATE.at k) 2).modCd n (fun x => { x with shelf := { x.shelf with rails := List.replicate 16 ⟨d, 5, 6, 7⟩ } }) : State)) (1 : Fin 2) (15 : Fin 16) (3 : Fin 4) State.reset), by decide +kernel⟩
theorem wit_BootFromTheBattery_13 : ∃ (d : Fin 4) (n : Fin 2) (s : State), ((s.sdx d).up = true) ∧ (bitOf (s.rd (cd s.act) R.CLEAR_STAT_RROOM) d = false) :=
  ⟨(3 : Fin 4), (1 : Fin 2), ((fun (d : Fin 4) (n : Fin 2) (s : State) => ((s.modSd d (fun x => { x with up := true })).wr (cd s.act) R.CLEAR_STAT_RROOM 0 : State)) (3 : Fin 4) (1 : Fin 2) State.reset), by decide +kernel⟩
theorem wit_PowerStatesAndWakes_1 : ∃ (n m : Fin 2) (s : State), ((s.cdx n).mainUp = true) ∧ (s.isActive n = true) ∧ (s.flag (cd n) R.PWR_STATE_IN_TRANS = false) ∧ (s.busy n = false) ∧ (s.rd (cd n) R.PWR_STATE_CUR ≠ 3) :=
  ⟨(1 : Fin 2), (0 : Fin 2), ((fun (n : Fin 2) (m : Fin 2) (s : State) => ((actv s n).wr (cd n) R.PWR_STATE_IN_TRANS 0 |>.wr (cd n) R.PWR_STATE_CUR 4 : State)) (1 : Fin 2) (0 : Fin 2) State.reset), by decide +kernel⟩
theorem wit_PowerStatesAndWakes_2 : ∃ (n m : Fin 2) (s : State), ((s.cdx n).mainUp = true) ∧ (s.isActive n = true) ∧ (s.flag (cd n) R.PWR_STATE_IN_TRANS = false) ∧ (s.busy n = false) ∧ (s.rd (cd n) R.PWR_STATE_CUR ≠ 1) :=
  ⟨(1 : Fin 2), (0 : Fin 2), ((fun (n : Fin 2) (m : Fin 2) (s : State) => ((actv s n).wr (cd n) R.PWR_STATE_IN_TRANS 0 |>.wr (cd n) R.PWR_STATE_CUR 4 : State)) (1 : Fin 2) (0 : Fin 2) State.reset), by decide +kernel⟩
theorem wit_PowerStatesAndWakes_3 : ∃ (n m : Fin 2) (s : State), ((s.cdx n).mainUp = true) ∧ (s.isActive n = true) ∧ (s.flag (cd n) R.PWR_STATE_IN_TRANS = false) ∧ (s.busy n = false) ∧ (s.rd (cd n) R.PWR_STATE_CUR ≠ 2) :=
  ⟨(1 : Fin 2), (0 : Fin 2), ((fun (n : Fin 2) (m : Fin 2) (s : State) => ((actv s n).wr (cd n) R.PWR_STATE_IN_TRANS 0 |>.wr (cd n) R.PWR_STATE_CUR 4 : State)) (1 : Fin 2) (0 : Fin 2) State.reset), by decide +kernel⟩
theorem wit_PowerStatesAndWakes_4 : ∃ (n m : Fin 2) (s : State), ((s.cdx n).mainUp = true) ∧ (s.isActive n = true) ∧ (s.flag (cd n) R.PWR_STATE_IN_TRANS = false) ∧ (s.rd (cd n) R.PWR_STATE_CUR = 3) :=
  ⟨(1 : Fin 2), (0 : Fin 2), ((fun (n : Fin 2) (m : Fin 2) (s : State) => ((actv s n).wr (cd n) R.PWR_STATE_IN_TRANS 0 |>.wr (cd n) R.PWR_STATE_CUR 3 : State)) (1 : Fin 2) (0 : Fin 2) State.reset), by decide +kernel⟩
theorem wit_PowerStatesAndWakes_5 : ∃ (n : Fin 2) (s : State), (s.pins.vaon = true) ∧ (s.flag (cd s.act) R.PWR_STATE_IN_TRANS = false) ∧ (s.rd (cd s.act) R.PWR_STATE_CUR = 1 ∨ s.rd (cd s.act) R.PWR_STATE_CUR = 2 ∨ s.rd (cd s.act) R.PWR_STATE_CUR = 3) ∧ ((if s.rd (cd s.act) R.PWR_STATE_CUR = 3 then bitOf (s.wakeBits s.act) 0 = true else bitOf (s.cdx s.act).wakeEn 0 = true)) :=
  ⟨(1 : Fin 2), ((fun (n : Fin 2) (s : State) => ((let u := { s with pins := { s.pins with vaon := true } }; let a := u.act; let u := (((u.wr (cd a) R.PWR_STATE_IN_TRANS 0).wr (cd a) R.PWR_STATE_CUR (1 + 2 * n.val)).modCd a (fun x => { x with wakeEn := 15, alarm := 5 })).wr (cd a) R.ALARM_TICKS 7; (((u.wr (cd a) R.WAKE_EN_WAKEPIN 1).wr (cd a) R.WAKE_EN_ALARM 1).wr (cd a) R.WAKE_EN_LDEV 1).wr (cd a) R.WAKE_EN_KEYWORD 1) : State)) (1 : Fin 2) State.reset), by decide +kernel⟩
theorem wit_PowerStatesAndWakes_6 : ∃ (n : Fin 2) (s : State), (s.pins.vaon = true) ∧ (s.flag (cd s.act) R.PWR_STATE_IN_TRANS = false) ∧ (s.rd (cd s.act) R.PWR_STATE_CUR = 1 ∨ s.rd (cd s.act) R.PWR_STATE_CUR = 2 ∨ s.rd (cd s.act) R.PWR_STATE_CUR = 3) ∧ ((if s.rd (cd s.act) R.PWR_STATE_CUR = 3 then s.rd (cd s.act) R.ALARM_TICKS ≠ 0 else (s.cdx s.act).alarm ≠ 0)) :=
  ⟨(1 : Fin 2), ((fun (n : Fin 2) (s : State) => ((let u := { s with pins := { s.pins with vaon := true } }; let a := u.act; let u := (((u.wr (cd a) R.PWR_STATE_IN_TRANS 0).wr (cd a) R.PWR_STATE_CUR (1 + 2 * n.val)).modCd a (fun x => { x with wakeEn := 15, alarm := 5 })).wr (cd a) R.ALARM_TICKS 7; (((u.wr (cd a) R.WAKE_EN_WAKEPIN 1).wr (cd a) R.WAKE_EN_ALARM 1).wr (cd a) R.WAKE_EN_LDEV 1).wr (cd a) R.WAKE_EN_KEYWORD 1) : State)) (1 : Fin 2) State.reset), by decide +kernel⟩
theorem wit_PowerStatesAndWakes_7 : ∃ (d : Fin 2) (n : Fin 2) (s : State), ((s.ldx d).inReset = false) ∧ (s.pins.vaon = true) ∧ (s.flag (cd s.act) R.PWR_STATE_IN_TRANS = false) ∧ (s.rd (cd s.act) R.PWR_STATE_CUR = 1 ∨ s.rd (cd s.act) R.PWR_STATE_CUR = 2 ∨ s.rd (cd s.act) R.PWR_STATE_CUR = 3) ∧ ((if s.rd (cd s.act) R.PWR_STATE_CUR = 3 then bitOf (s.wakeBits s.act) 3 = true else bitOf (s.cdx s.act).wakeEn 3 = true)) :=
  ⟨(1 : Fin 2), (1 : Fin 2), ((fun (d : Fin 2) (n : Fin 2) (s : State) => ((let s := s.modLd d (fun x => { x with inReset := false }); (let u := { s with pins := { s.pins with vaon := true } }; let a := u.act; let u := (((u.wr (cd a) R.PWR_STATE_IN_TRANS 0).wr (cd a) R.PWR_STATE_CUR (1 + 2 * n.val)).modCd a (fun x => { x with wakeEn := 15, alarm := 5 })).wr (cd a) R.ALARM_TICKS 7; (((u.wr (cd a) R.WAKE_EN_WAKEPIN 1).wr (cd a) R.WAKE_EN_ALARM 1).wr (cd a) R.WAKE_EN_LDEV 1).wr (cd a) R.WAKE_EN_KEYWORD 1)) : State)) (1 : Fin 2) (1 : Fin 2) State.reset), by decide +kernel⟩
theorem wit_PowerStatesAndWakes_8 : ∃ (n : Fin 2) (words : List (Option Nat)) (k : Fin 16) (d : Fin 4) (w : Nat) (s : State), (s.isActive n = true) ∧ (s.act = n.val) ∧ ((s.cdx n).mainUp = true) ∧ (3 ≤ s.rd (cd n) R.PWR_STATE_CUR) ∧ (s.flag (cd n) R.PWR_STATE_IN_TRANS = false) ∧ ((∀ j : Fin 16, s.railState n j ≠ 2)) ∧ (s.railState n k = 3) ∧ (s.railDie n k = some d.val) ∧ (words.getD k none = some w) ∧ (bitOf w 11 = true ∨ bitOf w 6 = true) :=
  ⟨(1 : Fin 2), (List.replicate 16 (some 64) : List (Option Nat)), (15 : Fin 16), (3 : Fin 4), (64 : Nat), ((fun (n : Fin 2) (words : List (Option Nat)) (k : Fin 16) (d : Fin 4) (w : Nat) (s : State) => (((List.range 16).foldl (fun (s : State) j => s.wr (cd n) (R.PMB_STAT_STATE.at j) 3) ((actv s n).wr (cd (1 - n)) R.PAIR_STAT_ROLE 0) |>.wr (cd n) R.PWR_STATE_CUR 4 |>.wr (cd n) R.PWR_STATE_IN_TRANS 0).modCd n (fun x => { x with shelf := { x.shelf with rails := (List.range 16).map (fun i => ⟨i % 4, 5, 6, 7⟩) } }) : State)) (1 : Fin 2) (List.replicate 16 (some 64) : List (Option Nat)) (15 : Fin 16) (3 : Fin 4) (64 : Nat) State.reset), by decide +kernel⟩
theorem wit_PowerStatesAndWakes_9 : ∃ (k : Fin 6) (s : State), ((if k.val < 2 then (s.cdx k).mainUp = true else (s.sdx (k.val - 2)).up = true)) :=
  ⟨(5 : Fin 6), ((fun (k : Fin 6) (s : State) => ((if k.val < 2 then s.modCd k (fun x => { x with mainUp := true }) else s.modSd (k.val - 2) (fun x => { x with up := true })) : State)) (5 : Fin 6) State.reset), by decide +kernel⟩
theorem wit_PowerStatesAndWakes_10 : ∃ (n : Fin 2) (s : State), ((s.cdx n).hot = true) :=
  ⟨(1 : Fin 2), ((fun (n : Fin 2) (s : State) => (s.modCd n (fun x => { x with hot := true }) : State)) (1 : Fin 2) State.reset), by decide +kernel⟩
theorem wit_PowerStatesAndWakes_11 : ∃ (n : Fin 2) (s : State), (s.pins.vaon = true) :=
  ⟨(1 : Fin 2), ((fun (n : Fin 2) (s : State) => ({ s with pins := { s.pins with vaon := true } } : State)) (1 : Fin 2) State.reset), by decide +kernel⟩
theorem wit_PowerStatesAndWakes_12 : ∃ (n : Fin 2) (s : State), (s.pins.vaon = true) :=
  ⟨(1 : Fin 2), ((fun (n : Fin 2) (s : State) => ({ s with pins := { s.pins with vaon := true } } : State)) (1 : Fin 2) State.reset), by decide +kernel⟩
theorem wit_PairHeartbeatsAndSeizure_1 : ∃ (n : Fin 2) (line cross : Bool) (s : State), (s.pins.vaon = true) ∧ ((s.cdx n).mainUp = true) ∧ ((s.cdx (1 - n.val)).bootUp = true) :=
  ⟨(1 : Fin 2), (true : Bool), (false : Bool), ((fun (n : Fin 2) (line : Bool) (cross : Bool) (s : State) => (({ s with pins := { s.pins with vaon := true } }.modCd n (fun x => { x with mainUp := true })).modCd (1 - n) (fun x => { x with bootUp := true }) : State)) (1 : Fin 2) (true : Bool) (false : Bool) State.reset), by decide +kernel⟩
theorem wit_PairHeartbeatsAndSeizure_2 : ∃ (n : Fin 2) (s : State), (s.pins.vaon = true) ∧ ((s.cdx n).mainUp = true) ∧ (2 ≤ s.partner n) :=
  ⟨(1 : Fin 2), ((fun (n : Fin 2) (s : State) => ((let u := if n.val = 0 then actv s n else (((s.wr (cd n) R.PAIR_STAT_PARTNER 3).wr (cd (1 - n)) R.PAIR_STAT_PARTNER 2).wr (cd n) R.PAIR_STAT_ROLE 0); let u := if n.val = 0 then (u.wr (cd n) R.PAIR_STAT_PARTNER 2).wr (cd (1 - n)) R.PAIR_STAT_PARTNER 3 else u; ({ u with pins := { u.pins with vaon := true } }.modCd n (fun x => { x with mainUp := true, bootUp := true, bootClk := true, locked := true, seizing := false, tko := false, held := false, hot := false, sleepSeized := false })).modCd (1 - n) (fun x => { x with wdtOut := true, bootUp := true, held := false, mainUp := n.val = 3 })) : State)) (1 : Fin 2) State.reset), by decide +kernel⟩
theorem wit_PairHeartbeatsAndSeizure_3 : ∃ (n : Fin 2) (cross : Bool) (s : State), (s.pins.vaon = true) ∧ ((s.cdx n).mainUp = true) ∧ (s.flag (cd n) R.PAIR_STAT_XLINK = true) ∧ (s.flag (cd n) R.PAIR_STAT_PAIRLINE = true) :=
  ⟨(1 : Fin 2), (false : Bool), ((fun (n : Fin 2) (cross : Bool) (s : State) => ((let s := ({ s with pins := { s.pins with vaon := true } }.modCd n (fun x => { x with mainUp := true })).modCd (1 - n) (fun x => x); (s.wr (cd n) R.PAIR_STAT_XLINK 1).wr (cd n) R.PAIR_STAT_PAIRLINE 1) : State)) (1 : Fin 2) (false : Bool) State.reset), by decide +kernel⟩
theorem wit_PairHeartbeatsAndSeizure_4 : ∃ (n : Fin 2) (s : State), ((s.cdx (1 - n.val)).wdtOut = true) ∧ ((s.cdx n).mainUp = true) ∧ ((s.cdx n).locked = true) ∧ ((s.cdx n).seizing = false) ∧ ((s.cdx n).tko = false) ∧ (s.isStandby n = true ∧ s.epoch n ≠ 65535 ∨ s.isStandby n = false ∧ s.isActive n = true ∧ s.partner n = 2) :=
  ⟨(0 : Fin 2), ((fun (n : Fin 2) (s : State) => ((let u := if n.val = 0 then actv s n else (((s.wr (cd n) R.PAIR_STAT_PARTNER 3).wr (cd (1 - n)) R.PAIR_STAT_PARTNER 2).wr (cd n) R.PAIR_STAT_ROLE 0); let u := if n.val = 0 then (u.wr (cd n) R.PAIR_STAT_PARTNER 2).wr (cd (1 - n)) R.PAIR_STAT_PARTNER 3 else u; ({ u with pins := { u.pins with vaon := true } }.modCd n (fun x => { x with mainUp := true, bootUp := true, bootClk := true, locked := true, seizing := false, tko := false, held := false, hot := false, sleepSeized := false })).modCd (1 - n) (fun x => { x with wdtOut := true, bootUp := true, held := false, mainUp := n.val = 3 })) : State)) (0 : Fin 2) State.reset), by decide +kernel⟩
theorem wit_PairHeartbeatsAndSeizure_5 : ∃ (n : Fin 2) (s : State), ((s.cdx (1 - n.val)).bootUp = true) ∧ ((s.cdx (1 - n.val)).mainUp = false) ∧ ((s.cdx (1 - n.val)).held = false) ∧ ((s.cdx n).mainUp = true) ∧ ((s.cdx n).locked = true) ∧ ((s.cdx n).seizing = false) ∧ ((s.cdx n).tko = false) ∧ (s.isStandby n = true ∧ s.epoch n ≠ 65535 ∨ s.isStandby n = false ∧ s.isActive n = true ∧ s.partner n = 2) :=
  ⟨(1 : Fin 2), ((fun (n : Fin 2) (s : State) => ((let u := if n.val = 0 then actv s n else (((s.wr (cd n) R.PAIR_STAT_PARTNER 3).wr (cd (1 - n)) R.PAIR_STAT_PARTNER 2).wr (cd n) R.PAIR_STAT_ROLE 0); let u := if n.val = 0 then (u.wr (cd n) R.PAIR_STAT_PARTNER 2).wr (cd (1 - n)) R.PAIR_STAT_PARTNER 3 else u; ({ u with pins := { u.pins with vaon := true } }.modCd n (fun x => { x with mainUp := true, bootUp := true, bootClk := true, locked := true, seizing := false, tko := false, held := false, hot := false, sleepSeized := false })).modCd (1 - n) (fun x => { x with wdtOut := true, bootUp := true, held := false, mainUp := n.val = 3 })) : State)) (1 : Fin 2) State.reset), by decide +kernel⟩
theorem wit_PairHeartbeatsAndSeizure_6 : ∃ (n : Fin 2) (s : State), ((s.cdx (1 - n.val)).seizing = true) ∧ (s.asleep n = false) ∧ (s.isActive n = false ∨ (s.cdx n).seizing = false) :=
  ⟨(1 : Fin 2), ((fun (n : Fin 2) (s : State) => (({ s with pins := { s.pins with vaon := true } }.modCd n (fun x => { x with mainUp := true, seizing := false })).modCd (1 - n) (fun x => { x with seizing := true })|>.wr (cd n) R.PWR_STATE_CUR 4 : State)) (1 : Fin 2) State.reset), by decide +kernel⟩
theorem wit_PairHeartbeatsAndSeizure_7 : ∃ (n : Fin 2) (s : State), ((s.cdx n).seizing = true) ∧ ((if s.asleep n then (s.cdx (1 - n.val)).sleepSeized = true else (s.cdx (1 - n.val)).held = true)) :=
  ⟨(1 : Fin 2), ((fun (n : Fin 2) (s : State) => (({ s with pins := { s.pins with vaon := true } }.modCd n (fun x => { x with seizing := true, mainUp := true })).modCd (1 - n) (fun x => { x with held := true, sleepSeized := true }) : State)) (1 : Fin 2) State.reset), by decide +kernel⟩
theorem wit_PairHeartbeatsAndSeizure_8 : ∃ (n : Fin 2) (s : State), ((s.cdx n).seizing = true) :=
  ⟨(1 : Fin 2), ((fun (n : Fin 2) (s : State) => (({ s with pins := { s.pins with vaon := true } }.modCd n (fun x => { x with seizing := true, mainUp := true })).modCd (1 - n) (fun x => x) : State)) (1 : Fin 2) State.reset), by decide +kernel⟩
theorem wit_PairHeartbeatsAndSeizure_9 : ∃ (n : Fin 2) (s : State), ((s.cdx n).tko = true) :=
  ⟨(1 : Fin 2), ((fun (n : Fin 2) (s : State) => (({ s with pins := { s.pins with vaon := true } }.modCd n (fun x => { x with tko := true })).modCd (1 - n) (fun x => x) : State)) (1 : Fin 2) State.reset), by decide +kernel⟩
theorem wit_PairHeartbeatsAndSeizure_10 : ∃ (n : Fin 2) (s : State), (s.isActive n = true) ∧ (s.partner n = 2) ∧ ((s.cdx n).seizing = false) :=
  ⟨(1 : Fin 2), ((fun (n : Fin 2) (s : State) => ((actv s n).wr (cd n) R.PAIR_STAT_PARTNER 2 |>.modCd n (fun x => { x with seizing := false }) : State)) (1 : Fin 2) State.reset), by decide +kernel⟩
theorem wit_PairHandsOverAndRejoins_1 : ∃ (n : Fin 2) (s : State), (s.isActive n = true) ∧ (s.partner n = 2) ∧ ((s.cdx n).seizing = false) ∧ (s.epoch n < 65535) :=
  ⟨(1 : Fin 2), ((fun (n : Fin 2) (s : State) => ((actv s n).wr (cd n) R.PAIR_STAT_PARTNER 2 |>.wr (cd n) R.PAIR_STAT_EPOCH 65534 |>.modCd n (fun x => { x with seizing := false }) : State)) (1 : Fin 2) State.reset), by decide +kernel⟩
theorem wit_PairHandsOverAndRejoins_2 : ∃ (n : Fin 2) (s : State), ((s.cdx n).mainUp = true) ∧ ((s.cdx n).locked = true) ∧ (s.isActive n = false) ∧ ((s.cdx n).seizing = false) ∧ (s.epoch n ≠ 65535) ∧ ((s.cdx (1 - n.val)).handover = true ∨ (s.cdx (1 - n.val)).yieldOut = true) :=
  ⟨(1 : Fin 2), ((fun (n : Fin 2) (s : State) => ((({ s with pins := { s.pins with vaon := true } }.modCd n (fun x => { x with mainUp := true, locked := true, seizing := false })).modCd (1 - n) (fun x => { x with handover := n.val = 1, yieldOut := true })).wr (cd n) R.PAIR_STAT_ROLE 0 : State)) (1 : Fin 2) State.reset), by decide +kernel⟩
theorem wit_PairHandsOverAndRejoins_3 : ∃ (n : Fin 2) (s : State), (s.phase n = 14) ∧ (s.isActive n = true) ∧ ((s.cdx (1 - n.val)).locked = true) :=
  ⟨(1 : Fin 2), ((fun (n : Fin 2) (s : State) => ((actv s n).wr (cd n) R.BOOT_STAT_PHASE 14 |>.modCd (1 - n) (fun x => { x with locked := true }) : State)) (1 : Fin 2) State.reset), by decide +kernel⟩
theorem wit_PairHandsOverAndRejoins_4 : ∃ (n : Fin 2) (s : State), ((s.cdx n).held = true) ∧ (s.isActive (1 - n.val) = true) ∧ ((s.cdx (1 - n.val)).tko = false) :=
  ⟨(1 : Fin 2), ((fun (n : Fin 2) (s : State) => ((actv s (1 - n.val)).modCd n (fun x => { x with held := true }) |>.modCd (1 - n) (fun x => { x with tko := false }) : State)) (1 : Fin 2) State.reset), by decide +kernel⟩
theorem wit_PairHandsOverAndRejoins_5 : ∃ (n : Fin 2) (s : State), ((s.cdx n).bootUp = true) ∧ ((s.cdx n).bootClk = true) ∧ ((s.cdx n).mainUp = false) ∧ (3 ≤ s.phase n) ∧ ((s.cdx n).held = false) ∧ ((s.cdx n).hot = false) ∧ ((s.cdx (1 - n.val)).seizing = false) ∧ (s.rd (cd (1 - n.val)) R.PAIR_STAT_SEIZED ≠ 3) :=
  ⟨(1 : Fin 2), ((fun (n : Fin 2) (s : State) => (({ s with pins := { s.pins with vaon := true } }.modCd n (fun x => { x with bootUp := true, bootClk := true, mainUp := false, held := false, hot := false })).modCd (1 - n) (fun x => { x with seizing := false }) |>.wr (cd n) R.BOOT_STAT_PHASE 4 |>.wr (cd (1 - n)) R.PAIR_STAT_SEIZED 2 : State)) (1 : Fin 2) State.reset), by decide +kernel⟩
theorem wit_PairHandsOverAndRejoins_6 : ∃ (n : Fin 2) (s : State), (s.isActive n = true) ∧ ((s.cdx (1 - n.val)).joinOut = true) :=
  ⟨(1 : Fin 2), ((fun (n : Fin 2) (s : State) => ((actv s n).modCd (1 - n) (fun x => { x with joinOut := true }) : State)) (1 : Fin 2) State.reset), by decide +kernel⟩
theorem wit_PairHandsOverAndRejoins_7 : ∃ (n : Fin 2) (s : State), (s.isActive n = true) ∧ ((s.cdx n).rejoin = true) ∧ ((s.cdx n).tko = false) :=
  ⟨(1 : Fin 2), ((fun (n : Fin 2) (s : State) => ((actv s n).modCd n (fun x => { x with rejoin := true, tko := false }) : State)) (1 : Fin 2) State.reset), by decide +kernel⟩
theorem wit_PairHandsOverAndRejoins_8 : ∃ (n : Fin 2) (s : State), ((s.cdx n).copying = true) ∧ (s.isActive n = true) ∧ (s.linkUp 12 = true) ∧ ((s.cdx (1 - n.val)).mainUp = true) :=
  ⟨(1 : Fin 2), ((fun (n : Fin 2) (s : State) => ((linksOn (actv s n)).modCd n (fun x => { x with copying := true }) |>.modCd (1 - n) (fun x => { x with mainUp := true }) : State)) (1 : Fin 2) State.reset), by decide +kernel⟩
theorem wit_PairHandsOverAndRejoins_9 : ∃ (n : Fin 2) (s : State), (s.asleep n = true) ∧ ((s.cdx n).sleepSeized = false) :=
  ⟨(1 : Fin 2), ((fun (n : Fin 2) (s : State) => ({ ({ s with pins := { s.pins with vaon := true } }.modCd n (fun x => { x with missing := true, sleepSeized := false })).modCd (1 - n) (fun x => { x with seizing := true }) with pins := { s.pins with vaon := true } } |>.wr (cd n) R.PWR_STATE_CUR 2 |>.wr (cd n) R.PWR_STATE_IN_TRANS 0 : State)) (1 : Fin 2) State.reset), by decide +kernel⟩
theorem wit_PairHandsOverAndRejoins_10 : ∃ (n : Fin 2) (s : State), (s.asleep n = true) ∧ ((s.cdx n).sleepSeized = false) :=
  ⟨(1 : Fin 2), ((fun (n : Fin 2) (s : State) => ({ ({ s with pins := { s.pins with vaon := true } }.modCd n (fun x => { x with missing := true, sleepSeized := false })).modCd (1 - n) (fun x => { x with seizing := true }) with pins := { s.pins with vaon := true } } |>.wr (cd n) R.PWR_STATE_CUR 2 |>.wr (cd n) R.PWR_STATE_IN_TRANS 0 : State)) (1 : Fin 2) State.reset), by decide +kernel⟩
theorem wit_PairHandsOverAndRejoins_11 : ∃ (n : Fin 2) (s : State), (s.asleep n = true) ∧ ((s.cdx n).missing = true) ∧ ((s.cdx n).sleepSeized = false) ∧ (s.isActive n = true ∨ s.epoch n ≠ 65535) :=
  ⟨(1 : Fin 2), ((fun (n : Fin 2) (s : State) => ({ ({ s with pins := { s.pins with vaon := true } }.modCd n (fun x => { x with missing := true, sleepSeized := false })).modCd (1 - n) (fun x => { x with seizing := true }) with pins := { s.pins with vaon := true } } |>.wr (cd n) R.PWR_STATE_CUR 2 |>.wr (cd n) R.PWR_STATE_IN_TRANS 0 : State)) (1 : Fin 2) State.reset), by decide +kernel⟩
theorem wit_PairHandsOverAndRejoins_12 : ∃ (n : Fin 2) (s : State), (s.asleep n = true) ∧ ((s.cdx (1 - n.val)).seizing = true) :=
  ⟨(1 : Fin 2), ((fun (n : Fin 2) (s : State) => ({ ({ s with pins := { s.pins with vaon := true } }.modCd n (fun x => { x with missing := true, sleepSeized := false })).modCd (1 - n) (fun x => { x with seizing := true }) with pins := { s.pins with vaon := true } } |>.wr (cd n) R.PWR_STATE_CUR 2 |>.wr (cd n) R.PWR_STATE_IN_TRANS 0 : State)) (1 : Fin 2) State.reset), by decide +kernel⟩
theorem wit_FirmwareStartsAndTheWatchdog_1 : ∃ (n : Fin 2) (s : State), ((s.cdx n).mainUp = true) ∧ (s.phase n = 3) ∧ ((s.cdx n).locked = false) :=
  ⟨(1 : Fin 2), ((fun (n : Fin 2) (s : State) => ((s.wr (cd n) R.BOOT_STAT_PHASE 3).modCd n (fun x => { x with mainUp := true, locked := false }) : State)) (1 : Fin 2) State.reset), by decide +kernel⟩
theorem wit_FirmwareStartsAndTheWatchdog_2 : ∃ (n : Fin 2) (s : State), ((s.cdx n).mainUp = true) ∧ (s.phase n = 14) :=
  ⟨(1 : Fin 2), ((fun (n : Fin 2) (s : State) => ((s.wr (cd n) R.BOOT_STAT_PHASE 14).modCd n (fun x => { x with mainUp := true }) : State)) (1 : Fin 2) State.reset), by decide +kernel⟩
theorem wit_FirmwareStartsAndTheWatchdog_3 : ∃ (a : Fin 16) (v : Word) (s : State), (s.wdtRuns (a.val / 8) = true) :=
  ⟨(15 : Fin 16), (0x57A7 : Word), ((fun (a : Fin 16) (v : Word) (s : State) => ((let n : Nat := a.val / 8; (s.wr (cd n) R.WDT_STAT_RUNNING 1).wr (cd n) R.WDT_STAT_TRAPPING 0 |>.wr (cd n) R.WDT_STAT_FROZEN 0) : State)) (15 : Fin 16) (0x57A7 : Word) State.reset), by decide +kernel⟩
theorem wit_FirmwareStartsAndTheWatchdog_4 : ∃ (n : Fin 2) (s : State), (s.flag (cd n) R.WDT_STAT_RUNNING = true) ∧ (s.flag (cd n) R.WDT_STAT_TRAPPING = false) ∧ (s.flag (cd n) R.WDT_CFG_MODE = false) ∧ (s.flag (cd n) R.WDT_STAT_FROZEN = false) :=
  ⟨(1 : Fin 2), ((fun (n : Fin 2) (s : State) => (((s.wr (cd n) R.WDT_STAT_RUNNING 1).wr (cd n) R.WDT_STAT_TRAPPING 0 |>.wr (cd n) R.WDT_STAT_FROZEN 0).wr (cd n) R.WDT_CFG_MODE 0 : State)) (1 : Fin 2) State.reset), by decide +kernel⟩
theorem wit_FirmwareStartsAndTheWatchdog_5 : ∃ (n : Fin 2) (s : State), (s.flag (cd n) R.WDT_STAT_RUNNING = true) ∧ (s.flag (cd n) R.WDT_STAT_TRAPPING = false) ∧ (s.flag (cd n) R.WDT_CFG_MODE = true) ∧ (s.flag (cd n) R.WDT_STAT_FROZEN = false) :=
  ⟨(1 : Fin 2), ((fun (n : Fin 2) (s : State) => (((s.wr (cd n) R.WDT_STAT_RUNNING 1).wr (cd n) R.WDT_STAT_TRAPPING 0 |>.wr (cd n) R.WDT_STAT_FROZEN 0).wr (cd n) R.WDT_CFG_MODE 1 : State)) (1 : Fin 2) State.reset), by decide +kernel⟩
theorem wit_FirmwareStartsAndTheWatchdog_6 : ∃ (n : Fin 2) (s : State), ((s.cdx n).wdtOut = true) :=
  ⟨(1 : Fin 2), ((fun (n : Fin 2) (s : State) => (s.modCd n (fun x => { x with wdtOut := true }) : State)) (1 : Fin 2) State.reset), by decide +kernel⟩
theorem wit_FirmwareStartsAndTheWatchdog_7 : ∃ (n : Fin 2) (s : State), (s.flag (cd n) R.WDT_STAT_TRAPPING = true) :=
  ⟨(1 : Fin 2), ((fun (n : Fin 2) (s : State) => (s.wr (cd n) R.WDT_STAT_TRAPPING 1 : State)) (1 : Fin 2) State.reset), by decide +kernel⟩
theorem wit_StepRunsTheFrontCommand : ∃ s : State, s.pending = [] := ⟨State.reset, rfl⟩
theorem wit_EveryCommandCompletesSettled : ∃ s : State, s.settled := ⟨State.reset, by unfold State.settled; decide +kernel⟩
theorem wit_StoresReadBack : ∃ lo hi b : Nat, lo ≤ b ∧ b < hi := ⟨4, 5, 4, by decide⟩
theorem wit_HardwiredRegisters : ∃ (a : Fin 48) (imm : Bool) (ins : Ins) (s : State), ins.x = false ∧ ins.sub = 16 ∧
    ins.riOk imm = true ∧ ins.a < 16 ∧ ins.b < 16 ∧
    s.issues a ins ([32 + ins.a.val, 32 + ins.b.val] ++ (if imm then [] else [ins.c.val])) :=
  ⟨47, true, ⟨false, 0, 15, 1, 0, BitVec.ofNat 37 (16 * 2 ^ 32 + 0xFFFFFFFF), 0⟩, running State.reset 47, by decide +kernel⟩
theorem wit_ChannelCommandFrames : ∃ t, exec (.chCmdOff 1 23) State.reset = .next t := ⟨_, rfl⟩
theorem wit_ScalarInstructionFrames : ∃ t, exec (.add 47 true ⟨false, 0, 15, 1, 0, 7, 0⟩) State.reset = .next t := ⟨_, rfl⟩
theorem wit_FramesOfLoadDieCommands : ∃ (c : Instr) (s t : State), areaOf c = .loadDie ∧ exec c s = .next t :=
  ⟨.feedcutClear 0 0, State.reset, _, rfl, rfl⟩
theorem wit_FramesOfControlCommands : ∃ (c : Instr) (s t : State), areaOf c = .control ∧ exec c s = .next t :=
  ⟨.perstNLow, State.reset, _, rfl, rfl⟩
theorem wit_FramesOfAgentInstructions : ∃ (c : Instr) (s t : State), areaOf c = .agent ∧ exec c s = .next t :=
  ⟨.trap 0 ⟨false, 0, 0, 0, 0, 0, 0⟩, State.reset, _, rfl, rfl⟩
theorem wit_FramesOfLinkedCommands : ∃ (c : Instr) (s t : State), areaOf c = .linked ∧ exec c s = .next t :=
  ⟨.ackSendTimer 25, State.reset, _, rfl, rfl⟩
theorem wit_OnlyTheseCommandsChangeChannels : ∃ (c : Instr) (s t : State), exec c s = .next t := ⟨.perstNLow, State.reset, _, rfl⟩

end Sys2Proof.Tests
end

section
/-! SUPPORT. Memory as the statements read it: runs of bytes, cleared ranges and little-endian numbers (R1, R82). -/

namespace Sys2Proof.Machine

/-- Two memories that agree on a range give the same run of bytes from it. -/
theorem State.ldn_congr {s t : State} (n a : Nat) (h : ∀ b, a ≤ b → b < a + n → t.ldb b = s.ldb b) :
    t.ldn a n = s.ldn a n := by
  induction n generalizing a with
  | zero => rfl
  | succ n ih =>
    simp only [State.ldn]
    rw [h a (by omega) (by omega), ih (a + 1) fun b h₁ h₂ => h b (by omega) (by omega)]

/-- A run of bytes reads back as it was stored. -/
theorem State.ldn_stn_same (s : State) (a : Nat) (l : List Byte) : (s.stn a l).ldn a l.length = l := by
  induction l generalizing s a with
  | nil => rfl
  | cons x xs ih =>
    have hx : ((s.stb a x).stn (a + 1) xs).ldb a = x := by
      rw [State.ldb_stn_other _ _ _ _ (.inl (by omega)), State.ldb_stb_same]
    simp only [State.stn, List.length_cons, State.ldn, hx, ih]

/-- A byte of a cleared range reads 0. -/
theorem State.ldb_clearMem_same (s : State) (lo hi b : Nat) (h : lo ≤ b ∧ b < hi) : (s.clearMem lo hi).ldb b = 0 :=
  Store.get_clear_same 0 s.mem lo hi b h
/-- A byte outside a cleared range reads as before. -/
theorem State.ldb_clearMem_other (s : State) (lo hi b : Nat) (h : b < lo ∨ hi ≤ b) :
    (s.clearMem lo hi).ldb b = s.ldb b :=
  Store.get_clear_other 0 s.mem lo hi b h

@[simp] theorem toBytes_length (n v : Nat) : (toBytes n v).length = n := by
  induction n generalizing v with
  | zero => rfl
  | succ n ih => simp [toBytes, ih]

/-- The little-endian bytes of a number give it back, cut to their width. -/
theorem fromBytes_toBytes (n v : Nat) : fromBytes (toBytes n v) = v % 2 ^ (8 * n) := by
  induction n generalizing v with
  | zero => simp [toBytes, fromBytes, Nat.mod_one]
  | succ n ih =>
    have hp : 2 ^ (8 * (n + 1)) = 256 * 2 ^ (8 * n) := by rw [Nat.mul_succ, Nat.pow_add, Nat.mul_comm]
    simp only [toBytes, fromBytes, ih, BitVec.toNat_ofNat, hp, Nat.mod_mul]

/-- A number stored lowest byte first reads back modulo its width. -/
theorem State.ldw_stw_same (s : State) (a w v : Nat) : (s.stw a w v).ldw a w = v % 2 ^ (8 * w) := by
  have h := s.ldn_stn_same a (toBytes w v)
  rw [toBytes_length] at h
  rw [State.ldw, State.stw, h, fromBytes_toBytes]

/-- Settles O52, from the laws of runs of bytes, of cleared ranges and of little-endian numbers. -/
theorem storesReadBack : Obligations.StoresReadBack :=
  ⟨fun s a b l => ⟨s.ldn_stn_same a l, s.ldb_stn_other a b l⟩,
    fun s lo hi b => ⟨fun h₁ h₂ => s.ldb_clearMem_same lo hi b ⟨h₁, h₂⟩, s.ldb_clearMem_other lo hi b⟩,
    fun s a w v => s.ldw_stw_same a w v⟩

end Sys2Proof.Machine
end

section
/-! SUPPORT. The state after reset (R60). -/

namespace Sys2Proof.Machine

theorem State.reset_settled : State.reset.settled := by unfold State.settled; decide +kernel

/-- Settles O50: reset is one state, so each of its registers is read off. The TIMEOUT of 20 ms, the folio map with its
spare and LANE 15 are the reset values of the field tables (notes/assumptions/2.md). -/
theorem resetState : Obligations.ResetState :=
  ⟨rfl, rfl, State.reset_mem_wf, State.reset_settled, rfl, by decide +kernel, by decide +kernel, by decide +kernel,
    by decide +kernel⟩

end Sys2Proof.Machine
end

section
/-! SUPPORT. Where a field is too narrow for what a statement reads in it. The field store of a state is plain data:
nothing in it keeps a field's value below the field's width, while a write cuts what it puts there (`State.wr`). So a
statement over all states that equates a field after a command with an uncut value fails at a state whose store holds a
value wider than the field. -/

namespace Sys2Proof.Machine

/-! ### The epoch of a standby that seizes a sleeping partner -/

/-- CD0 asleep in STANDBY beside a missing partner, its epoch held as 2^16, one more than PAIR_STAT.EPOCH can show. -/
def sleepyWideEpoch : State :=
  { State.reset with
    fld := Store.insert (Store.insert State.reset.fld (fkey (cd 0) R.PAIR_STAT_EPOCH) (2 ^ 16))
      (fkey (cd 0) R.PWR_STATE_CUR) 1
    cds := [(0, { missing := true })]
    pins := { vaon := true } }

/-- SLEEP_PARTNER_LOST raises that epoch and cuts it to its 16 bits. -/
theorem sleepPartnerLost_cuts_epoch {t : State} (h : exec (.sleepPartnerLost 0) sleepyWideEpoch = .next t) :
    t.epoch 0 = 1 := by
  cases h
  decide +kernel

/-- Refutes O47: SLEEP_PARTNER_LOST on a standby is to leave `s.epoch n + 1`, but EPOCH has 16 bits, and the state may
hold 2^16 there (`sleepyWideEpoch`). -/
theorem not_pairHandsOverAndRejoins : ¬ Obligations.PairHandsOverAndRejoins := by
  unfold Obligations.PairHandsOverAndRejoins
  rintro ⟨-, -, -, -, -, -, -, -, -, -, hlost, -⟩
  obtain ⟨t, ht, -, -, -, -, hepoch, -⟩ :=
    hlost 0 sleepyWideEpoch (by decide +kernel) (by decide +kernel) (by decide +kernel) (.inr (by decide +kernel))
  have hwide : sleepyWideEpoch.isActive 0 = false ∧ sleepyWideEpoch.epoch 0 + 1 = 65537 := by decide +kernel
  have hraised : t.epoch 0 = 65537 := hepoch.trans ((if_neg (by simp [hwide.1])).trans hwide.2)
  exact absurd ((sleepPartnerLost_cuts_epoch ht).symm.trans hraised) (by decide)

/-! ### The count of a kicked watchdog -/

/-- CD0's watchdog runs with a TIMEOUT of 16778 ms, more than WDT_CFG.TIMEOUT can show. -/
def runningWideTimeout : State :=
  { State.reset with
    fld := Store.insert (Store.insert State.reset.fld (fkey (cd 0) R.WDT_CFG_TIMEOUT) 16778)
      (fkey (cd 0) R.WDT_STAT_RUNNING) 1 }

/-- A good kick loads the microseconds of that time, cut to the 24 bits of LEFT. -/
theorem wdtKick_cuts_left {t : State} (h : exec (.wdtKick 0 0x57A7) runningWideTimeout = .next t) :
    t.rd (cd 0) R.WDT_STAT_LEFT = 784 := by
  cases h
  decide +kernel

/-- Refutes O48: a good kick is to leave `TIMEOUT * 1000` in LEFT, but LEFT has 24 bits, and the state may hold a
TIMEOUT whose microseconds do not fit (`runningWideTimeout`). -/
theorem not_firmwareStartsAndTheWatchdog : ¬ Obligations.FirmwareStartsAndTheWatchdog := by
  unfold Obligations.FirmwareStartsAndTheWatchdog
  rintro ⟨-, -, hkick, -⟩
  obtain ⟨t, ht, hgood, -⟩ := hkick 0 0x57A7 runningWideTimeout (by decide +kernel)
  have hwide : runningWideTimeout.rd (cd 0) R.WDT_CFG_TIMEOUT * 1000 = 16778000 := by decide +kernel
  have hleft : t.rd (cd 0) R.WDT_STAT_LEFT = 16778000 := (hgood rfl).1.trans hwide
  exact absurd ((wdtKick_cuts_left ht).symm.trans hleft) (by decide)

/-! ### The state a sleeping device has left -/

/-- CD0 is active with its main islands up, and holds 8 as its power state, which PWR_STATE.CUR cannot show. -/
def activeWideState : State :=
  { State.reset with
    fld := Store.insert (Store.insert State.reset.fld (fkey (cd 0) R.PAIR_STAT_ROLE) 1)
      (fkey (cd 0) R.PWR_STATE_CUR) 8
    cds := [(0, { mainUp := true })] }

/-- PWR_STATE.PREV of CD0 after a change of the power state fits its 3 bits, whatever CUR held. -/
theorem State.pwrShow_prev_lt (s : State) (v : Nat) : (s.pwrShow v).rd (cd 0) R.PWR_STATE_PREV < 8 := by
  simp only [State.pwrShow, List.foldl_cons, List.foldl_nil]
  rw [State.rd_wr_other _ _ _ _ _ _ (by decide), State.rd_wr_other _ _ _ _ _ _ (by decide),
    State.rd_wr_other _ _ _ _ _ _ (by decide), State.rd_wr_other _ _ _ _ _ _ (by decide),
    State.rd_wr_other _ _ _ _ _ _ (by decide), State.rd_wr_same]
  exact Nat.mod_lt _ (by decide)

/-- The end of a PWR_REQ leaves PREV alone. -/
theorem State.pwrEnd_prev (s : State) (status : Nat) :
    (s.pwrEnd 0 status).rd (cd 0) R.PWR_STATE_PREV = s.rd (cd 0) R.PWR_STATE_PREV := by
  have h := (((Within.refl (· ≠ fkey (cd 0) R.PWR_STATE_PREV) (fun _ => ()) s).wr (cd 0) R.PWR_REQ_STATUS status rfl
    (by decide)).wr (cd 0) R.PWR_REQ_GO 0 rfl (by decide)).raiseIn (cd 0) (cnt32 R.SYS_CAUSE_PWR_DONE)
    [(R.SYS_CAUSE_PWR_DONE, 1)] (fun _ _ _ _ => rfl) (by decide) (by decide)
  exact h.rd _ _ (by decide)

/-- What a PWR_REQ for DOZE can do to the state `u` in which TARGET and GO are written: nothing, an end with a status, or
the entry to DOZE (R61, R62). -/
theorem State.pwrReq_doze_cases (s : State) (n : Nat) :
    let u := (s.wr (cd n) R.PWR_REQ_TARGET 3).wr (cd n) R.PWR_REQ_GO 1
    s.pwrReq n 3 = u ∨ (∃ status, s.pwrReq n 3 = u.pwrEnd n status) ∨ s.pwrReq n 3 = (u.doze n).pwrEnd n 2 := by
  intro u
  have hu : s.pwrReq n 3 =
      if !u.isActive n then u.pwrEnd n 0x12
      else if u.flag (cd n) R.PWR_STATE_IN_TRANS then
        (if u.rd (cd n) R.PWR_REQ_STATUS = 1 then u else u.pwrEnd n 0x10)
      else if 3 = s.rd (cd n) R.PWR_STATE_CUR then u.pwrEnd n 2
      else if u.busy n then u.pwrEnd n 0x10
      else (u.doze n).pwrEnd n 2 := rfl
  rw [hu]
  generalize u.doze n = v
  repeat' split
  · exact .inr (.inl ⟨_, rfl⟩)
  · exact .inl rfl
  · exact .inr (.inl ⟨_, rfl⟩)
  · exact .inr (.inl ⟨_, rfl⟩)
  · exact .inr (.inl ⟨_, rfl⟩)
  · exact .inr (.inr rfl)

/-- A PWR_REQ for DOZE leaves PREV of CD0 within its width. -/
theorem State.pwrReq_doze_prev_lt (s : State) (h : s.rd (cd 0) R.PWR_STATE_PREV < 8) :
    (s.pwrReq 0 3).rd (cd 0) R.PWR_STATE_PREV < 8 := by
  have hu : ((s.wr (cd 0) R.PWR_REQ_TARGET 3).wr (cd 0) R.PWR_REQ_GO 1).rd (cd 0) R.PWR_STATE_PREV < 8 := by
    rwa [State.rd_wr_other _ _ _ _ _ _ (by decide), State.rd_wr_other _ _ _ _ _ _ (by decide)]
  obtain he | ⟨status, he⟩ | he := s.pwrReq_doze_cases 0 <;> rw [he]
  · exact hu
  · rwa [State.pwrEnd_prev]
  · rw [State.pwrEnd_prev]
    exact State.pwrShow_prev_lt _ _

/-- PWR_REQ_DOZE at that state leaves in PREV a state of 3 bits. -/
theorem pwrReqDoze_cuts_prev {t : State} (h : exec (.pwrReqDoze 0) activeWideState = .next t) :
    t.rd (cd 0) R.PWR_STATE_PREV < 8 := by
  have ht : t = (activeWideState.pwrCmd 0 3).settle := (Host.Outcome.next.inj h).symm
  rw [ht, State.settle_rd _ _ _ (by decide), State.pwrCmd, if_pos (by decide)]
  exact State.pwrReq_doze_prev_lt _ (by decide)

/-- Refutes O45: PWR_REQ_DOZE is to leave the state before it in PREV, but PREV has 3 bits, and the state may hold 8 as
its power state (`activeWideState`). -/
theorem not_powerStatesAndWakes : ¬ Obligations.PowerStatesAndWakes := by
  unfold Obligations.PowerStatesAndWakes
  rintro ⟨hdoze, -⟩
  obtain ⟨t, ht, -, hprev, -⟩ :=
    hdoze 0 0 activeWideState (by decide +kernel) (by decide +kernel) (by decide +kernel) (by decide +kernel)
      (by decide +kernel)
  have hwide : activeWideState.rd (cd 0) R.PWR_STATE_CUR = 8 := by decide +kernel
  exact absurd (hprev.trans hwide) (pwrReqDoze_cuts_prev ht).ne

end Sys2Proof.Machine
end

section
/-! SUPPORT. Which parts of the state an operation can change. `Keeps L s t` says that `s` and `t` agree in every part
outside `L`. An operation that changes only parts of `L` can be dropped on the right side of `Keeps L`: every operation
has one lemma of that form, tagged `simp`, and `simp` peels a command down to the state it started from. -/

namespace Sys2Proof.Machine

/-- `s` and `t` agree in every part of the state outside `L`. -/
def Keeps (L : List Part) (s t : State) : Prop := ∀ p : Part, p ∉ L → s.same t p

/-- Every state that an outcome hands on agrees with `s` outside `L`. -/
def KeepsOut (L : List Part) (s : State) (o : Host.Outcome State Fault Refusal) : Prop :=
  ∀ t, o = .next t → Keeps L s t

theorem State.same_refl (s : State) (p : Part) : s.same s p := by cases p <;> rfl
theorem State.same_trans {s t u : State} {p : Part} (h : s.same t p) (h' : t.same u p) : s.same u p := by
  cases p <;> exact Eq.trans h' h
theorem State.same_symm {s t : State} {p : Part} (h : s.same t p) : t.same s p := by
  cases p <;> exact Eq.symm h

section
variable {L : List Part} {s t u : State}

@[simp] theorem Keeps.refl (L : List Part) (s : State) : Keeps L s s := fun p _ => s.same_refl p
/-- Where `t` and `u` agree outside `L`, a third state agrees with both or with neither. -/
theorem Keeps.congr_right (h : Keeps L t u) : Keeps L s u ↔ Keeps L s t :=
  ⟨fun h' p hp => State.same_trans (h' p hp) (State.same_symm (h p hp)),
    fun h' p hp => State.same_trans (h' p hp) (h p hp)⟩

/-! ### Control structure -/

@[simp ↓] theorem Keeps.ite {c : Prop} [Decidable c] :
    Keeps L s (if c then t else u) ↔ if c then Keeps L s t else Keeps L s u := by split <;> rfl
@[simp] theorem Keeps.foldl {β : Type} {g : State → β → State} (l : List β)
    (h : ∀ u x, Keeps L s (g u x) ↔ Keeps L s u) : Keeps L s (l.foldl g t) ↔ Keeps L s t := by
  induction l generalizing t with
  | nil => rfl
  | cons x xs ih => exact (ih (t := g t x)).trans (h t x)
@[simp] theorem KeepsOut.ite {c : Prop} [Decidable c] {o o' : Host.Outcome State Fault Refusal} :
    KeepsOut L s (if c then o else o') ↔ if c then KeepsOut L s o else KeepsOut L s o' := by split <;> rfl

/-! ### The state's own updates -/

@[simp] theorem State.keeps_wr (b : Nat) (f : Fld) (v : Nat) : Keeps L s (t.wr b f v) ↔ Keeps L s t :=
  Keeps.congr_right fun p _ => by cases p <;> rfl
@[simp] theorem State.keeps_clearRegs (lo hi : Nat) : Keeps L s (t.clearRegs lo hi) ↔ Keeps L s t :=
  Keeps.congr_right fun p _ => by cases p <;> rfl

/-- An update that shows in one part alone. -/
theorem Keeps.of_part {p : Part} (hp : p ∈ L) (h : ∀ q, q ≠ p → t.same u q) : Keeps L s u ↔ Keeps L s t :=
  Keeps.congr_right fun q hq => h q fun e => hq (e ▸ hp)

@[simp] theorem State.keeps_modCd (h : .cds ∈ L) (n : Nat) (f : CdX → CdX) : Keeps L s (t.modCd n f) ↔ Keeps L s t :=
  Keeps.of_part h fun q hq => by cases q <;> trivial
@[simp] theorem State.keeps_modWing (h : .wings ∈ L) (i : Nat) (f : WingX → WingX) :
    Keeps L s (t.modWing i f) ↔ Keeps L s t :=
  Keeps.of_part h fun q hq => by cases q <;> trivial
@[simp] theorem State.keeps_stb (h : .mem ∈ L) (a : Nat) (x : Byte) : Keeps L s (t.stb a x) ↔ Keeps L s t :=
  Keeps.of_part h fun q hq => by cases q <;> trivial
@[simp] theorem State.keeps_clearMem (h : .mem ∈ L) (lo hi : Nat) : Keeps L s (t.clearMem lo hi) ↔ Keeps L s t :=
  Keeps.of_part h fun q hq => by cases q <;> trivial
@[simp] theorem State.keeps_draw (h : .fresh ∈ L) (w : Nat) : Keeps L s (t.draw w).1 ↔ Keeps L s t :=
  Keeps.of_part h fun q hq => by cases q <;> trivial
@[simp] theorem State.keeps_setPoison (h : .poison ∈ L) (k : Nat) (b : Bool) :
    Keeps L s (t.setPoison k b) ↔ Keeps L s t :=
  Keeps.of_part h fun q hq => by cases q <;> trivial
@[simp ↓] theorem State.keeps_pins (h : .pins ∈ L) (x : Pins) : Keeps L s { t with pins := x } ↔ Keeps L s t :=
  Keeps.of_part h fun q hq => by cases q <;> trivial
@[simp ↓] theorem State.keeps_rsp (h : .rsp ∈ L) (x : Rsp) : Keeps L s { t with rsp := x } ↔ Keeps L s t :=
  Keeps.of_part h fun q hq => by cases q <;> trivial
@[simp ↓] theorem State.keeps_comErr (h : .comErr ∈ L) (x : Store (List Nat)) :
    Keeps L s { t with comErr := x } ↔ Keeps L s t :=
  Keeps.of_part h fun q hq => by cases q <;> trivial
@[simp ↓] theorem State.keeps_sems (h : .sems ∈ L) (x : Store Nat) : Keeps L s { t with sems := x } ↔ Keeps L s t :=
  Keeps.of_part h fun q hq => by cases q <;> trivial
@[simp ↓] theorem State.keeps_waitq (h : .waitq ∈ L) (x : List (Nat × Nat)) :
    Keeps L s { t with waitq := x } ↔ Keeps L s t :=
  Keeps.of_part h fun q hq => by cases q <;> trivial
@[simp ↓] theorem State.keeps_parity (h : .parity ∈ L) (x : Store Nat) :
    Keeps L s { t with parity := x } ↔ Keeps L s t :=
  Keeps.of_part h fun q hq => by cases q <;> trivial

/-! ### Fields of registers -/

@[simp] theorem State.keeps_wrb (b : Nat) (f : Fld) (v : Bool) : Keeps L s (t.wrb b f v) ↔ Keeps L s t := by
  simp [State.wrb]
@[simp] theorem State.keeps_inc (b : Nat) (f : Fld) : Keeps L s (t.inc b f) ↔ Keeps L s t := by simp [State.inc]
@[simp] theorem State.keeps_raiseIn (b : Nat) (c : Fld) (l : List (Fld × Nat)) :
    Keeps L s (t.raiseIn b c l) ↔ Keeps L s t := by simp [State.raiseIn]
@[simp] theorem State.keeps_raise (b : Nat) (f : Fld) : Keeps L s (t.raise b f) ↔ Keeps L s t := by simp [State.raise]
@[simp] theorem State.keeps_sysEvent (n : Nat) (f : Fld) : Keeps L s (t.sysEvent n f) ↔ Keeps L s t := by
  simp [State.sysEvent]
@[simp] theorem State.keeps_capture (b off stride : Nat) (l : List (Nat × Fld × Nat)) :
    Keeps L s (t.capture b off stride l) ↔ Keeps L s t := by simp [State.capture]
@[simp] theorem State.keeps_addrErr (n kind init : Nat) (w : Bool) (a : Nat) :
    Keeps L s (t.addrErr n kind init w a) ↔ Keeps L s t := by simp [State.addrErr]
@[simp] theorem State.keeps_settle : Keeps L s t.settle ↔ Keeps L s t :=
  Keeps.congr_right fun p _ => by cases p <;> simp [State.same]
@[simp] theorem keepsOut_done : KeepsOut L s (done t) ↔ Keeps L s t :=
  ⟨fun h => State.keeps_settle.1 (h _ rfl), fun h u hu => by cases hu; exact State.keeps_settle.2 h⟩

/-! ### Memory and semaphores -/

@[simp] theorem State.keeps_stn (h : .mem ∈ L) (a : Nat) (l : List Byte) : Keeps L s (t.stn a l) ↔ Keeps L s t := by
  induction l generalizing t a with
  | nil => rfl
  | cons x xs ih => simp [State.stn, ih, h]
@[simp] theorem State.keeps_stw (h : .mem ∈ L) (a n v : Nat) : Keeps L s (t.stw a n v) ↔ Keeps L s t := by
  simp [State.stw, h]
@[simp] theorem State.keeps_semSignal (h : .sems ∈ L) (k v : Nat) : Keeps L s (t.semSignal k v) ↔ Keeps L s t := by
  simp [State.semSignal, h]

@[simp] theorem State.keeps_comLog (n kind master i bit : Nat) :
    Keeps L s (t.comLog n kind master i bit) ↔ Keeps L s t := by simp [State.comLog]
@[simp] theorem State.keeps_comFlip (hm : .mem ∈ L) (hc : .comErr ∈ L) (n i b : Nat) :
    Keeps L s (t.comFlip n i b) ↔ Keeps L s t := by simp [State.comFlip, hm, hc]
/-- A checked read of a word of Commons: it may correct the word, log it, and draw its outcome (R452). -/
@[simp] theorem State.keeps_comCheck (hm : .mem ∈ L) (hc : .comErr ∈ L) (hf : .fresh ∈ L) (n master i : Nat) :
    Keeps L s (t.comCheck n master i).1 ↔ Keeps L s t := by
  unfold State.comCheck
  split
  · rfl
  · simp [hm, hc]
  · simp
  · simp only [apply_ite Prod.fst]
    simp [hm, hc, hf]
@[simp] theorem State.keeps_comWrite (hm : .mem ∈ L) (hc : .comErr ∈ L) (hf : .fresh ∈ L) (n master o : Nat)
    (l : List Byte) : Keeps L s (t.comWrite n master o l) ↔ Keeps L s t := by simp [State.comWrite, hm, hc, hf]
@[simp] theorem State.keeps_comRead (hm : .mem ∈ L) (hc : .comErr ∈ L) (hf : .fresh ∈ L) (n master o len : Nat) :
    Keeps L s (t.comRead n master o len).1 ↔ Keeps L s t := by
  have h : ∀ (l : List Nat) (x : State × Bool),
      Keeps L s (l.foldl (fun x i => ((x.1.comCheck n master i).1, x.2 || (x.1.comCheck n master i).2)) x).1 ↔
        Keeps L s x.1 := by
    intro l
    induction l with
    | nil => exact fun _ => Iff.rfl
    | cons i l ih => intro x; simp [ih, hm, hc, hf]
  exact h _ _

end

end Sys2Proof.Machine
end

section
/-! SUPPORT. The parts that the shared operations behind the commands of the area control can change, chapter by
chapter. -/

namespace Sys2Proof.Machine

section
variable {L : List Part} {s t : State}

/-! ### Power-up, keys and flash (chapters 3 and 16) -/

@[simp] theorem State.keeps_slotWrite (h : .cds ∈ L) (k slot : Nat) (v e f : Bool) (p u : Nat) (key : List Byte) :
    Keeps L s (t.slotWrite k slot v e f p u key) ↔ Keeps L s t := by simp [State.slotWrite, h]
@[simp] theorem State.keeps_vaultSlot (h : .cds ∈ L) (n slot : Nat) :
    Keeps L s (t.vaultSlot n slot) ↔ Keeps L s t := by
  unfold State.vaultSlot
  split <;> simp [h]
@[simp] theorem State.keeps_vaultLoad (h : .cds ∈ L) (n : Nat) : Keeps L s (t.vaultLoad n) ↔ Keeps L s t := by
  simp [State.vaultLoad, h]
@[simp] theorem State.keeps_vaultPut (h : .cds ∈ L) (n k : Nat) (r : VaultRec) :
    Keeps L s (t.vaultPut n k r) ↔ Keeps L s t := by simp [State.vaultPut, h]
@[simp] theorem State.keeps_slotCharge (h : .cds ∈ L) (n slot : Nat) :
    Keeps L s (t.slotCharge n slot) ↔ Keeps L s t := by
  unfold State.slotCharge
  split
  · rfl
  · refine Keeps.foldl _ fun u k => ?_
    dsimp only
    split <;> simp [h]
@[simp] theorem State.keeps_secSync (n : Nat) : Keeps L s (t.secSync n) ↔ Keeps L s t := by simp [State.secSync]
@[simp] theorem State.keeps_clkShow (f : Fld) (on : Bool) : Keeps L s (t.clkShow f on) ↔ Keeps L s t := by
  simp [State.clkShow]
@[simp] theorem State.keeps_lpclk (n : Nat) (on : Bool) : Keeps L s (t.lpclk n on) ↔ Keeps L s t := by
  simp [State.lpclk]
@[simp] theorem State.keeps_setPhase (v : Nat) : Keeps L s (t.setPhase v) ↔ Keeps L s t := by simp [State.setPhase]
@[simp] theorem State.keeps_setRole (n : Nat) : Keeps L s (t.setRole n) ↔ Keeps L s t := by simp [State.setRole]
@[simp] theorem State.keeps_setEpoch (n e : Nat) : Keeps L s (t.setEpoch n e) ↔ Keeps L s t := by
  simp [State.setEpoch]
@[simp] theorem State.keeps_fbStart (h : .cds ∈ L) (n : Nat) : Keeps L s (t.fbStart n) ↔ Keeps L s t := by
  simp [State.fbStart, h]
@[simp] theorem State.keeps_flCmd (h : .cds ∈ L) (n op cs len : Nat) :
    Keeps L s (t.flCmd n op cs len) ↔ Keeps L s t := by simp [State.flCmd, h]
@[simp] theorem State.keeps_flBufPut (n : Nat) (l : List Byte) : Keeps L s (t.flBufPut n l) ↔ Keeps L s t := by
  simp [State.flBufPut]
@[simp] theorem State.keeps_flProgram (h : .mem ∈ L) (cs a : Nat) (l : List Byte) :
    Keeps L s (t.flProgram cs a l) ↔ Keeps L s t := by simp [State.flProgram, h]
@[simp] theorem State.keeps_flDone (hm : .mem ∈ L) (hc : .cds ∈ L) (n : Nat) (ok : Bool) :
    Keeps L s (t.flDone n ok) ↔ Keeps L s t := by
  unfold State.flDone
  split <;> simp [hm, hc]
@[simp] theorem State.keeps_wimgFail (h : .cds ∈ L) (n err : Nat) : Keeps L s (t.wimgFail n err) ↔ Keeps L s t := by
  simp [State.wimgFail, h]
@[simp] theorem State.keeps_wimgBegin (h : .cds ∈ L) (n : Nat) (e : Bool) :
    Keeps L s (t.wimgBegin n e) ↔ Keeps L s t := by simp [State.wimgBegin, h]
@[simp] theorem State.keeps_wimgStart (h : .cds ∈ L) (n : Nat) (e : Bool) :
    Keeps L s (t.wimgStart n e) ↔ Keeps L s t := by simp [State.wimgStart, h]
@[simp] theorem State.keeps_dbgGo (h : .cds ∈ L) (n : Nat) : Keeps L s (t.dbgGo n) ↔ Keeps L s t := by
  simp [State.dbgGo, h]
@[simp] theorem State.keeps_macGo (h : .cds ∈ L) (n : Nat) : Keeps L s (t.macGo n) ↔ Keeps L s t := by
  unfold State.macGo
  dsimp only
  split
  · rfl
  · split
    · simp
    · split <;> simp [h]

/-! ### Folios and their replacement (chapter 4) -/

@[simp] theorem State.keeps_folioOp (d w op q f ph : Nat) : Keeps L s (t.folioOp d w op q f ph) ↔ Keeps L s t := by
  simp [State.folioOp]
@[simp] theorem State.keeps_setPosState (d w p v : Nat) : Keeps L s (t.setPosState d w p v) ↔ Keeps L s t := by
  simp [State.setPosState]
@[simp] theorem State.keeps_blockSync (d w : Nat) (b : Bool) : Keeps L s (t.blockSync d w b) ↔ Keeps L s t := by
  simp [State.blockSync]
@[simp] theorem State.keeps_reloadStart (h : .wings ∈ L) (d w op q f : Nat) :
    Keeps L s (t.reloadStart d w op q f) ↔ Keeps L s t := by simp [State.reloadStart, h]
@[simp] theorem State.keeps_readmit (h : .wings ∈ L) (d w : Nat) : Keeps L s (t.readmit d w) ↔ Keeps L s t := by
  unfold State.readmit
  split <;> simp [h]
@[simp] theorem State.keeps_folioNext (h : .wings ∈ L) (d w : Nat) : Keeps L s (t.folioNext d w) ↔ Keeps L s t := by
  unfold State.folioNext
  dsimp only
  split
  · rfl
  · split <;> simp [h]
@[simp] theorem State.keeps_leafPrec (d w f v : Nat) : Keeps L s (t.leafPrec d w f v) ↔ Keeps L s t := by
  simp [State.leafPrec]
@[simp] theorem State.keeps_readmitWrite (h : .wings ∈ L) (d w : Nat) :
    Keeps L s (t.readmitWrite d w) ↔ Keeps L s t := by simp [State.readmitWrite, h]
@[simp] theorem State.keeps_retryWrite (h : .wings ∈ L) (d w : Nat) : Keeps L s (t.retryWrite d w) ↔ Keeps L s t := by
  simp [State.retryWrite, h]
@[simp] theorem State.keeps_histClear (d w tag : Nat) : Keeps L s (t.histClear d w tag) ↔ Keeps L s t := by
  simp [State.histClear]
@[simp] theorem State.keeps_histClearAll (d w : Nat) : Keeps L s (t.histClearAll d w) ↔ Keeps L s t := by
  simp [State.histClearAll]
@[simp] theorem State.keeps_histSet (d w tag shift : Nat) : Keeps L s (t.histSet d w tag shift) ↔ Keeps L s t := by
  simp [State.histSet]

/-! ### The reading room (chapter 6) -/

@[simp] theorem State.keeps_slotReject (h : .wings ∈ L) (d w st e b win slot : Nat) :
    Keeps L s (t.slotReject d w st e b win slot) ↔ Keeps L s t := by simp [State.slotReject, h]
@[simp] theorem State.keeps_slotLoad (h : .wings ∈ L) (d w : Nat) : Keeps L s (t.slotLoad d w) ↔ Keeps L s t := by
  unfold State.slotLoad
  dsimp only
  split <;> simp [h]
@[simp] theorem State.keeps_parityLog (d w n src e : Nat) : Keeps L s (t.parityLog d w n src e) ↔ Keeps L s t := by
  simp [State.parityLog]
@[simp] theorem State.keeps_lineWrite (hm : .mem ∈ L) (hp : .poison ∈ L) (hq : .parity ∈ L) (d w n o : Nat)
    (l : List Byte) (f : Bool) : Keeps L s (t.lineWrite d w n o l f) ↔ Keeps L s t := by
  simp [State.lineWrite, hm, hp, hq]
@[simp] theorem State.keeps_rrWrite (hm : .mem ∈ L) (hp : .poison ∈ L) (hq : .parity ∈ L) (d w : Nat) (f : Bool)
    (fuel o : Nat) (l : List Byte) : Keeps L s (t.rrWrite d w f fuel o l) ↔ Keeps L s t := by
  induction fuel generalizing t o l with
  | zero => rfl
  | succ fuel ih =>
    cases l with
    | nil => rfl
    | cons x xs => simp [State.rrWrite, ih, hm, hp, hq]
@[simp] theorem State.keeps_rrStore (hm : .mem ∈ L) (hp : .poison ∈ L) (hq : .parity ∈ L) (d w o : Nat)
    (l : List Byte) (f : Bool) : Keeps L s (t.rrStore d w o l f) ↔ Keeps L s t := by simp [State.rrStore, hm, hp, hq]
@[simp] theorem State.keeps_creqSync (d w : Nat) : Keeps L s (t.creqSync d w) ↔ Keeps L s t := by
  simp [State.creqSync]
@[simp] theorem State.keeps_creqPop (h : .wings ∈ L) (d w : Nat) : Keeps L s (t.creqPop d w).1 ↔ Keeps L s t := by
  simp [State.creqPop, h]
@[simp] theorem State.keeps_cwFree (hs : .sems ∈ L) (hw : .wings ∈ L) (d w c : Nat) :
    Keeps L s (t.cwFree d w c) ↔ Keeps L s t := by
  unfold State.cwFree
  dsimp only
  split <;> simp [hs, hw]
@[simp] theorem State.keeps_credDrop (d w kind win epoch src : Nat) (f : Fld) :
    Keeps L s (t.credDrop d w kind win epoch src f) ↔ Keeps L s t := by simp [State.credDrop]
@[simp] theorem State.keeps_kvCmd (d op c : Nat) : Keeps L s (t.kvCmd d op c) ↔ Keeps L s t := by simp [State.kvCmd]
@[simp] theorem State.keeps_kvWrite (h : .rsp ∈ L) (n unit d op c : Nat) :
    Keeps L s (t.kvWrite n unit d op c) ↔ Keeps L s t := by simp [State.kvWrite, h]

/-! ### Links, the catalogue and interrupts (chapters 7, 11 and 18) -/

@[simp] theorem State.keeps_startTrain (l kind : Nat) : Keeps L s (t.startTrain l kind) ↔ Keeps L s t := by
  simp [State.startTrain]
@[simp] theorem State.keeps_catSync (n : Nat) : Keeps L s (t.catSync n) ↔ Keeps L s t := by simp [State.catSync]
@[simp] theorem State.keeps_qRead (n : Nat) : Keeps L s (t.qRead n) ↔ Keeps L s t := by simp [State.qRead]
@[simp] theorem State.keeps_qwPut (h : .mem ∈ L) (n q k v : Nat) : Keeps L s (t.qwPut n q k v) ↔ Keeps L s t := by
  simp [State.qwPut, h]
@[simp] theorem State.keeps_dropHead (hc : .cds ∈ L) (hw : .waitq ∈ L) (n q : Nat) :
    Keeps L s (t.dropHead n q) ↔ Keeps L s t := by simp [State.dropHead, hc, hw]
@[simp] theorem State.keeps_qWrite (hm : .mem ∈ L) (hc : .cds ∈ L) (hw : .waitq ∈ L) (n : Nat) :
    Keeps L s (t.qWrite n) ↔ Keeps L s t := by simp [State.qWrite, State.mirror, hm, hc, hw]
@[simp] theorem State.keeps_sdPoll (h : .cds ∈ L) (n d : Nat) (ok : Bool) :
    Keeps L s (t.sdPoll n d ok) ↔ Keeps L s t := by simp [State.sdPoll, h]
@[simp] theorem State.keeps_intEoi (n : Nat) : Keeps L s (t.intEoi n) ↔ Keeps L s t := by simp [State.intEoi]
@[simp] theorem State.keeps_setAgState (a v : Nat) : Keeps L s (t.setAgState a v) ↔ Keeps L s t := by
  simp [State.setAgState]
@[simp] theorem State.keeps_dbgResumeSq (n k : Nat) : Keeps L s (t.dbgResumeSq n k) ↔ Keeps L s t := by
  simp [State.dbgResumeSq]

/-! ### The control pair (chapter 12) -/

@[simp] theorem State.keeps_rejoinGo (h : .cds ∈ L) (n : Nat) : Keeps L s (t.rejoinGo n) ↔ Keeps L s t := by
  simp [State.rejoinGo, h]
@[simp] theorem State.keeps_seize (h : .cds ∈ L) (n : Nat) (b : Bool) : Keeps L s (t.seize n b) ↔ Keeps L s t := by
  simp [State.seize, h]
@[simp] theorem State.keeps_pairSeize (h : .cds ∈ L) (n : Nat) : Keeps L s (t.pairSeize n) ↔ Keeps L s t := by
  simp [State.pairSeize, h]
@[simp] theorem State.keeps_pairHandover (h : .cds ∈ L) (n : Nat) : Keeps L s (t.pairHandover n) ↔ Keeps L s t := by
  simp [State.pairHandover, h]
@[simp] theorem State.keeps_pairRejoin (h : .cds ∈ L) (n : Nat) : Keeps L s (t.pairRejoin n) ↔ Keeps L s t := by
  simp [State.pairRejoin, h]
@[simp] theorem State.keeps_trigger (h : .cds ∈ L) (n c : Nat) : Keeps L s (t.trigger n c) ↔ Keeps L s t := by
  simp [State.trigger, h]
@[simp] theorem State.keeps_wdtPulse (h : .cds ∈ L) (n : Nat) : Keeps L s (t.wdtPulse n) ↔ Keeps L s t := by
  simp [State.wdtPulse, h]

/-! ### The bridge (chapter 14) -/

@[simp] theorem State.keeps_lbSync (n : Nat) : Keeps L s (t.lbSync n) ↔ Keeps L s t := by simp [State.lbSync]
@[simp] theorem State.keeps_lbLockReq (n d init : Nat) : Keeps L s (t.lbLockReq n d init) ↔ Keeps L s t := by
  simp [State.lbLockReq]
@[simp] theorem State.keeps_stageSync (n : Nat) : Keeps L s (t.stageSync n) ↔ Keeps L s t := by
  simp [State.stageSync]
@[simp] theorem State.keeps_setStage (h : .cds ∈ L) (n e : Nat) (x : Stage) :
    Keeps L s (t.setStage n e x) ↔ Keeps L s t := by simp [State.setStage, h]
@[simp] theorem State.keeps_modPort (h : .cds ∈ L) (n d : Nat) (f : LbPort → LbPort) :
    Keeps L s (t.modPort n d f) ↔ Keeps L s t := by simp [State.modPort, h]
@[simp] theorem State.keeps_modLdc (h : .cds ∈ L) (n d : Nat) (f : LbCache → LbCache) :
    Keeps L s (t.modLdc n d f) ↔ Keeps L s t := by simp [State.modLdc, h]
@[simp] theorem State.keeps_lbEnq (h : .cds ∈ L) (n d : Nat) (r : LbReq) : Keeps L s (t.lbEnq n d r) ↔ Keeps L s t := by
  simp [State.lbEnq, h]
@[simp] theorem State.keeps_lbHeartbeat (h : .cds ∈ L) (n d e : Nat) :
    Keeps L s (t.lbHeartbeat n d e) ↔ Keeps L s t := by simp [State.lbHeartbeat, h]
@[simp] theorem State.keeps_lbErr (n d kind init reg : Nat) : Keeps L s (t.lbErr n d kind init reg) ↔ Keeps L s t := by
  simp [State.lbErr]
@[simp] theorem State.keeps_lbStartWrite (h : .cds ∈ L) (n d init off : Nat) (ws : List Nat) :
    Keeps L s (t.lbStartWrite n d init off ws) ↔ Keeps L s t := by simp [State.lbStartWrite, h]
@[simp] theorem State.keeps_lbWrite (hc : .cds ∈ L) (hr : .rsp ∈ L) (n d unit off : Nat) (ws : List Nat) :
    Keeps L s (t.lbWrite n d unit off ws) ↔ Keeps L s t := by
  unfold State.lbWrite
  dsimp only
  simp [hc, hr]
/-- A read through the bridge: an error, or a staging entry that is used, freed or waited for (R530). -/
@[simp] theorem State.keeps_lbRead (hc : .cds ∈ L) (hr : .rsp ∈ L) (n d unit off : Nat) :
    Keeps L s (t.lbRead n d unit off) ↔ Keeps L s t := by
  unfold State.lbRead
  dsimp only
  iterate 3 (split; · simp [hr])
  split
  · simp [hc, hr]
  · split
    · split <;> simp [hc, hr]
    · split <;> simp [hc, hr]
@[simp] theorem State.keeps_lgNote (n kind e : Nat) : Keeps L s (t.lgNote n kind e) ↔ Keeps L s t := by
  simp [State.lgNote]
@[simp] theorem State.keeps_lgSagWrite (n v : Nat) : Keeps L s (t.lgSagWrite n v) ↔ Keeps L s t := by
  simp [State.lgSagWrite]
@[simp] theorem State.keeps_hbTestHold (n d : Nat) : Keeps L s (t.hbTestHold n d) ↔ Keeps L s t := by
  simp [State.hbTestHold]

/-! ### Listening (chapter 15) -/

@[simp] theorem State.keeps_modAud (h : .cds ∈ L) (n : Nat) (f : Audio → Audio) :
    Keeps L s (t.modAud n f) ↔ Keeps L s t := by simp [State.modAud, h]
@[simp] theorem State.keeps_capCons (n v : Nat) : Keeps L s (t.capCons n v) ↔ Keeps L s t := by simp [State.capCons]
@[simp] theorem State.keeps_beamsFresh (h : .cds ∈ L) (n : Nat) : Keeps L s (t.beamsFresh n) ↔ Keeps L s t := by
  simp [State.beamsFresh, h]
@[simp] theorem State.keeps_stageOne (h : .cds ∈ L) (n : Nat) (x : List (List Nat)) :
    Keeps L s (t.stageOne n x) ↔ Keeps L s t := by simp [State.stageOne, h]
@[simp] theorem State.keeps_stageZero (h : .cds ∈ L) (n : Nat) : Keeps L s (t.stageZero n) ↔ Keeps L s t := by
  simp [State.stageZero, h]
@[simp] theorem State.keeps_level (h : .fresh ∈ L) (l : List Nat) : Keeps L s (t.level l).1 ↔ Keeps L s t := by
  simp [State.level, h]
@[simp] theorem State.keeps_pushBlock (h : .cds ∈ L) (n : Nat) (l : List Byte) :
    Keeps L s (t.pushBlock n l) ↔ Keeps L s t := by simp [State.pushBlock, h]
@[simp] theorem State.keeps_blockOut (hc : .cds ∈ L) (hf : .fresh ∈ L) (n kw idx fl fr : Nat) (l : List Nat) :
    Keeps L s (t.blockOut n kw idx fl fr l) ↔ Keeps L s t := by simp [State.blockOut, hc, hf]
@[simp] theorem State.keeps_endSeg (hc : .cds ∈ L) (hf : .fresh ∈ L) (n fl : Nat) :
    Keeps L s (t.endSeg n fl) ↔ Keeps L s t := by
  unfold State.endSeg
  split <;> simp [hc, hf]
@[simp] theorem State.keeps_preroll (hc : .cds ∈ L) (hf : .fresh ∈ L) (n kw next total : Nat) (fs : List (List Nat))
    (ks : List Nat) : Keeps L s (t.preroll n kw next total fs ks) ↔ Keeps L s t := by
  induction ks generalizing t with
  | nil => rfl
  | cons k ks ih => simp [State.preroll, ih, hc, hf]
@[simp] theorem State.keeps_openSeg (hc : .cds ∈ L) (hf : .fresh ∈ L) (n kw : Nat) :
    Keeps L s (t.openSeg n kw) ↔ Keeps L s t := by simp [State.openSeg, hc, hf]
@[simp] theorem State.keeps_force2 (hc : .cds ∈ L) (hf : .fresh ∈ L) (n : Nat) (x : List (List Nat)) :
    Keeps L s (t.force2 n x) ↔ Keeps L s t := by simp [State.force2, hc, hf]
@[simp] theorem State.keeps_kwPop (h : .cds ∈ L) (n : Nat) : Keeps L s (t.kwPop n).1 ↔ Keeps L s t := by
  unfold State.kwPop
  dsimp only
  split <;> simp [h]
@[simp] theorem State.keeps_muteDies (on : Bool) {f : State → Nat → State}
    (h : ∀ u n, Keeps L s (f u n) ↔ Keeps L s u) : Keeps L s (t.muteDies on f) ↔ Keeps L s t := by
  simp [State.muteDies, h]
@[simp] theorem State.keeps_pbCtrl (n v : Nat) : Keeps L s (t.pbCtrl n v) ↔ Keeps L s t := by simp [State.pbCtrl]
@[simp] theorem State.keeps_pbProd (n v : Nat) : Keeps L s (t.pbProd n v) ↔ Keeps L s t := by simp [State.pbProd]
@[simp] theorem State.keeps_pocketLoad (h : .cds ∈ L) (n leaf first count : Nat) :
    Keeps L s (t.pocketLoad n leaf first count) ↔ Keeps L s t := by simp [State.pocketLoad, h]

end

end Sys2Proof.Machine
end

section
/-! SUPPORT. The frame of the commands of the area control (03 R64, 12 R428, 15 R569, 16 R608). -/

namespace Sys2Proof.Machine

/-! ### Commands that branch on what a record holds -/

theorem execPcieLinkUp_keeps (n : Fin 2) (s : State) : KeepsOut [.cds, .fresh] s (execPcieLinkUp n s) := by
  unfold execPcieLinkUp
  simp only [keepsOut_done]
  split
  · split <;> simp
  · simp
theorem execFolioTakeoverStart_keeps (d : Fin 4) (w : Fin 8) (s : State) :
    KeepsOut [.wings] s (execFolioTakeoverStart d w s) := by
  unfold execFolioTakeoverStart
  dsimp only
  split <;> simp
theorem execSlotPlanApply_keeps (d : Fin 4) (w : Fin 8) (s : State) :
    KeepsOut [.wings] s (execSlotPlanApply d w s) := by
  unfold execSlotPlanApply
  split
  · simp
  · split <;> simp
theorem execWriteLanded_keeps (d : Fin 4) (w : Fin 8) (s : State) :
    KeepsOut [.mem, .sems, .poison, .parity, .wings] s (execWriteLanded d w s) := by
  unfold execWriteLanded
  split <;> simp
theorem execReclaimComplete_keeps (d : Fin 4) (w : Fin 8) (c : Fin 16) (s : State) :
    KeepsOut [.sems, .wings] s (execReclaimComplete d w c s) := by
  unfold execReclaimComplete
  dsimp only
  split <;> simp
theorem execReclaimTimeout_keeps (d : Fin 4) (w : Fin 8) (c : Fin 16) (s : State) :
    KeepsOut [.sems, .wings] s (execReclaimTimeout d w c s) := by
  unfold execReclaimTimeout
  dsimp only
  split <;> simp
theorem execQueueSelect_keeps (n : Fin 2) (s : State) : KeepsOut [.cds] s (execQueueSelect n s) := by
  unfold execQueueSelect
  simp only [keepsOut_done]
  split
  · split <;> simp
  · simp
theorem execCaptureBlockMove_keeps (n : Fin 2) (s : State) :
    KeepsOut [.mem, .cds, .comErr, .fresh, .sems] s (execCaptureBlockMove n s) := by
  unfold execCaptureBlockMove
  dsimp only
  split <;> simp
theorem execMacDone_keeps (n : Fin 2) (s : State) : KeepsOut [.mem, .cds, .comErr, .fresh] s (execMacDone n s) := by
  unfold execMacDone
  split <;> simp

/-! ### Every command of the area -/

/-- A command of the area control changes no part but those listed for it. -/
theorem control_keeps (c : Instr) (s : State) (hc : areaOf c = .control) : KeepsOut (partsOf c) s (exec c s) := by
  cases c
  case bootDomainClocked n flash0 flash1 =>
    show KeepsOut [.cds] s (execBootDomainClocked n flash0 flash1 s)
    simp [execBootDomainClocked]
  case bootfailYield n => show KeepsOut [.cds] s (execBootfailYield n s); simp [execBootfailYield]
  case fallbackRequest n => show KeepsOut [.cds] s (execFallbackRequest n s); simp [execFallbackRequest]
  case hostWaitExpiry n => show KeepsOut [.cds] s (execHostWaitExpiry n s); simp [execHostWaitExpiry]
  case perstNRise => show KeepsOut [.cds, .pins] s (execPerstNRise s); simp [execPerstNRise]
  case perstNLow => show KeepsOut [.cds, .pins] s (execPerstNLow s); simp [execPerstNLow]
  case pcieLinkUp n => exact execPcieLinkUp_keeps n s
  case wimgStart n hostErr => show KeepsOut [.cds] s (execWimgStart n hostErr s); simp [execWimgStart]
  case wimgLoadBegin n hostErr => show KeepsOut [.cds] s (execWimgLoadBegin n hostErr s); simp [execWimgLoadBegin]
  case flRead n cs len => show KeepsOut [.cds] s (execFlRead n cs len s); simp [execFlRead]
  case flProgram n cs len => show KeepsOut [.cds] s (execFlProgram n cs len s); simp [execFlProgram]
  case flEraseSector n cs len => show KeepsOut [.cds] s (execFlEraseSector n cs len s); simp [execFlEraseSector]
  case flEraseBlock n cs len => show KeepsOut [.cds] s (execFlEraseBlock n cs len s); simp [execFlEraseBlock]
  case flashOpDone n ok => show KeepsOut [.mem, .cds] s (execFlashOpDone n ok s); simp [execFlashOpDone]
  case folioTakeoverStart d w => exact execFolioTakeoverStart_keeps d w s
  case folioReadmit d w => show KeepsOut [.wings] s (execFolioReadmit d w s); simp [execFolioReadmit]
  case folioRetry d w => show KeepsOut [.wings] s (execFolioRetry d w s); simp [execFolioRetry]
  case leafPrecWrite d w f v => show KeepsOut [] s (execLeafPrecWrite d w f v s); simp [execLeafPrecWrite]
  case shistClearAll d w => show KeepsOut [] s (execShistClearAll d w s); simp [execShistClearAll]
  case shistSet d w tag shift => show KeepsOut [] s (execShistSet d w tag shift s); simp [execShistSet]
  case shistClear d w tag => show KeepsOut [] s (execShistClear d w tag s); simp [execShistClear]
  case slotPlanLoad d w => show KeepsOut [.wings] s (execSlotPlanLoad d w s); simp [execSlotPlanLoad]
  case slotPlanApply d w => exact execSlotPlanApply_keeps d w s
  case slotPlanStuck d w => show KeepsOut [.wings] s (execSlotPlanStuck d w s); simp [execSlotPlanStuck]
  case noslotTimeout d w => show KeepsOut [] s (execNoslotTimeout d w s); simp [execNoslotTimeout]
  case patrolScrubRead d w b upset =>
    show KeepsOut [.poison, .parity, .wings] s (execPatrolScrubRead d w b upset s)
    simp [execPatrolScrubRead]
  case writeLanded d w => exact execWriteLanded_keeps d w s
  case creqPopRead d w => show KeepsOut [.wings, .rsp] s (execCreqPopRead d w s); simp [execCreqPopRead]
  case reclaimComplete d w c => exact execReclaimComplete_keeps d w c s
  case reclaimTimeout d w c => exact execReclaimTimeout_keeps d w c s
  case kvSetpool n unit d => show KeepsOut [.rsp] s (execKvSetpool n unit d s); simp [execKvSetpool]
  case kvReserve n unit d c => show KeepsOut [.rsp] s (execKvReserve n unit d c s); simp [execKvReserve]
  case kvRelease n unit d c => show KeepsOut [.rsp] s (execKvRelease n unit d c s); simp [execKvRelease]
  case retrainReceive k crcOk => show KeepsOut [] s (execRetrainReceive k crcOk s); simp [execRetrainReceive]
  case qCmdRead n => show KeepsOut [] s (execQCmdRead n s); simp [execQCmdRead]
  case qCmdWrite n => show KeepsOut [.mem, .cds, .waitq] s (execQCmdWrite n s); simp [execQCmdWrite]
  case queueSelect n => exact execQueueSelect_keeps n s
  case pairHeartbeatSend n line cross =>
    show KeepsOut [] s (execPairHeartbeatSend n line cross s)
    simp [execPairHeartbeatSend]
  case pairHeartbeatLoss n => show KeepsOut [.cds] s (execPairHeartbeatLoss n s); simp [execPairHeartbeatLoss]
  case wdtInPulse n => show KeepsOut [.cds] s (execWdtInPulse n s); simp [execWdtInPulse]
  case peerResetSignal n => show KeepsOut [.cds] s (execPeerResetSignal n s); simp [execPeerResetSignal]
  case takeoverComplete n => show KeepsOut [.cds, .fresh] s (execTakeoverComplete n s); simp [execTakeoverComplete]
  case pairHandover n => show KeepsOut [.cds] s (execPairHandover n s); simp [execPairHandover]
  case pairSeize n => show KeepsOut [.cds] s (execPairSeize n s); simp [execPairSeize]
  case seizeReleaseTimer n => show KeepsOut [.cds] s (execSeizeReleaseTimer n s); simp [execSeizeReleaseTimer]
  case rejoinReceive n => show KeepsOut [.cds] s (execRejoinReceive n s); simp [execRejoinReceive]
  case pairRejoin n => show KeepsOut [.cds] s (execPairRejoin n s); simp [execPairRejoin]
  case sleepHeartbeatSend n => show KeepsOut [.cds] s (execSleepHeartbeatSend n s); simp [execSleepHeartbeatSend]
  case sleepBeatMiss n => show KeepsOut [.cds] s (execSleepBeatMiss n s); simp [execSleepBeatMiss]
  case sleepPartnerLost n => show KeepsOut [.cds] s (execSleepPartnerLost n s); simp [execSleepPartnerLost]
  case sleepSeizeReceive n => show KeepsOut [.cds, .fresh] s (execSleepSeizeReceive n s); simp [execSleepSeizeReceive]
  case wdtExpiryHandover n => show KeepsOut [.cds] s (execWdtExpiryHandover n s); simp [execWdtExpiryHandover]
  case lbusBridgeWrite n d unit off words =>
    show KeepsOut [.cds, .rsp] s (execLbusBridgeWrite n d unit off words s)
    simp [execLbusBridgeWrite]
  case lbusBridgeRead n d unit off =>
    show KeepsOut [.cds, .rsp] s (execLbusBridgeRead n d unit off s)
    simp [execLbusBridgeRead]
  case stagedDataExpiry n e => show KeepsOut [.cds] s (execStagedDataExpiry n e s); simp [execStagedDataExpiry]
  case lbLockReq n d unit => show KeepsOut [] s (execLbLockReq n d unit s); simp [execLbLockReq]
  case lbusHbTimer n fresh => show KeepsOut [.cds] s (execLbusHbTimer n fresh s); simp [execLbusHbTimer]
  case lbusPoll n d => show KeepsOut [.cds] s (execLbusPoll n d s); simp [execLbusPoll]
  case telemetryRead n => show KeepsOut [.cds] s (execTelemetryRead n s); simp [execTelemetryRead]
  case lgSagWrite n v => show KeepsOut [] s (execLgSagWrite n v s); simp [execLgSagWrite]
  case kwHoldExpiry n => show KeepsOut [.cds] s (execKwHoldExpiry n s); simp [execKwHoldExpiry]
  case force2 n history => show KeepsOut [.cds, .fresh] s (execForce2 n history s); simp [execForce2]
  case captureBlockMove n => exact execCaptureBlockMove_keeps n s
  case capConsWrite n v => show KeepsOut [] s (execCapConsWrite n v s); simp [execCapConsWrite]
  case pocketLoad n leaf first count =>
    show KeepsOut [.cds] s (execPocketLoad n leaf first count s)
    simp [execPocketLoad]
  case kwPopRead n => show KeepsOut [.cds, .rsp] s (execKwPopRead n s); simp [execKwPopRead]
  case muteNLow => show KeepsOut [.cds, .fresh, .pins] s (execMuteNLow s); simp [execMuteNLow]
  case muteNRise => show KeepsOut [.pins] s (execMuteNRise s); simp [execMuteNRise]
  case muteRelease => show KeepsOut [.cds, .pins] s (execMuteRelease s); simp [execMuteRelease]
  case pbCtrlWrite n v => show KeepsOut [] s (execPbCtrlWrite n v s); simp [execPbCtrlWrite]
  case pbProdWrite n v => show KeepsOut [] s (execPbProdWrite n v s); simp [execPbProdWrite]
  case pbSampleConsume n =>
    show KeepsOut [.mem, .comErr, .fresh, .sems] s (execPbSampleConsume n s)
    simp [execPbSampleConsume]
  case dbgGo n => show KeepsOut [.cds] s (execDbgGo n s); simp [execDbgGo]
  case macGo n => show KeepsOut [.cds] s (execMacGo n s); simp [execMacGo]
  case trngReady n us => show KeepsOut [] s (execTrngReady n us s); simp [execTrngReady]
  case trngHealthFail n apt => show KeepsOut [.cds] s (execTrngHealthFail n apt s); simp [execTrngHealthFail]
  case hbtestHold n d => show KeepsOut [] s (execHbtestHold n d s); simp [execHbtestHold]
  case hbtestTimeout n d => show KeepsOut [] s (execHbtestTimeout n d s); simp [execHbtestTimeout]
  case sdSumPoll n d ok => show KeepsOut [.cds] s (execSdSumPoll n d ok s); simp [execSdSumPoll]
  case intEoiWrite n => show KeepsOut [] s (execIntEoiWrite n s); simp [execIntEoiWrite]
  case eoiWindowEnd n => show KeepsOut [] s (execEoiWindowEnd n s); simp [execEoiWindowEnd]
  case dbgResume n mask => show KeepsOut [] s (execDbgResume n mask s); simp [execDbgResume]
  case lpclkLoss n => show KeepsOut [] s (execLpclkLoss n s); simp [execLpclkLoss]
  case lpclkReturn n => show KeepsOut [] s (execLpclkReturn n s); simp [execLpclkReturn]
  case tamperNRelease => show KeepsOut [.pins] s (execTamperNRelease s); simp [execTamperNRelease]
  case macDone n => exact execMacDone_keeps n s
  all_goals cases hc

/-- Settles O57, by cases on the command. -/
theorem framesOfControlCommands : Obligations.FramesOfControlCommands :=
  fun c s t hc h => control_keeps c s hc t h

end Sys2Proof.Machine
end

section
/-! SUPPORT. What a power-up leaves alone. `Calm W s t` says that the watched register fields, the watched power records
of Control dies, and the Stack dies' records where they are watched, read the same in `s` and `t`. As with `Keeps`, an
operation that changes none of them has one lemma, tagged `simp`, that drops it on the right side of `Calm W`. -/

namespace Sys2Proof.Machine

/-- What of a Control die's record a power-up decides. -/
structure DiePower where
  mainUp : Bool
  bootUp : Bool
  bootClk : Bool
  flash0 : Bool
  stackOn : Bool
  claimsOut : List Nat
  shelf : Shelf
def CdX.power (x : CdX) : DiePower := ⟨x.mainUp, x.bootUp, x.bootClk, x.flash0, x.stackOn, x.claimsOut, x.shelf⟩
/-- A change of a record that leaves that alone. -/
def CdX.SamePower (f : CdX → CdX) : Prop := ∀ x, CdX.power (f x) = CdX.power x
@[simp] theorem CdX.samePower_iff {f : CdX → CdX} : CdX.SamePower f ↔ ∀ x, (f x).mainUp = x.mainUp ∧
    (f x).bootUp = x.bootUp ∧ (f x).bootClk = x.bootClk ∧ (f x).flash0 = x.flash0 ∧ (f x).stackOn = x.stackOn ∧
    (f x).claimsOut = x.claimsOut ∧ (f x).shelf = x.shelf := by
  simp only [CdX.SamePower, CdX.power, DiePower.mk.injEq]

/-- What is watched: the power of some Control dies, the records of the Stack dies, and some keys of register fields. -/
structure Watch where
  die : Nat → Prop
  sds : Nat → Prop
  key : Nat → Prop

/-- `s` and `t` agree in what `W` watches. -/
def Calm (W : Watch) (s t : State) : Prop :=
  (∀ n, W.die n → (t.cdx n).power = (s.cdx n).power) ∧ (∀ d, W.sds d → t.sdx d = s.sdx d) ∧
    ∀ k, W.key k → ∀ d, Store.get d t.fld k = Store.get d s.fld k

/-! ### Registers that a power-up watches -/

/-- Offsets in a Control die of CLEAR_STAT, PMB_STAT, PAIR_STAT, BOOT_STAT and SEC_BOOTNO. -/
def ctlOff (o : Nat) : Bool :=
  o == 0x50 || (decide (0x340 ≤ o) && decide (o < 0x380)) || o == 0x3000 || o == 0x4000 || o == 0x5004
/-- A field of one of these registers, on either die. -/
def bootKey (k : Nat) : Bool := ctlOff (k / 32 - cd 0) || ctlOff (k / 32 - cd 1)
/-- A field of PMB_STAT of die `n`. -/
def railKey (n k : Nat) : Bool := decide (cd n + 0x340 ≤ k / 32) && decide (k / 32 < cd n + 0x380)
/-- A field of a register beside these. -/
def Fld.quiet (f : Fld) : Bool := decide (f.lo < 32) && decide (f.off < 2 ^ 32) && !ctlOff f.off

/-- `W` watches only registers of `ctlOff`. -/
def Watch.Boot (W : Watch) : Prop := ∀ k, W.key k → bootKey k = true
/-- `W` watches no register but PMB_STAT of die `n`. -/
def Watch.Rails (W : Watch) (n : Nat) : Prop := ∀ k, W.key k → railKey n k = true

/-- `W` watches no register. -/
def Watch.Blind (W : Watch) : Prop := ∀ k, ¬ W.key k

theorem fkey_div (b : Nat) (f : Fld) (h : f.lo < 32) : fkey b f / 32 = b + f.off := by
  simp only [fkey]; omega

theorem bootKey_eq_false_of_far {k : Nat} (h : 4 * 2 ^ 36 ≤ k / 32) : bootKey k = false := by
  simp only [bootKey, ctlOff, Bool.or_eq_false_iff, Bool.and_eq_false_iff, beq_eq_false_iff_ne,
    decide_eq_false_iff_not]
  have h0 : cd 0 = 0x1300000000 := rfl
  have h1 : cd 1 = 0x2300000000 := rfl
  omega

section
variable {W : Watch}

theorem Watch.Blind.not_key (hK : W.Blind) (k : Nat) : ¬ W.key k := hK k
theorem Watch.Blind.boot (hK : W.Blind) : W.Boot := fun k hk => absurd hk (hK k)
theorem Watch.Blind.rails (hK : W.Blind) (n : Nat) : W.Rails n := fun k hk => absurd hk (hK k)
theorem Watch.Boot.not_key (hW : W.Boot) {k : Nat} (h : bootKey k = false) : ¬ W.key k :=
  fun hk => by simp [hW k hk] at h
@[simp] theorem Watch.not_key_cd (hW : W.Boot) {n : Nat} {f : Fld} (hf : f.quiet = true) : ¬ W.key (fkey (cd n) f) := by
  refine hW.not_key ?_
  simp only [Fld.quiet, ctlOff, Bool.and_eq_true, decide_eq_true_eq, Bool.not_eq_true', Bool.or_eq_false_iff,
    Bool.and_eq_false_iff, beq_eq_false_iff_ne, decide_eq_false_iff_not] at hf
  obtain ⟨⟨hlo, hoff⟩, hq⟩ := hf
  simp only [bootKey, ctlOff, fkey_div _ f hlo, cd, Bool.or_eq_false_iff, Bool.and_eq_false_iff, beq_eq_false_iff_ne,
    decide_eq_false_iff_not]
  omega
@[simp] theorem Watch.not_key_sd (hW : W.Boot) {d : Nat} {f : Fld} (hf : f.lo < 32) : ¬ W.key (fkey (sd d) f) :=
  hW.not_key (bootKey_eq_false_of_far (by rw [fkey_div _ _ hf]; simp only [sd]; omega))
@[simp] theorem Watch.not_key_wg (hW : W.Boot) {d w : Nat} {f : Fld} (hf : f.lo < 32) : ¬ W.key (fkey (wg d w) f) :=
  hW.not_key (bootKey_eq_false_of_far (by rw [fkey_div _ _ hf]; simp only [wg]; omega))
/-- A register of die `n` behind PMB_STAT, however far. -/
theorem Watch.Rails.not_key {n : Nat} (hR : W.Rails n) {f : Fld} (hf : f.lo < 32) (ho : 0x380 ≤ f.off) :
    ¬ W.key (fkey (cd n) f) := by
  intro hk
  have h := hR _ hk
  simp only [railKey, fkey_div _ _ hf, Bool.and_eq_true, decide_eq_true_eq] at h
  omega

end

section
variable {W : Watch} {s t u : State}

@[simp] theorem Calm.refl (W : Watch) (s : State) : Calm W s s := ⟨fun _ _ => rfl, fun _ _ => rfl, fun _ _ _ => rfl⟩
theorem Calm.symm (h : Calm W s t) : Calm W t s :=
  ⟨fun n hn => (h.1 n hn).symm, fun d hd => (h.2.1 d hd).symm, fun k hk d => (h.2.2 k hk d).symm⟩
theorem Calm.trans (h : Calm W s t) (h' : Calm W t u) : Calm W s u :=
  ⟨fun n hn => (h'.1 n hn).trans (h.1 n hn), fun d hd => (h'.2.1 d hd).trans (h.2.1 d hd),
    fun k hk d => (h'.2.2 k hk d).trans (h.2.2 k hk d)⟩
theorem Calm.congr_right (h : Calm W t u) : Calm W s u ↔ Calm W s t :=
  ⟨fun h' => h'.trans h.symm, fun h' => h'.trans h⟩
theorem Calm.power (h : Calm W s t) {n : Nat} (hn : W.die n) : (t.cdx n).power = (s.cdx n).power := h.1 n hn
section
variable {n : Nat} (h : Calm W s t) (hn : W.die n)
include h hn

theorem Calm.mainUp : (t.cdx n).mainUp = (s.cdx n).mainUp := congrArg DiePower.mainUp (h.power hn)
theorem Calm.bootUp : (t.cdx n).bootUp = (s.cdx n).bootUp := congrArg DiePower.bootUp (h.power hn)
theorem Calm.bootClk : (t.cdx n).bootClk = (s.cdx n).bootClk := congrArg DiePower.bootClk (h.power hn)
theorem Calm.flash0 : (t.cdx n).flash0 = (s.cdx n).flash0 := congrArg DiePower.flash0 (h.power hn)
theorem Calm.stackOn : (t.cdx n).stackOn = (s.cdx n).stackOn := congrArg DiePower.stackOn (h.power hn)
theorem Calm.claimsOut : (t.cdx n).claimsOut = (s.cdx n).claimsOut := congrArg DiePower.claimsOut (h.power hn)
theorem Calm.shelf : (t.cdx n).shelf = (s.cdx n).shelf := congrArg DiePower.shelf (h.power hn)

end

theorem Calm.sdx (h : Calm W s t) {d : Nat} (hd : W.sds d) : t.sdx d = s.sdx d := h.2.1 d hd
theorem Calm.rd (h : Calm W s t) {b : Nat} {f : Fld} (hk : W.key (fkey b f)) : t.rd b f = s.rd b f := h.2.2 _ hk _

/-! ### Control structure -/

@[simp ↓] theorem Calm.ite {c : Prop} [Decidable c] :
    Calm W s (if c then t else u) ↔ if c then Calm W s t else Calm W s u := by split <;> rfl
theorem Calm.foldl_mem {β : Type} {g : State → β → State} (l : List β)
    (h : ∀ u, ∀ x ∈ l, Calm W s (g u x) ↔ Calm W s u) : Calm W s (l.foldl g t) ↔ Calm W s t := by
  induction l generalizing t with
  | nil => rfl
  | cons x xs ih =>
    exact (ih (t := g t x) fun u y hy => h u y (List.mem_cons_of_mem _ hy)).trans (h t x List.mem_cons_self)
@[simp] theorem Calm.foldl {β : Type} {g : State → β → State} (l : List β)
    (h : ∀ u x, Calm W s (g u x) ↔ Calm W s u) : Calm W s (l.foldl g t) ↔ Calm W s t :=
  Calm.foldl_mem l fun u x _ => h u x

/-! ### The state's own updates -/

/-- An update that leaves fields, Control dies and Stack dies alone. -/
theorem Calm.of_eq (hf : u.fld = t.fld) (hc : u.cds = t.cds) (hs : u.sds = t.sds) : Calm W s u ↔ Calm W s t :=
  Calm.congr_right ⟨fun n _ => by simp only [State.cdx, hc], fun d _ => by simp only [State.sdx, hs], fun k _ d => by rw [hf]⟩
/-- An update of fields that are not watched. -/
theorem Calm.of_fld (hf : ∀ k, W.key k → ∀ d, Store.get d u.fld k = Store.get d t.fld k) (hc : u.cds = t.cds)
    (hs : u.sds = t.sds) : Calm W s u ↔ Calm W s t :=
  Calm.congr_right ⟨fun n _ => by simp only [State.cdx, hc], fun d _ => by simp only [State.sdx, hs], hf⟩

@[simp] theorem State.calm_wr {b : Nat} {f : Fld} (h : ¬ W.key (fkey b f)) (v : Nat) :
    Calm W s (t.wr b f v) ↔ Calm W s t :=
  Calm.of_fld (fun k hk d => State.get_wr_other t b f v d k fun e => h (e ▸ hk)) rfl rfl
theorem State.calm_clearRegs {lo hi : Nat} (h : ∀ k, W.key k → k < lo * 32 ∨ hi * 32 ≤ k) :
    Calm W s (t.clearRegs lo hi) ↔ Calm W s t :=
  Calm.of_fld (fun k hk d => Store.get_clear_other d t.fld _ _ _ (h k hk)) rfl rfl
/-- A range of registers of no Control die. -/
@[simp] theorem State.calm_clearRegs_far (hW : W.Boot) {lo hi : Nat} (h : 4 * 2 ^ 36 ≤ lo) :
    Calm W s (t.clearRegs lo hi) ↔ Calm W s t := by
  refine State.calm_clearRegs fun k hk => ?_
  by_contra hc
  exact hW.not_key (bootKey_eq_false_of_far (by omega)) hk
theorem State.calm_modCd_other {n : Nat} (h : ¬ W.die n) (f : CdX → CdX) :
    Calm W s (t.modCd n f) ↔ Calm W s t :=
  Calm.congr_right ⟨fun m hm => by rw [State.cdx_modCd_other _ _ _ _ (by rintro rfl; exact h hm)],
    fun _ _ => rfl, fun _ _ _ => rfl⟩
@[simp] theorem State.calm_modCd {f : CdX → CdX} (h : CdX.SamePower f) (n : Nat) :
    Calm W s (t.modCd n f) ↔ Calm W s t := by
  refine Calm.congr_right ⟨fun m _ => ?_, fun _ _ => rfl, fun _ _ _ => rfl⟩
  by_cases e : m = n
  · subst e; rw [State.cdx_modCd_same, h]
  · rw [State.cdx_modCd_other _ _ _ _ e]
theorem State.sdx_modSd_other (s : State) (a b : Nat) (f : SdX → SdX) (h : b ≠ a) : (s.modSd a f).sdx b = s.sdx b := by
  simp [State.sdx, State.modSd, Store.get_put_other _ _ _ _ _ _ h]
@[simp] theorem State.calm_modSd {d : Nat} (h : ¬ W.sds d) (f : SdX → SdX) : Calm W s (t.modSd d f) ↔ Calm W s t :=
  Calm.congr_right ⟨fun _ _ => rfl, fun e he => State.sdx_modSd_other _ _ _ _ (by rintro rfl; exact h he),
    fun _ _ _ => rfl⟩

end

end Sys2Proof.Machine
end

section
/-! SUPPORT. Operations that are calm: fields and records beside those a power-up decides (chapters 2, 3, 6, 7, 13). -/

namespace Sys2Proof.Machine

section
variable {W : Watch} {s t : State}

/-! ### Fields of registers -/

@[simp] theorem State.calm_wrb {b : Nat} {f : Fld} (h : ¬ W.key (fkey b f)) (v : Bool) :
    Calm W s (t.wrb b f v) ↔ Calm W s t := State.calm_wr h _
@[simp] theorem State.calm_inc {b : Nat} {f : Fld} (h : ¬ W.key (fkey b f)) : Calm W s (t.inc b f) ↔ Calm W s t :=
  State.calm_wr h _
theorem State.calm_raiseIn {b : Nat} {c : Fld} {l : List (Fld × Nat)} (hc : ¬ W.key (fkey b c))
    (hl : ∀ p ∈ l, ¬ W.key (fkey b p.1)) : Calm W s (t.raiseIn b c l) ↔ Calm W s t := by
  have h : Calm W s (l.foldl (fun s p => s.wr b p.1 (s.rd b p.1 ||| p.2)) t) ↔ Calm W s t :=
    Calm.foldl_mem l fun u p hp => State.calm_wr (hl p hp) _
  simp only [State.raiseIn, Calm.ite, State.calm_inc hc, h, ite_self]
@[simp] theorem State.calm_raise {b : Nat} {f : Fld} (hc : ¬ W.key (fkey b (cnt32 f))) (hf : ¬ W.key (fkey b f)) :
    Calm W s (t.raise b f) ↔ Calm W s t :=
  State.calm_raiseIn hc fun p hp => by rw [List.mem_singleton.1 hp]; exact hf
@[simp] theorem State.calm_raiseBit {b : Nat} {f : Fld} (hc : ¬ W.key (fkey b (cnt32 f))) (hf : ¬ W.key (fkey b f))
    (i : Nat) : Calm W s (t.raiseBit b f i) ↔ Calm W s t :=
  State.calm_raiseIn hc fun p hp => by rw [List.mem_singleton.1 hp]; exact hf
@[simp] theorem State.calm_sysEvent {n : Nat} {f : Fld} (hc : ¬ W.key (fkey (cd n) (cnt32 f)))
    (hf : ¬ W.key (fkey (cd n) f)) : Calm W s (t.sysEvent n f) ↔ Calm W s t := State.calm_raise hc hf
/-- A log register: its VALID and MORE bits, and the fields it takes. -/
theorem State.calm_capture {b off stride : Nat} {l : List (Nat × Fld × Nat)} (hv : ¬ W.key (fkey b ⟨off, 31, 31, 0, stride⟩))
    (hm : ¬ W.key (fkey b ⟨off, 30, 30, 0, stride⟩)) (hl : ∀ p ∈ l, ¬ W.key (fkey p.1 p.2.1)) :
    Calm W s (t.capture b off stride l) ↔ Calm W s t := by
  unfold State.capture
  split
  · exact State.calm_wr hm _
  · rw [Calm.foldl_mem l fun u p hp => State.calm_wr (hl p hp) _, State.calm_wr hm, State.calm_wr hv]
@[simp] theorem State.calm_addrErr (hW : W.Boot) (n kind init : Nat) (w : Bool) (a : Nat) :
    Calm W s (t.addrErr n kind init w a) ↔ Calm W s t := by
  have h : ∀ u : State, Calm W s (u.capture (cd n) R.ADDR_ERR_HI_VALID.off 0 [(cd n, R.ADDR_ERR_HI_KIND, kind),
      (cd n, R.ADDR_ERR_HI_INIT, init), (cd n, R.ADDR_ERR_HI_WRITE, b2n w),
      (cd n, R.ADDR_ERR_HI_ADDR_HI, a / 2 ^ 32), (cd n, R.ADDR_ERR_LO_ADDR_LO, a % 2 ^ 32)]) ↔ Calm W s u :=
    fun u => State.calm_capture (by simp +decide [hW]) (by simp +decide [hW]) (by simp +decide [hW])
  simp +decide only [State.addrErr, Calm.ite, h, State.calm_sysEvent, Watch.not_key_cd, hW, not_false_eq_true, ite_self]

/-! ### Parts without fields and records -/

@[simp] theorem State.calm_clearMem (lo hi : Nat) : Calm W s (t.clearMem lo hi) ↔ Calm W s t := Calm.of_eq rfl rfl rfl
@[simp] theorem State.calm_stb (a : Nat) (x : Byte) : Calm W s (t.stb a x) ↔ Calm W s t := Calm.of_eq rfl rfl rfl
@[simp] theorem State.calm_draw (w : Nat) : Calm W s (t.draw w).1 ↔ Calm W s t := Calm.of_eq rfl rfl rfl
@[simp] theorem State.calm_modLink (k : Nat) (f : LinkPort → LinkPort) : Calm W s (t.modLink k f) ↔ Calm W s t :=
  Calm.of_eq rfl rfl rfl
@[simp] theorem State.calm_modAgent (a : Nat) (f : Agent → Agent) : Calm W s (t.modAgent a f) ↔ Calm W s t :=
  Calm.of_eq rfl rfl rfl
@[simp] theorem State.calm_modWing (i : Nat) (f : WingX → WingX) : Calm W s (t.modWing i f) ↔ Calm W s t :=
  Calm.of_eq rfl rfl rfl
@[simp ↓] theorem State.calm_comErr (x : Store (List Nat)) : Calm W s { t with comErr := x } ↔ Calm W s t :=
  Calm.of_eq rfl rfl rfl
@[simp] theorem State.calm_stn (a : Nat) (l : List Byte) : Calm W s (t.stn a l) ↔ Calm W s t := by
  induction l generalizing t a with
  | nil => rfl
  | cons x xs ih => simp [State.stn, ih]
@[simp] theorem State.calm_stw (a n v : Nat) : Calm W s (t.stw a n v) ↔ Calm W s t := by simp [State.stw]
@[simp] theorem State.calm_mainMem (n : Nat) (b : Bool) : Calm W s (t.mainMem n b) ↔ Calm W s t :=
  Calm.of_eq rfl rfl rfl
@[simp] theorem State.calm_accWake (d : Nat) : Calm W s (t.accWake d) ↔ Calm W s t := Calm.of_eq rfl rfl rfl

/-! ### Dies and links (chapters 2 and 7) -/

theorem quiet_diesFld (k : Nat) : (diesFld k).quiet = true ∧ (cnt32 (diesFld k)).quiet = true := by
  unfold diesFld; split <;> decide
@[simp] theorem State.calm_setDieOn (hW : W.Boot) (n k v : Nat) : Calm W s (t.setDieOn n k v) ↔ Calm W s t := by
  simp +decide [State.setDieOn, hW, (quiet_diesFld k).1]
@[simp] theorem State.calm_setDie (hW : W.Boot) (k v : Nat) : Calm W s (t.setDie k v) ↔ Calm W s t := by
  simp [State.setDie, hW]
/-- TRAIN of a port is no field of `ctlOff`. -/
theorem Watch.not_key_train (hW : W.Boot) (k : Nat) : ¬ W.key (fkey (fTrain k).1 (fTrain k).2) := by
  unfold fTrain portFld
  split
  · exact Watch.not_key_sd (f := R.LNK_STAT_TRAIN.at (k % 4)) hW (show 28 < 32 by decide)
  · have h : (k - 16) % 5 < 5 := Nat.mod_lt _ (by decide)
    have hq : ∀ p < 5, (R.CD_LNK_STAT_TRAIN.at p).quiet = true := by decide
    exact Watch.not_key_cd hW (hq _ h)
@[simp] theorem State.calm_startTrain (hW : W.Boot) (l kind : Nat) : Calm W s (t.startTrain l kind) ↔ Calm W s t := by
  have h : ∀ k, ((if kind = 1 then R.LNK_TRN_FULL else R.LNK_TRN_SHORT).at k).lo < 32 := by
    intro k; split <;> simp [Fld.at]
  refine Calm.foldl _ fun u k => ?_
  simp [Watch.not_key_train hW, Watch.not_key_sd hW (h _)]
@[simp] theorem State.calm_trainLinks (hW : W.Boot) (l : List Nat) (kind : Nat) :
    Calm W s (t.trainLinks l kind) ↔ Calm W s t := by
  simp [State.trainLinks, hW]
@[simp] theorem State.calm_dieOut (hW : W.Boot) {d : Nat} (hd : ¬ W.sds d) (n : Nat) :
    Calm W s (t.dieOut n d) ↔ Calm W s t := by simp [State.dieOut, hW, hd]

/-! ### Messages (chapter 7) -/

@[simp] theorem State.calm_linkPump (k : Nat) : Calm W s (t.linkPump k) ↔ Calm W s t := by simp [State.linkPump]
@[simp] theorem State.calm_opFault (m : Msg) (code : Nat) : Calm W s (t.opFault m code) ↔ Calm W s t := by
  simp [State.opFault]
@[simp] theorem State.calm_semSignal (hW : W.Boot) (k v : Nat) : Calm W s (t.semSignal k v) ↔ Calm W s t := by
  have h : Calm W s { t with sems := Store.put 0 t.sems k (min (Store.get 0 t.sems k + v) 65535) } ↔ Calm W s t :=
    Calm.of_eq rfl rfl rfl
  simp +decide [State.semSignal, hW, h]
@[simp] theorem State.calm_deliver (hW : W.Boot) (m : Msg) : Calm W s (t.deliver m) ↔ Calm W s t := by
  have h : Calm W s { t with inbox := t.inbox ++ [m] } ↔ Calm W s t := Calm.of_eq rfl rfl rfl
  simp [State.deliver, hW, h]
@[simp] theorem State.calm_forward (hW : W.Boot) (a : Nat) (m : Msg) : Calm W s (t.forward a m) ↔ Calm W s t := by
  unfold State.forward
  split
  · simp [hW]
  · split <;> simp
@[simp] theorem State.calm_send (hW : W.Boot) (m : Msg) : Calm W s (t.send m) ↔ Calm W s t := by simp [State.send, hW]
@[simp] theorem State.calm_sendBehind (hW : W.Boot) (n d : Nat) (m : Msg) :
    Calm W s (t.sendBehind n d m) ↔ Calm W s t := by simp [State.sendBehind, hW]

/-! ### Commons (chapter 12) -/

@[simp] theorem State.calm_comLog (hW : W.Boot) (n kind master i bit : Nat) :
    Calm W s (t.comLog n kind master i bit) ↔ Calm W s t := by
  have h : ∀ u : State, Calm W s (u.capture (cd n) R.COM_ERR_LOG_VALID.off 0 [(cd n, R.COM_ERR_LOG_KIND, kind),
      (cd n, R.COM_ERR_LOG_MASTER, master), (cd n, R.COM_ERR_LOG_WORD, i), (cd n, R.COM_ERR_BIT_BIT, bit)]) ↔ Calm W s u :=
    fun u => State.calm_capture (by simp +decide [hW]) (by simp +decide [hW]) (by simp +decide [hW])
  simp +decide only [State.comLog, Calm.ite, h, State.calm_raise, State.calm_inc, Watch.not_key_cd, hW,
    not_false_eq_true, ite_self]
@[simp] theorem State.calm_comFlip (n i b : Nat) : Calm W s (t.comFlip n i b) ↔ Calm W s t := by simp [State.comFlip]
@[simp] theorem State.calm_comCheck (hW : W.Boot) (n master i : Nat) :
    Calm W s (t.comCheck n master i).1 ↔ Calm W s t := by
  unfold State.comCheck
  split
  · rfl
  · simp [hW]
  · simp [hW]
  · simp only [apply_ite Prod.fst]
    simp [hW]
@[simp] theorem State.calm_comRead (hW : W.Boot) (n master o len : Nat) :
    Calm W s (t.comRead n master o len).1 ↔ Calm W s t := by
  have h : ∀ (l : List Nat) (x : State × Bool),
      Calm W s (l.foldl (fun x i => ((x.1.comCheck n master i).1, x.2 || (x.1.comCheck n master i).2)) x).1 ↔
        Calm W s x.1 := by
    intro l
    induction l with
    | nil => exact fun _ => Iff.rfl
    | cons i l ih => intro x; simp [ih, hW]
  exact h _ _
@[simp] theorem State.calm_comWrite (hW : W.Boot) (n master o : Nat) (l : List Byte) :
    Calm W s (t.comWrite n master o l) ↔ Calm W s t := by simp [State.comWrite, hW]

/-! ### The sweep (chapters 3 and 6) -/

@[simp] theorem State.calm_rrSweep (hW : W.Boot) (d : Nat) : Calm W s (t.rrSweep d) ↔ Calm W s t := by
  have hw : ∀ w o, 4 * 2 ^ 36 ≤ wg d w + o := by intro w o; simp only [wg]; omega
  have hs : ∀ o, 4 * 2 ^ 36 ≤ sd d + o := by intro o; simp only [sd]; omega
  have h : ∀ (u : State) (p : Store Bool) (q r : Store Nat),
      Calm W s { u with poison := p, parity := q, sems := r } ↔ Calm W s u := fun _ _ _ _ => Calm.of_eq rfl rfl rfl
  simp only [State.rrSweep, State.calm_clearRegs_far hW (hs _), State.calm_clearRegs_far hW (hw _ _),
    State.calm_modWing, State.calm_clearMem, Calm.foldl, implies_true, h]
@[simp] theorem State.calm_loadWings (hW : W.Boot) (n d : Nat) : Calm W s (t.loadWings n d) ↔ Calm W s t := by
  refine Calm.foldl _ fun u e => ?_
  have h : ∀ (u : State) w x, Calm W s ((u.modCd n (fun x => { x with loadsOut := x.loadsOut ++ [wix d w] })).sendBehind
      n d x) ↔ Calm W s u := fun u w x => by simp [hW]
  simp [hW, h]

/-! ### The bridge (chapter 13) -/

@[simp] theorem State.calm_modPort (n d : Nat) (f : LbPort → LbPort) : Calm W s (t.modPort n d f) ↔ Calm W s t := by
  simp [State.modPort]
@[simp] theorem State.calm_modLdc (n d : Nat) (f : LbCache → LbCache) : Calm W s (t.modLdc n d f) ↔ Calm W s t := by
  simp [State.modLdc]
@[simp] theorem State.calm_lbEnq (n d : Nat) (r : LbReq) : Calm W s (t.lbEnq n d r) ↔ Calm W s t := by
  simp [State.lbEnq]
@[simp] theorem State.calm_lbSync (hW : W.Boot) (n : Nat) : Calm W s (t.lbSync n) ↔ Calm W s t := by
  simp +decide [State.lbSync, hW]
@[simp] theorem State.calm_otpReads (n : Nat) : Calm W s (t.otpReads n) ↔ Calm W s t := by simp [State.otpReads]
@[simp] theorem State.calm_ledgerFind (n : Nat) (b : Bool) : Calm W s (t.ledgerFind n b) ↔ Calm W s t := by
  simp [State.ledgerFind]
@[simp] theorem State.calm_newHeartbeats (n : Nat) : Calm W s (t.newHeartbeats n) ↔ Calm W s t := by
  simp [State.newHeartbeats]
@[simp] theorem State.calm_listenDefaults (hW : W.Boot) (n : Nat) :
    Calm W s (t.listenDefaults n) ↔ Calm W s t := by
  simp +decide [State.listenDefaults, hW]

/-! ### The end of a command -/

/-- The keys of the outputs that the end of a command settles are not watched. -/
theorem State.calm_settle (h : ∀ k, W.key k → k ∉ settleKeys) : Calm W s t.settle ↔ Calm W s t :=
  Calm.of_fld (fun k hk d => t.settle_get d k (h k hk)) t.settle_cds t.settle_sds

end

end Sys2Proof.Machine
end

section
/-! SUPPORT. The claim of the active role (R64 steps 7 and 8, R68): the main islands of a die come up and leave the other
die's boot status and both dies' pair status alone. -/

namespace Sys2Proof.Machine

@[simp] theorem State.cdx_wr (s : State) (b : Nat) (f : Fld) (v n : Nat) : (s.wr b f v).cdx n = s.cdx n := rfl
@[simp] theorem State.cdx_wrb (s : State) (b : Nat) (f : Fld) (v : Bool) (n : Nat) : (s.wrb b f v).cdx n = s.cdx n := rfl
@[simp] theorem State.cdx_settle (s : State) (n : Nat) : s.settle.cdx n = s.cdx n := by simp [State.cdx]
@[simp] theorem State.rd_wrb_same (s : State) (b : Nat) (f : Fld) (v : Bool) :
    (s.wrb b f v).rd b f = b2n v % 2 ^ (f.hi + 1 - f.lo) := s.rd_wr_same b f _
theorem State.rd_wrb_other (s : State) (b c : Nat) (f g : Fld) (v : Bool) (h : fkey c g ≠ fkey b f) :
    (s.wrb b f v).rd c g = s.rd c g := s.rd_wr_other b c f g _ h

/-- A field of another word, or that begins at another bit, is not the one written. -/
@[simp] theorem State.rd_wr_ne {f g : Fld} (h : f.off * 32 + f.lo ≠ g.off * 32 + g.lo) (s : State) (b v : Nat) :
    (s.wr b g v).rd b f = s.rd b f := s.rd_wr_other b b g f v (by simp only [fkey]; omega)
@[simp] theorem State.rd_wrb_ne {f g : Fld} (h : f.off * 32 + f.lo ≠ g.off * 32 + g.lo) (s : State) (b : Nat)
    (v : Bool) : (s.wrb b g v).rd b f = s.rd b f := State.rd_wr_ne h s b _

/-- A register of another Control die is not the one written. -/
@[simp] theorem State.rd_wr_die {f g : Fld} {m n : Nat} (h : f.off < 2 ^ 32 ∧ f.lo < 32 ∧ g.off < 2 ^ 32 ∧ g.lo < 32)
    (hn : m ≠ n) (s : State) (v : Nat) : (s.wr (cd n) g v).rd (cd m) f = s.rd (cd m) f :=
  s.rd_wr_other (cd n) (cd m) g f v (by simp only [fkey, cd]; omega)
@[simp] theorem State.rd_wrb_die {f g : Fld} {m n : Nat} (h : f.off < 2 ^ 32 ∧ f.lo < 32 ∧ g.off < 2 ^ 32 ∧ g.lo < 32)
    (hn : m ≠ n) (s : State) (v : Bool) : (s.wrb (cd n) g v).rd (cd m) f = s.rd (cd m) f := State.rd_wr_die h hn s _
@[simp] theorem State.rd_ite {c : Prop} [Decidable c] (s t : State) (b : Nat) (f : Fld) :
    (if c then s else t).rd b f = if c then s.rd b f else t.rd b f := by split <;> rfl

/-! ### What a die's coming up leaves alone -/

/-- PAIR_STAT of both dies, and BOOT_STAT of the other die than `m`. -/
def awayKey (m k : Nat) : Bool :=
  k / 32 == cd 0 + 0x3000 || k / 32 == cd 1 + 0x3000 || k / 32 == cd (1 - m) + 0x4000
/-- `W` watches only these. -/
def Watch.Away (W : Watch) (m : Nat) : Prop := ∀ k, W.key k → awayKey m k = true

section
variable {W : Watch} {s t : State} {m : Nat}

theorem awayKey_iff (hm : m < 2) (k : Nat) : awayKey m k = true ↔
    k / 32 = 0x1300003000 ∨ k / 32 = 0x2300003000 ∨ k / 32 = 0x2300004000 - m * 0x1000000000 := by
  have h0 : cd 0 = 0x1300000000 := rfl
  have h1 : cd 1 = 0x2300000000 := rfl
  have hn : cd (1 - m) = 0x2300000000 - m * 0x1000000000 := by simp only [cd]; omega
  simp only [awayKey, Bool.or_eq_true, beq_iff_eq, h0, h1, hn]
  omega
theorem Watch.Away.boot (hA : W.Away m) (hm : m < 2) : W.Boot := by
  intro k hk
  have h := (awayKey_iff hm k).1 (hA k hk)
  have h0 : cd 0 = 0x1300000000 := rfl
  have h1 : cd 1 = 0x2300000000 := rfl
  simp only [bootKey, ctlOff, h0, h1, Bool.or_eq_true, Bool.and_eq_true, beq_iff_eq, decide_eq_true_eq]
  omega
/-- A range of registers of die `m` without PAIR_STAT. -/
theorem Watch.Away.not_range (hA : W.Away m) (hm : m < 2) {lo hi : Nat} (h : hi ≤ 0x3000 ∨ 0x3004 ≤ lo)
    (hhi : hi ≤ 2 ^ 32) (k : Nat) (hk : W.key k) : k < (cd m + lo) * 32 ∨ (cd m + hi) * 32 ≤ k := by
  have ha := (awayKey_iff hm k).1 (hA k hk)
  have hc : cd m = m * 0x1000000000 + 0x1300000000 := by simp only [cd]; omega
  rw [hc]
  omega
/-- A field of die `m` beside PAIR_STAT. -/
theorem Watch.Away.not_key (hA : W.Away m) (hm : m < 2) {f : Fld}
    (hf : f.lo < 32 ∧ f.off < 2 ^ 32 ∧ f.off ≠ 0x3000) : ¬ W.key (fkey (cd m) f) := by
  intro hk
  obtain ⟨hlo, hoff, hne⟩ := hf
  have ha := (awayKey_iff hm _).1 (hA _ hk)
  have hc : cd m = m * 0x1000000000 + 0x1300000000 := by simp only [cd]; omega
  rw [fkey_div _ _ hlo, hc] at ha
  omega
theorem State.calm_dropRegs (hA : W.Away m) (hm : m < 2) {l : List (Nat × Nat)}
    (h : ∀ r ∈ l, (r.2 ≤ 0x3000 ∨ 0x3004 ≤ r.1) ∧ r.2 ≤ 2 ^ 32) : Calm W s (t.dropRegs m l) ↔ Calm W s t :=
  Calm.foldl_mem l fun _ r hr => State.calm_clearRegs (hA.not_range hm (h r hr).1 (h r hr).2)

/-! ### Step 8 -/

/-- Step 8 up to the phase: the registers and memories clear, and the main islands are powered. -/
def State.mainsPower (s : State) (n : Nat) (restart : Bool) : State :=
  let b := cd n
  let s := (s.dropRegs n mainRanges).mainMem n !restart
  let s := s.modCd n (fun x => { x with mainUp := true, held := false, restarted := restart })
  let s := ((s.wr b R.CLEAR_STAT_SEQMEM 1).wr b R.CLEAR_STAT_CATALOGUE 1).wr b R.CLEAR_STAT_COMMONS 1
  s.wr b R.BOOT_STAT_PHASE 3
/-- The rest of step 8: the ledger, listening, the bridge, DIES and the links. -/
def State.mainsFill (s : State) (n : Nat) (restart : Bool) : State :=
  let s := s.ledgerStart n
  let s := (s.listenDefaults n).otpReads n
  let s := [0, 1].foldl (fun s d => s.setDieOn n (6 + d) (if (s.ldx d).inReset then 1 else 2)) s
  let s := if restart then s
    else
      let s := (List.range 4).foldl (fun s d => s.setDieOn n (2 + d) 1) (s.wr (cd n) R.CLEAR_STAT_RROOM 0)
      if s.isActive n then s.ledgerFind n true else s
  (s.lbSync n).trainLinks (cdLinks n) 1
theorem State.mainsUp_eq (s : State) (n : Nat) (restart : Bool) :
    s.mainsUp n restart = (s.mainsPower n restart).mainsFill n restart := rfl

@[simp] theorem State.calm_lgSync (hW : W.Boot) (n : Nat) : Calm W s (t.lgSync n) ↔ Calm W s t := by
  simp +decide [State.lgSync, hW]
@[simp] theorem State.calm_ledgerStart (hW : W.Boot) (n : Nat) : Calm W s (t.ledgerStart n) ↔ Calm W s t := by
  have hq : ∀ k < 17, (R.LG_PTAB_UNITS.at k).quiet = true := by decide
  have h : ∀ (v : Nat → Nat) (u : State), Calm W s ((List.range 17).foldl
      (fun s k => s.wr (cd n) (R.LG_PTAB_UNITS.at k) (v k)) u) ↔ Calm W s u := fun v u =>
    Calm.foldl_mem _ fun u k hk => State.calm_wr (Watch.not_key_cd hW (hq k (List.mem_range.1 hk))) _
  simp +decide [State.ledgerStart, hW, h]
theorem State.calm_mainsFill (hW : W.Boot) {n : Nat} (hR : ¬ W.key (fkey (cd n) R.CLEAR_STAT_RROOM)) (restart : Bool) :
    Calm W s (t.mainsFill n restart) ↔ Calm W s t := by
  simp [State.mainsFill, hW, hR]
theorem State.calm_mainsPower (hA : W.Away m) (hm : m < 2) (hd : ¬ W.die m) (restart : Bool) :
    Calm W s (t.mainsPower m restart) ↔ Calm W s t := by
  have hk : ∀ f : Fld, f.lo < 32 ∧ f.off < 2 ^ 32 ∧ f.off ≠ 0x3000 → ¬ W.key (fkey (cd m) f) := fun f => hA.not_key hm
  have hr : ∀ u : State, Calm W s (u.dropRegs m mainRanges) ↔ Calm W s u := fun u =>
    State.calm_dropRegs hA hm (by decide)
  simp [State.mainsPower, State.calm_modCd_other hd, hr, hk]
theorem State.calm_mainsUp (hA : W.Away m) (hm : m < 2) (hd : ¬ W.die m) (restart : Bool) :
    Calm W s (t.mainsUp m restart) ↔ Calm W s t := by
  rw [State.mainsUp_eq, State.calm_mainsFill (hA.boot hm) (hA.not_key hm (by decide)), State.calm_mainsPower hA hm hd]

/-- A die whose main islands come up shows phase 3 (R64 step 8). -/
def State.raised (s : State) (n : Nat) : Prop := (s.cdx n).mainUp = true ∧ s.phase n = 3
/-- The main islands of die `n`, and its phase. -/
def raisedWatch (n : Nat) : Watch := ⟨(· = n), fun _ => False, (· = fkey (cd n) R.BOOT_STAT_PHASE)⟩

theorem Calm.raised {n : Nat} (h : Calm (raisedWatch n) s t) (hs : s.raised n) : t.raised n := by
  obtain ⟨hup, hph⟩ := hs
  exact ⟨(h.mainUp rfl).trans hup, (h.rd (f := R.BOOT_STAT_PHASE) rfl).trans hph⟩
theorem raisedWatch_boot {n : Nat} (hn : n < 2) : (raisedWatch n).Boot := by
  intro k hk
  have h : ∀ n < 2, bootKey (fkey (cd n) R.BOOT_STAT_PHASE) = true := by decide
  exact hk ▸ h n hn
theorem State.mainsPower_raised (s : State) (n : Nat) (restart : Bool) : (s.mainsPower n restart).raised n := by
  simp [State.raised, State.mainsPower, State.phase]
theorem State.mainsUp_raised (s : State) {n : Nat} (hn : n < 2) (restart : Bool) : (s.mainsUp n restart).raised n := by
  refine Calm.raised (s := s.mainsPower n restart) ?_ (s.mainsPower_raised n restart)
  rw [State.mainsUp_eq, State.calm_mainsFill (raisedWatch_boot hn)]
  · exact Calm.refl _ _
  · have h : ∀ n < 2, fkey (cd n) R.CLEAR_STAT_RROOM ≠ fkey (cd n) R.BOOT_STAT_PHASE := by decide
    exact h n hn

/-! ### The other die (R68) -/

@[simp] theorem State.calm_secSync (hW : W.Boot) (n : Nat) : Calm W s (t.secSync n) ↔ Calm W s t := by
  simp +decide [State.secSync, hW]
theorem State.calm_bootDown (hA : W.Away m) (hm : m < 2) (hd : ¬ W.die m) :
    Calm W s (t.bootDown m) ↔ Calm W s t := by
  have hk : ∀ f : Fld, f.lo < 32 ∧ f.off < 2 ^ 32 ∧ f.off ≠ 0x3000 → ¬ W.key (fkey (cd m) f) := fun f => hA.not_key hm
  have hr : ∀ u : State, Calm W s (u.dropRegs m [(0x180, 0x1A0), (0x4000, 0x4200), (0x5000, 0x5080),
      (0x5100, 0x5400)]) ↔ Calm W s u := fun u => State.calm_dropRegs hA hm (by decide)
  simp [State.bootDown, State.calm_modCd_other hd, hr, hk, hA.boot hm]
theorem State.calm_standbyUp (hA : W.Away m) (hm : m < 2) (hd : ¬ W.die m)
    (hp : ∀ n < 2, ¬ W.key (fkey (cd n) R.PAIR_STAT_PARTNER)) : Calm W s (t.standbyUp m) ↔ Calm W s t := by
  simp [State.standbyUp, State.retireDie, State.calm_bootDown hA hm hd, State.calm_mainsUp hA hm hd,
    State.calm_wr (hp m hm), State.calm_wr (hp (1 - m) (by omega)), hA.boot hm]

/-! ### Step 7 -/

@[simp] theorem State.calm_freshSlots (hW : W.Boot) (n : Nat) : Calm W s (t.freshSlots n) ↔ Calm W s t := by
  have hq : ∀ slot < 32, (R.SLOT_ATTR_VALID.at slot).quiet = true := by decide
  refine Calm.foldl _ fun u k => Calm.foldl_mem _ fun u slot hs => ?_
  have h := Watch.not_key_cd (n := k) hW (hq slot (List.mem_range.1 hs))
  simp [h]

/-- ROLE of both dies and the epoch of die `n` show its claim. -/
def State.roleShown (s : State) (n : Nat) : Prop :=
  s.isActive n = true ∧ s.isActive (1 - n) = false ∧ s.rd (cd n) R.PAIR_STAT_EPOCH = 1
def roleKeys : List Nat :=
  [fkey (cd 0) R.PAIR_STAT_ROLE, fkey (cd 1) R.PAIR_STAT_ROLE, fkey (cd 0) R.PAIR_STAT_EPOCH, fkey (cd 1) R.PAIR_STAT_EPOCH]
/-- The roles and epochs of both dies. -/
def roleWatch : Watch := ⟨fun _ => False, fun _ => False, (· ∈ roleKeys)⟩

theorem Calm.roleShown {n : Nat} (hn : n < 2) (h : Calm roleWatch s t) (hs : s.roleShown n) : t.roleShown n := by
  have hk : ∀ n < 2, fkey (cd n) R.PAIR_STAT_ROLE ∈ roleKeys ∧ fkey (cd n) R.PAIR_STAT_EPOCH ∈ roleKeys := by decide
  obtain ⟨ha, ho, he⟩ := hs
  have hr : ∀ n < 2, t.isActive n = s.isActive n := fun n hn => by
    simp only [State.isActive, State.flag, h.rd (hk n hn).1]
  exact ⟨(hr n hn).trans ha, (hr _ (by omega)).trans ho, (h.rd (hk n hn).2).trans he⟩
theorem roleWatch_away {m : Nat} (hm : m < 2) : roleWatch.Away m := by
  have h : ∀ m < 2, ∀ k ∈ roleKeys, awayKey m k = true := by decide
  exact h m hm
theorem raisedWatch_away {n : Nat} (hn : n < 2) : (raisedWatch n).Away (1 - n) := by
  intro k hk
  have h : ∀ n < 2, awayKey (1 - n) (fkey (cd n) R.BOOT_STAT_PHASE) = true := by decide
  exact hk ▸ h n hn

/-- The claim up to the roles. -/
def State.claimRole (s : State) (n : Nat) : State :=
  (((s.setEpoch 0 1).setEpoch 1 1).setRole n).wrb (cd n) R.PAIR_STAT_SEIZE_UNCONF (s.cdx n).sleepUnconf
theorem State.claim_eq (s : State) (n : Nat) : s.claim n =
    (((((s.claimRole n).modCd n (fun x => { x with sleepUnconf := false })).freshSlots n).mainsUp n
      false).newHeartbeats n).standbyUp (1 - n) := rfl
theorem State.claimRole_roleShown {n : Nat} (hn : n < 2) (s : State) : (s.claimRole n).roleShown n := by
  have h : n = 0 ∨ n = 1 := by omega
  obtain rfl | rfl := h <;>
  · simp +decide [State.roleShown, State.isActive, State.flag, State.claimRole, State.setRole, State.setEpoch,
      State.rd_wr_other, State.rd_wrb_other]

/-- After the claim die `n` is the active die with epoch 1, and its main islands are up. -/
theorem State.claim_shown {n : Nat} (hn : n < 2) (s : State) : (s.claim n).roleShown n ∧ (s.claim n).raised n := by
  have hb : roleWatch.Boot := (roleWatch_away hn).boot hn
  have hp : ∀ n < 2, fkey (cd n) R.PAIR_STAT_PARTNER ∉ roleKeys := by decide
  have hph : ∀ n < 2, ∀ m < 2, fkey (cd m) R.PAIR_STAT_PARTNER ≠ fkey (cd n) R.BOOT_STAT_PHASE := by decide
  rw [State.claim_eq]
  constructor
  · refine Calm.roleShown (s := s.claimRole n) hn ?_ (s.claimRole_roleShown hn)
    rw [State.calm_standbyUp (roleWatch_away (by omega)) (by omega) not_false hp, State.calm_newHeartbeats,
      State.calm_mainsUp (roleWatch_away hn) hn not_false, State.calm_freshSlots hb, State.calm_modCd (by simp)]
    exact Calm.refl _ _
  · generalize State.freshSlots _ n = u
    refine Calm.raised (s := u.mainsUp n false) ?_ (u.mainsUp_raised hn false)
    rw [State.calm_standbyUp (raisedWatch_away hn) (by omega) (by simp only [raisedWatch]; omega) fun m hm => hph n hn m hm,
      State.calm_newHeartbeats]
    exact Calm.refl _ _

end

end Sys2Proof.Machine
end

section
/-! SUPPORT. The ledger is calm (chapter 14): its entries lie behind every register that a power-up watches on the same
die, so a decision of the ledger leaves PMB_STAT of its die alone. -/

namespace Sys2Proof.Machine

section
variable {W : Watch} {s t : State} {n : Nat}

/-! ### Agents (chapter 8) -/

theorem Watch.not_key_ag (hW : W.Boot) (a : Nat) {f : Fld} (hf : f.quiet = true) : ¬ W.key (fkey (agBase a) f) := by
  unfold agBase
  split
  · exact Watch.not_key_cd hW hf
  · have h : f.lo < 32 := by
      simp only [Fld.quiet, Bool.and_eq_true, decide_eq_true_eq] at hf
      exact hf.1.1
    exact Watch.not_key_wg hW h
theorem quiet_fState (a : Nat) : (fState a).quiet = true := by
  have h : ∀ k < 8, (R.SQ_STAT_STATE.at k).quiet = true := by decide
  unfold fState
  split
  · exact h _ (Nat.mod_lt _ (by decide))
  · decide
@[simp] theorem State.calm_setAgState (hW : W.Boot) (a v : Nat) : Calm W s (t.setAgState a v) ↔ Calm W s t :=
  State.calm_wr (Watch.not_key_ag hW a (quiet_fState a)) v
@[simp] theorem State.calm_logFault (hW : W.Boot) (a engine code pc : Nat) :
    Calm W s (t.logFault a engine code pc) ↔ Calm W s t := by
  have hq : ∀ k < 8, (R.SQ_FLT_ENGINE.at k).quiet = true ∧ (R.SQ_FLT_CODE.at k).quiet = true ∧
      (R.SQ_FLT_PC.at k).quiet = true ∧ (⟨(R.SQ_FLT_VALID.at k).off, 31, 31, 0, 0⟩ : Fld).quiet = true ∧
      (⟨(R.SQ_FLT_VALID.at k).off, 30, 30, 0, 0⟩ : Fld).quiet = true := by decide
  have hag : ∀ f : Fld, f.quiet = true → ¬ W.key (fkey (agBase a) f) := fun f => Watch.not_key_ag hW a
  obtain ⟨he, hc, hp, hv, hm⟩ := hq (a % 8) (Nat.mod_lt _ (by decide))
  unfold State.logFault
  dsimp only
  split
  · exact State.calm_capture (hag _ hv) (hag _ hm) (by simp [hag _ he, hag _ hc, hag _ hp])
  · exact State.calm_capture (hag _ (by decide)) (hag _ (by decide)) (by simp +decide [hag])
@[simp] theorem State.calm_qfill (hW : W.Boot) (a : Nat) : Calm W s (t.qfill a) ↔ Calm W s t := by
  unfold State.qfill
  split
  · rfl
  · next h =>
    rw [show agBase a = wg (wcDie a) (wcWing a) from if_neg h]
    simp [hW]
@[simp] theorem State.calm_modEng (hW : W.Boot) (a e : Nat) (f : Engine → Engine) :
    Calm W s (t.modEng a e f) ↔ Calm W s t := by simp [State.modEng, hW]
@[simp] theorem State.calm_abandon (hW : W.Boot) (a : Nat) : Calm W s (t.abandon a) ↔ Calm W s t := by
  have h : ∀ (u : State) (x : List (Nat × Nat)), Calm W s { u with waitq := x } ↔ Calm W s u :=
    fun _ _ => Calm.of_eq rfl rfl rfl
  simp only [State.abandon, State.calm_modAgent, h, Calm.foldl, State.calm_modEng hW, implies_true]
@[simp] theorem State.calm_trapAt (hW : W.Boot) (a engine code pc tcode : Nat) :
    Calm W s (t.trapAt a engine code pc tcode) ↔ Calm W s t := by simp [State.trapAt, hW]
@[simp] theorem State.calm_stopNow (hW : W.Boot) (a : Nat) : Calm W s (t.stopNow a) ↔ Calm W s t := by
  simp [State.stopNow, hW]
@[simp] theorem State.calm_boundary (hW : W.Boot) (a : Nat) : Calm W s (t.boundary a) ↔ Calm W s t := by
  unfold State.boundary
  dsimp only
  split
  · rfl
  · split <;> simp [hW]
@[simp] theorem State.calm_unhold (hW : W.Boot) (a : Nat) (f : Agent → Agent) :
    Calm W s (t.unhold a f) ↔ Calm W s t := by simp [State.unhold, hW]
@[simp] theorem State.calm_sW (a i : Nat) (v : Word) : Calm W s (t.sW a i v) ↔ Calm W s t := by simp [State.sW]
@[simp] theorem State.calm_answer (hW : W.Boot) (w : Option (Nat × Nat)) (status : Nat) :
    Calm W s (t.answer w status) ↔ Calm W s t := by
  unfold State.answer
  split <;> simp [hW]
@[simp] theorem State.calm_csemSig (hW : W.Boot) (n : Nat) (k : Option Nat) :
    Calm W s (t.csemSig n k) ↔ Calm W s t := by
  unfold State.csemSig
  split <;> simp [hW]

/-! ### Entries of the ledger -/

@[simp] theorem State.calm_lgWr (hR : W.Rails n) {f : Fld} (hf : f.lo < 32 ∧ 0x380 ≤ f.off) (e v : Nat) :
    Calm W s (t.lgWr n e f v) ↔ Calm W s t :=
  State.calm_wr (hR.not_key (f := f.at e) hf.1 (Nat.le_trans hf.2 (Nat.le_add_right _ _))) v
@[simp] theorem State.calm_modLg (n e : Nat) (f : LgX → LgX) : Calm W s (t.modLg n e f) ↔ Calm W s t := by
  simp [State.modLg]
@[simp] theorem State.calm_modLvl (n d : Nat) (f : LvlX → LvlX) : Calm W s (t.modLvl n d f) ↔ Calm W s t := by
  simp [State.modLvl]
@[simp] theorem State.calm_lgStamp (n : Nat) : Calm W s (t.lgStamp n) ↔ Calm W s t := by simp [State.lgStamp]
@[simp] theorem State.calm_lgClear (hR : W.Rails n) (e : Nat) : Calm W s (t.lgClear n e) ↔ Calm W s t := by
  have h : ∀ k, W.key k → k < (cd n + 0x7200 + 8 * e) * 32 ∨ (cd n + 0x7208 + 8 * e) * 32 ≤ k := by
    intro k hk
    have hr := hR k hk
    simp only [railKey, Bool.and_eq_true, decide_eq_true_eq] at hr
    omega
  simp [State.lgClear, State.calm_clearRegs h]
@[simp] theorem State.calm_lgNote (hW : W.Boot) (n kind e : Nat) : Calm W s (t.lgNote n kind e) ↔ Calm W s t := by
  have h : ∀ u : State, Calm W s (u.capture (cd n) R.LG_LOG_VALID.off 0
      [(cd n, R.LG_LOG_KIND, kind), (cd n, R.LG_LOG_ENTRY, e), (cd n, R.LG_LOG_CAP, t.lgC n)]) ↔ Calm W s u :=
    fun u => State.calm_capture (by simp +decide [hW]) (by simp +decide [hW]) (by simp +decide [hW])
  simp only [State.lgNote, h]
  split
  · simp +decide [hW]
  · split
    · simp +decide [hW]
    · split <;> simp +decide [hW]
@[simp] theorem State.calm_lgUnwait (n x : Nat) : Calm W s (t.lgUnwait n x) ↔ Calm W s t := by simp [State.lgUnwait]
@[simp] theorem State.calm_lgReply (hW : W.Boot) (n e : Nat) (q : LgReq) (code : Nat) :
    Calm W s (t.lgReply n e q code) ↔ Calm W s t := by simp [State.lgReply, hW]
@[simp] theorem State.calm_lgWrite (n e why op : Nat) (q : LgReq) (amt code : Nat) :
    Calm W s (t.lgWrite n e why op q amt code) ↔ Calm W s t := by simp [State.lgWrite]
@[simp] theorem State.calm_lgRelevel (n d : Nat) : Calm W s (t.lgRelevel n d) ↔ Calm W s t := by
  simp [State.lgRelevel]
@[simp] theorem State.calm_lgReamount (hR : W.Rails n) (d : Nat) : Calm W s (t.lgReamount n d) ↔ Calm W s t := by
  have h : ∀ (c : Nat → Nat) (l : List Nat) (x : State × Nat),
      Calm W s (l.foldl (fun p e => (p.1.lgWr n e R.GNT_A_AMOUNT (c e - p.2), max p.2 (c e))) x).1 ↔ Calm W s x.1 := by
    intro c l
    induction l with
    | nil => exact fun _ => Iff.rfl
    | cons e l ih => intro x; exact (ih _).trans (State.calm_lgWr hR (by decide) _ _)
  exact h _ _ _

/-! ### Decisions -/

@[simp] theorem State.calm_lgEndClaim (hR : W.Rails n) (e : Nat) (dfr : Bool) :
    Calm W s (t.lgEndClaim n e dfr) ↔ Calm W s t := by simp [State.lgEndClaim, hR]
@[simp] theorem State.calm_lgDropClaim (hR : W.Rails n) (e : Nat) (dfr : Bool) :
    Calm W s (t.lgDropClaim n e dfr) ↔ Calm W s t := by simp [State.lgDropClaim, hR]
@[simp] theorem State.calm_lgShed (hW : W.Boot) (hR : W.Rails n) (e : Nat) :
    Calm W s (t.lgShed n e) ↔ Calm W s t := by simp [State.lgShed, hW, hR]
@[simp] theorem State.calm_lgDemote (hW : W.Boot) (hR : W.Rails n) (e : Nat) :
    Calm W s (t.lgDemote n e) ↔ Calm W s t := by simp [State.lgDemote, hW, hR]
@[simp] theorem State.calm_lgRestore (hW : W.Boot) (hR : W.Rails n) : Calm W s (t.lgRestore n) ↔ Calm W s t := by
  simp [State.lgRestore, hW, hR, -List.foldl_reverse]
@[simp] theorem State.calm_lgApply (hW : W.Boot) (hR : W.Rails n) (e : Nat) :
    Calm W s (t.lgApply n e) ↔ Calm W s t := by
  unfold State.lgApply
  split <;> simp [hW, hR]
@[simp] theorem State.calm_lgGrant (hW : W.Boot) (hR : W.Rails n) (e : Nat) (q : LgReq) (seek guar : Bool)
    (demote shed : List Nat) : Calm W s (t.lgGrant n e q seek guar demote shed) ↔ Calm W s t := by
  simp [State.lgGrant, hW, hR]
@[simp] theorem State.calm_lgRetry (hW : W.Boot) (hR : W.Rails n) (e : Nat) :
    Calm W s (t.lgRetry n e) ↔ Calm W s t := by
  unfold State.lgRetry
  split
  · split
    · split <;> simp [hW, hR]
    · rfl
  · rfl
@[simp] theorem State.calm_lgReconsider (hW : W.Boot) (hR : W.Rails n) :
    Calm W s (t.lgReconsider n) ↔ Calm W s t := by simp [State.lgReconsider, hW, hR]
@[simp] theorem State.calm_lgAfter (hW : W.Boot) (hR : W.Rails n) : Calm W s (t.lgAfter n) ↔ Calm W s t := by
  simp [State.lgAfter, hW, hR]
@[simp] theorem State.calm_fixedFree (hW : W.Boot) (hR : W.Rails n) (d : Nat) :
    Calm W s (t.fixedFree n d) ↔ Calm W s t := by simp [State.fixedFree, hW, hR]
@[simp] theorem State.calm_lgFixed (hW : W.Boot) (hR : W.Rails n) (d : Nat) :
    Calm W s (t.lgFixed n d).1 ↔ Calm W s t := by
  unfold State.lgFixed
  dsimp only
  split <;> simp [hW, hR]

end

end Sys2Proof.Machine
end

section
/-! The claim of the active role by CD0, or by CD1 (R68). -/

namespace Sys2Proof.Machine

theorem State.roleShown_settle {n : Nat} (hn : n < 2) {s : State} (h : s.roleShown n) : s.settle.roleShown n := by
  have hk : ∀ k ∈ roleKeys, k ∉ settleKeys := by decide
  exact Calm.roleShown hn ((State.calm_settle hk).2 (Calm.refl _ s)) h
theorem State.raised_settle {n : Nat} (hn : n < 2) {s : State} (h : s.raised n) : s.settle.raised n := by
  have hk : ∀ n < 2, fkey (cd n) R.BOOT_STAT_PHASE ∉ settleKeys := by decide
  exact Calm.raised ((State.calm_settle fun k (e : k = _) => e ▸ hk n hn).2 (Calm.refl _ s)) h
theorem State.claim_settle_shown {n : Nat} (hn : n < 2) (s : State) :
    (s.claim n).settle.roleShown n ∧ (s.claim n).settle.raised n :=
  ⟨State.roleShown_settle hn (State.claim_shown hn s).1, State.raised_settle hn (State.claim_shown hn s).2⟩

theorem activeClaim_shows (n : Fin 2) (s : State) (hm : s.mayClaim n = true)
    (hc : n = 0 ∨ bitOf (s.cdx 1).shelf.retire 0 = true ∨ (s.cdx 0).sleepSeized = true) :
    ∃ t, exec (.activeClaim n) s = .next t ∧ t.isActive n = true ∧ t.isActive (1 - n.val) = false ∧
      t.rd (cd n) R.PAIR_STAT_EPOCH = 1 ∧ (t.cdx n).mainUp = true ∧ t.phase n = 3 := by
  have hgo : (s.mayClaim n && (n.val == 0 || bitOf (s.cdx 1).shelf.retire 0 || (s.cdx 0).sleepSeized)) = true := by
    rw [hm, Bool.true_and]
    obtain rfl | hr | hs := hc
    · rfl
    · simp [hr]
    · simp [hs]
  obtain ⟨⟨ha, ho, he⟩, hup, hph⟩ := State.claim_settle_shown n.isLt s
  exact ⟨_, congrArg done (if_pos hgo), ha, ho, he, hup, hph⟩
theorem cd1ClaimTimeout_shows (s : State) (hm : s.mayClaim 1 = true) :
    ∃ t, exec .cd1ClaimTimeout s = .next t ∧ t.isActive 1 = true ∧ t.isActive 0 = false ∧
      t.rd (cd 1) R.PAIR_STAT_EPOCH = 1 ∧ (t.cdx 1).mainUp = true ∧ t.phase 1 = 3 := by
  obtain ⟨⟨ha, ho, he⟩, hup, hph⟩ := State.claim_settle_shown (n := 1) (by decide) s
  exact ⟨_, congrArg done (if_pos hm), ha, ho, he, hup, hph⟩

end Sys2Proof.Machine
end

section
/-! The boot domain, the shelf list, and the endpoints (R64 steps 5, 6, 10 and 11). -/

namespace Sys2Proof.Machine

/-! ### The boot domain is clocked (step 5) -/

/-- The boot domain of die `n`, with its phase, its second flash and BOOTNO. -/
def clockedWatch (n : Nat) : Watch := ⟨(· = n), fun _ => False,
  (· ∈ [fkey (cd n) R.BOOT_STAT_PHASE, fkey (cd n) R.BOOT_STAT_FLASH1_PRESENT, fkey (cd n) R.SEC_BOOTNO_BOOTNO])⟩
theorem clockedWatch_boot {n : Nat} (hn : n < 2) : (clockedWatch n).Boot := by
  have h : ∀ n < 2, ∀ k ∈ [fkey (cd n) R.BOOT_STAT_PHASE, fkey (cd n) R.BOOT_STAT_FLASH1_PRESENT,
      fkey (cd n) R.SEC_BOOTNO_BOOTNO], bootKey k = true := by decide
  exact h n hn

section
variable {W : Watch} {s t : State}

theorem State.calm_slotWrite (hW : W.Boot) (n : Nat) {slot : Nat} (hs : slot < 32) (v e f : Bool) (p u : Nat)
    (key : List Byte) : Calm W s (t.slotWrite n slot v e f p u key) ↔ Calm W s t := by
  have hq : ∀ k < 32, (R.SLOT_ATTR_VALID.at k).quiet = true ∧ (R.SLOT_ATTR_KIND.at k).quiet = true ∧
      (R.SLOT_ATTR_FRESH.at k).quiet = true ∧ (R.SLOT_ATTR_PURPOSE.at k).quiet = true ∧
      (R.SLOT_ATTR_USES.at k).quiet = true := by decide
  obtain ⟨hv, hk, hf, hp, hu⟩ := hq slot hs
  simp [State.slotWrite, hW, hv, hk, hf, hp, hu]
theorem State.calm_vaultSlot (hW : W.Boot) (n : Nat) {slot : Nat} (hs : slot < 32) :
    Calm W s (t.vaultSlot n slot) ↔ Calm W s t := by
  unfold State.vaultSlot
  split
  · simp [State.calm_slotWrite hW n hs]
  · simp +decide [State.calm_slotWrite hW n hs, hW]
theorem State.calm_vaultSlots (hW : W.Boot) (n : Nat) :
    Calm W s ((List.range 32).foldl (fun s slot => s.vaultSlot n slot) t) ↔ Calm W s t :=
  Calm.foldl_mem _ fun _ _ h => State.calm_vaultSlot hW n (List.mem_range.1 h)
@[simp] theorem State.calm_clkShow (hW : W.Boot) {f : Fld} (hf : f.quiet = true) (on : Bool) :
    Calm W s (t.clkShow f on) ↔ Calm W s t := by simp [State.clkShow, hW, hf]

end

/-- The boot domain of die `n` is clocked, and its vault is not loaded yet. -/
def State.clocked (s : State) (n : Nat) (flash0 flash1 : Bool) : State :=
  (((s.modCd n (fun x => { x with bootClk := true, flash0 := flash0 })).wrb (cd n) R.BOOT_STAT_FLASH1_PRESENT flash1).wr
    (cd n) R.BOOT_STAT_PHASE 1).clkShow (clkXt n) true
/-- What stands before the vault is loaded stands behind it, but for BOOTNO. -/
def State.clockShown (s : State) (n : Nat) (flash0 flash1 : Bool) (no : Nat) : Prop :=
  (s.cdx n).bootClk = true ∧ (s.cdx n).flash0 = flash0 ∧ s.flag (cd n) R.BOOT_STAT_FLASH1_PRESENT = flash1 ∧
    s.rd (cd n) R.BOOT_STAT_PHASE = 1 ∧ s.bootNo n = no

theorem State.clocked_clockShown {n : Nat} (hn : n < 2) (s : State) (flash0 flash1 : Bool) :
    (s.clocked n flash0 flash1).clockShown n flash0 flash1 (s.bootNo n) := by
  have h : n = 0 ∨ n = 1 := by omega
  obtain rfl | rfl := h <;>
  · cases flash1 <;>
      simp +decide [State.clockShown, State.clocked, State.clkShow, State.flag, State.bootNo, clkXt,
        State.rd_wrb_other, b2n]
theorem Calm.clockShown {n : Nat} {flash0 flash1 : Bool} {no : Nat} {s t : State} (h : Calm (clockedWatch n) s t)
    (hs : s.clockShown n flash0 flash1 no) : t.clockShown n flash0 flash1 no := by
  obtain ⟨hc, hf, h1, hph, hno⟩ := hs
  have hrd : ∀ f ∈ [R.BOOT_STAT_PHASE, R.BOOT_STAT_FLASH1_PRESENT, R.SEC_BOOTNO_BOOTNO], t.rd (cd n) f = s.rd (cd n) f :=
    fun f hm => h.rd (List.mem_map.2 ⟨f, hm, rfl⟩)
  exact ⟨(h.bootClk rfl).trans hc, (h.flash0 rfl).trans hf, by rw [State.flag, hrd _ (by simp), ← h1, State.flag],
    (hrd _ (by simp)).trans hph, (hrd _ (by simp)).trans hno⟩

theorem bootDomainClocked_shows (n : Fin 2) (flash0 flash1 : Bool) (s : State) (hup : (s.cdx n).bootUp = true)
    (hclk : (s.cdx n).bootClk = false) (hfac : (s.cdx n).factory = false) :
    ∃ t, exec (.bootDomainClocked n flash0 flash1) s = .next t ∧ (t.cdx n).bootClk = true ∧ (t.cdx n).flash0 = flash0 ∧
      t.flag (cd n) R.BOOT_STAT_FLASH1_PRESENT = flash1 ∧ t.rd (cd n) R.BOOT_STAT_PHASE = 1 ∧
      t.rd (cd n) R.TRNG_STAT_STATE = 1 ∧
      t.rd (cd n) R.SEC_BOOTNO_BOOTNO = (s.rd (cd n) R.SEC_BOOTNO_BOOTNO + 1) % 2 ^ 32 := by
  have hgo : ((s.cdx n).bootUp && !(s.cdx n).bootClk && !(s.cdx n).factory) = true := by simp [*]
  obtain ⟨u, hu, huv⟩ : ∃ u, Calm (clockedWatch n) (s.clocked n flash0 flash1) u ∧
      (s.clocked n flash0 flash1).vaultLoad n = u.wr (cd n) R.SEC_BOOTNO_BOOTNO (u.bootNo n + 1) :=
    ⟨_, by simp [State.calm_vaultSlots (clockedWatch_boot n.isLt)], rfl⟩
  have hexec : exec (.bootDomainClocked n flash0 flash1) s =
      done ((u.wr (cd n) R.SEC_BOOTNO_BOOTNO (u.bootNo n + 1)).wr (cd n) R.TRNG_STAT_STATE 1) := by
    rw [← huv]
    exact congrArg done (if_pos hgo)
  obtain ⟨hc, hf, h1, hph, hno⟩ := hu.clockShown (s.clocked_clockShown n.isLt flash0 flash1)
  have hk : ∀ n : Fin 2, ∀ f ∈ [R.BOOT_STAT_PHASE, R.BOOT_STAT_FLASH1_PRESENT, R.SEC_BOOTNO_BOOTNO, R.TRNG_STAT_STATE],
      fkey (cd n) f ∉ settleKeys := by decide
  refine ⟨_, hexec, by simpa using hc, by simpa using hf, ?_, ?_, ?_, ?_⟩
  · simpa +decide [State.flag, State.settle_rd _ _ _ (hk n R.BOOT_STAT_FLASH1_PRESENT (by simp))] using h1
  · simpa +decide [State.settle_rd _ _ _ (hk n R.BOOT_STAT_PHASE (by simp))] using hph
  · simp [State.settle_rd _ _ _ (hk n R.TRNG_STAT_STATE (by simp))]
  · simp +decide [State.settle_rd _ _ _ (hk n R.SEC_BOOTNO_BOOTNO (by simp)), hno]
    rfl

/-! ### The shelf list (step 6) -/

@[simp] theorem b2n_mod_two (b : Bool) : b2n b % 2 = b2n b := by cases b <;> rfl
@[simp] theorem b2n_bne_zero (b : Bool) : (b2n b != 0) = b := by cases b <;> rfl

/-- Adoption shows whether copy A is bad. -/
theorem State.shelfAdopt_slABad (s : State) (n : Nat) :
    (s.shelfAdopt n).flag (cd n) R.BOOT_STAT_SL_A_BAD = (s.shelfCopy n (0, 0)).isNone := by
  simp only [State.shelfAdopt, State.flag, State.rd_modCd, State.rd_ite]
  simp +decide
/-- Adoption leaves the other die's phase alone. -/
theorem State.shelfAdopt_phase_other {n m : Nat} (hne : m ≠ n) (s : State) : (s.shelfAdopt n).phase m = s.phase m := by
  simp only [State.shelfAdopt, State.phase, State.rd_modCd, State.rd_ite]
  simp [hne]

theorem shelfListAdopt_shows (n : Fin 2) (s : State) (hclk : (s.cdx n).bootClk = true) (hph : s.phase n = 1)
    (hcl : s.claimed = false) : ∃ t, exec (.shelfListAdopt n) s = .next t ∧ t.phase n = 2 ∧
      t.flag (cd n) R.BOOT_STAT_SL_A_BAD = (s.shelfCopy n (0, 0)).isNone := by
  have hgo : ((s.cdx n).bootClk && s.phase n == 1) = true := by simp [*]
  have hcl' : ((s.shelfAdopt n).wr (cd n) R.BOOT_STAT_PHASE 2).claimed = false := by
    have hle : s.phase 0 < 3 ∧ s.phase 1 < 3 := by simpa [State.claimed] using hcl
    have hlt : ∀ m < 2, ((s.shelfAdopt n).wr (cd n) R.BOOT_STAT_PHASE 2).phase m < 3 := by
      intro m hm
      by_cases e : m = n
      · simp [State.phase, e]
      · rw [State.phase, State.rd_wr_die (by decide) e, ← State.phase, State.shelfAdopt_phase_other e]
        interval_cases m
        exacts [hle.1, hle.2]
    simp [State.claimed, hlt]
  have hexec : exec (.shelfListAdopt n) s = done ((s.shelfAdopt n).wr (cd n) R.BOOT_STAT_PHASE 2) :=
    congrArg done ((if_pos hgo).trans (if_neg (by simp [hcl'])))
  have hk : ∀ n : Fin 2, fkey (cd n) R.BOOT_STAT_PHASE ∉ settleKeys ∧ fkey (cd n) R.BOOT_STAT_SL_A_BAD ∉ settleKeys := by
    decide
  obtain ⟨hkp, hka⟩ := hk n
  refine ⟨_, hexec, ?_, ?_⟩
  · simp [State.phase, State.settle_rd _ _ _ hkp]
  · rw [← s.shelfAdopt_slABad]
    simp +decide [State.flag, State.settle_rd _ _ _ hka]

/-! ### The endpoints (steps 10 and 11) -/

theorem perstNRise_shows (n : Fin 2) (s : State) : ∃ t, exec .perstNRise s = .next t ∧ t.pins.perstN = false ∧
    (t.cdx n).hostTrain = ((s.cdx n).mainUp && (s.cdx n).locked) := by
  refine ⟨_, rfl, by simp [State.modCd], ?_⟩
  fin_cases n <;> simp [State.cdx_modCd_other] <;> rfl
theorem perstNLow_shows (n : Fin 2) (s : State) : ∃ t, exec .perstNLow s = .next t ∧ t.pins.perstN = true ∧
    (t.cdx n).hostTrain = false ∧ (t.cdx n).hostUp = false := by
  refine ⟨_, rfl, by simp [State.modCd], ?_⟩
  fin_cases n <;> simp [State.cdx_modCd_other]

@[simp] theorem State.cdx_setPhase (s : State) (v m : Nat) : (s.setPhase v).cdx m = s.cdx m := by
  simp only [State.setPhase, List.foldl_cons, List.foldl_nil]
  split <;> split <;> rfl
theorem State.setPhase_phase {n : Nat} (hn : n < 2) {s : State} (hl : (s.cdx n).locked = true) (v : Nat) :
    (s.setPhase v).phase n = v % 16 := by
  have h : n = 0 ∨ n = 1 := by omega
  obtain rfl | rfl := h
  · simp only [State.setPhase, State.phase, List.foldl_cons, List.foldl_nil, if_pos hl]
    split <;> simp
  · simp only [State.setPhase, State.phase, List.foldl_cons, List.foldl_nil]
    split <;> simp [hl]

/-- T_HOSTLINK is taken at the first time the link is up. -/
def State.hostLinkTimed (s : State) (n : Nat) : State :=
  if s.rd (cd n) R.T_HOSTLINK_US = 0 then (s.draw 32).1.wr (cd n) R.T_HOSTLINK_US (s.draw 32).2 else s
@[simp] theorem State.cdx_hostLinkTimed (s : State) (n m : Nat) : (s.hostLinkTimed n).cdx m = s.cdx m := by
  unfold State.hostLinkTimed; split <;> rfl
theorem State.hostLinkTimed_rd {f : Fld} (h : f.off * 32 + f.lo ≠ R.T_HOSTLINK_US.off * 32 + R.T_HOSTLINK_US.lo)
    (s : State) (n : Nat) : (s.hostLinkTimed n).rd (cd n) f = s.rd (cd n) f := by
  unfold State.hostLinkTimed
  split
  · exact State.rd_wr_ne h _ _ _
  · rfl
/-- On the active die HOST_WAIT starts when the link is up (R88). -/
def State.hostWaits (s : State) (n : Nat) : State :=
  (if s.phase n = 4 then s.setPhase 5 else s).modCd n (fun x => { x with hostWait := x.shelf.hostWait != 0 })

theorem State.hostWaits_shown {n : Nat} (hn : n < 2) (s : State) :
    ((s.hostWaits n).cdx n).hostUp = (s.cdx n).hostUp ∧
      ((s.hostWaits n).cdx n).hostWait = ((s.cdx n).shelf.hostWait != 0) ∧
      ((s.cdx n).locked = true → s.phase n = 4 → (s.hostWaits n).phase n = 5) := by
  have hc : (if s.phase n = 4 then s.setPhase 5 else s).cdx n = s.cdx n := by split <;> simp
  refine ⟨by simp [State.hostWaits, hc], by simp [State.hostWaits, hc], fun hl hp => ?_⟩
  rw [State.hostWaits, if_pos hp]
  exact State.setPhase_phase hn hl 5

theorem pcieLinkUp_shows (n : Fin 2) (s : State) (ht : (s.cdx n).hostTrain = true) (hu : (s.cdx n).hostUp = false)
    (hp : s.pins.perstN = false) : ∃ t, exec (.pcieLinkUp n) s = .next t ∧ (t.cdx n).hostUp = true ∧
      (s.isActive n = true → s.rd (cd n) R.PWR_STATE_CUR < 3 → (t.cdx n).hostWait = ((s.cdx n).shelf.hostWait != 0) ∧
        ((s.cdx n).locked = true → s.phase n = 4 → t.phase n = 5)) := by
  have hgo : ((s.cdx n).hostTrain && !(s.cdx n).hostUp && !s.pins.perstN) = true := by simp [*]
  obtain ⟨u, hdef⟩ : ∃ u, u = (s.modCd n (fun x => { x with hostUp := true })).hostLinkTimed n := ⟨_, rfl⟩
  have hexec : exec (.pcieLinkUp n) s =
      done (if u.isActive n ∧ u.rd (cd n) R.PWR_STATE_CUR < 3 then u.hostWaits n else u) := by
    rw [hdef]
    exact congrArg done (if_pos hgo)
  have hrd : ∀ f ∈ [R.PAIR_STAT_ROLE, R.PWR_STATE_CUR, R.BOOT_STAT_PHASE], u.rd (cd n) f = s.rd (cd n) f := by
    simp +decide [hdef, State.hostLinkTimed_rd]
  obtain ⟨hrole, hcur, hphase⟩ := by simpa only [List.forall_mem_cons] using hrd
  have hx : u.cdx n = { s.cdx n with hostUp := true } := by simp [hdef]
  obtain ⟨hwu, hww, hwp⟩ := u.hostWaits_shown n.isLt
  have hk : ∀ n : Fin 2, fkey (cd n) R.BOOT_STAT_PHASE ∉ settleKeys := by decide
  refine ⟨_, hexec, ?_, fun ha hc => ?_⟩
  · split <;> simp [hwu, hx]
  · rw [if_pos ⟨by rw [State.isActive, State.flag, hrole]; exact ha, hcur ▸ hc⟩]
    refine ⟨by simp [hww, hx], fun hl hp => ?_⟩
    rw [State.phase, State.settle_rd _ _ _ (hk n)]
    exact hwp (by simp [hx, hl]) (hphase.1.trans hp)

end Sys2Proof.Machine
end

section
/-! The rails of the Stack dies and the sweep of their reading rooms (R64 steps 12 and 13, R699, R700, R208). -/

namespace Sys2Proof.Machine

/-! ### Operations on rails -/

section
variable {W : Watch} {s t : State} {n : Nat}

/-- The fields of a die that the end of a wake from DOZE writes. -/
def dozeFlds : List Fld := [R.PWR_STATE_PREV, R.PWR_STATE_CUR, R.PWR_STATE_IN_TRANS, R.PWR_REQ_STATUS, R.PWR_REQ_GO,
  cnt32 R.SYS_CAUSE_PWR_DONE, R.SYS_CAUSE_PWR_DONE]
theorem State.calm_dozeWakeCheck_of (hn : n < 2) (h : ∀ m < 2, ∀ f ∈ dozeFlds, ¬ W.key (fkey (cd m) f)) :
    Calm W s (t.dozeWakeCheck n) ↔ Calm W s t := by
  simp only [dozeFlds, List.forall_mem_cons] at h
  unfold State.dozeWakeCheck
  dsimp only
  split
  · rfl
  · split <;> simp [h, hn]
theorem State.calm_dozeWakeCheck (hW : W.Boot) (hn : n < 2) : Calm W s (t.dozeWakeCheck n) ↔ Calm W s t := by
  have hq : ∀ f ∈ dozeFlds, f.quiet = true := by decide
  exact State.calm_dozeWakeCheck_of hn fun m _ f hf => Watch.not_key_cd hW (hq f hf)
@[simp] theorem State.cdx_railShow (s : State) (n k st m : Nat) : (s.railShow n k st).cdx m = s.cdx m := by
  unfold State.railShow; split <;> rfl

/-- Where no field is watched, rails may be shown as they are. -/
theorem State.calm_railShow (hK : W.Blind) (n k st : Nat) : Calm W s (t.railShow n k st) ↔ Calm W s t := by
  unfold State.railShow
  split <;> simp [hK.not_key]
theorem State.calm_railFail (hK : W.Blind) (n d : Nat) (k : Option Nat) :
    Calm W s (t.railFail n d k) ↔ Calm W s t := by
  simp [State.railFail, State.railsOff, State.calm_railShow hK, hK.boot, hK.rails, hK.not_key]
theorem State.calm_railsStart (hK : W.Blind) (n d : Nat) (modes : List (Option Nat)) :
    Calm W s (t.railsStart n d modes) ↔ Calm W s t := by
  unfold State.railsStart
  dsimp only
  split
  · simp [hK.not_key]
  · split
    · simp [State.calm_railFail hK, hK.boot, hK.rails]
    · split <;> simp [State.calm_railFail hK, State.calm_railShow hK, hK.boot, hK.rails]

end

/-! ### Step 12 begins -/

/-- The power of die `n` alone. -/
def powerWatch (n : Nat) : Watch := ⟨(· = n), fun _ => False, fun _ => False⟩
theorem powerWatch_blind (n : Nat) : (powerWatch n).Blind := fun _ => not_false

theorem State.pwrShow_cur {n : Nat} (hn : n < 2) (s : State) (v : Nat) :
    (s.pwrShow v).rd (cd n) R.PWR_STATE_CUR = v % 8 := by
  have h : n = 0 ∨ n = 1 := by omega
  obtain rfl | rfl := h <;> simp +decide [State.pwrShow]

theorem stackPowerStart_shows (n : Fin 2) (modes : List (Option Nat)) (s : State) (ha : s.isActive n = true)
    (hl : (s.cdx n).locked = true) (hoff : (s.cdx n).stackOn = false) (hup : (s.cdx n).mainUp = true)
    (hc : s.rd (cd n) R.PWR_STATE_CUR < 3) : ∃ t, exec (.stackPowerStart n modes) s = .next t ∧
      (s.rd (cd n) R.PWR_STATE_CUR = 0 ∧ ((s.cdx n).shelf.target = 1 ∨ (s.cdx n).shelf.target = 2) →
        t.rd (cd n) R.PWR_STATE_CUR = (s.cdx n).shelf.target) ∧
      (s.rd (cd n) R.PWR_STATE_CUR ≠ 0 ∨ (s.cdx n).shelf.target = 4 → (t.cdx n).stackOn = true) := by
  have hgo : ¬ (!s.isActive n || !(s.cdx n).locked || (s.cdx n).stackOn || !(s.cdx n).mainUp ||
      decide (3 ≤ s.rd (cd n) R.PWR_STATE_CUR)) = true := by simp [*]
  obtain ⟨u, hu⟩ : ∃ u, u = (List.range 4).foldl (fun s d => s.railsStart n d modes)
      (s.modCd n (fun x => { x with stackOn := true })) := ⟨_, rfl⟩
  have hexec : exec (.stackPowerStart n modes) s = done (if s.rd (cd n) R.PWR_STATE_CUR = 0 ∧
      ((s.cdx n).shelf.target = 1 ∨ (s.cdx n).shelf.target = 2) then s.sleep n (s.cdx n).shelf.target else u) := by
    rw [hu]
    exact congrArg done (if_neg hgo)
  have hon : (u.cdx n).stackOn = true := by
    have h : Calm (powerWatch n) (s.modCd n (fun x => { x with stackOn := true })) u := by
      rw [hu, Calm.foldl _ fun u d => State.calm_railsStart (powerWatch_blind n) n d modes]
      exact Calm.refl _ _
    rw [h.stackOn rfl, State.cdx_modCd_same]
  have hk : ∀ n : Fin 2, fkey (cd n) R.PWR_STATE_CUR ∉ settleKeys := by decide
  refine ⟨_, hexec, fun h => ?_, fun h => ?_⟩
  · rw [if_pos h, State.settle_rd _ _ _ (hk n)]
    refine (State.pwrShow_cur n.isLt _ _).trans (Nat.mod_eq_of_lt ?_)
    omega
  · rw [if_neg (by omega)]
    simpa using hon

/-! ### A rail that answers (R699) -/

/-- The rails of die `n`'s shelf list, with STATE and STATUS of rail `k`. -/
def railWatch (n k : Nat) : Watch := ⟨(· = n), fun _ => False,
  (· ∈ [fkey (cd n) (R.PMB_STAT_STATE.at k), fkey (cd n) (R.PMB_STAT_STATUS.at k)])⟩
theorem railWatch_boot {n k : Nat} (hn : n < 2) (hk : k < 16) : (railWatch n k).Boot := by
  have h : ∀ n < 2, ∀ k < 16, ∀ x ∈ [fkey (cd n) (R.PMB_STAT_STATE.at k), fkey (cd n) (R.PMB_STAT_STATUS.at k)],
      bootKey x = true := by decide
  exact h n hn k hk
/-- A register of another rail, or another field, is not watched. -/
theorem railWatch_not_key {n k j : Nat} {f : Fld} (hj : j ≠ k) (hf : f.off = 0x340 ∧ f.lo < 32 ∧ f.stride = 4) :
    ¬ (railWatch n k).key (fkey (cd n) (f.at j)) := by
  obtain ⟨ho, hlo, hs⟩ := hf
  simp only [railWatch, List.mem_cons, List.not_mem_nil, or_false, fkey, Fld.at, ho, hs]
  omega

/-- Rail `k` is good, with STATUS `w`. -/
def State.railGood (s : State) (n k w : Nat) : Prop :=
  s.railState n k = 3 ∧ s.rd (cd n) (R.PMB_STAT_STATUS.at k) = w
theorem Calm.railGood {n k w : Nat} {s t : State} (h : Calm (railWatch n k) s t) (hs : s.railGood n k w) :
    t.railGood n k w :=
  ⟨(h.rd (f := R.PMB_STAT_STATE.at k) (List.mem_cons_self)).trans hs.1,
    (h.rd (f := R.PMB_STAT_STATUS.at k) (List.mem_cons_of_mem _ List.mem_cons_self)).trans hs.2⟩
theorem Calm.railState {n k : Nat} {s t : State} (h : Calm (railWatch n k) s t) : t.railState n k = s.railState n k :=
  h.rd (f := R.PMB_STAT_STATE.at k) List.mem_cons_self
theorem Calm.railDie {n k j : Nat} {s t : State} (h : Calm (railWatch n k) s t) : t.railDie n j = s.railDie n j := by
  rw [State.railDie, State.railDie, h.shelf rfl]

/-- The poll of another rail, or of one that is not in its bring-up, leaves rail `k` alone, where the rail answers. -/
theorem State.calm_railPoll {n k j v : Nat} (hn : n < 2) (hk : k < 16) {s : State}
    (h : j ≠ k ∨ s.railState n k ≠ 2) : Calm (railWatch n k) s (s.railPoll n j (some v)) := by
  have hW := railWatch_boot hn hk
  unfold State.railPoll
  split
  · exact Calm.refl _ _
  next hst =>
    have hj : j ≠ k := h.elim id fun hne e => hst (e ▸ hne)
    have hnk : ∀ f : Fld, f.off = 0x340 ∧ f.lo < 32 ∧ f.stride = 4 → ¬ (railWatch n k).key (fkey (cd n) (f.at j)) :=
      fun f => railWatch_not_key hj
    have hsd : ∀ d, ¬ (railWatch n k).sds d := fun _ => not_false
    cases hd : s.railDie n j with
    | none => exact Calm.refl _ _
    | some d => simp [hnk, hW, hsd]
/-- A rail that answers well in its bring-up is good. -/
theorem State.railPoll_railGood {n k d w : Nat} (hn : n < 2) (hk : k < 16) {s : State} (hst : s.railState n k = 2)
    (hd : s.railDie n k = some d) (hw : w < 65536) (hgood : bitOf w 11 = false ∧ bitOf w 6 = false) :
    (s.railPoll n k (some w)).railGood n k w := by
  have hW := railWatch_boot hn hk
  have hsd : ∀ d, ¬ (railWatch n k).sds d := fun _ => not_false
  have h : ((s.wr (cd n) (R.PMB_STAT_STATUS.at k) w).wr (cd n) (R.PMB_STAT_STATE.at k) 3).railGood n k w := by
    constructor
    · simp [State.railState, Fld.at]
    · rw [State.rd_wr_ne (by simp [Fld.at]), State.rd_wr_same]
      exact Nat.mod_eq_of_lt hw
  refine Calm.railGood ?_ h
  unfold State.railPoll
  rw [if_neg (not_ne_iff.2 hst), hd]
  simp [hgood, hW, hsd]

theorem State.railPolls_railGood {n k d w : Nat} (hn : n < 2) (hk : k < 16) (hw : w < 65536)
    (hgood : bitOf w 11 = false ∧ bitOf w 6 = false) {words : List (Option Nat)} (hwk : words.getD k none = some w)
    (l : List Nat) (hl : ∀ j ∈ l, (words.getD j none).isSome = true) (s : State)
    (h : k ∈ l ∧ s.railState n k = 2 ∧ s.railDie n k = some d ∨ s.railGood n k w) :
    (l.foldl (fun s j => s.railPoll n j (words.getD j none)) s).railGood n k w := by
  induction l generalizing s with
  | nil => exact h.resolve_left (by simp)
  | cons j l ih =>
    have hl' := fun i hi => hl i (List.mem_cons_of_mem _ hi)
    obtain ⟨v, hv⟩ := Option.isSome_iff_exists.1 (hl j List.mem_cons_self)
    by_cases hskip : j ≠ k ∨ s.railState n k ≠ 2
    · have hc := State.calm_railPoll (v := v) hn hk hskip
      simp only [List.foldl_cons, hv]
      refine ih hl' _ ?_
      rcases h with ⟨hm, hst, hd⟩ | hg
      · refine .inl ⟨(List.mem_cons.1 hm).resolve_left fun e => ?_, hc.railState.trans hst, hc.railDie.trans hd⟩
        exact hskip.elim (fun hne => hne e.symm) fun hne => hne hst
      · exact .inr (hc.railGood hg)
    · obtain ⟨rfl, hst⟩ : j = k ∧ s.railState n k = 2 := by simpa [not_or] using hskip
      simp only [List.foldl_cons, hwk]
      refine ih hl' _ (.inr ?_)
      rcases h with ⟨-, -, hd⟩ | hg
      · exact State.railPoll_railGood hn hk hst hd hw hgood
      · exact absurd (hst.symm.trans hg.1) (by decide)

theorem pmbusStatusPoll_shows (n : Fin 2) (k : Fin 16) (d w : Nat) (words : List (Option Nat)) (s : State)
    (ha : s.isActive n = true) (hst : s.railState n k = 2) (hd : s.railDie n k = some d)
    (hwk : words.getD k none = some w) (hall : ∀ j : Fin 16, (words.getD j none).isSome = true) (hw : w < 65536)
    (hgood : bitOf w 11 = false ∧ bitOf w 6 = false) : ∃ t, exec (.pmbusStatusPoll n words) s = .next t ∧
      t.railState n k = 3 ∧ t.rd (cd n) (R.PMB_STAT_STATUS.at k) = w := by
  have hW := railWatch_boot n.isLt k.isLt
  have hs : ∀ n < 2, ∀ k < 16, ∀ x ∈ [fkey (cd n) (R.PMB_STAT_STATE.at k), fkey (cd n) (R.PMB_STAT_STATUS.at k)],
      x ∉ settleKeys := by decide
  refine ⟨_, congrArg done (if_pos ha), Calm.railGood (s := (List.range 16).foldl
    (fun s k => s.railPoll n k (words.getD k none)) s) ?_ ?_⟩
  · rw [State.calm_settle (hs n n.isLt k k.isLt), State.calm_dozeWakeCheck hW n.isLt]
    exact Calm.refl _ _
  · exact State.railPolls_railGood n.isLt k.isLt hw hgood hwk _ (fun j hj => hall ⟨j, List.mem_range.1 hj⟩) s
      (.inl ⟨List.mem_range.2 k.isLt, hst, hd⟩)

/-! ### A rail that does not (R700) -/

theorem State.railShow_railState {n k : Nat} {s : State} {r : Rail} (hr : (s.cdx n).shelf.rails[k]? = some r) (st : Nat) :
    (s.railShow n k st).railState n k = st % 16 := by
  simp [State.railShow, hr, State.railState, Fld.at]
theorem State.railShow_railState_other {n j k : Nat} (h : j ≠ k) (s : State) (st : Nat) :
    (s.railShow n j st).railState n k = s.railState n k := by
  unfold State.railShow
  split
  · have hne : ∀ f : Fld, f.off = 0x340 ∧ f.lo < 32 ∧ f.stride = 4 → (R.PMB_STAT_STATE.at k).off * 32 +
        (R.PMB_STAT_STATE.at k).lo ≠ (f.at j).off * 32 + (f.at j).lo := by
      rintro f ⟨ho, hlo, hs⟩
      simp only [Fld.at, ho, hs]
      omega
    simp [State.railState, hne]
  · rfl
/-- The rail that failed shows so, whatever other rails go off beside it. -/
theorem State.railsOff_railState {n k : Nat} {r : Rail} (l : List Nat) (s : State)
    (hr : (s.cdx n).shelf.rails[k]? = some r) (h : k ∈ l ∨ s.railState n k = 4) :
    (l.foldl (fun s j => s.railShow n j (if some k = some j then 4 else 5)) s).railState n k = 4 := by
  induction l generalizing s with
  | nil => exact h.resolve_left (by simp)
  | cons j l ih =>
    refine ih _ (by simpa using hr) ?_
    by_cases e : j = k
    · subst e
      exact .inr (by simp [State.railShow_railState hr])
    · rw [State.railShow_railState_other e]
      exact h.imp (fun hm => (List.mem_cons.1 hm).resolve_left (Ne.symm e)) id

/-- One field alone. -/
def keyWatch (k : Nat) : Watch := ⟨fun _ => False, fun _ => False, (· = k)⟩
theorem diesFld_bits (k : Nat) : (diesFld k).off = 8 ∧ (diesFld k).lo < 32 ∧ (diesFld k).hi + 1 - (diesFld k).lo = 2 := by
  unfold diesFld; split <;> decide
theorem State.setDieOn_shows (s : State) (n k : Nat) {v : Nat} (hv : v < 4) :
    (s.setDieOn n k v).rd (cd n) (diesFld k) = v := by
  obtain ⟨ho, hlo, hw⟩ := diesFld_bits k
  unfold State.setDieOn
  split
  · assumption
  · have h : ∀ g : Fld, g.lo < 32 ∧ g.off ≠ 8 → fkey (cd n) g ≠ fkey (cd n) (diesFld k) := fun g hg =>
      fkey_ne_of_off _ _ _ hg.1 hlo (ho ▸ hg.2)
    have hc : ∀ u : State, Calm (keyWatch (fkey (cd n) (diesFld k))) u (u.sysEvent n R.SYS_CAUSE_DIES) := fun u =>
      (State.calm_sysEvent (h _ (by decide)) (h _ (by decide))).2 (Calm.refl _ _)
    rw [(hc _).rd rfl, State.rd_wr_same, hw]
    omega
theorem State.setDieOn_other {n m : Nat} (hne : m ≠ n) (s : State) (k v : Nat) :
    (s.setDieOn n k v).rd (cd m) (diesFld k) = s.rd (cd m) (diesFld k) := by
  obtain ⟨ho, hlo, -⟩ := diesFld_bits k
  have h : ∀ (u : State) (x : Nat) (g : Fld), g.lo < 32 ∧ g.off < 2 ^ 32 →
      (u.wr (cd n) g x).rd (cd m) (diesFld k) = u.rd (cd m) (diesFld k) := fun u x g hg =>
    State.rd_wr_die ⟨by omega, hlo, hg.2, hg.1⟩ hne u x
  unfold State.setDieOn
  split
  · rfl
  · simp [State.sysEvent, State.raise, State.raiseIn, State.inc, cnt32, State.rd_ite, h, ho, hlo]
theorem State.setDie_shows {m : Nat} (hm : m < 2) (s : State) (k : Nat) {v : Nat} (hv : v < 4) :
    (s.setDie k v).rd (cd m) (diesFld k) = v := by
  interval_cases m
  · exact (State.setDieOn_other (by decide) _ _ _).trans (State.setDieOn_shows _ _ _ hv)
  · exact State.setDieOn_shows _ _ _ hv

theorem railWatch_rails {n k : Nat} (hk : k < 16) : (railWatch n k).Rails n := by
  intro x hx
  simp only [railWatch, List.mem_cons, List.not_mem_nil, or_false] at hx
  have h : x / 32 = cd n + 0x340 + 4 * k := by
    rcases hx with rfl | rfl <;> simp [fkey_div, Fld.at, Nat.add_assoc]
  simp only [railKey, h, Bool.and_eq_true, decide_eq_true_eq]
  omega

/-- What the failed bring-up of a Stack die shows beside its rails: the error, and the die unpowered. -/
def failKeys : List Nat := [0, 1].flatMap fun n => fkey (cd n) R.BOOT_STAT_ERR :: (List.range 4).map
  fun d => fkey (cd n) (diesFld (2 + d))
def failWatch : Watch := ⟨fun _ => False, fun _ => False, (· ∈ failKeys)⟩

theorem railFailTimeout_shows (n : Fin 2) (k : Fin 16) (d : Fin 4) (s : State) (ha : s.isActive n = true)
    (hst : s.railState n k = 2) (hd : s.railDie n k = some d.val) : ∃ t, exec (.railFailTimeout n k) s = .next t ∧
      t.railState n k = 4 ∧ t.rd (cd n) R.BOOT_STAT_ERR = 4 ∧ (∀ m : Fin 2, t.rd (cd m) (diesFld (2 + d)) = 1) := by
  obtain ⟨u, hu⟩ : ∃ u, u = (s.railsOff n d (some k)).fixedFree n d := ⟨_, rfl⟩
  have hgo : (s.isActive n && s.railState n k == 2) = true := by simp [*]
  have hexec : exec (.railFailTimeout n k) s =
      done (((u.setDie (2 + d) 1).wr (cd n) R.BOOT_STAT_ERR 4).dozeWakeCheck n) := by
    rw [hu]
    refine congrArg done ((if_pos hgo).trans ?_)
    rw [hd]
    rfl
  have hset : ∀ n < 2, ∀ k < 16, ∀ x ∈ [fkey (cd n) (R.PMB_STAT_STATE.at k), fkey (cd n) (R.PMB_STAT_STATUS.at k)],
      x ∉ settleKeys ∧ x ≠ fkey (cd n) R.BOOT_STAT_ERR := by decide
  have hfail : (∀ x ∈ failKeys, x ∉ settleKeys) ∧ ∀ m < 2, ∀ f ∈ dozeFlds, fkey (cd m) f ∉ failKeys := by decide
  refine ⟨_, hexec, ?_, ?_⟩
  · have hW := railWatch_boot n.isLt k.isLt
    have hc : Calm (railWatch n k) (s.railsOff n d (some k))
        (((u.setDie (2 + d) 1).wr (cd n) R.BOOT_STAT_ERR 4).dozeWakeCheck n).settle := by
      rw [State.calm_settle fun x hx => (hset n n.isLt k k.isLt x hx).1, State.calm_dozeWakeCheck hW n.isLt,
        State.calm_wr fun hx => (hset n n.isLt k k.isLt _ hx).2 rfl, State.calm_setDie hW, hu,
        State.calm_fixedFree hW (railWatch_rails k.isLt)]
      exact Calm.refl _ _
    obtain ⟨r, hr, -⟩ := Option.map_eq_some_iff.1 hd
    have hmem : k.val ∈ s.railsOf n d := by
      have hlt : k.val < (s.cdx n).shelf.rails.length := (List.getElem?_eq_some_iff.1 hr).1
      simp [State.railsOf, hd, hlt]
    exact hc.railState.trans (State.railsOff_railState _ s hr (.inl hmem))
  · have hc : Calm failWatch ((u.setDie (2 + d) 1).wr (cd n) R.BOOT_STAT_ERR 4)
        (((u.setDie (2 + d) 1).wr (cd n) R.BOOT_STAT_ERR 4).dozeWakeCheck n).settle := by
      rw [State.calm_settle hfail.1, State.calm_dozeWakeCheck_of n.isLt hfail.2]
      exact Calm.refl _ _
    have hkeys : ∀ m < 2, fkey (cd m) R.BOOT_STAT_ERR ∈ failKeys ∧ ∀ d < 4, fkey (cd m) (diesFld (2 + d)) ∈ failKeys := by
      decide
    refine ⟨(hc.rd (hkeys n n.isLt).1).trans (by simp), fun m => (hc.rd ((hkeys m m.isLt).2 d d.isLt)).trans ?_⟩
    obtain ⟨ho, hlo, -⟩ := diesFld_bits (2 + d)
    refine Eq.trans ?_ (State.setDie_shows (v := 1) m.isLt u (2 + d) (by decide))
    by_cases e : m.val = n.val
    · rw [e, State.rd_wr_ne (by rw [ho]; simp; omega)]
    · rw [State.rd_wr_die ⟨by omega, hlo, by decide, by decide⟩ e]

end Sys2Proof.Machine
end

section
/-! The sweep of a reading room (R64 step 13, R208, R277). -/

namespace Sys2Proof.Machine

theorem State.act_lt (s : State) : s.act < 2 := by
  unfold State.act State.active
  split
  · decide
  · split <;> decide

/-- A bit that is set and cut to a width that holds it reads 1. -/
theorem bitOf_putBit_mod (x : Nat) {d : Nat} (hd : d < 4) : bitOf (putBit x d true % 2 ^ 4) d = true := by
  simp only [bitOf, putBit, putBits, if_true, beq_iff_eq]
  interval_cases d <;> omega

/-- RROOM of both dies. -/
def roomKeys : List Nat := [fkey (cd 0) R.CLEAR_STAT_RROOM, fkey (cd 1) R.CLEAR_STAT_RROOM]
def roomWatch : Watch := ⟨fun _ => False, fun _ => False, (· ∈ roomKeys)⟩
theorem roomWatch_boot : roomWatch.Boot := by
  have h : ∀ k ∈ roomKeys, bootKey k = true := by decide
  exact h
/-- The room is clear on both dies. -/
def State.roomShown (s : State) (d : Nat) : State :=
  let old := s.rd (cd s.act) R.CLEAR_STAT_RROOM
  [0, 1].foldl (fun s k => s.wr (cd k) R.CLEAR_STAT_RROOM (putBit old d true)) ((s.rrSweep d).accWake d)
/-- A claim's messages, and the programs of the wings. -/
def State.claimSent (s : State) (n d : Nat) : State :=
  let s := s.sendBehind n d (claimMsg n d (s.rd (cd n) R.PAIR_STAT_EPOCH))
  if s.rd (cd n) R.PWR_STATE_CUR = 3 then s else s.loadWings n d
theorem State.claimDie_eq (s : State) (n d : Nat) : s.claimDie n d = (s.modCd n (fun x => { x with
    claimsOut := x.claimsOut ++ [d], bringUp := x.bringUp ++ [d] })).claimSent n d := rfl
theorem State.calm_claimSent {W : Watch} {s t : State} (hW : W.Boot) (n d : Nat) :
    Calm W s (t.claimSent n d) ↔ Calm W s t := by simp [State.claimSent, hW]

theorem readingRoomSweepDone_shows (d : Fin 4) (n : Fin 2) (s : State) (hup : (s.sdx d).up = true)
    (hold : bitOf (s.rd (cd s.act) R.CLEAR_STAT_RROOM) d = false) : ∃ t, exec (.readingRoomSweepDone d) s = .next t ∧
      bitOf (t.rd (cd n) R.CLEAR_STAT_RROOM) d = true ∧
      (t.cdx s.act).claimsOut = (s.cdx s.act).claimsOut ++ [d.val] := by
  have hgo : ((s.sdx d).up && !bitOf (s.rd (cd s.act) R.CLEAR_STAT_RROOM) d) = true := by simp [*]
  have hexec : exec (.readingRoomSweepDone d) s = done (((s.roomShown d).claimDie s.act d).dozeWakeCheck s.act) :=
    congrArg done (if_pos hgo)
  have hset : ∀ k ∈ roomKeys, k ∉ settleKeys := by decide
  refine ⟨_, hexec, ?_, ?_⟩
  · have hc : Calm roomWatch (s.roomShown d) (((s.roomShown d).claimDie s.act d).dozeWakeCheck s.act).settle := by
      rw [State.calm_settle hset, State.calm_dozeWakeCheck roomWatch_boot s.act_lt, State.claimDie_eq,
        State.calm_claimSent roomWatch_boot, State.calm_modCd_other not_false]
      exact Calm.refl _ _
    have hmem : ∀ m < 2, fkey (cd m) R.CLEAR_STAT_RROOM ∈ roomKeys := by decide
    rw [hc.rd (hmem n n.isLt)]
    have hrd : ∀ m < 2, (s.roomShown d).rd (cd m) R.CLEAR_STAT_RROOM =
        putBit (s.rd (cd s.act) R.CLEAR_STAT_RROOM) d true % 2 ^ 4 := by
      intro m hm
      interval_cases m <;> simp [State.roomShown]
    rw [hrd n n.isLt]
    exact bitOf_putBit_mod _ d.isLt
  · have hW := powerWatch_blind s.act
    have hbefore : Calm (powerWatch s.act) s (s.roomShown d) := by
      simp [State.roomShown, hW.not_key, hW.boot]
    have hc : Calm (powerWatch s.act) ((s.roomShown d).modCd s.act (fun x => { x with
        claimsOut := x.claimsOut ++ [d.val], bringUp := x.bringUp ++ [d.val] }))
        (((s.roomShown d).claimDie s.act d).dozeWakeCheck s.act).settle := by
      rw [State.calm_settle (fun k hk => absurd hk (hW k)), State.calm_dozeWakeCheck hW.boot s.act_lt, State.claimDie_eq,
        State.calm_claimSent hW.boot]
      exact Calm.refl _ _
    rw [hc.claimsOut rfl, State.cdx_modCd_same, hbefore.claimsOut rfl]

end Sys2Proof.Machine
end

section
/-! VBAT_RISE (R64 steps 1 to 4): the Load dies leave reset and enter limp-home, and the always-on islands start. -/

namespace Sys2Proof.Machine

/-! ### Channels are all that a Load die's release changes beside its record (chapter 13) -/

section
variable {L : List Part} {s t : State}

@[simp] theorem State.keeps_modChan (h : .chans ∈ L) (i : Nat) (f : Chan → Chan) :
    Keeps L s (t.modChan i f) ↔ Keeps L s t :=
  Keeps.of_part h fun q hq => by cases q <;> trivial
@[simp] theorem State.keeps_cwr (d c : Nat) (f : Fld) (v : Nat) : Keeps L s (t.cwr d c f v) ↔ Keeps L s t :=
  State.keeps_wr _ _ _
@[simp] theorem State.keeps_raiseLd (b : Nat) (f : Fld) : Keeps L s (t.raiseLd b f) ↔ Keeps L s t :=
  State.keeps_raiseIn _ _ _
@[simp] theorem State.keeps_stopLearn (h : .chans ∈ L) (d c : Nat) : Keeps L s (t.stopLearn d c) ↔ Keeps L s t := by
  simp [State.stopLearn, h]
@[simp] theorem State.keeps_endWindow (h : .chans ∈ L) (d c : Nat) (ev : Bool) :
    Keeps L s (t.endWindow d c ev) ↔ Keeps L s t := by simp [State.endWindow, h]
@[simp] theorem State.keeps_gateOn (h : .chans ∈ L) (d c : Nat) : Keeps L s (t.gateOn d c) ↔ Keeps L s t := by
  simp [State.gateOn, h]
@[simp] theorem State.keeps_gateOff (d c : Nat) : Keeps L s (t.gateOff d c) ↔ Keeps L s t := by simp [State.gateOff]
@[simp] theorem State.keeps_chOff (h : .chans ∈ L) (d c : Nat) (ev : Bool) :
    Keeps L s (t.chOff d c ev) ↔ Keeps L s t := by simp [State.chOff, h]
@[simp] theorem State.keeps_limpChannel (h : .chans ∈ L) (d c : Nat) :
    Keeps L s (t.limpChannel d c) ↔ Keeps L s t := by simp [State.limpChannel, h]
@[simp] theorem State.keeps_limpEntry (h : .chans ∈ L) (d src : Nat) :
    Keeps L s (t.limpEntry d src) ↔ Keeps L s t := by simp [State.limpEntry, h]

end

theorem State.ldRelease_keeps (s : State) (d : Nat) :
    Keeps [.chans] (s.modLd d (fun x => { x with inReset := false })) (s.ldRelease d) := by
  have hc : Part.chans ∈ [Part.chans] := List.mem_cons_self
  simp only [State.ldRelease, Keeps.ite, Keeps.foldl, State.keeps_wr, State.keeps_cwr, State.keeps_limpEntry hc,
    implies_true, ite_self, Keeps.refl]
@[simp] theorem State.pins_ldRelease (s : State) (d : Nat) : (s.ldRelease d).pins = s.pins :=
  s.ldRelease_keeps d .pins (by decide)
theorem State.lds_ldRelease (s : State) (d : Nat) :
    (s.ldRelease d).lds = (s.modLd d (fun x => { x with inReset := false })).lds :=
  s.ldRelease_keeps d .lds (by decide)
theorem State.ldx_ldRelease (s : State) (d e : Nat) :
    ((s.ldRelease d).ldx e).inReset = if e = d then false else (s.ldx e).inReset := by
  rw [State.ldx, State.lds_ldRelease, ← State.ldx]
  split
  next h => rw [h, State.ldx_modLd_same]
  next h => simp [State.ldx, State.modLd, Store.get_put_other _ _ _ _ _ _ h]

/-- Steps 1 to 3: VAON comes up and the Load dies leave reset. -/
def State.vaonUp (s : State) : State :=
  [0, 1].foldl (fun s d => if (s.ldx d).inReset then s.ldRelease d else s)
    { s with pins := { s.pins with vbat := true, vaon := true } }
theorem State.pins_vaonUp (s : State) : s.vaonUp.pins = { s.pins with vbat := true, vaon := true } := by
  simp only [State.vaonUp, List.foldl_cons, List.foldl_nil]
  split <;> split <;> simp
theorem State.vaonUp_out (s : State) (d : Fin 2) : (s.vaonUp.ldx d).inReset = false := by
  have h : ∀ (u : State) (e : Nat), ((if (u.ldx e).inReset then u.ldRelease e else u).ldx e).inReset = false := by
    intro u e
    split
    · rw [State.ldx_ldRelease, if_pos rfl]
    · simpa using ‹¬ (u.ldx e).inReset = true›
  have hkeep : ∀ (u : State), (u.ldx 0).inReset = false →
      ((if (u.ldx 1).inReset then u.ldRelease 1 else u).ldx 0).inReset = false := by
    intro u hu
    split
    · rw [State.ldx_ldRelease, if_neg (by decide), hu]
    · exact hu
  fin_cases d
  · exact hkeep _ (h _ 0)
  · exact h _ 1

/-! ### The always-on island of a die -/

/-- Die `n`'s pads, its transition bit and its boot domain. -/
def islandKeys (n : Nat) : List Nat :=
  [fkey (cd n) R.PAD_STAT_TESTMODE, fkey (cd n) R.PAD_STAT_LPCLK, fkey (cd n) R.PWR_STATE_IN_TRANS]
def islandWatch (n : Nat) : Watch := ⟨(· = n), fun _ => False, (· ∈ islandKeys n)⟩
/-- The island of die `n` has started. -/
def State.islandShown (s : State) (n : Nat) (testmode lpclk : Bool) : Prop :=
  s.flag (cd n) R.PAD_STAT_TESTMODE = testmode ∧ s.flag (cd n) R.PAD_STAT_LPCLK = lpclk ∧
    s.flag (cd n) R.PWR_STATE_IN_TRANS = true ∧ (testmode = false → (s.cdx n).bootUp = true)

theorem Calm.islandShown {n : Nat} {testmode lpclk : Bool} {s t : State} (h : Calm (islandWatch n) s t)
    (hs : s.islandShown n testmode lpclk) : t.islandShown n testmode lpclk := by
  obtain ⟨h1, h2, h3, h4⟩ := hs
  have hf : ∀ f ∈ [R.PAD_STAT_TESTMODE, R.PAD_STAT_LPCLK, R.PWR_STATE_IN_TRANS], t.flag (cd n) f = s.flag (cd n) f :=
    fun f hm => by rw [State.flag, State.flag, h.rd (List.mem_map_of_mem hm)]
  exact ⟨(hf _ (by simp)).trans h1, (hf _ (by simp)).trans h2, (hf _ (by simp)).trans h3, fun e => (h.bootUp rfl).trans (h4 e)⟩
/-- The start of an island up to its boot domain. -/
def State.islandFields (s : State) (n : Nat) (testmode lpclk : Bool) : State :=
  let b := cd n
  let s := ((s.wrb b R.PAD_STAT_TESTMODE testmode).wrb b R.PAD_STAT_LPCLK lpclk).clkShow (clkLp n) lpclk
  ((s.wr b R.PWR_STATE_LAST_WAKE 0).wr b R.PWR_STATE_IN_TRANS 1).wrb b R.LS_STAT_MUTED s.pins.muted
theorem State.islandOn_eq (s : State) (n : Nat) (testmode lpclk : Bool) : s.islandOn n testmode lpclk =
    if testmode ∧ (s.islandFields n testmode lpclk).rd (cd n) R.SEC_STAT_LC < 2 then
      (s.islandFields n testmode lpclk).modCd n (fun x => { x with factory := true })
    else (s.islandFields n testmode lpclk).bootOn n := rfl
theorem State.islandFields_flags {n : Nat} (hn : n < 2) (s : State) (testmode lpclk : Bool) :
    (s.islandFields n testmode lpclk).flag (cd n) R.PAD_STAT_TESTMODE = testmode ∧
      (s.islandFields n testmode lpclk).flag (cd n) R.PAD_STAT_LPCLK = lpclk ∧
      (s.islandFields n testmode lpclk).flag (cd n) R.PWR_STATE_IN_TRANS = true := by
  have h : n = 0 ∨ n = 1 := by omega
  obtain rfl | rfl := h <;> simp +decide [State.islandFields, State.flag, State.clkShow, clkLp]
theorem State.islandOn_islandShown {n : Nat} (hn : n < 2) (s : State) (testmode lpclk : Bool) :
    (s.islandOn n testmode lpclk).islandShown n testmode lpclk := by
  obtain ⟨h1, h2, h3⟩ := s.islandFields_flags hn testmode lpclk
  rw [State.islandOn_eq]
  split
  next h => exact ⟨h1, h2, h3, fun e => by simp [e] at h⟩
  next => exact ⟨by simpa [State.bootOn, State.flag] using h1, by simpa [State.bootOn, State.flag] using h2,
      by simpa [State.bootOn, State.flag] using h3, fun _ => by simp [State.bootOn]⟩
/-- The other die's island does not show in this one's. -/
theorem State.calm_islandOn {n m : Nat} (hn : n < 2) (hm : m < 2) (hne : m ≠ n) {s t : State} (testmode lpclk : Bool) :
    Calm (islandWatch m) s (t.islandOn n testmode lpclk) ↔ Calm (islandWatch m) s t := by
  have hfld : ∀ m < 2, ∀ n < 2, m ≠ n → ∀ f ∈ [R.PAD_STAT_TESTMODE, R.PAD_STAT_LPCLK, R.PWR_STATE_LAST_WAKE,
      R.PWR_STATE_IN_TRANS, R.LS_STAT_MUTED, R.BOOT_STAT_PHASE], fkey (cd n) f ∉ islandKeys m := by decide
  have hclk : ∀ m < 2, ∀ n < 2, ∀ k < 2, fkey (cd k) (clkLp n) ∉ islandKeys m := by decide
  have hown : ∀ f ∈ [R.PAD_STAT_TESTMODE, R.PAD_STAT_LPCLK, R.PWR_STATE_LAST_WAKE, R.PWR_STATE_IN_TRANS,
      R.LS_STAT_MUTED, R.BOOT_STAT_PHASE], ¬ (islandWatch m).key (fkey (cd n) f) := hfld m hm n hn hne
  have hshow : ∀ k < 2, ¬ (islandWatch m).key (fkey (cd k) (clkLp n)) := hclk m hm n hn
  have hd : ¬ (islandWatch m).die n := Ne.symm hne
  simp only [List.forall_mem_cons] at hown
  have hc : Calm (islandWatch m) s (t.islandFields n testmode lpclk) ↔ Calm (islandWatch m) s t := by
    simp [State.islandFields, State.clkShow, hown, hshow]
  rw [State.islandOn_eq]
  split
  · rw [State.calm_modCd_other hd, hc]
  · rw [State.bootOn, State.calm_modCd_other hd, State.calm_wr hown.2.2.2.2.2.1, hc]

@[simp] theorem State.pins_islandOn (s : State) (n : Nat) (testmode lpclk : Bool) :
    (s.islandOn n testmode lpclk).pins = s.pins := by
  rw [State.islandOn_eq]; split <;> rfl
@[simp] theorem State.lds_islandOn (s : State) (n : Nat) (testmode lpclk : Bool) :
    (s.islandOn n testmode lpclk).lds = s.lds := by
  rw [State.islandOn_eq]; split <;> rfl

theorem vbatRise_shows (n : Fin 2) (testmode lpclk : Bool) (d : Fin 2) (s : State) (hv : s.pins.vbat = false)
    (ht : s.pins.tamperN = false) : ∃ t, exec (.vbatRise testmode lpclk) s = .next t ∧ t.pins.vbat = true ∧
      t.pins.vaon = true ∧ (t.ldx d).inReset = false ∧ t.flag (cd n) R.PAD_STAT_TESTMODE = testmode ∧
      t.flag (cd n) R.PAD_STAT_LPCLK = lpclk ∧ t.flag (cd n) R.PWR_STATE_IN_TRANS = true ∧
      (testmode = false → (t.cdx n).bootUp = true) := by
  obtain ⟨u, hu⟩ : ∃ u, u = (s.vaonUp.islandOn 0 testmode lpclk).islandOn 1 testmode lpclk := ⟨_, rfl⟩
  have hpins : u.pins = { s.pins with vbat := true, vaon := true } := by simp [hu, State.pins_vaonUp]
  have hexec : exec (.vbatRise testmode lpclk) s = done u := by
    have htamper : u.tamperAtPower = u := if_neg (by simp [hpins, ht])
    rw [← htamper, hu]
    exact if_neg (by simp [hv])
  have hset : ∀ n < 2, ∀ k ∈ islandKeys n, k ∉ settleKeys := by decide
  have hshown : u.settle.islandShown n testmode lpclk := by
    refine Calm.islandShown ((State.calm_settle (hset n n.isLt)).2 (Calm.refl _ u)) ?_
    rw [hu]
    fin_cases n
    · refine Calm.islandShown ?_ (State.islandOn_islandShown (n := 0) (by decide) s.vaonUp testmode lpclk)
      exact (State.calm_islandOn (by decide) (by decide) (by decide) _ _).2 (Calm.refl _ _)
    · exact State.islandOn_islandShown (by decide) _ _ _
  obtain ⟨h1, h2, h3, h4⟩ := hshown
  refine ⟨_, hexec, by simp [hpins], by simp [hpins], ?_, h1, h2, h3, h4⟩
  have hl : u.settle.lds = s.vaonUp.lds := by simp [hu]
  rw [State.ldx, hl]
  exact s.vaonUp_out d

end Sys2Proof.Machine
end

section
/-! VAON_LOSS (R60): everything goes off. Power is followed here, and no field. -/

namespace Sys2Proof.Machine

section
variable {W : Watch} {s t : State}

/-! ### Where no field is watched -/

theorem State.calm_clearRegs_blind (hK : W.Blind) (lo hi : Nat) : Calm W s (t.clearRegs lo hi) ↔ Calm W s t :=
  State.calm_clearRegs fun k hk => absurd hk (hK k)
theorem State.calm_dropRegs_blind (hK : W.Blind) (n : Nat) (l : List (Nat × Nat)) :
    Calm W s (t.dropRegs n l) ↔ Calm W s t := by
  simp [State.dropRegs, State.calm_clearRegs_blind hK]
theorem State.calm_capture_blind (hK : W.Blind) (b off stride : Nat) (l : List (Nat × Fld × Nat)) :
    Calm W s (t.capture b off stride l) ↔ Calm W s t :=
  State.calm_capture (hK _) (hK _) fun _ _ => hK _

/-! ### The mirror and the catalogue (chapters 10 and 12) -/

theorem State.calm_qwPut (n q k v : Nat) : Calm W s (t.qwPut n q k v) ↔ Calm W s t := by simp [State.qwPut]
theorem State.calm_qfPut (n q k hi lo v : Nat) : Calm W s (t.qfPut n q k hi lo v) ↔ Calm W s t :=
  State.calm_qwPut _ _ _ _
theorem State.calm_raiseMirBit (hK : W.Blind) (n : Nat) (f : Fld) (i : Nat) :
    Calm W s (t.raiseMirBit n f i) ↔ Calm W s t := by
  simp [State.raiseMirBit, hK.not_key]
theorem State.calm_catErr (hK : W.Blind) (n kind q : Nat) : Calm W s (t.catErr n kind q) ↔ Calm W s t := by
  simp [State.catErr, State.raiseMir, State.calm_qfPut, State.calm_raiseMirBit hK, State.calm_capture_blind hK]
theorem State.calm_ringPut (hK : W.Blind) {n master a : Nat} {data : List Byte} {u : State}
    (h : t.ringPut n master a data = some u) : Calm W s u ↔ Calm W s t := by
  unfold State.ringPut at h
  split at h
  · cases h
    exact State.calm_comWrite hK.boot _ _ _ _
  · obtain ⟨k, -, rfl⟩ := Option.map_eq_some_iff.1 h
    exact State.calm_stn _ _
theorem State.calm_recWrite (hK : W.Blind) (n : Nat) (x : Slip) (words : List Nat) (signal : Bool) :
    Calm W s (t.recWrite n x words signal) ↔ Calm W s t := by
  unfold State.recWrite
  cases x.cq with
  | none => cases x.doneSem <;> cases signal <;> simp [hK.boot]
  | some cq =>
    dsimp only
    rw [Calm.ite, State.calm_raiseMirBit hK, ite_self]
    split <;> simp only [State.calm_semSignal hK.boot, State.calm_qwPut, State.calm_qfPut] <;> split
    · next h => exact State.calm_ringPut hK h
    · exact State.calm_catErr hK n 2 cq
    · next h => exact State.calm_ringPut hK h
    · exact State.calm_catErr hK n 2 cq
theorem State.calm_catSync (hK : W.Blind) (n : Nat) : Calm W s (t.catSync n) ↔ Calm W s t := by
  simp [State.catSync, hK.not_key]
theorem State.calm_mirGo (hK : W.Blind) (n : Nat) (a : MirAct) : Calm W s (t.mirGo n a) ↔ Calm W s t := by
  cases a with
  | dispatch x => simp [State.mirGo]
  | record x w => exact State.calm_recWrite hK n x w true
  | qcmd r => simp [State.mirGo, hK.not_key]
  | carrel d k r => simp [State.mirGo, hK.not_key]
  | other => rfl
theorem State.calm_mirStop (hK : W.Blind) : Calm W s t.mirStop ↔ Calm W s t := by
  unfold State.mirStop
  dsimp only
  split <;> simp [State.mirFlush, State.calm_mirGo hK, State.calm_catSync hK, hK.not_key]

/-! ### Links and Stack dies (chapters 3 and 7) -/

theorem State.calm_setLinkBit (hK : W.Blind) (f : Nat × Fld) (k : Nat) (b : Bool) :
    Calm W s (t.setLinkBit f k b) ↔ Calm W s t := by
  simp [State.setLinkBit, hK.not_key]
theorem State.calm_setBoth (hK : W.Blind) (f : Fld × Nat) (b : Bool) : Calm W s (t.setBoth f b) ↔ Calm W s t := by
  simp [State.setBoth, hK.not_key]
theorem State.calm_linkCause (hK : W.Blind) (l : Nat) (f : Fld) : Calm W s (t.linkCause l f) ↔ Calm W s t := by
  simp [State.linkCause, hK.not_key]
theorem State.calm_linkDrop (hK : W.Blind) (l : Nat) (doze : Bool) : Calm W s (t.linkDrop l doze) ↔ Calm W s t := by
  simp [State.linkDrop, hK.not_key, State.calm_setLinkBit hK, State.calm_setBoth hK, State.calm_linkCause hK]
theorem State.calm_wingDown (hK : W.Blind) (d w : Nat) (doze : Bool) : Calm W s (t.wingDown d w doze) ↔ Calm W s t := by
  simp [State.wingDown, State.calm_clearRegs_blind hK]
/-- The registers of a Stack die that goes off, with its wings. -/
def State.sdRegsOff (s : State) (d : Nat) : State :=
  (List.range 8).foldl (fun s w => s.wingDown d w false)
    ((s.clearRegs (sd d + 0x100) (sd d + 0x800)).wr (sd d) R.DEGRADED_WING 0)
/-- The rest of it holds no field and no other die's record. -/
theorem State.sdDown_eq (s : State) (d : Nat) : ∃ u : State, s.sdDown d false = u.modSd d (fun _ => {}) ∧
    u.fld = (s.sdRegsOff d).fld ∧ u.cds = (s.sdRegsOff d).cds ∧ u.sds = (s.sdRegsOff d).sds := by
  have h : (List.range 8).foldl (fun s w => s.wingDown d w false)
      ((s.clearRegs (sd d + 0x100) (sd d + 0x800)).wr (sd d) R.DEGRADED_WING 0) = s.sdRegsOff d := rfl
  unfold State.sdDown
  simp only [Bool.false_eq_true, if_false, h]
  exact ⟨_, rfl, rfl, rfl, rfl⟩
theorem State.calm_sdDown (hK : W.Blind) {d : Nat} (hd : ¬ W.sds d) : Calm W s (t.sdDown d false) ↔ Calm W s t := by
  obtain ⟨u, hu, hf, hc, hs⟩ := t.sdDown_eq d
  rw [hu, State.calm_modSd hd, Calm.of_eq hf hc hs]
  simp [State.sdRegsOff, State.calm_wingDown hK, State.calm_clearRegs_blind hK, hK.not_key]
theorem State.calm_sdOff (hK : W.Blind) {d : Nat} (hd : ¬ W.sds d) : Calm W s (t.sdOff d false) ↔ Calm W s t := by
  simp [State.sdOff, State.calm_sdDown hK hd, State.calm_linkDrop hK]

/-! ### Control dies -/

theorem State.calm_lbusShow (hK : W.Blind) (n d : Nat) (up : Bool) : Calm W s (t.lbusShow n d up) ↔ Calm W s t := by
  simp [State.lbusShow, hK.not_key]
theorem State.calm_mainDown_sleep (hK : W.Blind) {n : Nat} (hn : ¬ W.die n) :
    Calm W s (t.mainDown n true) ↔ Calm W s t := by
  simp [State.mainDown, State.mainRec, State.calm_modCd_other hn, State.calm_mirStop hK, State.calm_linkDrop hK,
    State.calm_dropRegs_blind hK, State.calm_lbusShow hK, hK.not_key]
theorem State.calm_bootDown_blind (hK : W.Blind) {n : Nat} (hn : ¬ W.die n) :
    Calm W s (t.bootDown n) ↔ Calm W s t := by
  simp [State.bootDown, State.calm_modCd_other hn, State.calm_dropRegs_blind hK, hK.not_key, hK.boot]
/-- The islands and registers of a Control die that goes off. -/
def State.cdRegsOff (s : State) (n : Nat) : State :=
  (((s.mainDown n true).bootDown n).dropRegs n [(0, 0x4000), (0x4200, 0x5000), (0x5400, 0x80000)]).wr (cd n)
    R.WING_LOADED_LOADED 0
theorem State.cdOff_eq (s : State) (n : Nat) : s.cdOff n = ({ (s.cdRegsOff n).clearMem (pkRow n 0 0) (pkRow n 2 0) with
    flips := Store.clear (s.cdRegsOff n).flips (pkKey n 0 0) (pkKey n 2 0) }.wr (cd n) R.PAIR_STAT_DIE n).modCd n
      (fun x => { vault := x.vault }) := rfl
theorem State.calm_cdOff (hK : W.Blind) {n : Nat} (hn : ¬ W.die n) : Calm W s (t.cdOff n) ↔ Calm W s t := by
  have hf : ∀ (u : State) lo hi x, Calm W s { u.clearMem lo hi with flips := x } ↔ Calm W s u :=
    fun _ _ _ _ => Calm.of_eq rfl rfl rfl
  rw [State.cdOff_eq, State.calm_modCd_other hn, State.calm_wr (hK _), hf, State.cdRegsOff, State.calm_wr (hK _),
    State.calm_dropRegs_blind hK, State.calm_bootDown_blind hK hn, State.calm_mainDown_sleep hK hn]

/-! ### Load dies -/

@[simp] theorem State.calm_modChan (i : Nat) (f : Chan → Chan) : Calm W s (t.modChan i f) ↔ Calm W s t :=
  Calm.of_eq rfl rfl rfl
@[simp] theorem State.calm_modLd (d : Nat) (f : LdX → LdX) : Calm W s (t.modLd d f) ↔ Calm W s t :=
  Calm.of_eq rfl rfl rfl
theorem State.calm_ldReset (hK : W.Blind) (d : Nat) : Calm W s (t.ldReset d) ↔ Calm W s t := by
  simp only [State.ldReset, State.calm_modLd, Calm.foldl, State.calm_modChan, implies_true, State.calm_clearRegs_blind hK]
theorem State.ldx_ldReset (s : State) (d e : Nat) :
    ((s.ldReset d).ldx e).inReset = if e = d then true else (s.ldx e).inReset := by
  obtain ⟨u, hu, hl⟩ : ∃ u : State, s.ldReset d = u.modLd d (fun x => { otp := x.otp, inReset := true }) ∧
      u.lds = s.lds := by
    have hc : Part.chans ∈ [Part.chans] := List.mem_cons_self
    refine ⟨_, rfl, (?_ : Keeps [.chans] s _) .lds (by decide)⟩
    simp only [Keeps.foldl, State.keeps_modChan hc, implies_true, State.keeps_clearRegs, Keeps.refl]
  rw [hu]
  split
  next h => rw [h, State.ldx_modLd_same]
  next h => simp [State.ldx, State.modLd, Store.get_put_other _ _ _ _ _ _ h, hl]

end

/-! ### The command -/

theorem State.cdOff_power (s : State) (n : Nat) : ((s.cdOff n).cdx n).bootUp = false ∧ ((s.cdOff n).cdx n).mainUp = false := by
  rw [State.cdOff_eq, State.cdx_modCd_same]
  exact ⟨rfl, rfl⟩
theorem State.sdOff_up (s : State) (d : Nat) : ((s.sdOff d false).sdx d).up = false := by
  obtain ⟨u, hu, -⟩ := State.sdDown_eq ((sdLinks d).foldl (fun s l => s.linkDrop l false) s) d
  rw [State.sdOff, hu, State.sdx_modSd_same]

/-- The record of Stack die `k` alone. -/
def stackWatch (k : Nat) : Watch := ⟨fun _ => False, (· = k), fun _ => False⟩
theorem stackWatch_blind (k : Nat) : (stackWatch k).Blind := fun _ => not_false

theorem State.sdOffs_up {k : Nat} (l : List Nat) (s : State) (h : k ∈ l ∨ (s.sdx k).up = false) :
    ((l.foldl (fun s d => s.sdOff d false) s).sdx k).up = false := by
  induction l generalizing s with
  | nil => exact h.resolve_left (by simp)
  | cons d l ih =>
    rw [List.foldl_cons]
    refine ih (s.sdOff d false) ?_
    by_cases e : d = k
    · exact .inr (e ▸ s.sdOff_up d)
    · have hc : Calm (stackWatch k) s (s.sdOff d false) := (State.calm_sdOff (stackWatch_blind k) e).2 (Calm.refl _ _)
      exact h.imp (fun hm => (List.mem_cons.1 hm).resolve_left (Ne.symm e)) fun hup => by rw [hc.sdx rfl, hup]

/-- Both Control dies go off, and the Load dies are held in reset. -/
def State.diesOff (s : State) : State := (((s.cdOff 0).cdOff 1).ldReset 0).ldReset 1
theorem State.diesOff_ldx (s : State) (d : Fin 2) : (s.diesOff.ldx d).inReset = true := by
  fin_cases d <;> simp [State.diesOff, State.ldx_ldReset]
theorem State.diesOff_power (s : State) (n : Fin 2) :
    (s.diesOff.cdx n).bootUp = false ∧ (s.diesOff.cdx n).mainUp = false := by
  have hoff : ∀ {u v : State} {n : Nat}, Calm (powerWatch n) u v → (u.cdx n).bootUp = false ∧ (u.cdx n).mainUp = false →
      (v.cdx n).bootUp = false ∧ (v.cdx n).mainUp = false := by
    rintro u v n hc ⟨hb, hm⟩
    exact ⟨(hc.bootUp rfl).trans hb, (hc.mainUp rfl).trans hm⟩
  have hK := powerWatch_blind
  fin_cases n
  · refine hoff ?_ (s.cdOff_power 0)
    rw [State.diesOff, State.calm_ldReset (hK _), State.calm_ldReset (hK _), State.calm_cdOff (hK _) (show ¬ 1 = 0 by decide)]
    exact Calm.refl _ _
  · refine hoff ?_ ((s.cdOff 0).cdOff_power 1)
    rw [State.diesOff, State.calm_ldReset (hK _), State.calm_ldReset (hK _)]
    exact Calm.refl _ _
theorem State.diesOff_sdx (s : State) (k : Nat) : s.diesOff.sdx k = s.sdx k := by
  have hK := stackWatch_blind k
  have hc : Calm (stackWatch k) s s.diesOff := by
    rw [State.diesOff, State.calm_ldReset hK, State.calm_ldReset hK, State.calm_cdOff hK not_false,
      State.calm_cdOff hK not_false]
    exact Calm.refl _ _
  exact hc.sdx rfl

theorem execVaonLoss_eq (s : State) : execVaonLoss s =
    done { ([0, 1, 2, 3].foldl (fun s d => s.sdOff d false) s).diesOff with
      pins := { ([0, 1, 2, 3].foldl (fun s d => s.sdOff d false) s).diesOff.pins with vbat := false, vaon := false } } := by
  simp only [execVaonLoss, State.diesOff]

theorem vaonLoss_shows (n : Fin 2) (d : Fin 2) (k : Fin 4) (s : State) : ∃ t, exec .vaonLoss s = .next t ∧
    t.pins.vbat = false ∧ t.pins.vaon = false ∧ (t.ldx d).inReset = true ∧ (t.cdx n).bootUp = false ∧
    (t.cdx n).mainUp = false ∧ (t.sdx k).up = false := by
  obtain ⟨u, hu⟩ : ∃ u, u = [0, 1, 2, 3].foldl (fun s d => s.sdOff d false) s := ⟨_, rfl⟩
  obtain ⟨v, hv⟩ : ∃ v, v = u.diesOff := ⟨_, rfl⟩
  have hexec : exec .vaonLoss s = done { v with pins := { v.pins with vbat := false, vaon := false } } := by
    rw [hv, hu]
    exact execVaonLoss_eq s
  obtain ⟨hboot, hmain⟩ : (v.cdx n).bootUp = false ∧ (v.cdx n).mainUp = false := by
    rw [hv]; exact u.diesOff_power n
  have hup : (v.sdx k).up = false := by
    rw [hv, State.diesOff_sdx, hu]
    exact State.sdOffs_up _ s (.inl (by fin_cases k <;> decide))
  have hld : (v.ldx d).inReset = true := by
    rw [hv]; exact u.diesOff_ldx d
  refine ⟨_, hexec, by simp, by simp, ?_, ?_, ?_, ?_⟩
  · rw [State.ldx, State.settle_lds]; exact hld
  · rw [State.cdx_settle]; exact hboot
  · rw [State.cdx_settle]; exact hmain
  · rw [State.sdx, State.settle_sds]; exact hup

end Sys2Proof.Machine
end

section
/-! Steps 1 to 13 of a power-up (R64), command by command. -/

namespace Sys2Proof.Machine

/-- Settles O44: one lemma for each command of a power-up. What the rest of a command does is calm in what the command
is to show (`Calm`). -/
theorem bootFromTheBattery : Obligations.BootFromTheBattery :=
  ⟨vbatRise_shows, vaonLoss_shows, bootDomainClocked_shows, shelfListAdopt_shows, activeClaim_shows,
    cd1ClaimTimeout_shows, perstNRise_shows, perstNLow_shows, pcieLinkUp_shows, stackPowerStart_shows,
    pmbusStatusPoll_shows, railFailTimeout_shows, readingRoomSweepDone_shows⟩

end Sys2Proof.Machine
end

section
/-! SUPPORT. A target of a shadow run that the folio map cannot name (R98, R128). As above, the field store of a state
holds any number, while a write of the map cuts it to the 4 bits of a position. -/

namespace Sys2Proof.Machine

/-- A shadow run of folio 0 in wing 0 of SD0 has made its 1,024 comparisons, and FOLIO_STAT holds 16 as its target, which
TARGET cannot show and no position has as its number. -/
def shadowWideTarget : State :=
  { State.reset with
    fld := [(R.FOLIO_STAT_OP, 2), (R.FOLIO_STAT_PHASE, 4), (R.FOLIO_STAT_TARGET, 16), (R.SHADOW_CNT_COUNT, 1024)].foldl
      (fun m x => Store.insert m (fkey (wg 0 0) x.1) x.2) State.reset.fld }

/-- SHADOW_SWITCH gives folio 0 that target, cut to the 4 bits that the map has for a folio. -/
theorem shadowSwitch_cuts_target {t : State} (h : exec (.shadowSwitch 0 0) shadowWideTarget = .next t) :
    t.folioPos 0 0 0 = 0 := by
  cases h
  decide +kernel

/-- Refutes O41: SHADOW_SWITCH is to leave the map of the folio at the target that FOLIO_STAT holds, but the map has 4
bits for a position, and the state may hold 16 as the target (`shadowWideTarget`). -/
theorem not_failedPositionsAreReplaced : ¬ Obligations.FailedPositionsAreReplaced := by
  unfold Obligations.FailedPositionsAreReplaced
  rintro ⟨-, -, -, -, -, -, hswitch, -⟩
  have hwide : shadowWideTarget.rd (wg 0 0) R.FOLIO_STAT_TARGET = 16 ∧
      shadowWideTarget.rd (wg 0 0) R.FOLIO_STAT_FOLIO = 0 := by decide +kernel
  obtain ⟨t, ht, hmap, -⟩ :=
    hswitch 0 0 shadowWideTarget (by decide +kernel) (by decide +kernel) (by decide +kernel) (by decide +kernel)
      (by decide +kernel) (by decide +kernel)
  have hpos : t.folioPos 0 0 0 = 16 := by simpa [hwide] using hmap
  exact absurd ((shadowSwitch_cuts_target ht).symm.trans hpos) (by decide)

end Sys2Proof.Machine
end

section
/-! SUPPORT. What a step inside one wing leaves alone. `InWing L Q d w s t` says that from `s` to `t` only parts of `L`
change, only fields of wing `w` of SD `d` whose bits in the wing's block are in `Q`, and the outputs that follow the state
(`settleKeys`). As for `Keeps`, an operation that stays within it can be dropped on the right side. -/

namespace Sys2Proof.Machine

/-- Key `k` is that of a field of wing `w` of SD `d` that begins at a bit of `Q` in the wing's block. -/
def wingKey (Q : Nat → Bool) (d w k : Nat) : Prop := wg d w * 32 ≤ k ∧ Q (k - wg d w * 32) = true
/-- Every bit of the registers at offsets `lo` to `hi` is in `Q`. -/
def Covers (Q : Nat → Bool) (lo hi : Nat) : Prop := ∀ x, lo * 32 ≤ x → x < hi * 32 → Q x = true
/-- No bit of the registers at offsets `lo` to `hi` is in `Q`. -/
def Spares (Q : Nat → Bool) (lo hi : Nat) : Prop := ∀ x, lo * 32 ≤ x → x < hi * 32 → Q x = false

/-- From `s` to `t` only parts of `L`, fields of the wing at bits of `Q`, and `settleKeys` change. -/
def InWing (L : List Part) (Q : Nat → Bool) (d w : Nat) (s t : State) : Prop :=
  Keeps L s t ∧ ∀ k, ¬ wingKey Q d w k → k ∉ settleKeys → ∀ e, Store.get e t.fld k = Store.get e s.fld k

theorem wingKey_fkey (Q : Nat → Bool) (d w : Nat) (f : Fld) : wingKey Q d w (fkey (wg d w) f) ↔ Q (fkey 0 f) = true := by
  have h : fkey (wg d w) f = wg d w * 32 + fkey 0 f := by simp only [fkey]; omega
  simp [wingKey, h]
theorem not_wingKey_cd (Q : Nat → Bool) (d w : Nat) {n : Nat} (hn : n < 2) {f : Fld} (hf : fkey 0 f < 2 ^ 36) :
    ¬ wingKey Q d w (fkey (cd n) f) := by
  rintro ⟨h, -⟩
  simp only [fkey, cd, wg] at h hf
  omega
theorem fkey_wg_not_settled (d w : Nat) (f : Fld) : fkey (wg d w) f ∉ settleKeys := by
  have h : ∀ k ∈ settleKeys, k < 4 * 2 ^ 36 * 32 := by decide
  intro hk
  have := h _ hk
  simp only [fkey, wg] at this
  omega

section
variable {L : List Part} {Q : Nat → Bool} {d w : Nat} {s t u : State}

@[simp] theorem InWing.refl (L : List Part) (Q : Nat → Bool) (d w : Nat) (s : State) : InWing L Q d w s s :=
  ⟨Keeps.refl L s, fun _ _ _ _ => rfl⟩
theorem InWing.congr_right (h : InWing L Q d w t u) : InWing L Q d w s u ↔ InWing L Q d w s t :=
  ⟨fun h' => ⟨(Keeps.congr_right h.1).1 h'.1, fun k hk hs e => (h.2 k hk hs e).symm.trans (h'.2 k hk hs e)⟩,
    fun h' => ⟨(Keeps.congr_right h.1).2 h'.1, fun k hk hs e => (h.2 k hk hs e).trans (h'.2 k hk hs e)⟩⟩

/-- A step that changes less. -/
theorem InWing.mono (h : InWing L Q d w s t) {L' : List Part} {Q' : Nat → Bool} (hL : ∀ p ∈ L, p ∈ L')
    (hQ : ∀ x, Q x = true → Q' x = true) : InWing L' Q' d w s t :=
  ⟨fun p hp => h.1 p fun hp' => hp (hL p hp'), fun k hk => h.2 k fun hk' => hk ⟨hk'.1, hQ _ hk'.2⟩⟩

/-! ### What still reads as before -/

theorem InWing.same (h : InWing L Q d w s t) {p : Part} (hp : p ∉ L) : s.same t p := h.1 p hp
theorem InWing.rd (h : InWing L Q d w s t) {f : Fld} (hq : Q (fkey 0 f) = false) : t.rd (wg d w) f = s.rd (wg d w) f :=
  h.2 _ (by simp [wingKey_fkey, hq]) (fkey_wg_not_settled d w f) _
theorem InWing.rd_cd (h : InWing L Q d w s t) {n : Nat} (hn : n < 2) {f : Fld} (hf : fkey 0 f < 2 ^ 36)
    (hs : fkey (cd n) f ∉ settleKeys) : t.rd (cd n) f = s.rd (cd n) f :=
  h.2 _ (not_wingKey_cd Q d w hn hf) hs _

/-! ### Updates within the wing -/

@[simp] theorem InWing.foldl {β : Type} {g : State → β → State} (l : List β)
    (h : ∀ u, ∀ x ∈ l, InWing L Q d w s (g u x) ↔ InWing L Q d w s u) :
    InWing L Q d w s (l.foldl g t) ↔ InWing L Q d w s t := by
  induction l generalizing t with
  | nil => rfl
  | cons x xs ih => exact (ih fun u y hy => h u y (by simp [hy])).trans (h t x (by simp))
@[simp ↓] theorem InWing.ite {c : Prop} [Decidable c] :
    InWing L Q d w s (if c then t else u) ↔ if c then InWing L Q d w s t else InWing L Q d w s u := by split <;> rfl

/-- An update that shows in one part of `L` alone. -/
theorem InWing.of_part {p : Part} (hp : p ∈ L) (h : ∀ q, q ≠ p → t.same u q) (hf : u.fld = t.fld) :
    InWing L Q d w s u ↔ InWing L Q d w s t :=
  InWing.congr_right ⟨fun q hq => h q fun he => hq (he ▸ hp), fun _ _ _ _ => by rw [hf]⟩
@[simp] theorem State.inWing_modAgent (h : .agents ∈ L) (a : Nat) (f : Agent → Agent) :
    InWing L Q d w s (t.modAgent a f) ↔ InWing L Q d w s t :=
  InWing.of_part h (fun q hq => by cases q <;> trivial) rfl
@[simp ↓] theorem State.inWing_waitq (h : .waitq ∈ L) (x : List (Nat × Nat)) :
    InWing L Q d w s { t with waitq := x } ↔ InWing L Q d w s t :=
  InWing.of_part h (fun q hq => by cases q <;> trivial) rfl
@[simp ↓] theorem State.inWing_acc (h : .acc ∈ L) (x : Store Nat) :
    InWing L Q d w s { t with acc := x } ↔ InWing L Q d w s t :=
  InWing.of_part h (fun q hq => by cases q <;> trivial) rfl
@[simp ↓] theorem State.inWing_shScale (h : .shScale ∈ L) (x : Store Nat) :
    InWing L Q d w s { t with shScale := x } ↔ InWing L Q d w s t :=
  InWing.of_part h (fun q hq => by cases q <;> trivial) rfl
@[simp ↓] theorem State.inWing_parity (h : .parity ∈ L) (x : Store Nat) :
    InWing L Q d w s { t with parity := x } ↔ InWing L Q d w s t :=
  InWing.of_part h (fun q hq => by cases q <;> trivial) rfl
@[simp] theorem State.inWing_setPoison (h : .poison ∈ L) (k : Nat) (b : Bool) :
    InWing L Q d w s (t.setPoison k b) ↔ InWing L Q d w s t :=
  InWing.of_part h (fun q hq => by cases q <;> trivial) rfl
@[simp] theorem State.inWing_stn (h : .mem ∈ L) (a : Nat) (l : List Byte) :
    InWing L Q d w s (t.stn a l) ↔ InWing L Q d w s t := by
  induction l generalizing t a with
  | nil => rfl
  | cons x xs ih => exact (ih _).trans (InWing.of_part h (fun q hq => by cases q <;> trivial) rfl)

@[simp] theorem State.inWing_settle : InWing L Q d w s t.settle ↔ InWing L Q d w s t :=
  InWing.congr_right ⟨State.keeps_settle.2 (Keeps.refl L t), fun k _ hs e => State.settle_get t e k hs⟩
@[simp] theorem State.inWing_wr {f : Fld} (hq : Q (fkey 0 f) = true) (v : Nat) :
    InWing L Q d w s (t.wr (wg d w) f v) ↔ InWing L Q d w s t :=
  InWing.congr_right ⟨(State.keeps_wr _ _ _).2 (Keeps.refl L t), fun _ hk _ _ =>
    State.get_wr_other _ _ _ _ _ _ fun he => hk (he ▸ (wingKey_fkey Q d w f).2 hq)⟩
@[simp] theorem State.inWing_inc {f : Fld} (hq : Q (fkey 0 f) = true) :
    InWing L Q d w s (t.inc (wg d w) f) ↔ InWing L Q d w s t := State.inWing_wr hq _
@[simp] theorem State.inWing_raise {f : Fld} (hc : Q (fkey 0 (cnt32 f)) = true) (hq : Q (fkey 0 f) = true) :
    InWing L Q d w s (t.raise (wg d w) f) ↔ InWing L Q d w s t := by
  simp [State.raise, State.raiseIn, hq, hc]
/-- An error log whose captured fields lie in the wing. -/
theorem State.inWing_capture {off stride : Nat} {l : List (Nat × Fld × Nat)}
    (hv : Q (fkey 0 ⟨off, 31, 31, 0, stride⟩) = true) (ho : Q (fkey 0 ⟨off, 30, 30, 0, stride⟩) = true)
    (hl : ∀ x ∈ l, x.1 = wg d w ∧ Q (fkey 0 x.2.1) = true) :
    InWing L Q d w s (t.capture (wg d w) off stride l) ↔ InWing L Q d w s t := by
  have hfold : ∀ u : State, InWing L Q d w s (l.foldl (fun s p => s.wr p.1 p.2.1 p.2.2) u) ↔ InWing L Q d w s u :=
    fun u => InWing.foldl l fun u x hx => by
      obtain ⟨hb, hq⟩ := hl x hx
      rw [hb]
      exact State.inWing_wr hq _
  simp [State.capture, hfold, hv, ho]

end

end Sys2Proof.Machine
end

section
/-! SUPPORT. What issuing an instruction changes beside the instruction itself (R259 to R261): a wing controller's record,
the list of waiters, and the registers that report the controller. -/

namespace Sys2Proof.Machine

/-- The registers that report a wing controller, WC_STAT to WC_QFILL, but for the PC. -/
def reportBits (x : Nat) : Bool := decide (0x190 * 32 < x) && decide (x < 0x1A4 * 32)
/-- Those registers with the PC. -/
def controlBits (x : Nat) : Bool := decide (0x190 * 32 ≤ x) && decide (x < 0x1A4 * 32)

/-- From `s` to `t` only what the control of wing controller `a` owns has changed, and of its registers those of `Q`. -/
abbrev Aside (Q : Nat → Bool) (a : Nat) (s t : State) : Prop := InWing [.agents, .waitq] Q (wcDie a) (wcWing a) s t
/-- `Q` has every report of a wing controller but for the PC. -/
def Reports (Q : Nat → Bool) : Prop := ∀ x, reportBits x = true → Q x = true

theorem reports_reportBits : Reports reportBits := fun _ h => h
theorem reports_controlBits : Reports controlBits := by
  intro x h
  simp only [reportBits, controlBits, Bool.and_eq_true, decide_eq_true_eq] at *
  omega

section
variable {Q : Nat → Bool} {a : Nat} {s t : State}

theorem isSq_eq_false (h : 16 ≤ a) : isSq a = false := by simp [isSq]; omega
theorem agBase_wing (ha : isSq a = false) : agBase a = wg (wcDie a) (wcWing a) := by simp [agBase, ha]
theorem fState_wing (ha : isSq a = false) : fState a = R.WC_STAT_STATE := by simp [fState, ha]
theorem State.pc_wing (ha : isSq a = false) : s.pc a = s.rd (wg (wcDie a) (wcWing a)) R.WC_STAT_PC := by
  simp [State.pc, agBase, fPc, ha]

@[simp] theorem State.aside_setAgState (ha : isSq a = false) (hQ : Reports Q) (v : Nat) :
    Aside Q a s (t.setAgState a v) ↔ Aside Q a s t := by
  rw [State.setAgState, agBase_wing ha, fState_wing ha]
  exact State.inWing_wr (hQ _ (by decide)) v
@[simp] theorem State.aside_qfill (ha : isSq a = false) (hQ : Reports Q) : Aside Q a s (t.qfill a) ↔ Aside Q a s t := by
  have hq : ∀ f ∈ [R.WC_QFILL_CIM, R.WC_QFILL_VEC, R.WC_QFILL_MOVE, R.WC_QFILL_LINK], Q (fkey 0 f) = true :=
    fun f hf => hQ _ ((by decide : ∀ f ∈ [R.WC_QFILL_CIM, R.WC_QFILL_VEC, R.WC_QFILL_MOVE, R.WC_QFILL_LINK],
      reportBits (fkey 0 f) = true) f hf)
  simp [State.qfill, ha, agBase_wing ha, hq]
@[simp] theorem State.aside_modEng (ha : isSq a = false) (hQ : Reports Q) (e : Nat) (f : Engine → Engine) :
    Aside Q a s (t.modEng a e f) ↔ Aside Q a s t := by simp [State.modEng, ha, hQ]
@[simp] theorem State.aside_logFault (ha : isSq a = false) (hQ : Reports Q) (engine code pc : Nat) :
    Aside Q a s (t.logFault a engine code pc) ↔ Aside Q a s t := by
  have hq : ∀ f ∈ [R.WC_FLT_ENGINE, R.WC_FLT_CODE, R.WC_FLT_PC], Q (fkey 0 f) = true :=
    fun f hf => hQ _ ((by decide : ∀ f ∈ [R.WC_FLT_ENGINE, R.WC_FLT_CODE, R.WC_FLT_PC], reportBits (fkey 0 f) = true) f hf)
  simp only [State.logFault, ha, agBase_wing ha]
  exact State.inWing_capture (hQ _ (by decide)) (hQ _ (by decide)) (by simp [hq])
@[simp] theorem State.aside_abandon (ha : isSq a = false) (hQ : Reports Q) :
    Aside Q a s (t.abandon a) ↔ Aside Q a s t := by simp [State.abandon, ha, hQ]
@[simp] theorem State.aside_trapAt (ha : isSq a = false) (hQ : Reports Q) (engine code pc tcode : Nat) :
    Aside Q a s (t.trapAt a engine code pc tcode) ↔ Aside Q a s t := by simp [State.trapAt, ha, hQ]
@[simp] theorem State.aside_stopNow (ha : isSq a = false) (hQ : Reports Q) :
    Aside Q a s (t.stopNow a) ↔ Aside Q a s t := by simp [State.stopNow, ha, hQ]
/-- At an instruction boundary the controller may trap, stop or halt (R267, R268, R676). -/
@[simp] theorem State.aside_boundary (ha : isSq a = false) (hQ : Reports Q) :
    Aside Q a s (t.boundary a) ↔ Aside Q a s t := by
  unfold State.boundary
  dsimp only
  split
  · rfl
  · split <;> simp [ha, hQ]
@[simp] theorem State.aside_stepped : Aside Q a s (t.stepped a) ↔ Aside Q a s t := by simp [State.stepped]

/-! ### The PC -/

theorem Aside.pc (ha : isSq a = false) (h : Aside reportBits a s t) : t.pc a = s.pc a := by
  rw [State.pc_wing ha, State.pc_wing ha]
  exact h.rd (by decide)
theorem State.aside_goto (ha : isSq a = false) (x : Int) : Aside controlBits a s (t.goto a x) ↔ Aside controlBits a s t := by
  have hpc : ∀ v, Aside controlBits a s (t.setPc a v) ↔ Aside controlBits a s t := by
    intro v
    rw [State.setPc, agBase_wing ha, show fPc a = R.WC_STAT_PC by simp [fPc, ha]]
    exact State.inWing_wr (by decide) v
  simp [State.goto, hpc]
theorem State.aside_adv (ha : isSq a = false) (x : Bool) : Aside controlBits a s (t.adv a x) ↔ Aside controlBits a s t := by
  unfold State.adv
  dsimp only
  split
  · split
    · split <;> simp [State.depthSync, ha, State.aside_goto]
    · simp [ha, State.aside_goto]
  · simp [ha, State.aside_goto]
/-- Where no loop runs, the PC goes on to the next word (R281, R349). -/
theorem State.pc_adv (ha : isSq a = false) (x : Bool) (hloops : (s.agent a).loops = [])
    (hpc : s.pc a + 1 + b2n x < pmWords a) : (s.adv a x).pc a = s.pc a + 1 + b2n x := by
  have hgo : s.adv a x = s.goto a ((s.pc a + 1 + b2n x : Nat) : Int) := by simp [State.adv, hloops]
  simp only [pmWords, ha, Bool.false_eq_true, if_false] at hpc
  rw [hgo, State.pc_wing ha]
  simp only [State.goto, State.setPc, State.rd_modAgent, agBase_wing ha, show fPc a = R.WC_STAT_PC by simp [fPc, ha],
    State.rd_wr_same, wrapTo]
  omega

/-! ### Issue on an idle engine -/

/-- An instruction that nothing keeps from executing does what it is for. -/
theorem State.issue_of_issues {i : Ins} {regs : List Nat} (h : s.issues a i regs) (go : State → State) :
    s.issue a i true regs go = ((go s).stepped a).boundary a := by
  obtain ⟨hready, hbad, hpc, hpend, hpred⟩ := h
  have hin : ¬ pmWords a ≤ s.pc a + b2n i.x := by omega
  simp [State.issue, hready, hbad, hpend, hpred, hin]
/-- On an idle engine an instruction starts in the command that issues it (R260). -/
theorem State.engIssue_idle {e : Nat} {i : Ins} {regs : List Nat} (mk : State → EngIns) (h : s.issues a i regs)
    (hc : csemOk a i = true) (hrun : (s.engine a e).run = none) (hq : (s.engine a e).q = []) :
    s.engIssue a e i true regs mk = (((s.engStart a e (mk s)).adv a i.x).stepped a).boundary a := by
  simp [State.engIssue, State.engFull, State.issueAdv, State.issue_of_issues h, State.engPush, hc, hrun, hq]

@[simp] theorem State.loops_modEng (e : Nat) (f : Engine → Engine) : ((s.modEng a e f).agent a).loops = (s.agent a).loops := by
  have hq : ∀ u : State, (u.qfill a).agents = u.agents := fun u => by unfold State.qfill; split <;> rfl
  simp only [State.modEng, State.agent, hq]
  simp [State.modAgent, State.agent]

/-- What the unit of engine 2 or 3 may change when an instruction starts on it: everything but agents and waiters, and no
report of a controller. -/
abbrev UnitStep (a : Nat) (s t : State) : Prop :=
  InWing [.mem, .acc, .shScale, .poison, .parity] (fun x => !controlBits x) (wcDie a) (wcWing a) s t

/-- An instruction issues to an idle unit: the unit starts it on a state `u` with nothing changed but the engine, and
nothing but the control changes after that. Where the unit leaves the control alone, the PC goes on. -/
theorem State.unit_issued (ha : isSq a = false) {e : Nat} (he : e ≤ 3) {i : Ins} {regs : List Nat} (mk : State → EngIns)
    (h : s.issues a i regs) (hc : csemOk a i = true) (hrun : (s.engine a e).run = none) (hq : (s.engine a e).q = []) :
    ∃ u, Aside controlBits a s u ∧
      Aside controlBits a (u.unitStart a (mk s)).1 (s.engIssue a e i true regs mk).settle ∧
      (UnitStep a u (u.unitStart a (mk s)).1 → s.wentOn (s.engIssue a e i true regs mk).settle a i) := by
  set u := s.modEng a e (fun q => { q with run := some { ins := mk s } }) with hu
  set v := (u.unitStart a (mk s)).1.modEng a e (fun q => { q with run := some (u.unitStart a (mk s)).2 }) with hv
  have hissue : s.engIssue a e i true regs mk = ((v.adv a i.x).stepped a).boundary a := by
    rw [State.engIssue_idle mk h hc hrun hq, State.engStart, if_pos he]
  refine ⟨u, by simp [hu, ha, reports_controlBits], ?_, fun hunit hloops hpc => ?_⟩
  · simp [hissue, hv, ha, reports_controlBits, State.aside_adv]
  · have hvpc : v.pc a = s.pc a := by
      have h1 : v.pc a = (u.unitStart a (mk s)).1.pc a :=
        Aside.pc ha (by simp [hv, ha, reports_reportBits])
      have h2 : (u.unitStart a (mk s)).1.pc a = u.pc a := by
        rw [State.pc_wing ha, State.pc_wing ha]
        exact hunit.rd (by decide)
      have h3 : u.pc a = s.pc a := Aside.pc ha (by simp [hu, ha, reports_reportBits])
      rw [h1, h2, h3]
    have hvloops : (v.agent a).loops = [] := by
      have hagents : (u.unitStart a (mk s)).1.agents = u.agents := hunit.same (p := .agents) (by decide)
      rw [hv, State.loops_modEng, State.agent, hagents, ← State.agent, hu, State.loops_modEng, hloops]
    have hlast : (s.engIssue a e i true regs mk).settle.pc a = (v.adv a i.x).pc a :=
      Aside.pc ha (by simp [hissue, ha, reports_reportBits])
    rw [hlast, State.pc_adv ha i.x hvloops (by rw [hvpc]; exact hpc), hvpc]

end

end Sys2Proof.Machine
end

section
/-! SUPPORT. The CIM unit of a wing (chapters 4 and 5): what its operations find, what they write, and what they leave
alone. -/

namespace Sys2Proof.Machine

section
variable {L : List Part} {Q : Nat → Bool} {d w : Nat} {s t u : State}

/-! ### The folio map, KIND and SHIFT -/

theorem kindFld_eq (a : Nat) : ∃ j < 4, kindFld a = ⟨0xC0, 8 * j + 5, 8 * j + 4, 0, 4⟩ := by
  unfold kindFld
  split
  · exact ⟨0, by decide, rfl⟩
  · exact ⟨1, by decide, rfl⟩
  · exact ⟨2, by decide, rfl⟩
  · exact ⟨3, by decide, rfl⟩
theorem shiftFld_eq (a : Nat) : ∃ j < 4, shiftFld a = ⟨0xC0, 8 * j + 3, 8 * j, 0, 4⟩ := by
  unfold shiftFld
  split
  · exact ⟨0, by decide, rfl⟩
  · exact ⟨1, by decide, rfl⟩
  · exact ⟨2, by decide, rfl⟩
  · exact ⟨3, by decide, rfl⟩
theorem kindFld_bits {f : Nat} (hf : f < 14) (a : Nat) :
    0xC0 * 32 ≤ fkey 0 ((kindFld a).at f) ∧ fkey 0 ((kindFld a).at f) < 0xF8 * 32 := by
  obtain ⟨j, hj, he⟩ := kindFld_eq a
  simp only [he, fkey, Fld.at]; omega
theorem shiftFld_bits {f : Nat} (hf : f < 14) (a : Nat) :
    0xC0 * 32 ≤ fkey 0 ((shiftFld a).at f) ∧ fkey 0 ((shiftFld a).at f) < 0xF8 * 32 := by
  obtain ⟨j, hj, he⟩ := shiftFld_eq a
  simp only [he, fkey, Fld.at]; omega
theorem kindFld_ne_shiftFld (b f a c : Nat) : fkey b ((kindFld a).at f) ≠ fkey b ((shiftFld c).at f) := by
  obtain ⟨j, hj, hk⟩ := kindFld_eq a
  obtain ⟨l, hl, hs⟩ := shiftFld_eq c
  simp only [hk, hs, fkey, Fld.at]; omega
theorem kindFld_ne (b f : Nat) {a c : Nat} (h : kindFld a ≠ kindFld c) :
    fkey b ((kindFld a).at f) ≠ fkey b ((kindFld c).at f) := by
  obtain ⟨j, hj, ha⟩ := kindFld_eq a
  obtain ⟨l, hl, hc⟩ := kindFld_eq c
  have hjl : j ≠ l := fun e => h (by rw [ha, hc, e])
  simp only [ha, hc, fkey, Fld.at]; omega

theorem InWing.folioPos (h : InWing L Q d w s t) (hQ : Spares Q 0 0x20) (f : Nat) : t.folioPos d w f = s.folioPos d w f := by
  simp only [State.folioPos, h.rd (hQ (fkey 0 R.FMAP_LO_POS) (by decide) (by decide)),
    h.rd (hQ (fkey 0 R.FMAP_HI_POS) (by decide) (by decide))]
theorem InWing.shadowOf (h : InWing L Q d w s t) (hQ : Spares Q 0 0x20) (f : Nat) : t.shadowOf d w f = s.shadowOf d w f := by
  simp only [State.shadowOf, h.rd (hQ (fkey 0 R.FOLIO_STAT_OP) (by decide) (by decide)),
    h.rd (hQ (fkey 0 R.FOLIO_STAT_PHASE) (by decide) (by decide)),
    h.rd (hQ (fkey 0 R.FOLIO_STAT_FOLIO) (by decide) (by decide)),
    h.rd (hQ (fkey 0 R.FOLIO_STAT_TARGET) (by decide) (by decide))]
theorem InWing.computing (h : InWing L Q d w s t) (hQ : Spares Q 0 0x20) (f : Nat) :
    t.computing d w f = s.computing d w f := by
  simp only [State.computing, h.folioPos hQ, h.shadowOf hQ]
section
variable (h : InWing L Q d w s t) (hL : .shScale ∉ L) (hQ : Spares Q 0 0x20) (hS : Spares Q 0xC0 0xF8) {f : Nat}
  (hf : f < 14) (p a : Nat)
include h hL hQ hS hf
theorem InWing.kind : t.kind d w f p a = s.kind d w f p a := by
  have hscale : t.shScale = s.shScale := h.same hL
  obtain ⟨hlo, hhi⟩ := kindFld_bits hf a
  simp only [State.kind, h.folioPos hQ, hscale, h.rd (hS _ hlo hhi)]
theorem InWing.shift : t.shift d w f p a = s.shift d w f p a := by
  have hscale : t.shScale = s.shScale := h.same hL
  obtain ⟨hlo, hhi⟩ := shiftFld_bits hf a
  simp only [State.shift, h.folioPos hQ, hscale, h.rd (hS _ hlo hhi)]
end

theorem State.inWing_setScale (hL : .shScale ∈ L) (hQ : Covers Q 0xC0 0xF8) {f : Nat} (hf : f < 14)
    (p a kind shift : Nat) : InWing L Q d w s (t.setScale d w f p a kind shift) ↔ InWing L Q d w s t := by
  obtain ⟨hklo, hkhi⟩ := kindFld_bits hf a
  obtain ⟨hslo, hshi⟩ := shiftFld_bits hf a
  simp [State.setScale, hL, hQ _ hklo hkhi, hQ _ hslo hshi]
theorem State.inWing_newKinds (hL : .shScale ∈ L) (hQ : Covers Q 0xC0 0xF8) {f : Nat} (hf : f < 14) (p a mode : Nat) :
    InWing L Q d w s (t.newKinds d w f p a mode) ↔ InWing L Q d w s t := by
  have h : ∀ (u : State) (c k : Nat), InWing L Q d w s (u.setKind d w f p c k) ↔ InWing L Q d w s u :=
    fun u c k => State.inWing_setScale hL hQ hf p c k _
  unfold State.newKinds
  dsimp only
  split
  · rw [h, h]
  · split
    · rw [h, h]
    · split
      · rw [h, h]
      · rw [h]

@[simp] theorem State.acc_setScale (f p a kind shift : Nat) : (s.setScale d w f p a kind shift).acc = s.acc := by
  unfold State.setScale; split <;> rfl
@[simp] theorem State.acc_newKinds (f p a mode : Nat) : (s.newKinds d w f p a mode).acc = s.acc := by
  unfold State.newKinds State.setKind
  dsimp only
  split
  · simp
  · split
    · simp
    · split <;> simp

/-- The bits of the SCALE registers. -/
def scaleBits (x : Nat) : Bool := decide (0xC0 * 32 ≤ x) && decide (x < 0xF8 * 32)
theorem covers_scaleBits : Covers scaleBits 0xC0 0xF8 := fun x hlo hhi => by simp [scaleBits, hlo, hhi]
theorem spares_scaleBits : Spares scaleBits 0 0x20 := fun x _ hhi => by simp [scaleBits]; omega
theorem State.folioPos_setScale {f : Nat} (hf : f < 14) (p a kind shift g : Nat) :
    (s.setScale d w f p a kind shift).folioPos d w g = s.folioPos d w g := by
  have h : InWing [.shScale] scaleBits d w s (s.setScale d w f p a kind shift) :=
    (State.inWing_setScale (by decide) covers_scaleBits hf p a kind shift).2 (InWing.refl _ _ _ _ _)
  exact h.folioPos spares_scaleBits g

/-- KIND of a set after a write of SCALE for a set `c` of the folio. -/
theorem State.kind_setScale {f p : Nat} (hf : f < 14) (hp : s.folioPos d w f = p) (a c kind shift : Nat) :
    (s.setScale d w f p c kind shift).kind d w f p a = if kindFld c = kindFld a then kind % 4 else s.kind d w f p a := by
  have hp' := (State.folioPos_setScale (s := s) (d := d) (w := w) hf p c kind shift f).trans hp
  simp only [State.kind, hp', hp, if_true]
  rw [State.setScale, if_pos hp, State.rd_wr_other _ _ _ _ _ _ (kindFld_ne_shiftFld _ _ _ _)]
  split
  · next he =>
    obtain ⟨j, -, hj⟩ := kindFld_eq a
    rw [he, State.rd_wr_same, hj]
    simp [Fld.at]
  · next he => exact State.rd_wr_other _ _ _ _ _ _ (kindFld_ne _ _ (Ne.symm he))
theorem State.shift_setScale {f p : Nat} (hf : f < 14) (hp : s.folioPos d w f = p) (a kind shift : Nat) :
    (s.setScale d w f p a kind shift).shift d w f p a = shift % 16 := by
  have hp' := (State.folioPos_setScale (s := s) (d := d) (w := w) hf p a kind shift f).trans hp
  simp only [State.shift, hp', if_true]
  obtain ⟨j, -, hj⟩ := shiftFld_eq a
  have hwidth : 8 * j + 3 + 1 - 8 * j = 4 := by omega
  rw [State.setScale, if_pos hp, State.rd_wr_same, hj]
  simp [Fld.at, hwidth]
/-- An MVM in mode I leaves KIND 0, whatever becomes of the companion of its set (R143). -/
theorem State.kind_newKinds_zero {f p : Nat} (hf : f < 14) (hp : s.folioPos d w f = p) (a : Nat) :
    (s.newKinds d w f p a 0).kind d w f p a = 0 := by
  have hself : (s.setKind d w f p a 0).kind d w f p a = 0 := by
    rw [State.setKind, State.kind_setScale hf hp, if_pos rfl]
  have hp' : (s.setKind d w f p a 0).folioPos d w f = p := (State.folioPos_setScale hf _ _ _ _ _).trans hp
  unfold State.newKinds
  simp only [OfNat.zero_ne_ofNat, if_false]
  split
  · rw [State.setKind, State.kind_setScale hf hp', hself]
    simp
  · split
    · next h =>
      have hne : kindFld (a - 2) ≠ kindFld a := by
        intro he
        have : (s.setKind d w f p a 0).kind d w f p (a - 2) = 0 := by
          rw [State.setKind, State.kind_setScale hf hp, if_pos he.symm]
        omega
      rw [State.setKind, State.kind_setScale hf hp', if_neg hne, hself]
    · exact hself

/-! ### Accumulator entries -/

theorem State.accWord_eq_mod (k : Nat) {v : Nat} {bad : Bool} (h : Store.get 0 s.acc k = v % 2 ^ 32 + b2n bad * 2 ^ 32) :
    s.accWord k = v % 2 ^ 32 := by
  rw [State.accWord, h]; omega
theorem State.accBad_eq (k : Nat) {v : Nat} {bad : Bool} (h : Store.get 0 s.acc k = v % 2 ^ 32 + b2n bad * 2 ^ 32) :
    s.accBad k = bad := by
  rw [State.accBad, h, bitOf, Nat.add_mul_div_right _ _ (by decide), Nat.div_eq_of_lt (Nat.mod_lt _ (by decide))]
  cases bad <;> rfl
theorem accKey_inj {p a j k : Nat} (h : accKey d w p a j = accKey d w p a k) : j = k := by
  simp only [accKey] at h; omega
theorem State.get_accPut_same (k v : Nat) (bad : Bool) :
    Store.get 0 (s.accPut k v bad).acc k = v % 2 ^ 32 + b2n bad * 2 ^ 32 := Store.get_put_same 0 s.acc k _
theorem State.get_accPut_other {j k : Nat} (h : j ≠ k) (v : Nat) (bad : Bool) :
    Store.get 0 (s.accPut k v bad).acc j = Store.get 0 s.acc j := Store.get_put_other 0 0 s.acc k j _ h
/-- A run of writes, one for each of the first `n` entries of a set. -/
theorem State.get_accPuts (p a : Nat) (val : Nat → Nat) (bad : Bool) {n k : Nat} (hk : k < n) :
    Store.get 0 ((List.range n).foldl (fun s e => s.accPut (accKey d w p a e) (val e) bad) s).acc (accKey d w p a k) =
      val k % 2 ^ 32 + b2n bad * 2 ^ 32 := by
  induction n with
  | zero => omega
  | succ n ih =>
    rw [List.range_succ, List.foldl_append, List.foldl_cons, List.foldl_nil]
    by_cases he : k = n
    · rw [he, State.get_accPut_same]
    · rw [State.get_accPut_other fun h => he (accKey_inj h), ih (by omega)]
theorem State.inWing_accPut (hL : .acc ∈ L) (k v : Nat) (bad : Bool) :
    InWing L Q d w s (t.accPut k v bad) ↔ InWing L Q d w s t := by simp [State.accPut, hL]

/-! ### MVM without row groups (R109) -/

theorem State.inWing_mvmZero (hA : .acc ∈ L) (hL : .shScale ∈ L) (hQ : Covers Q 0xC0 0xF8) {f : Nat} (hf : f < 14)
    (p : Nat) (m : Mvm) : InWing L Q d w s (t.mvmZero d w f p m) ↔ InWing L Q d w s t := by
  simp only [State.mvmZero, State.inWing_setScale hL hQ hf, State.inWing_newKinds hL hQ hf]
  exact InWing.foldl _ fun u e _ => by simp [State.inWing_accPut hA]
/-- A set that an MVM in mode I without row groups leaves: every entry 0 and unpoisoned, KIND and SHIFT 0. -/
theorem State.mvmZero_shows {f p : Nat} (hf : f < 14) (hp : s.folioPos d w f = p) {m : Mvm} (hm : m.mode = 0) {k : Nat}
    (hk : k < m.entries f) :
    let r := s.mvmZero d w f p m
    r.accWord (accKey d w p m.set k) = 0 ∧ r.accBad (accKey d w p m.set k) = false ∧
      r.kind d w f p m.set = 0 ∧ r.shift d w f p m.set = 0 := by
  set z := (List.range (m.entries f)).foldl (fun s e => s.accPut (accKey d w p m.set e) 0 false) s with hz
  have hzs : InWing [.acc, .shScale] scaleBits d w s z :=
    (InWing.foldl _ fun u e _ => State.inWing_accPut (by decide) _ _ _).2 (InWing.refl _ _ _ _ _)
  have hzp : z.folioPos d w f = p := (hzs.folioPos spares_scaleBits f).trans hp
  have hnp : (z.newKinds d w f p m.set 0).folioPos d w f = p :=
    (((State.inWing_newKinds (by decide) covers_scaleBits hf p m.set 0).2 hzs).folioPos spares_scaleBits f).trans hp
  have hr : s.mvmZero d w f p m = (z.newKinds d w f p m.set 0).setScale d w f p m.set 0 0 := by
    simp [State.mvmZero, hm, ← hz, State.kind_newKinds_zero hf hzp]
  have hget : Store.get 0 (s.mvmZero d w f p m).acc (accKey d w p m.set k) = 0 % 2 ^ 32 + b2n false * 2 ^ 32 := by
    rw [hr, State.acc_setScale, State.acc_newKinds]
    exact State.get_accPuts p m.set (fun _ => 0) false hk
  refine ⟨State.accWord_eq_mod _ hget, State.accBad_eq _ hget, ?_, ?_⟩
  · rw [hr, State.kind_setScale hf hnp, if_pos rfl]
  · rw [hr, State.shift_setScale hf hnp]
/-- An MVM of one folio without a shadow, with ACC 0 and no row groups. -/
theorem State.mvmStart_zero {i : EngIns} {f : Nat} (hc : s.mvmCheck d w (mvmOf i) = 0) (hf : (mvmOf i).folios = [f])
    (hn : (mvmOf i).count = 0) (ha : (mvmOf i).acc = false) (hsh : s.shadowOf d w f = none) :
    (s.mvmStart d w i).1 = s.mvmZero d w f (s.folioPos d w f) (mvmOf i) := by
  simp [State.mvmStart, hc, hf, hn, ha, State.computing, hsh]

/-! ### Row-group results (R100 to R103) -/

/-- A two's-complement number is no greater than its width allows. -/
theorem abs_sext_le (n x : Nat) : |sext n x| ≤ 2 ^ n := by
  have h : x % 2 ^ n < 2 ^ n := Nat.mod_lt _ (by positivity)
  have h' : ((x % 2 ^ n : Nat) : Int) < ((2 ^ n : Nat) : Int) := by exact_mod_cast h
  rw [abs_le]
  simp only [sext]
  push_cast at h' ⊢
  split <;> omega
theorem inFmt_planes {c p : Nat} {sgn : Bool} (h : inFmt c = some (p, sgn)) : p ≤ 8 := by
  unfold inFmt at h
  split at h
  · simp only [Option.some.injEq, Prod.mk.injEq] at h; omega
  · split at h
    · simp only [Option.some.injEq, Prod.mk.injEq] at h; omega
    · split at h
      · simp only [Option.some.injEq, Prod.mk.injEq] at h; omega
      · cases h
theorem abs_intChunk_le {p : Nat} (hp : p ≤ 8) (sgn : Bool) (data : List Byte) {x : Int}
    (hx : x ∈ intChunk p sgn data) : |x| ≤ 256 := by
  obtain ⟨b, -, rfl⟩ := List.mem_map.1 hx
  have hpow : (2 : Int) ^ p ≤ 2 ^ 8 := pow_le_pow_right₀ (by norm_num) hp
  cases sgn with
  | true => exact (abs_sext_le p b.toNat).trans hpow
  | false =>
    have h : b.toNat % 2 ^ p ≤ 256 := (Nat.mod_le _ _).trans (by omega)
    simp only [Bool.false_eq_true, if_false, Nat.abs_cast]
    exact_mod_cast h
theorem Mvm.prec_le (m : Mvm) (f : Nat) : m.prec f ≤ 16 := by
  have h : ∀ x l, bits x (2 * l + 1) (2 * l) ≤ 3 := by
    intro x l
    have hw : 2 * l + 1 + 1 - 2 * l = 2 := by omega
    simp only [bits, hw]; omega
  have := Nat.pow_le_pow_right (show 0 < 2 by decide) (h (m.precs.getD f 0x5555) m.leaf)
  simp only [Mvm.prec]; omega
theorem State.abs_weight_le (addr : Nat) {prec : Nat} (hp : prec ≤ 16) (k : Nat) : |s.weight addr prec k| ≤ 65536 :=
  (abs_sext_le _ _).trans ((pow_le_pow_right₀ (by norm_num) hp).trans (by norm_num))
theorem abs_foldl_add_le {β : Type} (g : β → Int) (B : Int) (l : List β) (hg : ∀ x ∈ l, |g x| ≤ B) (a : Int) :
    |l.foldl (fun a x => a + g x) a| ≤ |a| + l.length * B := by
  induction l generalizing a with
  | nil => simp
  | cons x xs ih =>
    have h1 := ih (fun y hy => hg y (by simp [hy])) (a + g x)
    have h2 := abs_add_le a (g x)
    have h3 := hg x (by simp)
    simp only [List.foldl_cons, List.length_cons]
    push_cast
    linarith
/-- One row group of at most 32 integer inputs cannot leave the range of an entry (R148). -/
theorem State.abs_rgSum_lt (p leaf g k : Nat) {prec : Nat} (hprec : prec ≤ 16) {xs : List Int} (hlen : xs.length ≤ 32)
    (hx : ∀ x ∈ xs, |x| ≤ 256) : |s.rgSum d w p leaf prec g k xs| < 2 ^ 31 := by
  have h : |s.rgSum d w p leaf prec g k xs| ≤ |(0 : Int)| + xs.zipIdx.length * (256 * 65536) := by
    refine abs_foldl_add_le _ _ _ (fun x hmem => ?_) 0
    have hin : x.1 ∈ xs := (List.mem_zipIdx' hmem).2 ▸ List.getElem_mem _
    rw [abs_mul]
    exact mul_le_mul (hx _ hin) (s.abs_weight_le _ hprec _) (abs_nonneg _) (by norm_num)
  rw [List.length_zipIdx, abs_zero] at h
  have : (xs.length : Int) ≤ 32 := by exact_mod_cast hlen
  linarith
theorem State.rgSum_of_mem (h : t.mem = s.mem) (p leaf prec g k : Nat) (xs : List Int) :
    t.rgSum d w p leaf prec g k xs = s.rgSum d w p leaf prec g k xs := by
  simp only [State.rgSum, State.weight, State.ldb, h]
theorem clampS_of_abs_lt {x : Int} (h : |x| < 2 ^ 31) : clampS 32 x = x := by
  rw [abs_lt] at h
  simp only [clampS]
  omega

/-! ### The input of an MVM (R101, R188) -/

theorem State.inWing_lineCheck (hQ : Covers Q 0x110 0x134) (n engine : Nat) :
    InWing L Q d w s (t.lineCheck d w n engine) ↔ InWing L Q d w s t := by
  have hq : ∀ {f : Fld}, 0x110 * 32 ≤ fkey 0 f → fkey 0 f < 0x134 * 32 → Q (fkey 0 f) = true := hQ _
  unfold State.lineCheck
  split
  · rfl
  · unfold State.parityLog
    rw [if_neg (by decide), State.inWing_raise (hq (by decide) (by decide)) (hq (by decide) (by decide)),
      State.inWing_inc (hq (by decide) (by decide)),
      State.inWing_capture (hq (by decide) (by decide)) (hq (by decide) (by decide))]
    simp only [List.forall_mem_cons, List.not_mem_nil, false_implies, implies_true, and_true, true_and]
    exact ⟨hq (by decide) (by decide), hq (by decide) (by decide), hq (by decide) (by decide),
      hq (by decide) (by decide), hq (by decide) (by decide)⟩
theorem State.inWing_mvmInput (hQ : Covers Q 0x110 0x134) (m : Mvm) :
    InWing L Q d w s (t.mvmInput d w m).1 ↔ InWing L Q d w s t :=
  InWing.foldl _ fun _ _ _ => State.inWing_lineCheck hQ _ _
theorem State.mvmInput_inputs_of_mem (h : t.mem = s.mem) (m : Mvm) :
    (t.mvmInput d w m).2.1 = (s.mvmInput d w m).2.1 := by
  have hldn : ∀ a n, t.ldn a n = s.ldn a n := fun a n =>
    State.ldn_congr n a fun b _ _ => by simp only [State.ldb, h]
  simp only [State.mvmInput, hldn]
/-- What passing the checks says of an MVM in mode I: its input format is an integer format (R105). -/
theorem State.fmt_of_mvmCheck {m : Mvm} (hc : s.mvmCheck d w m = 0) (hm : m.mode = 0) :
    m.fmt ≠ 16 ∧ ∃ x, inFmt m.fmt = some x := by
  unfold State.mvmCheck at hc
  simp only [hm] at hc
  split at hc; · omega
  split at hc; · omega
  split at hc; · omega
  split at hc; · omega
  · next h =>
    simp only [Bool.or_eq_true, Bool.and_eq_true, beq_iff_eq, and_true, not_or, Option.isNone_iff_eq_none] at h
    exact ⟨h.2, Option.ne_none_iff_exists'.1 h.1⟩
/-- The input of one row group in mode I: at most 32 elements of at most 8 planes. -/
theorem State.mvmInput_one {m : Mvm} (hc : s.mvmCheck d w m = 0) (hm : m.mode = 0) (hn : m.count = 1) :
    ∃ xs e, (s.mvmInput d w m).2.1 = [(xs, e)] ∧ xs.length ≤ 32 ∧ ∀ x ∈ xs, |x| ≤ 256 := by
  obtain ⟨hfmt, ⟨p, sgn⟩, hin⟩ := s.fmt_of_mvmCheck hc hm
  refine ⟨intChunk p sgn (s.ldn m.addr 32), 0, ?_, ?_, fun x => abs_intChunk_le (inFmt_planes hin) sgn _⟩
  · simp [State.mvmInput, hn, hin, hfmt, Mvm.chunkBytes]
  · have hlen : ∀ n a, (s.ldn a n).length = n := by
      intro n
      induction n with
      | zero => exact fun _ => rfl
      | succ n ih => exact fun a => congrArg Nat.succ (ih (a + 1))
    simp [intChunk, hlen]

/-! ### Mode I with one row group (R146 to R150) -/

section
variable {m : Mvm} (ha : m.acc = false) (hn : m.count = 1) {xs : List Int} {e : Int} (hlen : xs.length ≤ 32)
  (hx : ∀ x ∈ xs, |x| ≤ 256)
include ha hn hlen hx
/-- An entry's run is the result of the row group, and it does not overflow. -/
theorem State.iRun_one (f p k : Nat) :
    s.iRun d w f p m [(xs, e)] 0 k = (s.rgSum d w p m.leaf (m.prec f) m.first k xs, none) := by
  have hclamp := clampS_of_abs_lt (s.abs_rgSum_lt (d := d) (w := w) p m.leaf m.first k (m.prec_le f) hlen hx)
  simp [State.iRun, State.iBase, State.mvmSums, ha, hn, preShift, sumRun, hclamp]
theorem State.iOver_one : s.iOver d w m [(xs, e)] 0 = none := by
  have hnone : ∀ l : List (Option Nat), (∀ x ∈ l, x = none) → firstOver l = none := by
    intro l hl
    induction l with
    | nil => rfl
    | cons x l ih =>
      obtain rfl := hl x (by simp)
      exact ih fun y hy => hl y (by simp [hy])
  refine hnone _ fun x hmem => ?_
  simp only [List.mem_flatMap, List.mem_map] at hmem
  obtain ⟨f, -, k, -, rfl⟩ := hmem
  rw [State.iRun_one ha hn hlen hx]
/-- From history 0 one run without a shift does (R146, R151). -/
theorem State.mvmPlan_one (hm : m.mode = 0) (hh : s.hist d w m.tag = 0) :
    s.mvmPlan d w m [(xs, e)] = { runs := [(0, 0, 1)], replays := 0, shift := 0, ovf := none } := by
  have hover := State.iOver_one (s := s) (d := d) (w := w) (e := e) ha hn hlen hx
  simp [State.mvmPlan, hm, hh, ha, hn, iRuns, hover]
/-- The entries that mode I commits are the results of the row group. -/
theorem State.accWord_iCommit (f p : Nat) (bad : Bool) {k : Nat} (hk : k < m.entries f) :
    (s.iCommit d w f p m [(xs, e)] 0 bad).accWord (accKey d w p m.set k) =
      wrapTo 32 (s.rgSum d w p m.leaf (m.prec f) m.first k xs) := by
  have hacc : (s.iCommit d w f p m [(xs, e)] 0 bad).acc = ((List.range (m.entries f)).foldl (fun u j =>
      u.accPut (accKey d w p m.set j) (wrapTo 32 (s.rgSum d w p m.leaf (m.prec f) m.first j xs)) bad) s).acc := by
    simp [State.iCommit, ha, List.foldl_map, State.iRun_one ha hn hlen hx]
  have hget := State.get_accPuts (s := s) (d := d) (w := w) p m.set
    (fun j => wrapTo 32 (s.rgSum d w p m.leaf (m.prec f) m.first j xs)) bad hk
  rw [← hacc] at hget
  rw [State.accWord_eq_mod _ hget, wrapTo]
  omega
end
theorem State.inWing_iCommit {m : Mvm} (hA : .acc ∈ L) (hL : .shScale ∈ L) (hQ : Covers Q 0xC0 0xF8) {f : Nat}
    (hf : f < 14) (p : Nat) (inp : List (List Int × Int)) (sh : Nat) (bad : Bool) :
    InWing L Q d w s (t.iCommit d w f p m inp sh bad) ↔ InWing L Q d w s t := by
  have hputs : ∀ l : List (Nat × Int), InWing L Q d w s (l.foldl (fun s x => s.accPut (accKey d w p m.set x.1)
      (wrapTo 32 x.2) (bad || (m.acc && s.accBad (accKey d w p m.set x.1)))) t) ↔ InWing L Q d w s t :=
    fun l => InWing.foldl l fun u x _ => State.inWing_accPut hA _ _ _
  simp only [State.iCommit, State.inWing_setScale hL hQ hf]
  split
  · exact hputs _
  · rw [State.inWing_newKinds hL hQ hf]
    exact hputs _

/-- The bits of the CIM unit's logs and counts and of the scale history (REPLAY_CNT to RR_CNT, SHIST). -/
def cimLogBits (x : Nat) : Bool := (decide (0x100 * 32 ≤ x) && decide (x < 0x190 * 32)) || decide (0x400 * 32 ≤ x)

theorem InWing.hist (h : InWing L Q d w s t) (hQ : ∀ x, 0x400 * 32 ≤ x → Q x = false) (tag : Nat) :
    t.hist d w tag = s.hist d w tag := by
  have hv : 0x400 * 32 ≤ fkey 0 (R.SHIST_VALID.at tag) ∧ 0x400 * 32 ≤ fkey 0 (R.SHIST_SHIFT.at tag) := by
    simp only [fkey, Fld.at]; omega
  rw [State.hist, State.flag, h.rd (hQ _ hv.1), h.rd (hQ _ hv.2), State.hist, State.flag]
theorem State.hist_mvmInput (m : Mvm) (tag : Nat) : (s.mvmInput d w m).1.hist d w tag = s.hist d w tag := by
  have h : InWing [] (fun x => decide (x < 0x134 * 32)) d w s (s.mvmInput d w m).1 :=
    (State.inWing_mvmInput (fun x _ hx => decide_eq_true hx) m).2 (InWing.refl _ _ _ _ _)
  exact h.hist (fun x hx => decide_eq_false (by omega)) tag
/-- An MVM of one folio without a shadow, with ACC 0 in mode I, with one row group, from history 0: after its logs it
commits its only run, without a shift. -/
theorem State.mvmStart_one {i : EngIns} {f : Nat} (hc : s.mvmCheck d w (mvmOf i) = 0) (hf : (mvmOf i).folios = [f])
    (hn : (mvmOf i).count = 1) (ha : (mvmOf i).acc = false) (hm : (mvmOf i).mode = 0) (hsh : s.shadowOf d w f = none)
    (hh : s.hist d w (mvmOf i).tag = 0) {xs : List Int} {e : Int} (hin : (s.mvmInput d w (mvmOf i)).2.1 = [(xs, e)])
    (hlen : xs.length ≤ 32) (hx : ∀ x ∈ xs, |x| ≤ 256) :
    ∃ u bad, InWing [] cimLogBits d w s u ∧
      (s.mvmStart d w i).1 = u.iCommit d w f (s.folioPos d w f) (mvmOf i) [(xs, e)] 0 bad := by
  set m := mvmOf i with hmi
  set s1 := (s.mvmInput d w m).1 with hs1
  set u := (s1.addTo (wg d w) R.REPLAY_CNT_I 0).histSet d w m.tag 0 with hu
  have hsu : InWing [] cimLogBits d w s u := by
    have hv : cimLogBits (fkey 0 (R.SHIST_VALID.at m.tag)) = true ∧ cimLogBits (fkey 0 (R.SHIST_SHIFT.at m.tag)) = true := by
      constructor <;> simp [cimLogBits, fkey, Fld.at] <;> omega
    rw [hu, State.histSet, State.inWing_wr hv.2, State.inWing_wr hv.1, State.addTo, State.inWing_wr (by decide), hs1,
      State.inWing_mvmInput]
    · exact InWing.refl _ _ _ _ _
    · intro x hlo hhi
      simp only [cimLogBits, Bool.or_eq_true, Bool.and_eq_true, decide_eq_true_eq]; omega
  have hplan := State.mvmPlan_one (s := s1) (d := d) (w := w) (e := e) ha hn hlen hx hm
    ((s.hist_mvmInput m m.tag).trans hh)
  have hcomp : u.computing d w f = [s.folioPos d w f] := by
    rw [hsu.computing (by intro x _ hhi; simp only [cimLogBits]; simp; omega), State.computing, hsh]
    rfl
  obtain ⟨bad, hbad⟩ : ∃ bad, (s.mvmStart d w i).1 = u.iCommit d w f (s.folioPos d w f) m [(xs, e)] 0 bad := by
    rcases hinput : s.mvmInput d w m with ⟨s1', inp, pin, nf⟩
    obtain rfl : s1' = s1 := by rw [hs1, hinput]
    obtain rfl : inp = [(xs, e)] := by rw [← hin, hinput]
    simp only [State.mvmStart, ← hmi, hc, hf, hn, State.mvmCompute, hinput, hplan, hm]
    simp [← hu, hcomp]
  exact ⟨u, bad, hsu, hbad⟩

/-! ### ACCRD (R158, R303) -/

theorem State.rrWrite_nil (flag : Bool) (fuel o : Nat) : s.rrWrite d w flag fuel o [] = s := by cases fuel <;> rfl
/-- A write that stays within one line is one write into that line (R224). -/
theorem State.rrStore_oneLine {o : Nat} {data : List Byte} (hne : data ≠ []) (h : o % 64 + data.length ≤ 64)
    (flag : Bool) : s.rrStore d w o data flag = s.lineWrite d w (o / 64) (o % 64) data flag := by
  obtain ⟨x, xs, rfl⟩ := List.exists_cons_of_ne_nil hne
  have hlen : (x :: xs).length ≤ 64 - o % 64 := by omega
  simp only [State.rrStore, State.rrWrite, List.take_of_length_le hlen, List.drop_of_length_le hlen, State.rrWrite_nil]
theorem State.mem_lineWrite (n o : Nat) (data : List Byte) (flag : Bool) :
    (s.lineWrite d w n o data flag).mem = (s.stn (rrAddr d w (64 * n + o)) data).mem := by
  simp only [State.lineWrite]
  split
  · rfl
  · split <;> rfl
theorem ownBytes_iff {addr len : Nat} :
    ownBytes d w addr len = true ↔ rrAddr d w 0 ≤ addr ∧ addr + len ≤ rrAddr d w 0 + 2 ^ 23 := by
  simp only [ownBytes, decide_eq_true_eq]
/-- A whole line of the wing's banks begins where its number says. -/
theorem rrAddr_of_ownBytes {ea len : Nat} (hal : ea % 64 = 0) (hown : ownBytes d w ea len = true) :
    rrAddr d w (64 * ((ea - rrAddr d w 0) / 64) + 0) = ea := by
  rw [ownBytes_iff] at hown
  simp only [rrAddr] at *
  omega
/-- ACCRD of one entry as RAW32 stores its word, and nothing else (R158, R303). -/
theorem State.accrdStart_one {i : EngIns} {ea : Nat} (hf : bits i.ef 22 19 ≤ 13)
    (hp : s.folioPos d w (bits i.ef 22 19) ≠ 15) (hfmt : bits i.ef 16 15 = 0) (hcnt : bits i.ext 20 10 = 1)
    (hea : (i.vb + i.vc) % 2 ^ 40 = ea) (hal : ea % 64 = 0) (hown : ownBytes d w ea 64 = true) :
    ∃ bad, (s.accrdStart d w i).1 = s.rrStore d w (ea - rrAddr d w 0)
      (toBytes 4 (s.accWord (accKey d w (s.folioPos d w (bits i.ef 22 19)) (bits i.ef 18 17) (bits i.ext 9 0)))) bad := by
  have hown4 : ownBytes d w ea 4 = true := by rw [ownBytes_iff] at *; omega
  have hroom : ¬ 1024 < bits i.ext 9 0 + 1 := by simp only [bits]; omega
  have hlen : 4 * ((1 * (if 0 = 2 then 2 else 4) + 3) / 4) = 4 := rfl
  have hword : (List.range 1).flatMap (fun j => toBytes 4 (s.accRead d w (bits i.ef 22 19) (bits i.ef 18 17) 0
      (bits i.ext 9 0 + j))) = toBytes 4 (s.accWord (accKey d w (s.folioPos d w (bits i.ef 22 19)) (bits i.ef 18 17)
      (bits i.ext 9 0))) := rfl
  simp only [State.accrdStart, hea, hfmt, hcnt]
  rw [if_neg (by omega), if_neg hroom, hlen, if_neg (by rw [hown4]; simp [hal])]
  simp only [show (if 0 = 2 then 2 else 4) = 4 from rfl, hword]
  -- with the byte number and the word opaque, the kernel does not compute with addresses
  generalize ea - rrAddr d w 0 = o
  generalize s.accWord (accKey d w (s.folioPos d w (bits i.ef 22 19)) (bits i.ef 18 17) (bits i.ext 9 0)) = v
  have hpad : toBytes 4 v ++ List.replicate (4 - (toBytes 4 v).length) 0 = toBytes 4 v := rfl
  rw [hpad, show List.range ((4 + 63) / 64) = [0] from rfl, List.foldl_cons, List.foldl_nil, Nat.mul_zero, Nat.add_zero,
    List.drop_zero, List.take_of_length_le (by simp)]
  exact ⟨_, rfl⟩
/-- A word stored at the start of a line of the wing's banks. -/
theorem State.rrStore_word {ea v : Nat} (hal : ea % 64 = 0) (hown : ownBytes d w ea 64 = true) (bad : Bool) :
    (s.rrStore d w (ea - rrAddr d w 0) (toBytes 4 v) bad).mem = (s.stw ea 4 v).mem ∧
      InWing [.mem, .parity, .poison] Q d w s (s.rrStore d w (ea - rrAddr d w 0) (toBytes 4 v) bad) := by
  have ho : (ea - rrAddr d w 0) % 64 = 0 := by simp only [rrAddr]; omega
  rw [State.rrStore_oneLine (by simp [toBytes]) (by simp [ho]), ho]
  constructor
  · rw [State.mem_lineWrite, rrAddr_of_ownBytes hal hown, State.stw]
  · simp [State.lineWrite]
/-! ### ACCCLR (R160, R306) -/

theorem State.inWing_accClear (hA : .acc ∈ L) (hL : .shScale ∈ L) (hQ : Covers Q 0xC0 0xF8) {f : Nat} (hf : f < 14)
    (p a : Nat) : InWing L Q d w s (t.accClear d w f p a) ↔ InWing L Q d w s t := by
  simp [State.accClear, State.inWing_setScale hL hQ hf, hA]
theorem Store.get_clear_of_eq {ν : Type} {e : ν} {m : Store ν} {k : Nat} (h : Store.get e m k = e) (lo hi : Nat) :
    Store.get e (Store.clear m lo hi) k = e := by
  by_cases hk : lo ≤ k ∧ k < hi
  · exact Store.get_clear_same e m lo hi k hk
  · rw [Store.get_clear_other e m lo hi k (by omega), h]
/-- A cleared entry stays 0. -/
theorem State.get_accClear_of_zero {k : Nat} (h : Store.get 0 s.acc k = 0) (f p a : Nat) :
    Store.get 0 (s.accClear d w f p a).acc k = 0 := by
  unfold State.accClear
  dsimp only
  split <;> simp [Store.get_clear_of_eq, h]
/-- Every entry of a cleared set is 0. -/
theorem State.get_accClear_same (f p a : Nat) {k : Nat} (hk : k < 1024) :
    Store.get 0 (s.accClear d w f p a).acc (accKey d w p a k) = 0 := by
  have hin : accKey d w p a 0 ≤ accKey d w p a k ∧ accKey d w p a k < accKey d w p (a + 1) 0 := by
    simp only [accKey]; omega
  have hown := Store.get_clear_same 0 s.acc _ _ _ hin
  unfold State.accClear
  dsimp only
  split <;> simp [Store.get_clear_of_eq, hown]

/-- Set `a` of every position that computes folio `f` is cleared. -/
def State.folioClear (s : State) (d w a f : Nat) : State :=
  (s.computing d w f).foldl (fun s p => s.accClear d w f p a) s
theorem State.inWing_folioClear (hA : .acc ∈ L) (hL : .shScale ∈ L) (hQ : Covers Q 0xC0 0xF8) {f : Nat} (hf : f < 14)
    (a : Nat) : InWing L Q d w s (t.folioClear d w a f) ↔ InWing L Q d w s t :=
  InWing.foldl _ fun _ _ _ => State.inWing_accClear hA hL hQ hf _ _
theorem State.get_folioClear_of_zero {k : Nat} (h : Store.get 0 s.acc k = 0) (a f : Nat) :
    Store.get 0 (s.folioClear d w a f).acc k = 0 :=
  List.foldlRecOn (motive := fun u : State => Store.get 0 u.acc k = 0) _ _ h
    fun _ hu p _ => State.get_accClear_of_zero hu f p a
theorem State.get_folioClear_same (a f : Nat) {k : Nat} (hk : k < 1024) :
    Store.get 0 (s.folioClear d w a f).acc (accKey d w (s.folioPos d w f) a k) = 0 := by
  rw [State.folioClear, State.computing, List.foldl_cons]
  exact List.foldlRecOn (motive := fun u : State => Store.get 0 u.acc _ = 0) _ _ (State.get_accClear_same f _ a hk)
    fun _ hu p _ => State.get_accClear_of_zero hu f p a
/-- Clearing a set of some folios leaves every entry of that set of each of them 0. -/
theorem State.get_folioClears {a f k : Nat} (hk : k < 1024) {fs : List Nat} (hf : f ∈ fs) (hfs : ∀ g ∈ fs, g < 14) :
    Store.get 0 (fs.foldl (fun s f => s.folioClear d w a f) s).acc (accKey d w (s.folioPos d w f) a k) = 0 := by
  induction fs generalizing s with
  | nil => cases hf
  | cons g gs ih =>
    rw [List.foldl_cons]
    rcases List.mem_cons.1 hf with rfl | hmem
    · exact List.foldlRecOn (motive := fun u : State => Store.get 0 u.acc _ = 0) _ _ (State.get_folioClear_same a f hk)
        fun _ hu g _ => State.get_folioClear_of_zero hu a g
    · have hpos : (s.folioClear d w a g).folioPos d w f = s.folioPos d w f :=
        ((State.inWing_folioClear (L := [.acc, .shScale]) (by decide) (by decide) covers_scaleBits
          (hfs g (by simp)) a).2 (InWing.refl _ _ _ _ s)).folioPos spares_scaleBits f
      rw [← hpos]
      exact ih hmem fun x hx => hfs x (by simp [hx])

/-- Where the map has a position for every folio that ACCCLR names, it clears the set of each of them. -/
theorem State.get_accclrStart {i : EngIns} (hp : ∀ g < 14, bitOf i.ef (9 + g) = true → s.folioPos d w g ≠ 15) {f k : Nat}
    (hf : f < 14) (hbit : bitOf i.ef (9 + f) = true) (hk : k < 1024) :
    Store.get 0 (s.accclrStart d w i).1.acc (accKey d w (s.folioPos d w f) (bits i.ef 8 7) k) = 0 := by
  have hmap : ¬ ((List.range 14).filter (fun f => bitOf i.ef (9 + f))).any (fun f => s.folioPos d w f == 15) = true := by
    simp only [List.any_eq_true, List.mem_filter, List.mem_range, beq_iff_eq, not_exists, not_and, and_imp]
    exact hp
  rw [State.accclrStart, if_neg hmap]
  exact State.get_folioClears hk (List.mem_filter.2 ⟨List.mem_range.2 hf, hbit⟩)
    fun g hg => List.mem_range.1 (List.mem_filter.1 hg).1
theorem State.inWing_accclrStart {i : EngIns} (hA : .acc ∈ L) (hL : .shScale ∈ L) (hQ : Covers Q 0xC0 0xF8) :
    InWing L Q d w s (t.accclrStart d w i).1 ↔ InWing L Q d w s t := by
  unfold State.accclrStart
  dsimp only
  split
  · rfl
  · exact InWing.foldl _ fun u f hf =>
      State.inWing_folioClear hA hL hQ (List.mem_range.1 (List.mem_filter.1 hf).1) (bits i.ef 8 7)

end

end Sys2Proof.Machine
end

section
/-! SUPPORT. MVM, ACCRD and ACCCLR on an idle CIM engine (R302, R303, R306). -/

namespace Sys2Proof.Machine

theorem spares_controlBits : Spares controlBits 0 0x20 ∧ Spares controlBits 0xC0 0xF8 :=
  ⟨fun x _ hx => by simp [controlBits]; omega, fun x _ hx => by simp [controlBits]; omega⟩
theorem covers_unitBits : Covers (fun x => !controlBits x) 0xC0 0xF8 := fun x _ hx => by simp [controlBits]; omega

section
variable {L : List Part} {Q : Nat → Bool} {d w : Nat} {s t : State}

theorem InWing.act (h : InWing L Q d w s t) : t.act = s.act := by
  have hkey : ∀ n < 2, fkey (cd n) R.PAIR_STAT_ROLE ∉ settleKeys := by decide
  have hrole : ∀ n < 2, t.flag (cd n) R.PAIR_STAT_ROLE = s.flag (cd n) R.PAIR_STAT_ROLE := fun n hn => by
    rw [State.flag, h.rd_cd hn (by decide) (hkey n hn), State.flag]
  rw [State.act, State.active, hrole 0 (by decide), hrole 1 (by decide), State.act, State.active]
/-- The checks of an MVM with ACC 0 look at the loaded wings and the folio map alone (R105). -/
theorem InWing.mvmCheck (h : InWing L Q d w s t) (hQ : Spares Q 0 0x20) {m : Mvm} (hm : m.acc = false) :
    t.mvmCheck d w m = s.mvmCheck d w m := by
  have hkey : ∀ n < 2, fkey (cd n) R.WING_LOADED_LOADED ∉ settleKeys := by decide
  simp only [State.mvmCheck, hm, h.act, h.folioPos hQ, Bool.false_and,
    h.rd_cd s.act_lt (f := R.WING_LOADED_LOADED) (by decide) (hkey _ s.act_lt)]

end

section
variable {a : Fin 48} {ins : Ins} {s : State}

/-- An MVM as its queue entry holds it. -/
def State.mvmIns (s : State) (a : Nat) (i : Ins) : EngIns :=
  { s.eaIns a 0x40 i 0 none with
    vx := (List.range 14).map (fun f => s.rd (wg (wcDie a) (wcWing a)) (R.LEAF_PREC_L.at f)) }

/-- What a CIM instruction leaves that starts in the command that issues it: the unit runs on a state `u` in which nothing
has changed but the control of `a`, and after that only the control changes. -/
def State.CimIssued (s : State) (a : Nat) (i : Ins) (r : State → State) (c : Instr) : Prop :=
  ∃ u t, exec c s = .next t ∧ Aside controlBits a s u ∧ Aside controlBits a (r u) t ∧
    (UnitStep a u (r u) → s.wentOn t a i)

section
variable (ha : 16 ≤ a.val) (hc : csemOk a ins = true) (hrun : (s.engine a 2).run = none) (hq : (s.engine a 2).q = [])
include ha hc hrun hq

theorem mvm_issued (hx : ins.x = true) (h0 : ins.a = 0) (hb : ins.b < 16) (hm : ins.ef 2 1 ≠ 3) (hr : ins.ef 0 0 = 0)
    (he : ins.e 63 24 = 0) (h : s.issues a ins [32 + ins.b.val, ins.c.val]) :
    s.CimIssued a ins (fun u => (u.mvmStart (wcDie a) (wcWing a) (s.mvmIns a ins)).1) (.mvm a ins []) := by
  have hsq := isSq_eq_false ha
  have hb' : ins.b.val < 16 := hb
  have hexec : exec (.mvm a ins []) s =
      .next (s.engIssue a 2 ins true [32 + ins.b.val, ins.c.val] (·.mvmIns a ins)).settle := by
    have hlegal : (!isSq a && ins.x && ins.a.val == 0 && decide (ins.b.val < 16) && ins.ef 2 1 != 3 && ins.ef 0 0 == 0 &&
        ins.e 63 24 == 0) = true := by simp [hsq, hx, h0, hb', hm, hr, he]
    show execMvm a ins [] s = _
    rw [execMvm, hlegal, if_neg (by simp [hsq])]
    rfl
  obtain ⟨u, hu, ht, hgo⟩ := State.unit_issued hsq (e := 2) (by decide) (·.mvmIns a ins) h hc hrun hq
  exact ⟨u, _, hexec, hu, ht, hgo⟩
theorem accrd_issued (hx : ins.x = true) (h0 : ins.a = 0) (hb : ins.b < 16) (hf : ins.ef 16 15 = 0)
    (hr : ins.ef 14 0 = 0) (he : ins.e 63 21 = 0) (h : s.issues a ins [32 + ins.b.val, ins.c.val]) :
    s.CimIssued a ins (fun u => (u.accrdStart (wcDie a) (wcWing a) (s.eaIns a 0x41 ins 0 none)).1) (.accrd a ins) := by
  have hsq := isSq_eq_false ha
  have hb' : ins.b.val < 16 := hb
  have hexec : exec (.accrd a ins) s =
      .next (s.engIssue a 2 ins true [32 + ins.b.val, ins.c.val] (fun s => s.eaIns a 0x41 ins 0 none)).settle := by
    show execAccrd a ins s = _
    simp [execAccrd, done, hsq, hx, h0, hb', hf, hr, he]
  obtain ⟨u, hu, ht, hgo⟩ := State.unit_issued hsq (e := 2) (by decide) (fun s => s.eaIns a 0x41 ins 0 none) h hc hrun hq
  exact ⟨u, _, hexec, hu, ht, hgo⟩
theorem accclr_issued (hx : ins.x = false) (h0 : ins.noRegs = true) (hr : ins.ef 6 0 = 0) (h : s.issues a ins []) :
    s.CimIssued a ins (fun u => (u.accclrStart (wcDie a) (wcWing a) (s.mkIns a 0x42 ins 0 0 0 none)).1)
      (.accclr a ins) := by
  have hsq := isSq_eq_false ha
  have hexec : exec (.accclr a ins) s =
      .next (s.engIssue a 2 ins true [] (fun s => s.mkIns a 0x42 ins 0 0 0 none)).settle := by
    show execAccclr a ins s = _
    simp [execAccclr, done, hsq, hx, h0, hr]
  obtain ⟨u, hu, ht, hgo⟩ := State.unit_issued hsq (e := 2) (by decide) (fun s => s.mkIns a 0x42 ins 0 0 0 none) h hc hrun hq
  exact ⟨u, _, hexec, hu, ht, hgo⟩
end

/-- With RG_COUNT 0 an MVM in mode I with ACC 0 leaves its set 0 (R109). -/
theorem mvm_zero_shows {f : Fin 14} {k : Fin 1024}
    (hi : s.CimIssued a ins (fun u => (u.mvmStart (wcDie a) (wcWing a) (s.mvmIns a ins)).1) (.mvm a ins []))
    (hc : s.mvmCheck (wcDie a) (wcWing a) (mvmOf (s.mvmIns a ins)) = 0) (hf : (mvmOf (s.mvmIns a ins)).folios = [f.val])
    (hn : (mvmOf (s.mvmIns a ins)).count = 0) (ha : (mvmOf (s.mvmIns a ins)).acc = false)
    (hm : (mvmOf (s.mvmIns a ins)).mode = 0) (hk : k.val < (mvmOf (s.mvmIns a ins)).entries f)
    (hsh : s.shadowOf (wcDie a) (wcWing a) f = none) :
    ∃ t, exec (.mvm a ins []) s = .next t ∧
      t.accWord (accKey (wcDie a) (wcWing a) (s.folioPos (wcDie a) (wcWing a) f) (mvmOf (s.mvmIns a ins)).set k) = 0 ∧
      t.accBad (accKey (wcDie a) (wcWing a) (s.folioPos (wcDie a) (wcWing a) f) (mvmOf (s.mvmIns a ins)).set k) = false ∧
      t.kind (wcDie a) (wcWing a) f (s.folioPos (wcDie a) (wcWing a) f) (mvmOf (s.mvmIns a ins)).set = 0 ∧
      t.shift (wcDie a) (wcWing a) f (s.folioPos (wcDie a) (wcWing a) f) (mvmOf (s.mvmIns a ins)).set = 0 ∧
      s.wentOn t a ins := by
  obtain ⟨u, t, ht, hu, hrt, hgo⟩ := hi
  obtain ⟨hmap, hscale⟩ := spares_controlBits
  dsimp only at hrt hgo
  rw [State.mvmStart_zero ((hu.mvmCheck hmap ha).trans hc) hf hn ha ((hu.shadowOf hmap f).trans hsh)] at hrt hgo
  obtain ⟨hword, hbad, hkind, hshift⟩ := State.mvmZero_shows (s := u) (d := wcDie a) (w := wcWing a) f.isLt rfl hm hk
  rw [hu.folioPos hmap] at hrt hgo hword hbad hkind hshift
  have hacc : t.acc = (u.mvmZero (wcDie a) (wcWing a) f (s.folioPos (wcDie a) (wcWing a) f) (mvmOf (s.mvmIns a ins))).acc :=
    hrt.same (p := .acc) (by decide)
  refine ⟨t, ht, ?_, ?_, ?_, ?_, hgo ?_⟩
  · rw [State.accWord, hacc]; exact hword
  · rw [State.accBad, hacc]; exact hbad
  · rw [hrt.kind (by decide) hmap hscale f.isLt]; exact hkind
  · rw [hrt.shift (by decide) hmap hscale f.isLt]; exact hshift
  · exact (State.inWing_mvmZero (by decide) (by decide) covers_unitBits f.isLt _ _).2 (InWing.refl _ _ _ _ _)

/-- With one row group from history 0, an MVM in mode I with ACC 0 leaves the row group's results in its set (R146). -/
theorem mvm_one_shows {f : Fin 14} {k : Fin 1024}
    (hi : s.CimIssued a ins (fun u => (u.mvmStart (wcDie a) (wcWing a) (s.mvmIns a ins)).1) (.mvm a ins []))
    (hc : s.mvmCheck (wcDie a) (wcWing a) (mvmOf (s.mvmIns a ins)) = 0) (hf : (mvmOf (s.mvmIns a ins)).folios = [f.val])
    (hn : (mvmOf (s.mvmIns a ins)).count = 1) (ha : (mvmOf (s.mvmIns a ins)).acc = false)
    (hm : (mvmOf (s.mvmIns a ins)).mode = 0) (hk : k.val < (mvmOf (s.mvmIns a ins)).entries f)
    (hsh : s.shadowOf (wcDie a) (wcWing a) f = none)
    (hh : s.hist (wcDie a) (wcWing a) (mvmOf (s.mvmIns a ins)).tag = 0) :
    ∃ t, exec (.mvm a ins []) s = .next t ∧
      t.accWord (accKey (wcDie a) (wcWing a) (s.folioPos (wcDie a) (wcWing a) f) (mvmOf (s.mvmIns a ins)).set k) =
        wrapTo 32 (s.rgSum (wcDie a) (wcWing a) (s.folioPos (wcDie a) (wcWing a) f) (mvmOf (s.mvmIns a ins)).leaf
          ((mvmOf (s.mvmIns a ins)).prec f) (mvmOf (s.mvmIns a ins)).first k
          ((s.mvmInput (wcDie a) (wcWing a) (mvmOf (s.mvmIns a ins))).2.1.headD ([], 0)).1) ∧
      s.wentOn t a ins := by
  obtain ⟨u, t, ht, hu, hrt, hgo⟩ := hi
  obtain ⟨hmap, hscale⟩ := spares_controlBits
  obtain ⟨xs, e, hin, hlen, hx⟩ := State.mvmInput_one hc hm hn
  have hmem : u.mem = s.mem := hu.same (p := .mem) (by decide)
  have hhu : u.hist (wcDie a) (wcWing a) (mvmOf (s.mvmIns a ins)).tag = 0 := by
    rw [hu.hist (fun x hx => by simp [controlBits]; omega), hh]
  obtain ⟨v, bad, huv, hstart⟩ := State.mvmStart_one ((hu.mvmCheck hmap ha).trans hc) hf hn ha hm
    ((hu.shadowOf hmap f).trans hsh) hhu ((State.mvmInput_inputs_of_mem hmem _).trans hin) hlen hx
  dsimp only at hrt hgo
  rw [hstart, hu.folioPos hmap] at hrt hgo
  have hacc : t.acc = _ := hrt.same (p := .acc) (by decide)
  have hvmem : v.mem = s.mem := (huv.same (p := .mem) (by decide)).trans hmem
  refine ⟨t, ht, ?_, hgo ?_⟩
  · rw [State.accWord, hacc, ← State.accWord, State.accWord_iCommit ha hn hlen hx _ _ _ hk, State.rgSum_of_mem hvmem, hin]
    rfl
  · refine (State.inWing_iCommit (by decide) (by decide) covers_unitBits f.isLt _ _ _ _).2 (huv.mono (by simp) fun x hlog => ?_)
    simp only [cimLogBits, controlBits, Bool.or_eq_true, Bool.and_eq_true, decide_eq_true_eq, Bool.not_eq_true',
      Bool.and_eq_false_iff, decide_eq_false_iff_not] at *
    omega

/-- ACCRD of one entry as RAW32 stores the entry (R158). -/
theorem accrd_shows
    (hi : s.CimIssued a ins (fun u => (u.accrdStart (wcDie a) (wcWing a) (s.eaIns a 0x41 ins 0 none)).1) (.accrd a ins))
    (hfmt : ins.ef 16 15 = 0) (hf : ins.ef 22 19 ≤ 13) (hp : s.folioPos (wcDie a) (wcWing a) (ins.ef 22 19) ≠ 15)
    (hcnt : ins.e 20 10 = 1) {ea : Nat} (hea : ((s.adR a ins.b).toNat + (s.sR a ins.c).toNat) % 2 ^ 40 = ea)
    (hal : ea % 64 = 0) (hown : ownBytes (wcDie a) (wcWing a) ea 64 = true) :
    ∃ t, exec (.accrd a ins) s = .next t ∧
      t.ldw ea 4 = s.accWord (accKey (wcDie a) (wcWing a) (s.folioPos (wcDie a) (wcWing a) (ins.ef 22 19)) (ins.ef 18 17)
        (ins.e 9 0)) ∧
      s.wentOn t a ins := by
  obtain ⟨u, t, ht, hu, hrt, hgo⟩ := hi
  have hpos := hu.folioPos spares_controlBits.1 (ins.ef 22 19)
  obtain ⟨bad, hstart⟩ := State.accrdStart_one (s := u) (d := wcDie a) (w := wcWing a) (i := s.eaIns a 0x41 ins 0 none)
    hf (by rw [← hpos] at hp; exact hp) hfmt hcnt hea hal hown
  dsimp only at hrt hgo
  rw [hstart] at hrt hgo
  obtain ⟨hmem, hunit⟩ := State.rrStore_word (s := u) (d := wcDie a) (w := wcWing a) (Q := fun x => !controlBits x)
    (v := u.accWord (accKey (wcDie a) (wcWing a) (u.folioPos (wcDie a) (wcWing a) (ins.ef 22 19)) (ins.ef 18 17)
      (ins.e 9 0))) hal hown bad
  refine ⟨t, ht, ?_, hgo (hunit.mono (by simp) fun _ h => h)⟩
  have htm : t.mem = _ := (hrt.same (p := .mem) (by decide)).trans hmem
  have hacc : u.acc = s.acc := hu.same (p := .acc) (by decide)
  have hldw : ∀ v : State, t.mem = v.mem → t.ldw ea 4 = v.ldw ea 4 := fun v h =>
    congrArg fromBytes (State.ldn_congr 4 ea fun b _ _ => by simp only [State.ldb, h])
  rw [hldw _ htm, State.ldw_stw_same, hpos, State.accWord, hacc, ← State.accWord]
  exact Nat.mod_eq_of_lt (Nat.mod_lt _ (by decide))

/-- ACCCLR leaves the set it names of every folio it names 0 and unpoisoned (R160, R306). -/
theorem accclr_shows {f : Fin 14} {k : Fin 1024}
    (hi : s.CimIssued a ins (fun u => (u.accclrStart (wcDie a) (wcWing a) (s.mkIns a 0x42 ins 0 0 0 none)).1)
      (.accclr a ins))
    (hp : ∀ g : Fin 14, bitOf (ins.low.toNat % 2 ^ 23) (9 + g) = true → s.folioPos (wcDie a) (wcWing a) g ≠ 15)
    (hbit : bitOf (ins.low.toNat % 2 ^ 23) (9 + f) = true) :
    ∃ t, exec (.accclr a ins) s = .next t ∧
      t.accWord (accKey (wcDie a) (wcWing a) (s.folioPos (wcDie a) (wcWing a) f) (ins.ef 8 7) k) = 0 ∧
      t.accBad (accKey (wcDie a) (wcWing a) (s.folioPos (wcDie a) (wcWing a) f) (ins.ef 8 7) k) = false ∧
      s.wentOn t a ins := by
  obtain ⟨u, t, ht, hu, hrt, hgo⟩ := hi
  have hpos := hu.folioPos spares_controlBits.1
  have hacc : t.acc = _ := hrt.same (p := .acc) (by decide)
  have hget : Store.get 0 t.acc
      (accKey (wcDie a) (wcWing a) (s.folioPos (wcDie a) (wcWing a) f) (ins.ef 8 7) k) = 0 := by
    rw [hacc, ← hpos]
    exact State.get_accclrStart (i := s.mkIns a 0x42 ins 0 0 0 none)
      (fun g hg hb => by rw [hpos]; exact hp ⟨g, hg⟩ hb) f.isLt hbit k.isLt
  refine ⟨t, ht, ?_, ?_, hgo ?_⟩
  · rw [State.accWord, hget, Nat.zero_mod]
  · rw [State.accBad, hget]; rfl
  · exact (State.inWing_accclrStart (by decide) (by decide) covers_unitBits).2 (InWing.refl _ _ _ _ _)

end

/-- Settles O27: each instruction starts in the command that issues it (`State.CimIssued`); what the unit then does to the
set or to memory is read off, and nothing that the issue itself changes is in the statement but the PC. -/
theorem cimInstructions : Obligations.CimInstructions := by
  unfold Obligations.CimInstructions
  refine ⟨?_, ?_, ?_, ?_⟩
  · intro f k a ins s ha hx hcs h0 hb hm hr he hrun hq hiss hc hf hn hacc hmode hk hsh
    exact mvm_zero_shows (mvm_issued ha hcs hrun hq hx h0 hb hm hr he hiss) hc hf hn hacc hmode hk hsh
  · intro f k a ins s ha hx hcs h0 hb hm hr he hrun hq hiss hc hf hn hacc hmode hk hsh hh
    exact mvm_one_shows (mvm_issued ha hcs hrun hq hx h0 hb hm hr he hiss) hc hf hn hacc hmode hk hsh hh
  · rintro a ins s ha hx hcs h0 hb hfmt hr he hrun hq hiss hf hp hcnt ⟨hal, hown⟩
    exact accrd_shows (accrd_issued ha hcs hrun hq hx h0 hb hfmt hr he hiss) hfmt hf hp hcnt rfl hal hown
  · intro f k a ins s ha hx hcs h0 hr hrun hq hiss hp hbit
    exact accclr_shows (accclr_issued ha hcs hrun hq hx h0 hr hiss) hp hbit

end Sys2Proof.Machine
end

section
/-! SUPPORT. Which registers an agent's commands write (R257). A step that writes no register of agent `a`, and nothing of
another agent, can be dropped on the right side of `agentBut`; the control of an agent, from the PC to a trap, is such a
step. -/

namespace Sys2Proof.Machine

/-- From `s` to `t` every register of agent `a` and every other agent reads as before. -/
abbrev RegsKept (a : Nat) (s t : State) : Prop := s.agentBut t a (fun _ => False) (fun _ => False) (fun _ => False)

section
variable {a : Nat} {S A P : Nat → Prop} {s t u : State}

theorem RegsKept.sR (h : RegsKept a s t) (r : Nat) : t.sR a r = s.sR a r := by
  obtain ⟨-, hs, -⟩ := h
  exact hs r id

theorem RegsKept.symm (h : RegsKept a s t) : RegsKept a t s := by
  obtain ⟨hother, hs, had, hp, hv, hvp⟩ := h
  exact ⟨fun b hb => (hother b hb).symm, fun r hr => (hs r hr).symm, fun r hr => (had r hr).symm,
    fun r hr => (hp r hr).symm, hv.symm, hvp.symm⟩
theorem RegsKept.trans (h : RegsKept a t u) (h' : s.agentBut t a S A P) : s.agentBut u a S A P := by
  obtain ⟨hother, hs, had, hp, hv, hvp⟩ := h
  obtain ⟨hother', hs', had', hp', hv', hvp'⟩ := h'
  exact ⟨fun b hb => (hother b hb).trans (hother' b hb), fun r hr => (hs r id).trans (hs' r hr),
    fun r hr => (had r id).trans (had' r hr), fun r hr => (hp r id).trans (hp' r hr), hv.trans hv', hvp.trans hvp'⟩
theorem RegsKept.congr_right (h : RegsKept a t u) : s.agentBut u a S A P ↔ s.agentBut t a S A P :=
  ⟨h.symm.trans, h.trans⟩
@[simp] theorem RegsKept.refl (a : Nat) (s : State) : RegsKept a s s :=
  ⟨fun _ _ => rfl, fun _ _ => rfl, fun _ _ => rfl, fun _ _ => rfl, rfl, rfl⟩

/-! ### Steps that write no register -/

theorem State.agentBut_of_agents (h : u.agents = t.agents) : s.agentBut u a S A P ↔ s.agentBut t a S A P := by
  have hag : ∀ b, u.agent b = t.agent b := fun b => by rw [State.agent, h, State.agent]
  simp only [State.agentBut, State.sR, State.adR, State.pR, hag]
/-- A change of what an agent's record holds beside its registers. -/
@[simp] theorem State.agentBut_modAgent {f : Agent → Agent}
    (hf : ∀ g, (f g).s = g.s ∧ (f g).ad = g.ad ∧ (f g).p = g.p ∧ (f g).v = g.v ∧ (f g).vp = g.vp) :
    s.agentBut (t.modAgent a f) a S A P ↔ s.agentBut t a S A P := by
  obtain ⟨hs, had, hp, hv, hvp⟩ := hf (t.agent a)
  refine RegsKept.congr_right ⟨fun b hb => State.agent_modAgent_other _ _ _ _ hb, ?_, ?_, ?_, ?_, ?_⟩
  · simp [State.sR, hs]
  · simp [State.adR, had]
  · simp [State.pR, hp]
  · simp [hv]
  · simp [hvp]
@[simp] theorem State.agentBut_wr (b : Nat) (f : Fld) (v : Nat) :
    s.agentBut (t.wr b f v) a S A P ↔ s.agentBut t a S A P := State.agentBut_of_agents rfl
@[simp ↓] theorem State.agentBut_waitq (x : List (Nat × Nat)) :
    s.agentBut { t with waitq := x } a S A P ↔ s.agentBut t a S A P := State.agentBut_of_agents rfl
@[simp] theorem State.agentBut_settle : s.agentBut t.settle a S A P ↔ s.agentBut t a S A P :=
  State.agentBut_of_agents t.settle_agents
@[simp] theorem State.agentBut_foldl {β : Type} {g : State → β → State} (l : List β)
    (h : ∀ u, ∀ x ∈ l, s.agentBut (g u x) a S A P ↔ s.agentBut u a S A P) :
    s.agentBut (l.foldl g t) a S A P ↔ s.agentBut t a S A P := by
  induction l generalizing t with
  | nil => rfl
  | cons x xs ih => exact (ih fun u y hy => h u y (by simp [hy])).trans (h t x (by simp))
@[simp ↓] theorem State.agentBut_ite {c : Prop} [Decidable c] :
    s.agentBut (if c then t else u) a S A P ↔ if c then s.agentBut t a S A P else s.agentBut u a S A P := by
  split <;> rfl
@[simp] theorem State.agentBut_setAgState (v : Nat) : s.agentBut (t.setAgState a v) a S A P ↔ s.agentBut t a S A P :=
  State.agentBut_wr _ _ _
@[simp] theorem State.agentBut_capture (b off stride : Nat) (l : List (Nat × Fld × Nat)) :
    s.agentBut (t.capture b off stride l) a S A P ↔ s.agentBut t a S A P := by simp [State.capture]
@[simp] theorem State.agentBut_logFault (engine code pc : Nat) :
    s.agentBut (t.logFault a engine code pc) a S A P ↔ s.agentBut t a S A P := by simp [State.logFault]
@[simp] theorem State.agentBut_qfill : s.agentBut (t.qfill a) a S A P ↔ s.agentBut t a S A P := by simp [State.qfill]
@[simp] theorem State.agentBut_modEng (e : Nat) (f : Engine → Engine) :
    s.agentBut (t.modEng a e f) a S A P ↔ s.agentBut t a S A P := by simp [State.modEng]
@[simp] theorem State.agentBut_abandon : s.agentBut (t.abandon a) a S A P ↔ s.agentBut t a S A P := by simp [State.abandon]
@[simp] theorem State.agentBut_trapAt (engine code pc tcode : Nat) :
    s.agentBut (t.trapAt a engine code pc tcode) a S A P ↔ s.agentBut t a S A P := by simp [State.trapAt]
@[simp] theorem State.agentBut_stopNow : s.agentBut (t.stopNow a) a S A P ↔ s.agentBut t a S A P := by simp [State.stopNow]
@[simp] theorem State.agentBut_boundary : s.agentBut (t.boundary a) a S A P ↔ s.agentBut t a S A P := by
  unfold State.boundary
  dsimp only
  split
  · rfl
  · split <;> simp
@[simp] theorem State.agentBut_stepped : s.agentBut (t.stepped a) a S A P ↔ s.agentBut t a S A P := by simp [State.stepped]
@[simp] theorem State.agentBut_depthSync : s.agentBut (t.depthSync a) a S A P ↔ s.agentBut t a S A P := by
  simp [State.depthSync]
@[simp] theorem State.agentBut_goto (x : Int) : s.agentBut (t.goto a x) a S A P ↔ s.agentBut t a S A P := by
  simp [State.goto, State.setPc]
@[simp] theorem State.agentBut_adv (x : Bool) : s.agentBut (t.adv a x) a S A P ↔ s.agentBut t a S A P := by
  unfold State.adv
  dsimp only
  split <;> simp

/-! ### A write of an s register -/

theorem State.sR_sW_same {r : Nat} (hr : r ≠ 0) (v : Word) : (s.sW a r v).sR a r = v := by simp [State.sR, State.sW, hr]
theorem State.pc_sW (r : Nat) (v : Word) : (s.sW a r v).pc a = s.pc a := by
  unfold State.sW
  split <;> rfl
theorem State.loops_sW (r : Nat) (v : Word) : ((s.sW a r v).agent a).loops = (s.agent a).loops := by
  unfold State.sW
  split
  · rfl
  · rw [State.agent_modAgent_same]

end

end Sys2Proof.Machine
end

section
/-! SUPPORT. SCALEGET on an idle CIM engine (R159, R307): its result goes to an s register, so that the unit changes the
agent's record too. -/

namespace Sys2Proof.Machine

section
variable {a : Nat} {s v : State}

/-- After an instruction that left the PC and the loops alone the controller goes on in order (R281, R349). -/
theorem State.wentOn_adv (ha : isSq a = false) (hpc : v.pc a = s.pc a) (hloops : (v.agent a).loops = (s.agent a).loops)
    (i : Ins) : s.wentOn (((v.adv a i.x).stepped a).boundary a).settle a i := by
  intro hnone hlast
  have hadv : (((v.adv a i.x).stepped a).boundary a).settle.pc a = (v.adv a i.x).pc a :=
    Aside.pc ha (by simp [ha, reports_reportBits])
  rw [hadv, State.pc_adv ha i.x (hloops.trans hnone) (by rw [hpc]; exact hlast), hpc]

/-- As `State.unit_issued`, for a unit that may write registers: they stay as the unit leaves them. Where the unit leaves
the PC and the loops alone, the PC goes on. -/
theorem State.unit_issued_regs (ha : isSq a = false) {e : Nat} (he : e ≤ 3) {i : Ins} {regs : List Nat}
    (mk : State → EngIns) (h : s.issues a i regs) (hc : csemOk a i = true) (hrun : (s.engine a e).run = none)
    (hq : (s.engine a e).q = []) :
    ∃ u, Aside controlBits a s u ∧ RegsKept a (u.unitStart a (mk s)).1 (s.engIssue a e i true regs mk).settle ∧
      ((u.unitStart a (mk s)).1.pc a = u.pc a → ((u.unitStart a (mk s)).1.agent a).loops = (u.agent a).loops →
        s.wentOn (s.engIssue a e i true regs mk).settle a i) := by
  set u := s.modEng a e (fun q => { q with run := some { ins := mk s } }) with hu
  set r := u.unitStart a (mk s)
  have hissue : s.engIssue a e i true regs mk =
      (((r.1.modEng a e (fun q => { q with run := some r.2 })).adv a i.x).stepped a).boundary a := by
    rw [State.engIssue_idle mk h hc hrun hq, State.engStart, if_pos he]
  rw [hissue]
  refine ⟨u, by simp [hu, ha, reports_controlBits], by simp [r], fun hpc hloops => State.wentOn_adv ha ?_ ?_ i⟩
  · have hafter : (r.1.modEng a e (fun q => { q with run := some r.2 })).pc a = r.1.pc a :=
      Aside.pc ha (by simp [ha, reports_reportBits])
    have hbefore : u.pc a = s.pc a := Aside.pc ha (by simp [hu, ha, reports_reportBits])
    rw [hafter, hpc, hbefore]
  · rw [State.loops_modEng, hloops, hu, State.loops_modEng]

/-- For a folio in service SCALEGET writes KIND and SHIFT of the set to its register (R159). -/
theorem State.scalegetStart_inService {d w r f c p : Nat} {i : EngIns} (hdst : i.dst = some r) (hr : r < 32)
    (hf : bits i.ef 22 19 = f) (hc : bits i.ef 18 17 = c) (hf13 : f ≤ 13) (hp : s.folioPos d w f = p) (hp15 : p ≠ 15) :
    (s.scalegetStart d w a i).1 = s.sW a r (BitVec.ofNat 32 (s.kind d w f p c * 16 + s.shift d w f p c)) := by
  have hserves : ¬ (13 < f ∨ p = 15) := by omega
  simp [State.scalegetStart, State.regW, hdst, hr, hf, hc, hp, hserves]

end

/-- A SCALEGET with a destination as its queue entry holds it. -/
def State.scalegetIns (s : State) (a : Nat) (i : Ins) : EngIns := s.mkIns a 0x43 i 0 0 0 (some i.a.val)

section
variable {a : Fin 48} {ins : Ins} {s : State}

theorem exec_scaleget (ha : isSq a = false) (hx : ins.x = false) (hb : ins.b = 0) (hc : ins.c = 0)
    (hr : ins.ef 16 0 = 0) (h0 : ins.a.val ≠ 0) :
    exec (.scaleget a ins) s = .next (s.engIssue a 2 ins true [ins.a.val] (·.scalegetIns a ins)).settle := by
  show execScaleget a ins s = _
  simp [execScaleget, done, ha, hx, hb, hc, hr, h0, State.scalegetIns]

/-- The unit finds the map, KIND and SHIFT as they stood before the command, since the issue itself changes only the
control of the wing. -/
theorem State.unitStart_scaleget {u : State} (hu : Aside controlBits a s u) (hf : ins.ef 22 19 ≤ 13)
    (hp : s.folioPos (wcDie a) (wcWing a) (ins.ef 22 19) ≠ 15) :
    (u.unitStart a (s.scalegetIns a ins)).1 = u.sW a ins.a (BitVec.ofNat 32
      (s.kind (wcDie a) (wcWing a) (ins.ef 22 19) (s.folioPos (wcDie a) (wcWing a) (ins.ef 22 19)) (ins.ef 18 17) * 16 +
        s.shift (wcDie a) (wcWing a) (ins.ef 22 19) (s.folioPos (wcDie a) (wcWing a) (ins.ef 22 19))
          (ins.ef 18 17))) := by
  obtain ⟨hmap, hscale⟩ := spares_controlBits
  have hf14 : ins.ef 22 19 < 14 := Nat.lt_succ_of_le hf
  rw [← hu.kind (by decide) hmap hscale hf14, ← hu.shift (by decide) hmap hscale hf14]
  exact State.scalegetStart_inService rfl ins.a.isLt rfl rfl hf (hu.folioPos hmap _) hp

end

/-- Settles O28: the unit writes the register in the command that issues the instruction (`State.unitStart_scaleget`), and
the control that follows writes no register (`RegsKept`). -/
theorem scalegetReturnsKindAndShift : Obligations.ScalegetReturnsKindAndShift := by
  unfold Obligations.ScalegetReturnsKindAndShift
  intro a ins s ha hx hcs hb hc hr h0 hrun hq hiss hf hp
  have hsq := isSq_eq_false ha
  have hdst : ins.a.val ≠ 0 := fun h => h0 (Fin.ext h)
  obtain ⟨u, hu, ht, hgo⟩ := State.unit_issued_regs hsq (e := 2) (by decide) (·.scalegetIns a ins) hiss hcs hrun hq
  have hunit := State.unitStart_scaleget hu hf hp
  refine ⟨_, exec_scaleget hsq hx hb hc hr hdst, ?_, hgo ?_ ?_⟩
  · rw [ht.sR, hunit, State.sR_sW_same hdst]
  · rw [hunit, State.pc_sW]
  · rw [hunit, State.loops_sW]

end Sys2Proof.Machine
end

section
/-! SUPPORT. SEMWAIT in a sequencer whose stop is overdue (R267), and an ESTAT that the register cannot show (R271). The
statements are over every state, and say nothing of a stop that is due, nor of a field wider than its register. -/

namespace Sys2Proof.Machine

/-! ### The end of a stopped program signals semaphores -/

/-- SQ0 of CD0 runs, the 50 us of a stop request have passed, and it awaits DONE of one order, to a wing that no link
reaches, with SEMEN on its semaphore 0; that semaphore holds 1. -/
def overdueSequencer : State :=
  { State.reset with
    fld := Store.insert State.reset.fld (fkey (cd 0) (R.SQ_STAT_STATE.at 0)) 1
    agents := [(0, { prog := true, stopDue := true, orders := [⟨0, 0, 2 ^ 15, 0⟩] })]
    sems := [(csem 0 0, 1)] }
/-- SEMWAIT for 1 of semaphore 0. -/
def waitForOne : Ins := ⟨false, 0, 0, 0, 0, BitVec.ofNat 37 (2 ^ 8), 0⟩

/-- The SEMWAIT takes the 1, and the program stops behind it: its order ends NOROUTE, which signals the semaphore (R267,
R280). -/
theorem semwait_overdue_signals {t : State} (h : exec (.semwait 0 waitForOne) overdueSequencer = .next t) :
    Store.get 0 t.sems (csem 0 0) = 1 := by
  have hrun : (match execSemwait 0 waitForOne overdueSequencer with
    | .next u => Store.get 0 u.sems (csem 0 0)
    | _ => 0) = 1 := by decide +kernel
  rw [show execSemwait 0 waitForOne overdueSequencer = .next t from h] at hrun
  exact hrun

/-- Refutes O17: SEMWAIT is to leave the counter lower by its count, but the boundary behind it may stop the program, and
the end of the program signals the same semaphore (`overdueSequencer`). -/
theorem not_semaphoreInstructions : ¬ Obligations.SemaphoreInstructions := by
  unfold Obligations.SemaphoreInstructions
  rintro ⟨-, -, hwait, -⟩
  obtain ⟨t, ht, hcount, -⟩ :=
    hwait 0 waitForOne overdueSequencer (by decide +kernel) (by decide +kernel) (by decide +kernel) (by decide +kernel)
      (by decide +kernel) (by decide +kernel) (by decide +kernel)
  have htaken : Store.get 0 t.sems (csem 0 0) = 0 := hcount.trans (by decide +kernel)
  exact absurd ((semwait_overdue_signals ht).symm.trans htaken) (by decide)

/-! ### ESTAT has four bits -/

/-- A CREDREQ that has nothing left to do. -/
def spentCredreq : EngRun :=
  { ins := { op := 0xA4, pc := 0, csen := false, csem := 0, ef := 0, ext := 0, a := 0, b := 0, c := 0 } }
/-- SQ0 of CD0 runs, its link engine has that CREDREQ, and 16 is held as its ESTAT, one more than ESTAT can show. -/
def linkWideEstat : State :=
  { State.reset with
    fld := Store.insert (Store.insert State.reset.fld (fkey (cd 0) (R.SQ_ESTAT_ESTAT.at 0)) 16)
      (fkey (cd 0) (R.SQ_STAT_STATE.at 0)) 1
    agents := [(0, { prog := true, eng := [(5, { run := some spentCredreq })] })] }

/-- The completion writes ESTAT, cut to its four bits. -/
theorem engineInstrComplete_cuts_estat {t : State} (h : exec (.engineInstrComplete 0 5) linkWideEstat = .next t) :
    t.rd (agBase 0) (fEstat 0) = 0 := by
  cases h
  decide +kernel

/-- Refutes O30: a completion is to leave in ESTAT what it held with the instruction's bits set, but ESTAT has 4 bits, and
the state may hold 16 there (`linkWideEstat`). -/
theorem not_linkEngineInstructions : ¬ Obligations.LinkEngineInstructions := by
  unfold Obligations.LinkEngineInstructions
  rintro ⟨-, -, hdone⟩
  obtain ⟨t, ht, -, hestat, -⟩ :=
    hdone 0 5 spentCredreq linkWideEstat (by decide) (by decide +kernel) (by decide +kernel) (by decide) (by decide)
      (by decide) (by decide) (by decide) (by decide +kernel) (by decide +kernel) (by decide +kernel) (by decide +kernel)
  have hwide : linkWideEstat.rd (agBase 0) (fEstat 0) ||| spentCredreq.estat = 16 := by decide +kernel
  exact absurd ((engineInstrComplete_cuts_estat ht).symm.trans (hestat.trans hwide)) (by decide)

end Sys2Proof.Machine
end

section
/-! SUPPORT. Slot plans and the patrol of a wing (R176, R177, R179, R190): cause bits, error logs and SLOT_STAT as they
read after a write, and the plan in force. -/

namespace Sys2Proof.Machine

section
variable {s : State} {b d w : Nat}

/-! ### Fields beside those that are written -/

theorem State.rd_settle_wg (s : State) (d w : Nat) (f : Fld) : s.settle.rd (wg d w) f = s.rd (wg d w) f :=
  s.settle_rd _ _ (fkey_wg_not_settled d w f)
theorem State.flag_settle_wg (s : State) (d w : Nat) (f : Fld) : s.settle.flag (wg d w) f = s.flag (wg d w) f := by
  rw [State.flag, State.rd_settle_wg, State.flag]
@[simp] theorem State.rd_inc_ne {f g : Fld} (h : f.off * 32 + f.lo ≠ g.off * 32 + g.lo) (s : State) (b : Nat) :
    (s.inc b g).rd b f = s.rd b f := State.rd_wr_ne h s b _
/-- Setting a cause bit leaves every field alone but the bit and COUNT (R672). -/
@[simp] theorem State.rd_raise_ne {f g : Fld} (h : f.off * 32 + f.lo ≠ g.off * 32 + g.lo)
    (hc : f.off * 32 + f.lo ≠ g.off * 32 + 24) (s : State) (b : Nat) : (s.raise b g).rd b f = s.rd b f := by
  have hcnt : f.off * 32 + f.lo ≠ (cnt32 g).off * 32 + (cnt32 g).lo := hc
  simp only [State.raise, State.raiseIn, List.foldl_cons, List.foldl_nil]
  split
  · rw [State.rd_inc_ne hcnt, State.rd_wr_ne h]
  · rw [State.rd_wr_ne h]
/-- A cause bit that is set reads 1, whatever it read before (R11). -/
theorem State.flag_raise {f : Fld} (hw : f.hi = f.lo) (hlo : f.lo ≠ 24) (s : State) (b : Nat) :
    (s.raise b f).flag b f = true := by
  have hbit : (s.wr b f (s.rd b f ||| 1)).rd b f = 1 := by
    rw [State.rd_wr_same, hw, Nat.add_sub_cancel_left, pow_one, Nat.or_mod_two_eq_one]
    simp
  have hcnt : f.off * 32 + f.lo ≠ (cnt32 f).off * 32 + (cnt32 f).lo := by simp only [cnt32]; omega
  have hrd : (s.raise b f).rd b f = 1 := by
    simp only [State.raise, State.raiseIn, List.foldl_cons, List.foldl_nil]
    split
    · rw [State.rd_inc_ne hcnt, hbit]
    · exact hbit
  simp [State.flag, hrd]
/-- Writes of fields with other keys leave a field alone. -/
theorem State.rd_foldl_wr {c : Nat} {f : Fld} (l : List (Nat × Fld × Nat))
    (h : ∀ x ∈ l, fkey c f ≠ fkey x.1 x.2.1) (s : State) :
    (l.foldl (fun s x => s.wr x.1 x.2.1 x.2.2) s).rd c f = s.rd c f := by
  induction l generalizing s with
  | nil => rfl
  | cons x xs ih =>
    rw [List.foldl_cons, ih fun y hy => h y (by simp [hy]), State.rd_wr_other _ _ _ _ _ _ (h x (by simp))]
/-- After an error an error log is VALID (R54). -/
theorem State.flag_capture {off stride : Nat} {l : List (Nat × Fld × Nat)}
    (h : ∀ x ∈ l, fkey b ⟨off, 31, 31, 0, stride⟩ ≠ fkey x.1 x.2.1) (s : State) :
    (s.capture b off stride l).flag b ⟨off, 31, 31, 0, stride⟩ = true := by
  have hover : ∀ (u : State) v, (u.wr b ⟨off, 30, 30, 0, stride⟩ v).rd b ⟨off, 31, 31, 0, stride⟩ =
      u.rd b ⟨off, 31, 31, 0, stride⟩ := fun u v => State.rd_wr_ne (by simp) u b v
  unfold State.capture
  split
  next hv => rw [State.flag, hover]; exact hv
  next =>
    rw [State.flag, State.rd_foldl_wr l h, hover, State.rd_wr_same]
    rfl

@[simp] theorem State.wingx_wr (s : State) (b : Nat) (f : Fld) (v i : Nat) : (s.wr b f v).wingx i = s.wingx i := rfl
@[simp] theorem State.wingx_settle (s : State) (i : Nat) : s.settle.wingx i = s.wingx i := by simp [State.wingx]
@[simp] theorem State.wingx_raise (s : State) (b : Nat) (f : Fld) (i : Nat) : (s.raise b f).wingx i = s.wingx i := by
  have h : Keeps [] s (s.raise b f) := (State.keeps_raise b f).2 (Keeps.refl _ _)
  have hw : (s.raise b f).wings = s.wings := h .wings (by decide)
  rw [State.wingx, hw, State.wingx]

/-! ### Slot plans (R176, R177, R179) -/

theorem State.inWing_modWing {L : List Part} {Q : Nat → Bool} {t : State} (h : .wings ∈ L) (i : Nat) (f : WingX → WingX) :
    InWing L Q d w s (t.modWing i f) ↔ InWing L Q d w s t :=
  InWing.of_part h (fun q hq => by cases q <;> trivial) rfl
/-- The plan in force is where no bit of its registers changes. -/
theorem InWing.slotCur {L : List Part} {Q : Nat → Bool} {t : State} (h : InWing L Q d w s t) (hQ : Spares Q 0x140 0x160) :
    t.slotCur d w = s.slotCur d w := by
  have hkeys : ∀ k < 4, ∀ f ∈ [slotCurLo k, slotCurHi k], 0x140 * 32 ≤ fkey 0 f ∧ fkey 0 f < 0x160 * 32 := by decide
  have hrd : ∀ k < 4, ∀ f ∈ [slotCurLo k, slotCurHi k], t.rd (wg d w) f = s.rd (wg d w) f := fun k hk f hf =>
    h.rd (hQ _ (hkeys k hk f hf).1 (hkeys k hk f hf).2)
  refine List.flatMap_congr fun k hk => ?_
  rw [hrd k (List.mem_range.1 hk) _ (by simp), hrd k (List.mem_range.1 hk) (slotCurHi k) (by simp)]

theorem State.slotCur_settle (s : State) (d w : Nat) : s.settle.slotCur d w = s.slotCur d w :=
  (State.inWing_settle.2 (InWing.refl [] (fun _ => false) d w s)).slotCur fun _ _ _ => rfl

/-- A rejected plan shows its status, raises SLOT_REJ and is gone (R179). -/
theorem State.slotReject_shows (s : State) (d w status engine bank win slot : Nat) :
    let t := s.slotReject d w status engine bank win slot
    t.rd (wg d w) R.SLOT_STAT_STATUS = status % 16 ∧ t.rd (wg d w) R.SLOT_STAT_BANK = bank % 4 ∧
      t.rd (wg d w) R.SLOT_STAT_SLOT = slot % 16 ∧ t.rd (wg d w) R.SLOT_STAT_PEND = 0 ∧
      t.flag (wg d w) R.RR_CAUSE_SLOT_REJ = true ∧ (t.wingx (wix d w)).plan = none := by
  refine ⟨?_, ?_, ?_, ?_, State.flag_raise rfl (by decide) _ _, ?_⟩ <;> simp [State.slotReject]
/-- The registers of RR_CAUSE, SLOT_CTRL and SLOT_STAT. -/
def slotBits (x : Nat) : Bool := decide (x < 0x140 * 32) || decide (0x180 * 32 ≤ x)
/-- A rejected plan leaves the plan in force alone (R179). -/
theorem State.slotCur_slotReject (s : State) (d w status engine bank win slot : Nat) :
    (s.slotReject d w status engine bank win slot).slotCur d w = s.slotCur d w := by
  have h : InWing [.wings] slotBits d w s (s.slotReject d w status engine bank win slot) := by
    simp +decide [State.slotReject, State.inWing_modWing]
  exact h.slotCur fun x hlo hhi => by simp [slotBits]; omega

/-- A plan without a fault is accepted (R179). -/
theorem State.slotLoad_accepted (hi : planInvalid (s.slotNext d w) = none) (ho : planOversub (s.slotNext d w) = none)
    (hc : s.planConflict d w (s.slotNext d w) = none) :
    ((s.slotLoad d w).wingx (wix d w)).plan = some (s.slotNext d w) ∧
      (s.slotLoad d w).rd (wg d w) R.SLOT_STAT_STATUS = 1 ∧ (s.slotLoad d w).rd (wg d w) R.SLOT_STAT_PEND = 1 ∧
      (s.slotLoad d w).rd (wg d w) R.SLOT_CTRL_LOAD = 0 := by
  simp [State.slotLoad, hi, ho, hc]
/-- A plan with a reserved code is rejected INVALID (R179). -/
theorem State.slotLoad_invalid {b i : Nat} (h : planInvalid (s.slotNext d w) = some (b, i)) :
    s.slotLoad d w = s.slotReject d w 3 0 b 0 i := by
  simp [State.slotLoad, h]

/-- A plan written to SLOT_CUR, bank by bank. -/
def State.slotPut (s : State) (d w : Nat) (p : List Nat) : State :=
  (List.range 4).foldl (fun s b =>
    (s.wr (wg d w) (slotCurLo b) (p.getD (2 * b) 0)).wr (wg d w) (slotCurHi b) (p.getD (2 * b + 1) 0)) s
/-- It is in force then, as a whole. -/
theorem State.slotCur_slotPut {p : List Nat} (hlen : p.length = 8) (hp : ∀ x ∈ p, x < 2 ^ 32) :
    (s.slotPut d w p).slotCur d w = p := by
  match p, hlen with
  | [a0, a1, a2, a3, a4, a5, a6, a7], _ =>
    simp only [List.mem_cons, List.not_mem_nil, or_false, forall_eq_or_imp, forall_eq] at hp
    obtain ⟨h0, h1, h2, h3, h4, h5, h6, h7⟩ := hp
    simp [State.slotCur, State.slotPut, show List.range 4 = [0, 1, 2, 3] from rfl, slotCurLo, slotCurHi, *]
    omega
/-- A plan that goes into force (R179). -/
theorem State.slotPut_end_shows (s : State) (d w : Nat) (p : List Nat) (hlen : p.length = 8) (hp : ∀ x ∈ p, x < 2 ^ 32) :
    let t := ((s.slotPut d w p).wr (wg d w) R.SLOT_STAT_PEND 0).modWing (wix d w) (fun x => { x with plan := none })
    t.slotCur d w = p ∧ t.rd (wg d w) R.SLOT_STAT_PEND = 0 ∧ (t.wingx (wix d w)).plan = none := by
  refine ⟨?_, by simp, by simp⟩
  have h : InWing [.wings] slotBits d w (s.slotPut d w p) (((s.slotPut d w p).wr (wg d w) R.SLOT_STAT_PEND 0).modWing
      (wix d w) (fun x => { x with plan := none })) := by simp +decide [State.inWing_modWing]
  rw [h.slotCur fun x hlo hhi => by simp [slotBits]; omega]
  exact State.slotCur_slotPut hlen hp

/-! ### The patrol (R190) -/

/-- A parity failure that the patrol finds is logged and raises PATROL. -/
theorem State.parityLog_patrol_shows (s : State) (d w n engine : Nat) :
    (s.parityLog d w n 1 engine).flag (wg d w) R.RR_CAUSE_PATROL = true ∧
      (s.parityLog d w n 1 engine).flag (wg d w) R.RR_PAR_LOG_VALID = true := by
  refine ⟨State.flag_raise rfl (by decide) _ _, ?_⟩
  have hlog := State.flag_capture (b := wg d w) (off := R.RR_PAR_LOG_VALID.off) (stride := 0)
    (l := [(wg d w, R.RR_PAR_LOG_SRC, 1), (wg d w, R.RR_PAR_LOG_ENGINE, engine), (wg d w, R.RR_PAR_LOG_BANK, n / 32768),
      (wg d w, R.RR_PAR_LOG_LINE, n % 32768), (wg d w, R.RR_PAR_LOG_WORD, ctz 16 (s.badWords (rrLine d w n)))])
    (by simp [fkey]) s
  simpa [State.parityLog, State.flag] using hlog
theorem State.poisoned_setPoison (s : State) (k : Nat) (b : Bool) : (s.setPoison k b).poisoned k = b := by
  simp [State.setPoison, State.poisoned, Store.get_put_same]

/-- The words of line `k` that no longer match their parity, once those of `upset` have flipped too, and the patrol past
the line. -/
def State.patrolNext (s : State) (d w b k upset : Nat) : State :=
  { s with parity := Store.put 0 s.parity k (s.badWords k ^^^ (upset % 65536)) }.modWing (wix d w) (fun x =>
    { x with patrol := Store.put 0 x.patrol b ((Store.get 0 (s.wingx (wix d w)).patrol b + 1) % 32768) })
theorem State.badWords_patrolNext (s : State) (d w b k upset : Nat) :
    (s.patrolNext d w b k upset).badWords k = s.badWords k ^^^ (upset % 65536) := Store.get_put_same 0 s.parity k _
theorem State.patrol_patrolNext (s : State) (d w b k upset : Nat) :
    Store.get 0 ((s.patrolNext d w b k upset).wingx (wix d w)).patrol b =
      (Store.get 0 (s.wingx (wix d w)).patrol b + 1) % 32768 := by
  simp [State.patrolNext, Store.get_put_same]
/-- Where the die is up the patrol reads the next line of the bank, and logs and poisons it if a word fails parity. -/
theorem exec_patrolScrubRead (d : Fin 4) (w : Fin 8) (b : Fin 4) (upset : Nat) (hup : (s.sdx d).up = true) :
    let n := 32768 * b.val + Store.get 0 (s.wingx (wix d w)).patrol b
    let u := s.patrolNext d w b (rrLine d w n) upset
    exec (.patrolScrubRead d w b upset) s = done
      (if u.badWords (rrLine d w n) = 0 then u else (u.parityLog d w n 1 7).setPoison (rrLine d w n) true) := by
  show execPatrolScrubRead d w b upset s = _
  simp only [execPatrolScrubRead, hup, Bool.not_true, Bool.false_eq_true, if_false]
  rfl

end

/-- Settles O21, command by command: what an accepted and a rejected plan leave, the plan in force, and the line that the
patrol reads. -/
theorem slotPlansAndPatrol : Obligations.SlotPlansAndPatrol := by
  unfold Obligations.SlotPlansAndPatrol
  refine ⟨?accepted, ?invalid, ?applied, ?stuck, ?noslot, ?patrol⟩
  case accepted =>
    intro d w s hi ho hc
    refine ⟨_, rfl, ?_⟩
    simpa [State.rd_settle_wg] using State.slotLoad_accepted hi ho hc
  case invalid =>
    intro d w b i s h
    obtain ⟨hstatus, hbank, hslot, hpend, hcause, -⟩ := s.slotReject_shows d w 3 0 b 0 i
    refine ⟨(s.slotReject d w 3 0 b 0 i).settle, congrArg done (State.slotLoad_invalid h), ?_⟩
    simp only [State.rd_settle_wg, State.flag_settle_wg, State.slotCur_settle, State.slotCur_slotReject]
    exact ⟨hstatus, hbank.trans (Nat.mod_eq_of_lt b.isLt), hslot.trans (Nat.mod_eq_of_lt i.isLt), hpend, hcause, trivial⟩
  case applied =>
    intro d w p s hplan hc hlen hp
    obtain ⟨hcur, hpend, hgone⟩ := s.slotPut_end_shows d w p hlen hp
    have hexec : exec (.slotPlanApply d w) s = done (((s.slotPut d w p).wr (wg d w) R.SLOT_STAT_PEND 0).modWing
        (wix d w) (fun x => { x with plan := none })) := by
      show execSlotPlanApply d w s = _
      simp only [execSlotPlanApply, hplan, hc, State.slotPut]
    refine ⟨_, hexec, ?_⟩
    simp only [State.rd_settle_wg, State.slotCur_settle, State.wingx_settle]
    exact ⟨hcur, hpend, hgone⟩
  case stuck =>
    intro d w s hplan
    obtain ⟨hstatus, -, -, hpend, -, hgone⟩ := s.slotReject_shows d w 5 0 0 0 0
    refine ⟨(s.slotReject d w 5 0 0 0 0).settle, congrArg done (if_pos hplan), ?_⟩
    simp only [State.rd_settle_wg, State.slotCur_settle, State.wingx_settle, State.slotCur_slotReject]
    exact ⟨hstatus, hpend, hgone, trivial⟩
  case noslot =>
    intro d w s
    refine ⟨_, rfl, ?_⟩
    rw [State.flag_settle_wg]
    exact State.flag_raise rfl (by decide) _ _
  case patrol =>
    intro d w b upset s hup
    set n := 32768 * b.val + Store.get 0 (s.wingx (wix d w)).patrol b with hn
    set u := s.patrolNext d w b (rrLine d w n) upset with hu
    set v := if u.badWords (rrLine d w n) = 0 then u else (u.parityLog d w n 1 7).setPoison (rrLine d w n) true with hv
    have hkeep : Keeps [.poison] u v := by simp [hv]
    have hwings : v.wings = u.wings := hkeep .wings (by decide)
    have hmem : v.mem = u.mem := hkeep .mem (by decide)
    refine ⟨v.settle, exec_patrolScrubRead d w b upset hup, ?_, fun hbad => ?_, ?_⟩
    · rw [State.wingx_settle, State.wingx, hwings, ← State.wingx, hu, State.patrol_patrolNext]
    · have hfail : v = (u.parityLog d w n 1 7).setPoison (rrLine d w n) true := by
        rw [hv, if_neg (by rw [hu, State.badWords_patrolNext]; exact hbad)]
      obtain ⟨hcause, hlog⟩ := u.parityLog_patrol_shows d w n 7
      rw [State.flag_settle_wg, State.flag_settle_wg]
      refine ⟨?_, ?_, ?_⟩
      · rw [State.poisoned, State.settle_poison, ← State.poisoned, hfail, State.poisoned_setPoison]
      · rw [hfail]; exact hcause
      · rw [hfail]; exact hlog
    · rw [State.settle_mem, hmem]; rfl

end Sys2Proof.Machine
end

section
/-! SUPPORT. Messages on their way (R226, R230, R232). `Onward s t`: every message that `s` carries `t` carries, and an
agent without a credit record for a window in `s` has none in `t`. -/

namespace Sys2Proof.Machine

section
variable {s t u : State} {m : Msg}

/-! ### Taking a message -/

/-- The waiting messages without the first. -/
def State.taken (s : State) : State := { s with inbox := s.inbox.tail }
/-- A unit takes the message at the head. -/
theorem State.takeMsg_head {p : Msg → Bool} (h : s.inbox.head? = some m) (hp : p m = true) :
    s.takeMsg p = some (m, s.taken) := by
  obtain ⟨rest, hinbox⟩ := List.head?_eq_some_iff.1 h
  simp [State.takeMsg, State.taken, hinbox, hp]

/-! ### What a port holds -/

/-- The port has the message, to be sent or unacknowledged. -/
def LinkPort.Holds (p : LinkPort) (m : Msg) : Prop := m ∈ p.q ∨ ∃ x ∈ p.unacked, x.2.1 = m

theorem State.carries_iff : s.carries m = true ↔ m ∈ s.inbox ∨ ∃ k < 26, (s.port k).Holds m := by
  simp [State.carries, LinkPort.Holds]

/-- A port that sends keeps what it sends until it is acknowledged (R226). -/
theorem LinkPort.holds_drain (k : Nat) {p : LinkPort} (h : p.Holds m) : (p.drain k).Holds m := by
  induction k generalizing p with
  | zero => exact h
  | succ k ih =>
    rw [LinkPort.drain]
    split
    · exact h
    next m' _ =>
      refine ih ?_
      rcases h with hq | ⟨x, hx, hm⟩
      · by_cases he : m = m'
        · exact .inr ⟨(p.seq, m', 0), by simp, he.symm⟩
        · exact .inl ((List.mem_erase_of_ne he).2 hq)
      · exact .inr ⟨x, by simp [hx], hm⟩

theorem State.port_modLink_other {j k : Nat} (h : j ≠ k) (f : LinkPort → LinkPort) :
    (s.modLink k f).port j = s.port j := by
  simp [State.port, State.modLink, Store.get_put_other _ _ _ _ _ _ h]

/-! ### Steps that lose no message -/

/-- From `s` to `t` no message on its way is lost, and no credit record comes to be. -/
def Onward (s t : State) : Prop :=
  (∀ m, s.carries m = true → t.carries m = true) ∧ ∀ k, s.cred k = none → t.cred k = none

theorem Onward.refl (s : State) : Onward s s := ⟨fun _ h => h, fun _ h => h⟩
theorem Onward.trans (h : Onward s t) (h' : Onward t u) : Onward s u :=
  ⟨fun m hm => h'.1 m (h.1 m hm), fun k hk => h'.2 k (h.2 k hk)⟩
/-- A step that changes neither messages nor credit records. -/
theorem Onward.of_keeps {L : List Part} (h : Keeps L s t) (hi : .inbox ∉ L) (hp : .ports ∉ L) (hc : .creds ∉ L) :
    Onward s t := by
  have hinbox : t.inbox = s.inbox := h .inbox hi
  have hports : t.ports = s.ports := h .ports hp
  have hcreds : t.creds = s.creds := h .creds hc
  exact ⟨fun m hm => by simpa only [State.carries, State.port, hinbox, hports] using hm,
    fun k hk => by simpa only [State.cred, hcreds] using hk⟩
/-- A port changes and keeps what it holds. -/
theorem Onward.modLink (k : Nat) {f : LinkPort → LinkPort} (hf : ∀ p m, LinkPort.Holds p m → (f p).Holds m) :
    Onward s (s.modLink k f) := by
  refine ⟨fun m hm => ?_, fun _ h => h⟩
  rw [State.carries_iff] at *
  refine hm.imp id ?_
  rintro ⟨j, hj, hold⟩
  refine ⟨j, hj, ?_⟩
  by_cases he : j = k
  · rw [he, State.port_modLink_same]
    exact hf _ _ (he ▸ hold)
  · rwa [State.port_modLink_other he]
theorem Onward.linkPump (s : State) (k : Nat) : Onward s (s.linkPump k) := by
  unfold State.linkPump
  split
  · exact Onward.modLink k fun p m h => LinkPort.holds_drain _ h
  · exact Onward.refl s
theorem Onward.enqueue (s : State) (k : Nat) (m : Msg) : Onward s (s.modLink k (fun p => { p with q := p.q ++ [m] })) :=
  Onward.modLink k fun _ _ h => h.imp (fun hq => List.mem_append_left _ hq) id

section
variable {L : List Part}

@[simp] theorem State.keeps_modAgent (h : .agents ∈ L) (a : Nat) (f : Agent → Agent) :
    Keeps L s (t.modAgent a f) ↔ Keeps L s t :=
  Keeps.of_part h fun q hq => by cases q <;> trivial
@[simp] theorem State.keeps_modLink (h : .ports ∈ L) (k : Nat) (f : LinkPort → LinkPort) :
    Keeps L s (t.modLink k f) ↔ Keeps L s t :=
  Keeps.of_part h fun q hq => by cases q <;> trivial
@[simp] theorem State.keeps_linkPump (h : .ports ∈ L) (k : Nat) : Keeps L s (t.linkPump k) ↔ Keeps L s t := by
  simp [State.linkPump, h]
@[simp] theorem State.keeps_opFault (h : .agents ∈ L) (m : Msg) (code : Nat) :
    Keeps L s (t.opFault m code) ↔ Keeps L s t := by simp [State.opFault, h]

end

theorem Onward.deliver (s : State) (m : Msg) : Onward s (s.deliver m) := by
  unfold State.deliver
  split
  · exact Onward.of_keeps (L := [.sems]) (by simp) (by decide) (by decide) (by decide)
  split
  · split
    · exact Onward.of_keeps (L := []) (by simp) (by decide) (by decide) (by decide)
    · exact Onward.refl s
  split
  · exact Onward.refl s
  · refine ⟨fun m' h => ?_, fun _ h => h⟩
    rw [State.carries_iff] at *
    exact h.imp (fun hi => List.mem_append_left _ hi) id
theorem Onward.send (s : State) (m : Msg) : Onward s (s.send m) := by
  unfold State.send State.forward
  split
  · exact Onward.deliver s m
  · split
    · exact (Onward.enqueue s _ m).trans (Onward.linkPump _ _)
    · exact Onward.of_keeps (L := [.agents]) (by simp) (by decide) (by decide) (by decide)

/-- With a route to another node a message goes to that port. -/
theorem State.send_routed {k : Nat} (hne : m.dn ≠ m.sn) (hr : s.routePort m.sn m.dn = some k) :
    s.send m = (s.modLink k (fun p => { p with q := p.q ++ [m] })).linkPump k := by
  simp [State.send, State.forward, hne, hr]
/-- Every route from a Control or Stack die to a Stack die leaves by one of the 26 ports (R216). -/
theorem State.routePort_lt {a b k : Nat} (ha : (a < 3 ∧ 0 < a) ∨ 4 ≤ a ∧ a < 8) (hb : 4 ≤ b ∧ b < 8)
    (h : s.routePort a b = some k) : k < 26 := by
  have hsd : ∀ p < 2, 4 ≤ a → a < 8 → sdPort (a - 4) p < 26 := by intro p hp _ _; simp only [sdPort]; omega
  have hcd : ∀ p < 5, ¬ (4 ≤ a ∧ a < 8) → cdPort (a - 1) p < 26 := by intro p hp _; simp only [cdPort]; omega
  unfold State.routePort at h
  split at h
  next hstack =>
    obtain ⟨hlo, hhi⟩ := hstack
    dsimp only at h
    split at h <;> cases h
    · exact hsd 0 (by decide) hlo hhi
    · exact hsd 1 (by decide) hlo hhi
  next hctl =>
    dsimp only at h
    split at h <;> cases h
    · exact hcd (b - 4) (by omega) hctl
    · exact hcd 4 (by decide) hctl
/-- A message sent by a route is on its way. -/
theorem State.carries_send (ha : (m.sn < 3 ∧ 0 < m.sn) ∨ 4 ≤ m.sn ∧ m.sn < 8) (hb : 4 ≤ m.dn ∧ m.dn < 8)
    (hne : m.dn ≠ m.sn) (hr : (s.routePort m.sn m.dn).isSome = true) : (s.send m).carries m = true := by
  obtain ⟨k, hk⟩ := Option.isSome_iff_exists.1 hr
  rw [State.send_routed hne hk]
  refine (Onward.linkPump _ k).1 m (State.carries_iff.2 (.inr ⟨k, State.routePort_lt ha hb hk, ?_⟩))
  rw [State.port_modLink_same]
  exact .inl (by simp)
theorem State.carries_settle : s.settle.carries m = s.carries m := by simp [State.carries, State.port]

end

end Sys2Proof.Machine
end

section
/-! SUPPORT. The move engine and the link engine (R193, R196, R238, R260): what changes only memory, line marks and the
engine itself, and what sends. -/

namespace Sys2Proof.Machine

section
variable {s t : State} {L : List Part}

/-! ### The instruction that an engine runs -/

@[simp] theorem State.keeps_qfill (a : Nat) : Keeps L s (t.qfill a) ↔ Keeps L s t := by simp [State.qfill]
@[simp] theorem State.keeps_modEng (h : .agents ∈ L) (a e : Nat) (f : Engine → Engine) :
    Keeps L s (t.modEng a e f) ↔ Keeps L s t := by simp [State.modEng, h]
@[simp] theorem State.keeps_modRun (h : .agents ∈ L) (a e : Nat) (f : EngRun → EngRun) :
    Keeps L s (t.modRun a e f) ↔ Keeps L s t := by simp [State.modRun, h]
@[simp] theorem State.keeps_moveFail (h : .agents ∈ L) (a code : Nat) :
    Keeps L s (t.moveFail a code) ↔ Keeps L s t := by simp [State.moveFail, h]
@[simp] theorem State.keeps_moveSync (a : Nat) : Keeps L s (t.moveSync a) ↔ Keeps L s t := by
  unfold State.moveSync
  dsimp only
  split
  · rfl
  · split <;> simp
@[simp] theorem State.keeps_mvCount (m : Msg) : Keeps L s (t.mvCount m) ↔ Keeps L s t := by simp [State.mvCount]
@[simp] theorem State.keeps_lineCheck (d w n e : Nat) : Keeps L s (t.lineCheck d w n e) ↔ Keeps L s t := by
  simp [State.lineCheck]

theorem State.running_congr (h : t.agents = s.agents) (a e : Nat) : t.running a e = s.running a e := by
  simp [State.running, State.engine, State.agent, h]
/-- A step that leaves the agents alone leaves what their engines run. -/
theorem Keeps.running (h : Keeps L s t) (hL : .agents ∉ L) (a e : Nat) : t.running a e = s.running a e :=
  State.running_congr (h .agents hL) a e
theorem State.engine_modEng_same (s : State) (a e : Nat) (f : Engine → Engine) :
    (s.modEng a e f).engine a e = f (s.engine a e) := by
  have hq : (s.modEng a e f).agents =
      (s.modAgent a (fun x => { x with eng := Store.put {} x.eng e (f (Store.get {} x.eng e)) })).agents :=
    (State.keeps_qfill (L := []) a).2 (Keeps.refl _ _) .agents (by decide)
  simp only [State.engine, State.agent, hq]
  simp [State.modAgent, State.agent, Store.get_put_same]
theorem State.running_modRun_same (s : State) (a e : Nat) (f : EngRun → EngRun) :
    (s.modRun a e f).running a e = (s.running a e).map f := by
  rw [State.running, State.modRun, State.engine_modEng_same, State.running]

/-! ### Lines that move within the wing -/

/-- The parts that a move of bank lines changes before anything is sent. -/
def moveParts : List Part := [.mem, .agents, .fresh, .poison, .parity]

/-- A line read from the banks (R188). -/
theorem State.keeps_readLine {sk : Nat} (h : sk ≠ 1) (d w addr : Nat) (kept : Option (Nat × List Byte × Bool)) :
    Keeps L s (t.readLine d w sk addr kept).1 ↔ Keeps L s t := by simp [State.readLine, h]
/-- A run over a list that carries more than the state along. -/
theorem Keeps.foldl_fst {α β : Type} {g : State × α → β → State × α} (l : List β)
    (h : ∀ y x, Keeps L s (g y x).1 ↔ Keeps L s y.1) (y : State × α) : Keeps L s (l.foldl g y).1 ↔ Keeps L s y.1 := by
  induction l generalizing y with
  | nil => rfl
  | cons x xs ih => exact (ih _).trans (h y x)
theorem State.keeps_readLines {sk : Nat} (h : sk ≠ 1) (d w : Nat) (l : List Nat) :
    Keeps L s (t.readLines d w sk l).1 ↔ Keeps L s t :=
  Keeps.foldl_fst (α := List (List Byte × Bool) × Option (Nat × List Byte × Bool)) l
    (fun _ _ => State.keeps_readLine h _ _ _ _) (t, [], none)
theorem State.keeps_putLines (a d w pc : Nat) (x : Xfer) (l : List (Nat × List Byte × Bool)) (fin : Bool) :
    Keeps moveParts s (t.putLines a d w pc x l fin) ↔ Keeps moveParts s t := by
  simp +decide [State.putLines]
theorem State.keeps_tileMove (a d w pc : Nat) (x : Xfer) (k : Nat) (srcs dsts : List Nat) :
    Keeps moveParts s (State.tileMove a d w pc x k srcs dsts t) ↔ Keeps moveParts s t := by
  induction k generalizing t srcs dsts with
  | zero => rfl
  | succ k ih => rw [State.tileMove, ih, State.keeps_putLines, State.keeps_readLines (by decide)]
theorem State.keeps_localMove {x : Xfer} (h : x.sk ≠ 1) (a d w pc : Nat) :
    Keeps moveParts s (t.localMove a d w pc x) ↔ Keeps moveParts s t := by
  refine Keeps.foldl_fst _ (fun y p => ?_) (t, [], none)
  rw [State.keeps_putLines, State.keeps_readLine h]
  split
  · exact State.keeps_draw (by decide) 1
  · rfl
/-- A transfer from the banks: it only queues what it sends. -/
theorem State.keeps_xferBody {x : Xfer} (h : x.sk = 0) (a d w pc : Nat) :
    Keeps moveParts s (t.xferBody a d w pc x) ↔ Keeps moveParts s t := by
  have hsk : x.sk ≠ 1 := by omega
  unfold State.xferBody
  split
  · simp +decide
  · rw [if_neg (by omega)]
    split
    · exact State.keeps_tileMove ..
    · split
      · exact State.keeps_localMove hsk ..
      · exact (State.keeps_putLines ..).trans (State.keeps_readLines hsk ..)

/-! ### Sending -/

theorem Onward.modRun (s : State) (a e : Nat) (f : EngRun → EngRun) : Onward s (s.modRun a e f) :=
  Onward.of_keeps (L := [.agents]) (by simp) (by decide) (by decide) (by decide)
theorem Onward.moveSync (s : State) (a : Nat) : Onward s (s.moveSync a) :=
  Onward.of_keeps (L := []) (by simp) (by decide) (by decide) (by decide)
theorem Onward.mvCount (s : State) (m : Msg) : Onward s (s.mvCount m) :=
  Onward.of_keeps (L := []) (by simp) (by decide) (by decide) (by decide)
/-- A record that is there changes. -/
theorem Onward.setCred {k : Nat} (h : s.cred k ≠ none) (r : Option CredRec) : Onward s (s.setCred k r) := by
  refine ⟨fun _ hm => hm, fun j hj => ?_⟩
  have hne : j ≠ k := fun he => h (he ▸ hj)
  rw [State.cred, State.setCred, Store.get_put_other _ _ _ _ _ _ hne]
  exact hj
theorem Onward.trySend {m : Msg} (h : s.trySend m = some t) : Onward s t := by
  unfold State.trySend at h
  dsimp only at h
  split at h
  next r hr =>
    split at h <;> cases h
    exact ((Onward.setCred (by simp [hr]) _).trans (Onward.mvCount _ _)).trans (Onward.send _ _)
  next => cases h
theorem Onward.sendTodo (a e k : Nat) (s : State) : Onward s (State.sendTodo a e k s) := by
  induction k generalizing s with
  | zero => exact Onward.refl s
  | succ k ih =>
    unfold State.sendTodo
    split
    · exact Onward.refl s
    split
    · exact Onward.refl s
    next m ms _ =>
      have hrun := Onward.modRun s a e (fun r => { r with todo := ms })
      dsimp only
      split
      · exact ((hrun.trans (Onward.mvCount _ m)).trans (Onward.send _ m)).trans (ih _)
      · split
        next u hu => exact (hrun.trans (Onward.trySend hu)).trans (ih _)
        next => exact Onward.refl s
theorem Onward.sendAllTodo (s : State) (a e : Nat) : Onward s (s.sendAllTodo a e) := by
  unfold State.sendAllTodo
  split
  · exact Onward.sendTodo ..
  · exact Onward.refl s
theorem Onward.moveFail (s : State) (a code : Nat) : Onward s (s.moveFail a code) := Onward.modRun ..
theorem Onward.xferGo {x : Xfer} (h : x.sk = 0) (s : State) (a d w pc : Nat) : Onward s (s.xferGo a d w pc x) := by
  have hbody : Onward s (s.xferBody a d w pc x) :=
    Onward.of_keeps ((State.keeps_xferBody h a d w pc).2 (Keeps.refl _ s)) (by decide) (by decide) (by decide)
  unfold State.xferGo
  dsimp only
  split
  · exact Onward.moveFail ..
  split
  · exact Onward.moveFail ..
  split
  · exact hbody
  split
  · exact hbody
  split
  · split
    · exact hbody
    · exact Onward.moveFail ..
  · exact (Onward.modRun ..).trans (Onward.send ..)
theorem Onward.entryStart (s : State) (a : Nat) (r : EngRun) : Onward s (s.entryStart a r) := by
  unfold State.entryStart
  dsimp only
  generalize (r.ins.vb + r.ins.vc) % 2 ^ 40 + 32 * r.next = ea
  have hread : ∀ l f, Onward s ((s.lineCheck (wcDie a) (wcWing a) l 5).modRun a 4 f) := fun l f =>
    Onward.of_keeps (L := [.agents]) (by simp) (by decide) (by decide) (by decide)
  split
  · exact (hread _ _).trans (Onward.moveFail ..)
  split
  · exact (hread _ _).trans (Onward.moveFail ..)
  · exact (hread _ _).trans (Onward.xferGo rfl ..)
theorem Onward.moveGo (a k : Nat) (s : State) : Onward s (State.moveGo a k s) := by
  induction k generalizing s with
  | zero => exact Onward.moveSync s a
  | succ k ih =>
    unfold State.moveGo
    dsimp only
    have hsend := Onward.sendAllTodo s a 4
    split
    · exact hsend.trans (Onward.moveSync ..)
    split
    · exact (hsend.trans (Onward.entryStart ..)).trans (ih _)
    · exact hsend.trans (Onward.moveSync ..)
theorem Onward.moveOn (s : State) (a : Nat) : Onward s (s.moveOn a) := by
  unfold State.moveOn
  split
  · exact Onward.moveGo ..
  · exact Onward.moveSync ..
/-- What the engines of an agent send once credits change (R193). -/
theorem Onward.flush (s : State) (node unit : Nat) : Onward s (s.flush node unit) := by
  unfold State.flush
  dsimp only
  split
  · split
    · exact Onward.sendAllTodo ..
    · exact (Onward.moveOn ..).trans (Onward.sendAllTodo ..)
  · exact Onward.refl s

end

end Sys2Proof.Machine
end

section
/-! SUPPORT. What arrives for the engines of an agent and for a Control die (R193, R196, R233, R240, R246, R319, R320). -/

namespace Sys2Proof.Machine

section
variable {s t : State} {a : Nat}

/-! ### An engine with nothing to send -/

theorem State.sendAllTodo_of_todo_nil {e : Nat} (h : ∀ r, s.running a e = some r → r.todo = []) :
    s.sendAllTodo a e = s := by
  unfold State.sendAllTodo
  split
  next r hr => rw [h r hr]; rfl
  next => rfl
/-- The move engine has nothing more to send: only MV_STAT is shown anew. -/
theorem State.moveOn_of_todo_nil (h : ∀ r, s.running a 4 = some r → r.todo = [] ∧ r.ins.op ≠ 0x82) :
    s.moveOn a = s.moveSync a := by
  unfold State.moveOn
  split
  next r hr =>
    have hidle : s.sendAllTodo a 4 = s := State.sendAllTodo_of_todo_nil fun r' hr' => (h r' hr').1
    simp only [State.moveGo, hidle, hr, (h r hr).2, false_and, if_false]
  next => rfl
/-- An agent whose move and link engines are idle holds no WRITE back. -/
theorem State.keeps_flush_idle {node unit : Nat} (h4 : s.running (nodeAgent node unit) 4 = none)
    (h5 : s.running (nodeAgent node unit) 5 = none) : Keeps [] s (s.flush node unit) := by
  have hidle : ∀ u : State, u.running (nodeAgent node unit) 5 = none → u.sendAllTodo (nodeAgent node unit) 5 = u :=
    fun u hu => State.sendAllTodo_of_todo_nil (by simp [hu])
  unfold State.flush
  dsimp only
  split
  · split
    · rw [hidle s h5]
      exact Keeps.refl _ s
    · have hsync : Keeps [] s (s.moveSync (nodeAgent node unit)) := (State.keeps_moveSync _).2 (Keeps.refl _ s)
      rw [State.moveOn_of_todo_nil (by simp [h4]), hidle _ ((hsync.running (by decide) _ _).trans h5)]
      exact hsync
  · exact Keeps.refl _ s

theorem State.cred_setCred_same (s : State) (k : Nat) (r : Option CredRec) : (s.setCred k r).cred k = r :=
  Store.get_put_same none s.creds k r
theorem State.cred_settle (s : State) (k : Nat) : s.settle.cred k = s.cred k := by simp [State.cred]
theorem State.running_settle (s : State) (a e : Nat) : s.settle.running a e = s.running a e :=
  State.running_congr s.settle_agents a e

/-! ### CREDIT_GRANT and RECLAIM_REQ (R193, R196) -/

/-- The record that a CREDIT_GRANT opens. -/
def Msg.granted (m : Msg) : CredRec where
  epoch := bits m.m0 27 20
  base := bits m.m0 16 0
  len := bits m.m1 17 0
  credits := bits (fromBytes (m.data.take 4)) 17 0
  sent := 0

theorem creditGrantReceive_opens (node unit : Fin 16) (m : Msg) (s : State) (hin : s.inbox.head? = some m)
    (hty : m.ty = 0x11) (hdn : m.dn = node.val) (hdu : m.du = unit.val)
    (hnone : s.cred (ckey node unit m.sn m.su (bits m.m0 31 28)) = none)
    (h4 : (s.engine (nodeAgent node unit) 4).run = none) (h5 : (s.engine (nodeAgent node unit) 5).run = none) :
    ∃ t, exec (.creditGrantReceive node unit) s = .next t ∧
      t.cred (ckey node unit m.sn m.su (bits m.m0 31 28)) = some m.granted ∧
      t.inbox = s.inbox.tail := by
  set k := ckey node unit m.sn m.su (bits m.m0 31 28) with hk
  set u := s.taken.setCred k (some m.granted) with hu
  have hexec : exec (.creditGrantReceive node unit) s = .next (u.flush node unit).settle := by
    show execCreditGrantReceive node unit s = _
    rw [execCreditGrantReceive, State.takeMsg_head hin (by simp [hty, hdn, hdu])]
    have hopen : s.taken.cred k = none := hnone
    simp only [done, ← hk, hopen, hu, Msg.granted]
  have hkeep : Keeps [] u (u.flush node unit) := State.keeps_flush_idle h4 h5
  refine ⟨_, hexec, ?_, ?_⟩
  · have hcreds : (u.flush node unit).creds = u.creds := hkeep .creds (by decide)
    rw [State.cred_settle, State.cred, hcreds, ← State.cred, hu, State.cred_setCred_same]
  · rw [State.settle_inbox]
    exact hkeep .inbox (by decide)

@[simp] theorem State.keeps_cutShort {L : List Part} (h : .agents ∈ L) (a e rn rw win : Nat) :
    Keeps L s (t.cutShort a e rn rw win) ↔ Keeps L s t := by simp [State.cutShort, h]

/-- The engines of a unit's agent cut short for a window that is reclaimed (R196). -/
def State.cutUnit (s : State) (node unit rn rw win : Nat) : State :=
  if isAgent node unit then [4, 5].foldl (fun s e => s.cutShort (nodeAgent node unit) e rn rw win) s else s
theorem State.cutUnit_same (s : State) (node unit rn rw win : Nat) :
    (s.cutUnit node unit rn rw win).creds = s.creds ∧ (s.cutUnit node unit rn rw win).ports = s.ports := by
  have h : Keeps [.agents] s (s.cutUnit node unit rn rw win) := by simp [State.cutUnit]
  exact ⟨h .creds (by decide), h .ports (by decide)⟩

/-! ### Registers of a Stack die beside those of its wings -/

/-- A register of a Stack die is no register of a wing (R37). -/
theorem fkey_sd_ne_wg {f g : Fld} (hf : f.off < 2 ^ 32 ∧ f.lo < 32) (hg : g.off < 0x800 ∧ g.lo < 32) (e d w : Nat)
    (hw : w < 8) : fkey (sd e) f ≠ fkey (wg d w) g := by
  simp only [fkey, sd, wg]; omega
theorem State.rd_sd_modRun (s : State) (a e : Nat) (g : EngRun → EngRun) (d : Nat) {f : Fld}
    (hf : f.off < 2 ^ 32 ∧ f.lo < 32) : (s.modRun a e g).rd (sd d) f = s.rd (sd d) f := by
  have hwr : ∀ (u : State) {q : Fld} v, q.off < 0x800 ∧ q.lo < 32 →
      (u.wr (wg (wcDie a) (wcWing a)) q v).rd (sd d) f = u.rd (sd d) f := fun u q v hq =>
    State.rd_wr_other _ _ _ _ _ _ (fkey_sd_ne_wg hf hq _ _ _ (Nat.mod_lt _ (by decide)))
  simp only [State.modRun, State.modEng, State.qfill]
  split
  · rfl
  next ha =>
    rw [agBase_wing (by simpa using ha), hwr _ _ (by decide), hwr _ _ (by decide), hwr _ _ (by decide),
      hwr _ _ (by decide)]
    rfl
theorem State.rd_sd_cutUnit (s : State) (node unit rn rw win d : Nat) {f : Fld} (hf : f.off < 2 ^ 32 ∧ f.lo < 32) :
    (s.cutUnit node unit rn rw win).rd (sd d) f = s.rd (sd d) f := by
  simp only [State.cutUnit, List.foldl_cons, List.foldl_nil, State.cutShort]
  split
  · rw [State.rd_sd_modRun _ _ _ _ _ hf, State.rd_sd_modRun _ _ _ _ _ hf]
  · rfl
/-- Whether a route leads to a Stack die is decided by ROUTE alone (R231). -/
theorem State.isSome_routePort_congr {a b : Nat} (hb : 4 ≤ b ∧ b < 8)
    (h : t.rd (sd (a - 4)) R.ROUTE_SD = s.rd (sd (a - 4)) R.ROUTE_SD) :
    (t.routePort a b).isSome = (s.routePort a b).isSome := by
  unfold State.routePort
  split
  · simp only [h]
  · simp only [apply_ite Option.isSome, Option.isSome_some, ite_self]

/-! ### RECLAIM_REQ (R196) -/

/-- Lines sent under an epoch of a record (R196). -/
def State.sentUnder (s : State) (k ep : Nat) : Nat :=
  match s.cred k with
  | some r => if r.epoch = ep then r.sent else 0
  | none => 0
/-- The RECLAIM_ACK of a RECLAIM_REQ. -/
def State.reclaimAck (s : State) (node unit : Nat) (m : Msg) : Msg :=
  ⟨0x14, m.sn, m.su, node, unit, bits m.m0 31 28 * 2 ^ 28 + bits m.m0 27 20 * 2 ^ 20,
    s.sentUnder (ckey node unit m.sn m.su (bits m.m0 31 28)) (bits m.m0 27 20) % 2 ^ 18, [], 0⟩

theorem reclaimReqReceive_answers (node unit : Fin 16) (m : Msg) (s : State) (hin : s.inbox.head? = some m)
    (hty : m.ty = 0x13) (hdn : m.dn = node.val) (hdu : m.du = unit.val) (hne : m.sn ≠ node.val)
    (hsn : 4 ≤ m.sn ∧ m.sn < 8) (hnode : (node.val < 3 ∧ 0 < node.val) ∨ 4 ≤ node.val ∧ node.val < 8)
    (hroute : (s.routePort node m.sn).isSome = true) :
    ∃ t, exec (.reclaimReqReceive node unit) s = .next t ∧
      t.cred (ckey node unit m.sn m.su (bits m.m0 31 28)) = none ∧ t.carries (s.reclaimAck node unit m) = true := by
  set k := ckey node unit m.sn m.su (bits m.m0 31 28) with hk
  set u := (s.taken.setCred k none).cutUnit node unit m.sn m.su (bits m.m0 31 28) with hu
  have hexec : exec (.reclaimReqReceive node unit) s =
      .next ((u.send (s.reclaimAck node unit m)).flush node unit).settle := by
    show execReclaimReqReceive node unit s = _
    rw [execReclaimReqReceive, State.takeMsg_head hin (by simp [hty, hdn, hdu])]
    rfl
  refine ⟨_, hexec, ?_, ?_⟩
  · have hnone : u.cred k = none := by
      rw [State.cred, (State.cutUnit_same _ _ _ _ _ _).1, ← State.cred, State.cred_setCred_same]
    rw [State.cred_settle]
    exact ((Onward.send u _).trans (Onward.flush _ node unit)).2 k hnone
  · have hleads : (u.routePort node m.sn).isSome = true := by
      rw [← hroute]
      exact State.isSome_routePort_congr hsn (State.rd_sd_cutUnit _ _ _ _ _ _ _ (by decide))
    rw [State.carries_settle]
    exact (Onward.flush _ node unit).1 _ (State.carries_send hnode hsn hne hleads)

/-! ### FETCH and MEMWR at a Control die (R233, R320) -/

theorem State.ldn_taken (s : State) (a n : Nat) : s.taken.ldn a n = s.ldn a n := State.ldn_congr n a fun _ _ _ => rfl
theorem State.hostGet_taken (s : State) (n addr len : Nat) : s.taken.hostGet n addr len = s.hostGet n addr len := by
  simp only [State.hostGet, State.ldn_taken]
  rfl

theorem fetchReceive_answers (n : Fin 2) (m : Msg) (data : List Byte) (s : State) (hin : s.inbox.head? = some m)
    (hty : m.ty = 0x09) (hdn : m.dn = cdNode n) (hsn : 4 ≤ m.sn ∧ m.sn < 8)
    (hreg : 4 ≤ (m.m0 + bits m.m1 7 0 * 2 ^ 32) / 2 ^ 32 % 16 ∧ (m.m0 + bits m.m1 7 0 * 2 ^ 32) / 2 ^ 32 % 16 < 8)
    (hdata : s.hostGet n (m.m0 + bits m.m1 7 0 * 2 ^ 32) (bits m.m1 28 16) = some data) :
    ∃ t, exec (.fetchReceive n false) s = .next t ∧
      t.carries ⟨0x0A, m.sn, m.su, cdNode n, 8, bits m.m1 15 8 * 256, 0, data, 0⟩ = true := by
  set ans : Msg := ⟨0x0A, m.sn, m.su, cdNode n, 8, bits m.m1 15 8 * 256, 0, data, 0⟩ with hans
  have hexec : exec (.fetchReceive n false) s = .next (s.taken.send ans).settle := by
    show execFetchReceive n false s = _
    rw [execFetchReceive, State.takeMsg_head hin (by simp [hty, hdn])]
    have hserves : ¬ ((m.m0 + bits m.m1 7 0 * 2 ^ 32) / 2 ^ 32 % 16 < 4 ∨
        8 ≤ (m.m0 + bits m.m1 7 0 * 2 ^ 32) / 2 ^ 32 % 16) := by omega
    simp only [if_neg hserves, State.hostGet_taken, hdata, Bool.false_eq_true, if_false]
    rw [Nat.add_zero (bits m.m1 15 8 * 256)]
    rfl
  have hctl : cdNode n < 3 ∧ 0 < cdNode n := ⟨by simp only [cdNode]; omega, Nat.succ_pos _⟩
  have hroute : (s.taken.routePort (cdNode n) m.sn).isSome = true := by
    rw [State.routePort, if_neg (by omega), if_pos hsn]
    split <;> rfl
  refine ⟨_, hexec, ?_⟩
  rw [State.carries_settle]
  exact State.carries_send (.inl hctl) hsn (by simp only [hans]; omega) hroute

theorem State.mem_stn_congr (h : t.mem = s.mem) (a : Nat) (l : List Byte) : (t.stn a l).mem = (s.stn a l).mem := by
  induction l generalizing s t a with
  | nil => exact h
  | cons x xs ih => exact ih (by simp only [State.stb, h]) _
/-- A write of whole words of Commons needs no word read before (R452). -/
theorem State.comWrite_whole {o : Nat} {data : List Byte} (ho : o % 64 = 0) (hlen : data.length % 64 = 0)
    (s : State) (n master : Nat) : ∃ e, s.comWrite n master o data = { s with comErr := e }.stn (comAddr n o) data := by
  have hfold : ∀ l : List Nat, (∀ i ∈ l, o ≤ 8 * i ∧ 8 * i + 8 ≤ o + data.length) → ∀ u : State,
      ∃ e, l.foldl (fun s i =>
        let s := if o ≤ 8 * i ∧ 8 * i + 8 ≤ o + data.length then s else (s.comCheck n master i).1
        { s with comErr := Store.put [] s.comErr (comWord n i) [] }) u = { u with comErr := e } := by
    intro l
    induction l with
    | nil => exact fun _ u => ⟨u.comErr, rfl⟩
    | cons i l ih =>
      intro hl u
      rw [List.foldl_cons]
      simp only [if_pos (hl i (by simp))]
      obtain ⟨e, he⟩ := ih (fun j hj => hl j (by simp [hj])) { u with comErr := Store.put [] u.comErr (comWord n i) [] }
      exact ⟨e, he⟩
  have hwhole : ∀ i ∈ (if data.length = 0 then [] else
      (List.range ((o + data.length - 1) / 8 - o / 8 + 1)).map (o / 8 + ·)), o ≤ 8 * i ∧ 8 * i + 8 ≤ o + data.length := by
    intro i hi
    split at hi
    · cases hi
    · obtain ⟨j, hj, rfl⟩ := List.mem_map.1 hi
      have := List.mem_range.1 hj
      omega
  obtain ⟨e, he⟩ := hfold _ hwhole s
  exact ⟨e, congrArg (State.stn · (comAddr n o) data) he⟩

theorem memwrReceive_writes (n : Fin 2) (m : Msg) (s : State) (hin : s.inbox.head? = some m) (hty : m.ty = 0x08)
    (hdn : m.dn = cdNode n) (hreg : bits m.m1 7 0 % 16 = 0) (hm0 : m.m0 % 64 = 0) (hlen : m.data.length % 64 = 0)
    (hend : m.m0 + m.data.length ≤ 2 ^ 24) :
    ∃ t, exec (.memwrReceive n false) s = .next t ∧ t.mem = (s.stn (comAddr n m.m0) m.data).mem ∧
      t.inbox = s.inbox.tail := by
  obtain ⟨e, he⟩ := State.comWrite_whole hm0 hlen s.taken n 6
  have hexec : exec (.memwrReceive n false) s =
      .next (({ s.taken with comErr := e } : State).stn (comAddr n m.m0) m.data).settle := by
    show execMemwrReceive n false s = _
    rw [execMemwrReceive, State.takeMsg_head hin (by simp [hty, hdn])]
    have hcom : (m.m0 + bits m.m1 7 0 * 2 ^ 32) / 2 ^ 32 % 16 = 0 := by omega
    simp only [done, if_pos hcom, if_pos hend, he]
  refine ⟨_, hexec, ?_, ?_⟩
  · rw [State.settle_mem]
    refine State.mem_stn_congr ?_ _ _
    rfl
  · have hkeep : Keeps [.mem] ({ s.taken with comErr := e } : State)
        (({ s.taken with comErr := e } : State).stn (comAddr n m.m0) m.data) := by simp
    rw [State.settle_inbox]
    exact hkeep .inbox (by decide)

/-! ### FETCH_DATA of an UNPARK at a wing (R246) -/

theorem State.running_taken (s : State) (a e : Nat) : s.taken.running a e = s.running a e := rfl
theorem isSq_wcix (d w : Nat) : isSq (wcix d w) = false := isSq_eq_false (Nat.le_add_right _ _)

theorem State.mem_rrStore_congr (h : t.mem = s.mem) (d w o : Nat) (data : List Byte) (flag : Bool) :
    (t.rrStore d w o data flag).mem = (s.rrStore d w o data flag).mem := by
  have hwrite : ∀ (fuel o : Nat) (data : List Byte) (s t : State), t.mem = s.mem →
      (t.rrWrite d w flag fuel o data).mem = (s.rrWrite d w flag fuel o data).mem := by
    intro fuel
    induction fuel with
    | zero => exact fun _ _ _ _ h => h
    | succ fuel ih =>
      intro o data s t h
      cases data with
      | nil => exact h
      | cons x xs =>
        refine ih _ _ _ _ ?_
        rw [State.mem_lineWrite, State.mem_lineWrite, State.mem_stn_congr h]
  exact hwrite _ o data s t h

theorem fetchDataReceive_lands (d : Fin 4) (w : Fin 8) (m : Msg) (r : EngRun) (s : State)
    (hin : s.inbox.head? = some m) (hty : m.ty = 0x0A) (hdn : m.dn = sdNode d) (hdu : m.du = w.val)
    (hrun : s.running (wcix d w) 4 = some r) (hfault : r.fault = 0) (hop : r.ins.op = 0x84) (htodo : r.todo = [])
    (hok : bits m.m0 7 0 = 0) :
    ∃ t, exec (.fetchDataReceive d w) s = .next t ∧
      t.mem = (s.rrStore d w (4096 * (r.ent.headD 0 + r.next)) m.data false).mem ∧
      ((t.engine (wcix d w) 4).run.map (fun r => r.next)) = some (r.next + 1) := by
  set a := wcix d w with ha
  set u := s.taken.rrStore d w (4096 * (r.ent.headD 0 + r.next)) m.data false with hu
  set v := (u.wr (wg d w) R.MV_CNT_LINES (u.rd (wg d w) R.MV_CNT_LINES + 64)).modRun a 4
    (fun r => { r with next := r.next + 1 }) with hv
  have hexec : exec (.fetchDataReceive d w) s = .next (v.moveOn a).settle := by
    show execFetchDataReceive d w s = _
    rw [execFetchDataReceive, State.takeMsg_head hin (by simp [hty, hdn, hdu])]
    simp only [State.running_taken, ← ha, hrun, hfault, hop, ne_eq, not_true_eq_false, if_false, if_true, State.unparked, hok]
    rfl
  have hstore : Keeps [.mem, .poison, .parity] s.taken
      (u.wr (wg d w) R.MV_CNT_LINES (u.rd (wg d w) R.MV_CNT_LINES + 64)) := by simp [hu]
  have hvrun : v.running a 4 = some { r with next := r.next + 1 } := by
    rw [hv, State.running_modRun_same, hstore.running (by decide), State.running_taken, hrun]
    rfl
  have hsync : v.moveOn a = v.moveSync a := State.moveOn_of_todo_nil (by simp [hvrun, htodo, hop])
  have hkeep : Keeps [] v (v.moveSync a) := (State.keeps_moveSync a).2 (Keeps.refl _ v)
  have hkeepv : Keeps [.agents] u v := by simp [hv]
  refine ⟨_, hexec, ?_, ?_⟩
  · have h1 : (v.moveSync a).mem = v.mem := hkeep .mem (by decide)
    have h2 : v.mem = u.mem := hkeepv .mem (by decide)
    rw [State.settle_mem, hsync, h1, h2]
    exact State.mem_rrStore_congr (s := s) (t := s.taken) rfl _ _ _ _ _
  · rw [← State.running, State.running_settle, hsync, hkeep.running (by decide), hvrun]
    rfl

/-! ### KVACK (R240) -/

theorem State.routePort_controlDie {a b : Nat} (ha : 4 ≤ a ∧ a < 8) (hb : b = 1 ∨ b = 2) :
    (s.routePort a b).isSome = true := by
  rw [State.routePort, if_pos ha]
  simp only [if_neg (show ¬ (4 ≤ b ∧ b < 8) by omega), apply_ite Option.isSome, Option.isSome_some, ite_self]
/-- A message from a Stack die to a Control die goes to a port, and nothing else changes (R26). -/
theorem State.send_controlDie {m : Msg} (hsn : 4 ≤ m.sn ∧ m.sn < 8) (hdn : m.dn = 1 ∨ m.dn = 2) :
    Keeps [.ports] s (s.send m) ∧ (s.send m).fld = s.fld := by
  obtain ⟨k, hk⟩ := Option.isSome_iff_exists.1 (State.routePort_controlDie (s := s) hsn hdn)
  rw [State.send_routed (by omega) hk]
  refine ⟨by simp, ?_⟩
  unfold State.linkPump
  split <;> rfl
theorem State.aliasNode_wing (ha : isSq a = false) : s.aliasNode a = s.rd (sd (wcDie a)) R.SD_EPOCH_NODE := by
  simp [State.aliasNode, ha]
theorem State.aliasNode_modRun (ha : isSq a = false) (b e : Nat) (f : EngRun → EngRun) :
    (s.modRun b e f).aliasNode a = s.aliasNode a := by
  rw [State.aliasNode_wing ha, State.rd_sd_modRun _ _ _ _ _ (by decide), State.aliasNode_wing ha]

/-- The FETCHes of the next runs go out, while fewer than eight are outstanding (R319). -/
def EngRun.fetching (r : EngRun) (k : Nat) : EngRun :=
  { r with runs := r.runs.drop (min k (8 - r.fetch.length)), fetch := r.fetch ++ r.runs.take (min k (8 - r.fetch.length)) }
theorem State.running_sendFetch (ha : isSq a = false) (hnode : 4 ≤ agNode a ∧ agNode a < 8) (k : Nat) {r : EngRun}
    (halias : s.aliasNode a = 1 ∨ s.aliasNode a = 2) (hrun : s.running a 4 = some r) :
    (State.sendFetch a k s).running a 4 = some (r.fetching k) := by
  induction k generalizing s r with
  | zero => simp [State.sendFetch, EngRun.fetching, hrun]
  | succ k ih =>
    unfold State.sendFetch
    rw [hrun]
    dsimp only
    split
    next hnil =>
      rw [hrun, EngRun.fetching, hnil, List.drop_nil, List.take_nil, List.append_nil, ← hnil]
    next f fs hcons =>
      split
      next hfull =>
        rw [hrun, EngRun.fetching, show 8 - r.fetch.length = 0 by omega, Nat.min_zero, List.drop_zero, List.take_zero,
          List.append_nil]
      next hroom =>
        have hsome : (s.modRun a 4 (fun r => { r with runs := fs, fetch := r.fetch ++ [f] })).running a 4 =
            some { r with runs := fs, fetch := r.fetch ++ [f] } := by
          rw [State.running_modRun_same, hrun]; rfl
        have hdie := halias
        rw [← State.aliasNode_modRun ha a 4 (fun r => { r with runs := fs, fetch := r.fetch ++ [f] })] at hdie
        generalize s.modRun a 4 (fun r => { r with runs := fs, fetch := r.fetch ++ [f] }) = u at hsome hdie ⊢
        obtain ⟨hkeep, hfld⟩ := State.send_controlDie (s := u) (m := ⟨0x09, u.aliasNode a, 8, agNode a, agUnit a,
          f.addr % 2 ^ 32, f.addr / 2 ^ 32 % 256 + f.tag % 256 * 256 + 64 * f.count * 65536, [], 4 + 8 * r.ins.pc⟩)
          hnode hdie
        rw [ih ?_ ((hkeep.running (by decide) a 4).trans hsome)]
        · have hnext : min (k + 1) (8 - r.fetch.length) = min k (8 - (r.fetch ++ [f]).length) + 1 := by
            rw [List.length_append, List.length_singleton]; omega
          simp only [EngRun.fetching, hcons, hnext, List.drop_succ_cons, List.take_succ_cons, List.append_assoc,
            List.singleton_append]
        · rw [State.aliasNode_wing ha, State.rd_congr hfld, ← State.aliasNode_wing ha]
          exact hdie

/-- What a KVACK does to the transfer that waits for it (R240). -/
def State.kvAnswered (s : State) (d w : Nat) (m : Msg) (r : EngRun) : State :=
  let u := s.taken.modRun (wcix d w) 4 (fun r => { r with ack := false })
  if bitOf m.m0 0 then u.xferBody (wcix d w) d w r.ins.pc (r.xfer d w) else u.moveFail (wcix d w) 0x1A
theorem State.running_answering (s : State) {d w : Nat} {r : EngRun} (hrun : s.running (wcix d w) 4 = some r) :
    (s.taken.modRun (wcix d w) 4 (fun r => { r with ack := false })).running (wcix d w) 4 =
      some { r with ack := false } := by
  rw [State.running_modRun_same, State.running_taken, hrun]
  rfl

section
variable {d : Fin 4} {w : Fin 8} {m : Msg} {r : EngRun}

theorem exec_kvackReceive (hin : s.inbox.head? = some m) (hty : m.ty = 0x16) (hdn : m.dn = sdNode d)
    (hdu : m.du = w.val) (hrun : s.running (wcix d w) 4 = some r) (hack : r.ack = true)
    (hcut : bitOf r.estat 3 = false) :
    exec (.kvackReceive d w) s = .next ((s.kvAnswered d w m r).moveOn (wcix d w)).settle := by
  show execKvackReceive d w s = _
  rw [execKvackReceive, State.takeMsg_head hin (by simp [hty, hdn, hdu])]
  simp only [State.running_taken, hrun, hack, hcut, Bool.not_true, Bool.false_eq_true, if_false, done, State.kvAnswered,
    apply_ite (State.moveOn · (wcix d w))]
/-- The engine then has nothing more to send: it shows what its instruction holds. -/
theorem State.run_kvAnswered {r' : EngRun} (hrun : (s.kvAnswered d w m r).running (wcix d w) 4 = some r')
    (htodo : r'.todo = []) (hop : r'.ins.op ≠ 0x82) :
    (((s.kvAnswered d w m r).moveOn (wcix d w)).settle.engine (wcix d w) 4).run = some r' := by
  have hkeep : Keeps [] (s.kvAnswered d w m r) ((s.kvAnswered d w m r).moveSync (wcix d w)) :=
    (State.keeps_moveSync _).2 (Keeps.refl _ _)
  rw [← State.running, State.running_settle, State.moveOn_of_todo_nil (by simp [hrun, htodo, hop]),
    hkeep.running (by decide), hrun]

/-- A refusal ends the transfer with KVRANGE. -/
theorem State.kvAnswered_refused (hrun : s.running (wcix d w) 4 = some r)
    (hno : bitOf m.m0 0 = false) :
    (s.kvAnswered d w m r).running (wcix d w) 4 = some ({ r with ack := false }.fail 0x1A) := by
  rw [State.kvAnswered, if_neg (by simp [hno]), State.moveFail, State.running_modRun_same, State.running_answering s hrun]
  rfl
/-- After an OK a transfer from host memory sends its first FETCHes (R319). -/
theorem State.kvAnswered_fetches (hrun : s.running (wcix d w) 4 = some r) (hyes : bitOf m.m0 0 = true)
    (hsrcs : (r.xfer d w).srcs ≠ []) (hsk : (r.xfer d w).sk = 2)
    (halias : s.aliasNode (wcix d w) = 1 ∨ s.aliasNode (wcix d w) = 2) :
    (s.kvAnswered d w m r).running (wcix d w) 4 =
      some (EngRun.fetching { r with ack := false, runs := fetchRuns (r.xfer d w).srcs } 8) := by
  have hsq := isSq_wcix d w
  have hnode : 4 ≤ agNode (wcix d w) ∧ agNode (wcix d w) < 8 := by
    have hdie : agNode (wcix d w) = sdNode (wcDie (wcix d w)) := by simp [agNode, hsq]
    rw [hdie]
    simp only [sdNode, wcDie, wcix, wix]
    omega
  rw [State.kvAnswered, if_pos hyes, State.xferBody, if_neg hsrcs, if_pos hsk]
  refine State.running_sendFetch hsq hnode 8 ?_ ?_
  · rw [State.aliasNode_modRun hsq, State.aliasNode_modRun hsq]
    exact halias
  · rw [State.running_modRun_same, State.running_answering s hrun]
    rfl

end

end

/-- Settles O31, message by message: what the unit does with it (the lemmas above), and that what the engines then send
loses no message and makes no credit record (`Onward`). -/
theorem engineMessagesArrive : Obligations.EngineMessagesArrive := by
  unfold Obligations.EngineMessagesArrive
  refine ⟨creditGrantReceive_opens, reclaimReqReceive_answers, fetchReceive_answers, memwrReceive_writes,
    fetchDataReceive_lands, ?refused, ?fetches⟩
  case refused =>
    intro d w m r s hin hty hdn hdu hrun hfault hop hack hcut hno
    have hend : EngRun.fail { r with ack := false } 0x1A =
        { r with ack := false, fault := 0x1A, todo := [], fetch := [], runs := [], sealing := false, next := r.stop } := by
      simp [EngRun.fail, hfault]
    have hanswer := State.kvAnswered_refused hrun hno
    rw [hend] at hanswer
    refine ⟨_, exec_kvackReceive hin hty hdn hdu hrun hack hcut, ?_⟩
    rw [State.run_kvAnswered hanswer rfl hop]
    rfl
  case fetches =>
    intro d w m r s hin hty hdn hdu hrun hfault hop hack hcut hyes hsrcs hsk hfetch htodo halias
    have hanswer := State.kvAnswered_fetches hrun hyes hsrcs hsk halias
    refine ⟨_, exec_kvackReceive hin hty hdn hdu hrun hack hcut, ?_⟩
    rw [State.run_kvAnswered hanswer htodo hop]
    simp [EngRun.fetching, hfault, hfetch]

end Sys2Proof.Machine
end

section
/-! SUPPORT. A level that TELEM_LAST cannot show (R223). As above, the field store of a state may hold a value wider than
its field. -/

namespace Sys2Proof.Machine

/-- SD0 is up, and holds 16 as its level in force, which TELEM_LAST1.LEVEL cannot show. -/
def upWideLevel : State :=
  { State.reset with
    fld := Store.insert State.reset.fld (fkey (sd 0) R.LEVEL_IN_FORCE) 16
    sds := [(0, { up := true })] }

/-- The sample shows that level cut to the 4 bits of TELEM_LAST1.LEVEL. -/
theorem telemSend_cuts_level {t : State} (h : exec (.telemSend 0 0 0) upWideLevel = .next t) :
    t.rd (sd 0) R.TELEM_LAST1_LEVEL = 0 := by
  cases h
  decide +kernel

/-- Refutes O42: TELEM_SEND is to leave the level in force in TELEM_LAST1.LEVEL, but LEVEL has 4 bits, and the state may
hold 16 as the level in force (`upWideLevel`). -/
theorem not_linksTrainAndCarryPackets : ¬ Obligations.LinksTrainAndCarryPackets := by
  unfold Obligations.LinksTrainAndCarryPackets
  rintro ⟨-, -, -, -, -, -, -, -, -, -, -, htelem⟩
  obtain ⟨t, ht, -, -, hlevel, -⟩ := htelem 0 0 0 upWideLevel (by decide +kernel) (by decide)
  have hwide : upWideLevel.rd (sd 0) R.LEVEL_IN_FORCE = 16 := by decide +kernel
  exact absurd ((telemSend_cuts_level ht).symm.trans (hlevel.trans hwide)) (by decide)

end Sys2Proof.Machine
end

section
/-! SUPPORT. What sending can change (R223, R226, R232): the port that takes the message, the message's effect at its own
die, and the operation of a message without a route. -/

namespace Sys2Proof.Machine

section
variable {L : List Part} {s t : State}

@[simp ↓] theorem State.keeps_inbox (h : .inbox ∈ L) (x : List Msg) : Keeps L s { t with inbox := x } ↔ Keeps L s t :=
  Keeps.of_part h fun q hq => by cases q <;> trivial
@[simp] theorem State.keeps_setCred (h : .creds ∈ L) (k : Nat) (r : Option CredRec) :
    Keeps L s (t.setCred k r) ↔ Keeps L s t :=
  Keeps.of_part h fun q hq => by cases q <;> trivial
/-- A step that changes less can be dropped. -/
theorem Keeps.weaken {L' : List Part} (h : Keeps L' s t) (hL : ∀ p ∈ L', p ∈ L) : Keeps L s t :=
  fun p hp => h p fun hp' => hp (hL p hp')

@[simp] theorem State.keeps_deliver (hs : .sems ∈ L) (hi : .inbox ∈ L) (m : Msg) :
    Keeps L s (t.deliver m) ↔ Keeps L s t := by simp [State.deliver, hs, hi]
@[simp] theorem State.keeps_forward (ha : .agents ∈ L) (hs : .sems ∈ L) (hp : .ports ∈ L) (hi : .inbox ∈ L)
    (node : Nat) (m : Msg) : Keeps L s (t.forward node m) ↔ Keeps L s t := by
  unfold State.forward
  split
  · simp [hs, hi]
  · split <;> simp [ha, hp]
@[simp] theorem State.keeps_send (ha : .agents ∈ L) (hs : .sems ∈ L) (hp : .ports ∈ L) (hi : .inbox ∈ L) (m : Msg) :
    Keeps L s (t.send m) ↔ Keeps L s t := by simp [State.send, ha, hs, hp, hi]
@[simp] theorem State.keeps_sendAll (ha : .agents ∈ L) (hs : .sems ∈ L) (hp : .ports ∈ L) (hi : .inbox ∈ L)
    (l : List Msg) : Keeps L s (t.sendAll l) ↔ Keeps L s t := by simp [State.sendAll, ha, hs, hp, hi]

end

/-! ### The move engine goes on (R193, R238) -/

/-- The parts that a running move changes, with what it sends. -/
def sendParts : List Part := [.mem, .agents, .fresh, .poison, .parity, .sems, .ports, .inbox, .creds]

section
variable {s t : State}

theorem State.keeps_trySend {m : Msg} (h : s.trySend m = some t) : Keeps sendParts s t := by
  unfold State.trySend at h
  dsimp only at h
  split at h
  · split at h <;> cases h
    simp +decide
  · cases h
theorem State.keeps_sendTodo (a e k : Nat) (s : State) : Keeps sendParts s (State.sendTodo a e k s) := by
  induction k generalizing s with
  | zero => exact Keeps.refl _ s
  | succ k ih =>
    unfold State.sendTodo
    split
    · exact Keeps.refl _ s
    split
    · exact Keeps.refl _ s
    dsimp only
    split
    · exact (Keeps.congr_right (ih _)).2 (by simp +decide)
    split
    next u hu => exact (Keeps.congr_right ((Keeps.congr_right (ih _)).2 (State.keeps_trySend hu))).2 (by simp +decide)
    next => exact Keeps.refl _ s
theorem State.keeps_sendAllTodo (s : State) (a e : Nat) : Keeps sendParts s (s.sendAllTodo a e) := by
  unfold State.sendAllTodo
  split
  · exact State.keeps_sendTodo _ _ _ s
  · exact Keeps.refl _ s
theorem State.keeps_xferGo {x : Xfer} (h : x.sk = 0) (s : State) (a d w pc : Nat) :
    Keeps sendParts s (s.xferGo a d w pc x) := by
  have hbody : Keeps sendParts s (s.xferBody a d w pc x) :=
    ((State.keeps_xferBody h a d w pc).2 (Keeps.refl _ s)).weaken (by decide)
  unfold State.xferGo
  dsimp only
  split
  · simp +decide
  split
  · simp +decide
  split
  · exact hbody
  split
  · exact hbody
  split
  · split
    · exact hbody
    · simp +decide
  · simp +decide
theorem State.keeps_entryStart (s : State) (a : Nat) (r : EngRun) : Keeps sendParts s (s.entryStart a r) := by
  unfold State.entryStart
  dsimp only
  split
  · simp +decide
  split
  · simp +decide
  · exact (Keeps.congr_right (State.keeps_xferGo rfl _ _ _ _ _)).2 (by simp +decide)
theorem State.keeps_moveGo (a k : Nat) (s : State) : Keeps sendParts s (State.moveGo a k s) := by
  induction k generalizing s with
  | zero => simp [State.moveGo]
  | succ k ih =>
    have hsend := State.keeps_sendAllTodo s a 4
    unfold State.moveGo
    dsimp only
    split
    · simpa using hsend
    split
    · exact (Keeps.congr_right ((Keeps.congr_right (ih _)).2 (State.keeps_entryStart _ a _))).2 hsend
    · simpa using hsend
theorem State.keeps_moveOn (s : State) (a : Nat) : Keeps sendParts s (s.moveOn a) := by
  unfold State.moveOn
  split
  · exact State.keeps_moveGo _ _ s
  · simp

end

end Sys2Proof.Machine
end

section
/-! SUPPORT. The seal engine (R243 to R246): its jobs, the latest-park records, and what the messages around it leave of
both. -/

namespace Sys2Proof.Machine

section
variable {s t : State} {n : Nat}

/-! ### Jobs and records of a die -/

theorem updFirst_cons {p : SealJob → Bool} {j : SealJob} (h : p j = true) (f : SealJob → Option SealJob)
    (js : List SealJob) : updFirst p f (j :: js) = (f j).toList ++ js := by simp [updFirst, h]
theorem State.jobs_modJob (s : State) (n : Nat) (p : SealJob → Bool) (f : SealJob → Option SealJob) :
    ((s.modJob n p f).cdx n).jobs = updFirst p f (s.cdx n).jobs := by simp [State.modJob]

/-- A change of a die's record that leaves its jobs. -/
theorem State.jobs_modCd {f : CdX → CdX} (hf : ∀ x, (f x).jobs = x.jobs) (k : Nat) :
    ((s.modCd k f).cdx n).jobs = (s.cdx n).jobs := by
  by_cases h : n = k
  · rw [h, State.cdx_modCd_same, hf]
  · rw [State.cdx_modCd_other _ _ _ _ h]
theorem State.jobs_foldl {β : Type} {g : State → β → State} (l : List β)
    (h : ∀ u x, ((g u x).cdx n).jobs = (u.cdx n).jobs) : ((l.foldl g s).cdx n).jobs = (s.cdx n).jobs := by
  induction l generalizing s with
  | nil => rfl
  | cons x xs ih => exact ih.trans (h s x)
theorem State.jobs_vaultPut (s : State) (k i : Nat) (r : VaultRec) :
    ((s.vaultPut k i r).cdx n).jobs = (s.cdx n).jobs :=
  State.jobs_modCd (f := fun x => { x with vault := Store.put {} x.vault i { r with wear := (s.vaultRec k i).wear + 1 } })
    (fun _ => rfl) k
/-- A charge of the key's slot leaves the jobs (R609). -/
theorem State.jobs_slotCharge (s : State) (n slot : Nat) : ((s.slotCharge n slot).cdx n).jobs = (s.cdx n).jobs := by
  unfold State.slotCharge
  split
  · rfl
  · refine State.jobs_foldl _ fun u k => ?_
    dsimp only
    split
    · exact State.jobs_vaultPut ..
    · rfl
theorem State.jobs_setPark (s : State) (n d c no : Nat) : ((s.setPark n d c no).cdx n).jobs = (s.cdx n).jobs :=
  State.jobs_foldl _ fun _ k => State.jobs_modCd (fun _ => by exact rfl) k
/-- The die itself is among those that keep the record (R609). -/
theorem State.parks_setPark (s : State) (n d c no : Nat) :
    Store.get 0 ((s.setPark n d c no).cdx n).parks (256 * d + c) = no := by
  have hne : n ≠ 1 - n := by omega
  unfold State.setPark State.keyDies
  split
  · simp [State.cdx_modCd_other _ _ _ _ hne]
  · simp

theorem Keeps.cdx {L : List Part} (h : Keeps L s t) (hL : .cds ∉ L) (n : Nat) : t.cdx n = s.cdx n := by
  have hcds : t.cds = s.cds := h .cds hL
  rw [State.cdx, hcds, State.cdx]

/-- The end of a PARK or UNPARK in the die: its record is set, and the wing's move engine goes on (R243, R246). -/
def State.sealed (s : State) (n : Nat) (j : SealJob) (no : Nat) (f : EngRun → EngRun) : State :=
  ((s.setPark n j.die j.carrel no).modRun (wcix j.die j.wing) 4 f).moveOn (wcix j.die j.wing)
theorem State.cdx_sealed (s : State) (n : Nat) (j : SealJob) (no : Nat) (f : EngRun → EngRun) :
    (s.sealed n j no f).cdx n = (s.setPark n j.die j.carrel no).cdx n :=
  ((State.keeps_moveOn _ _).cdx (by decide) n).trans
    (((State.keeps_modRun (L := [.agents]) (by decide) _ 4 f).2 (Keeps.refl _ _)).cdx (by decide) n)
/-- The first job that satisfies `p` ends: the others stay, and its carrel's record is `no`. -/
theorem State.sealed_ends {p : SealJob → Bool} {j : SealJob} {rest : List SealJob} (hjobs : (s.cdx n).jobs = j :: rest)
    (hp : p j = true) (no : Nat) (f : EngRun → EngRun) :
    let t := ((s.modJob n p (fun _ => none)).sealed n j no f).settle
    (t.cdx n).jobs = rest ∧ Store.get 0 (t.cdx n).parks (256 * j.die + j.carrel) = no := by
  dsimp only
  rw [State.cdx_settle, State.cdx_sealed]
  refine ⟨?_, State.parks_setPark ..⟩
  rw [State.jobs_setPark, State.jobs_modJob, hjobs, updFirst_cons hp]
  rfl

end

/-! ### PARK (R243) -/

theorem parkdataReceive_collects (n : Fin 2) (m : Msg) (j : SealJob) (rest : List SealJob) (s : State)
    (hin : s.inbox.head? = some m) (hty : m.ty = 0x0B) (hdn : m.dn = cdNode n) (hjobs : (s.cdx n).jobs = j :: rest)
    (hpark : j.unpark = false) (hdie : j.die = m.sn - 4) (hwing : j.wing = m.su) (hfull : j.full = false)
    (hflags : bits m.m1 9 8 = 0) (hroom : j.got.length + m.data.length < 65536) :
    ∃ t, exec (.parkdataReceive n false) s = .next t ∧ (t.cdx n).jobs = { j with got := j.got ++ m.data } :: rest := by
  set p := fun (j : SealJob) => !j.unpark && j.die == m.sn - 4 && j.wing == m.su && !j.full with hpdef
  have hp : p j = true := by simp [hpdef, hpark, hdie, hwing, hfull]
  have hgood : bitOf m.m1 8 = false ∧ bitOf m.m1 9 = false := by
    simp only [bits, bitOf, beq_eq_false_iff_ne] at hflags ⊢
    omega
  have hexec : exec (.parkdataReceive n false) s =
      .next (s.taken.modJob n p (fun _ => some { j with got := j.got ++ m.data })).settle := by
    have hfind : (s.taken.cdx n).jobs.find? p = some j := by
      rw [show (s.taken.cdx n).jobs = j :: rest from hjobs, List.find?_cons_of_pos hp]
    have hpart : ¬ 65536 ≤ (j.got ++ m.data).length := by rw [List.length_append]; omega
    show execParkdataReceive n false s = _
    rw [execParkdataReceive, State.takeMsg_head hin (by simp [hty, hdn])]
    simp only [← hpdef, hfind, hgood.1, hgood.2, Bool.false_eq_true, false_or, if_neg hpart, if_false, done, hfull]
  refine ⟨_, hexec, ?_⟩
  rw [State.cdx_settle, State.jobs_modJob, show (s.taken.cdx n).jobs = j :: rest from hjobs, updFirst_cons hp]
  rfl

theorem parkComplete_records (n : Fin 2) (j : SealJob) (rest : List SealJob) (s : State)
    (hjobs : (s.cdx n).jobs = j :: rest) (hpark : j.unpark = false) (hfull : j.full = true) (herr : j.err = false) :
    ∃ t, exec (.parkComplete n false) s = .next t ∧ (t.cdx n).jobs = rest ∧
      Store.get 0 (t.cdx n).parks (256 * j.die + j.carrel) = j.no := by
  set p := fun (j : SealJob) => !j.unpark && (j.full || j.err) with hpdef
  have hp : p j = true := by simp [hpdef, hpark, hfull]
  have hexec : exec (.parkComplete n false) s = .next
      ((s.modJob n p (fun _ => none)).sealed n j j.no (fun r => { r with sealing := false })).settle := by
    have hfind : (s.cdx n).jobs.find? p = some j := by rw [hjobs, List.find?_cons_of_pos hp]
    show execParkComplete n false s = _
    simp only [execParkComplete, ← hpdef, hfind, herr, Bool.or_self, Bool.false_eq_true, if_false]
    rfl
  exact ⟨_, hexec, State.sealed_ends hjobs hp j.no _⟩

/-! ### UNPARK (R245, R246) -/

/-- The job of an UNPARK whose request is `m` and whose header is `h`. -/
def State.unparkJob (s : State) (n : Nat) (m : Msg) (h : List Byte) : SealJob :=
  { unpark := true, die := m.sn - 4, wing := m.su, carrel := bits m.m1 15 8, blocks := fromBytes ((h.drop 8).take 4),
    addr := m.m0 + bits m.m1 7 0 * 2 ^ 32, slot := s.rd (cd n) R.PARK_CFG_SLOT,
    key := s.slotKey n (s.rd (cd n) R.PARK_CFG_SLOT), no := fromBytes ((h.drop 12).take 4), hdr := h }

theorem State.rd_taken (s : State) (b : Nat) (f : Fld) : s.taken.rd b f = s.rd b f := rfl
theorem State.unparkCheck_taken (s : State) (n d c : Nat) (h : List Byte) :
    s.taken.unparkCheck n d c h = s.unparkCheck n d c h := by
  have hslot : ∀ slot p, s.taken.slotOk n slot p = s.slotOk n slot p := fun _ _ => rfl
  have hcdx : s.taken.cdx n = s.cdx n := rfl
  have hkv : s.taken.kvEntry d c = s.kvEntry d c := rfl
  simp only [State.unparkCheck, State.rd_taken, hslot, hcdx, hkv]

/-- A request whose header passes the checks becomes a job; the key's slot is charged (R245). What the read and
the checks compute is left open, so that nothing tries to evaluate them. -/
theorem execUnparkreqReceive_checked {n : Fin 2} {m : Msg} {h : List Byte} {s u : State}
    (htake : s.takeMsg (fun m => m.ty == 0x0C && m.dn == cdNode n) = some (m, u))
    (hget : u.hostGet n (m.m0 + bits m.m1 7 0 * 2 ^ 32) 64 = some h)
    (hcheck : u.unparkCheck n (m.sn - 4) (bits m.m1 15 8) h = none) (hblocks : fromBytes ((h.drop 8).take 4) ≠ 0) :
    execUnparkreqReceive n false s = done ((u.slotCharge n (u.rd (cd n) R.PARK_CFG_SLOT)).modCd n
      (fun x => { x with jobs := x.jobs ++ [u.unparkJob n m h] })) := by
  unfold execUnparkreqReceive
  obtain ⟨read, hread⟩ : ∃ r, r = @State.hostGet := ⟨_, rfl⟩
  obtain ⟨check, hcheckIs⟩ : ∃ c, c = @State.unparkCheck := ⟨_, rfl⟩
  rw [← hread] at hget ⊢
  rw [← hcheckIs] at hcheck ⊢
  simp only [htake, Bool.false_eq_true, if_false, hget, hcheck, if_neg hblocks, State.unparkJob]

theorem unparkreqReceive_opens (n : Fin 2) (m : Msg) (h : List Byte) (s : State) (hin : s.inbox.head? = some m)
    (hty : m.ty = 0x0C) (hdn : m.dn = cdNode n)
    (hget : s.hostGet n (m.m0 + bits m.m1 7 0 * 2 ^ 32) 64 = some h)
    (hcheck : s.unparkCheck n (m.sn - 4) (bits m.m1 15 8) h = none) (hblocks : fromBytes ((h.drop 8).take 4) ≠ 0) :
    ∃ t, exec (.unparkreqReceive n false) s = .next t ∧ (t.cdx n).jobs = (s.cdx n).jobs ++ [s.unparkJob n m h] := by
  have hexec := execUnparkreqReceive_checked (n := n) (State.takeMsg_head hin (by simp [hty, hdn]))
    ((s.hostGet_taken ..).trans hget) ((s.unparkCheck_taken ..).trans hcheck) hblocks
  refine ⟨_, hexec, ?_⟩
  rw [State.cdx_settle, State.cdx_modCd_same, State.jobs_slotCharge]
  rfl

theorem unparkChunkVerified_ends (n : Fin 2) (j : SealJob) (rest : List SealJob) (c data : List Byte) (s : State)
    (hjobs : (s.cdx n).jobs = j :: rest) (hunpark : j.unpark = true)
    (hget : s.hostGet n (j.addr + chunkOff j.chunk) (4096 * (min 16 (j.blocks - 16 * j.chunk)) + 16) = some c)
    (hopen : gcmOpen j.key (parkIv j.no j.die j.carrel j.chunk) j.hdr
      (c.take (4096 * (min 16 (j.blocks - 16 * j.chunk)))) (c.drop (4096 * (min 16 (j.blocks - 16 * j.chunk)))) = some data)
    (hlast : j.blocks ≤ 16 * (j.chunk + 1)) :
    ∃ t, exec (.unparkChunkVerified n false) s = .next t ∧ (t.cdx n).jobs = rest ∧
      Store.get 0 (t.cdx n).parks (256 * j.die + j.carrel) = 0 := by
  set p := fun (j : SealJob) => j.unpark with hpdef
  set u := s.sendAll ((chunksOf 4096 (min 16 (j.blocks - 16 * j.chunk)) data).map
    (fun data => (⟨0x0A, sdNode j.die, j.wing, cdNode n, 8, 0, 0, data, 0⟩ : Msg))) with hu
  have hexec : exec (.unparkChunkVerified n false) s = .next
      ((u.modJob n p (fun _ => none)).sealed n j 0 (fun r => { r with sealing := false, stop := j.blocks })).settle := by
    have hfind : (s.cdx n).jobs.find? p = some j := by rw [hjobs, List.find?_cons_of_pos hunpark]
    show execUnparkChunkVerified n false s = _
    simp only [execUnparkChunkVerified, ← hpdef, hfind, Bool.false_eq_true, if_false, hget, hopen, if_pos hlast]
    rfl
  have hsend : Keeps [.agents, .sems, .ports, .inbox] s u := by simp [hu]
  exact ⟨_, hexec, State.sealed_ends ((congrArg CdX.jobs (hsend.cdx (by decide) n)).trans hjobs) hunpark 0 _⟩

/-- Settles O32: a block that joins its chunk, the end of a PARK, a request that passes the checks, and the last chunk of
an UNPARK (the lemmas above). What the wing's move engine then sends leaves the die's jobs and records
(`State.cdx_sealed`). -/
theorem sealEngineAtTheControlDie : Obligations.SealEngineAtTheControlDie :=
  ⟨parkdataReceive_collects, parkComplete_records, unparkreqReceive_opens, unparkChunkVerified_ends⟩

end Sys2Proof.Machine
end

section
/-! SUPPORT. The parts that the shared operations behind the commands of the area linked can change, chapter by chapter,
in the form that `Keeps` gives them above. -/

namespace Sys2Proof.Machine

section
variable {L : List Part} {s t : State}

/-! ### The state's own updates -/

@[simp] theorem State.keeps_modSd (h : .sds ∈ L) (d : Nat) (f : SdX → SdX) : Keeps L s (t.modSd d f) ↔ Keeps L s t :=
  Keeps.of_part h fun q hq => by cases q <;> trivial
@[simp ↓] theorem State.keeps_fld (x : Store Nat) : Keeps L s { t with fld := x } ↔ Keeps L s t :=
  Keeps.congr_right fun p _ => by cases p <;> rfl
@[simp ↓] theorem State.keeps_mem (h : .mem ∈ L) (x : List Host.Cell) : Keeps L s { t with mem := x } ↔ Keeps L s t :=
  Keeps.of_part h fun q hq => by cases q <;> trivial
@[simp ↓] theorem State.keeps_flips (h : .flips ∈ L) (x : Store (List Nat)) :
    Keeps L s { t with flips := x } ↔ Keeps L s t :=
  Keeps.of_part h fun q hq => by cases q <;> trivial
@[simp ↓] theorem State.keeps_shScale (h : .shScale ∈ L) (x : Store Nat) :
    Keeps L s { t with shScale := x } ↔ Keeps L s t :=
  Keeps.of_part h fun q hq => by cases q <;> trivial
@[simp ↓] theorem State.keeps_acc (h : .acc ∈ L) (x : Store Nat) : Keeps L s { t with acc := x } ↔ Keeps L s t :=
  Keeps.of_part h fun q hq => by cases q <;> trivial

/-- A unit that takes a message leaves the state but for the waiting messages. -/
theorem State.keeps_takeMsg (h : .inbox ∈ L) {p : Msg → Bool} {m : Msg} {u : State} (hu : t.takeMsg p = some (m, u)) :
    Keeps L s u ↔ Keeps L s t := by
  unfold State.takeMsg at hu
  split at hu
  · dsimp only at hu
    split at hu <;> cases hu
    simp [h]
  · cases hu

/-! ### Agents (chapter 8) -/

@[simp] theorem State.keeps_logFault (a engine code pc : Nat) : Keeps L s (t.logFault a engine code pc) ↔ Keeps L s t := by
  simp [State.logFault]
@[simp] theorem State.keeps_depthSync (a : Nat) : Keeps L s (t.depthSync a) ↔ Keeps L s t := by simp [State.depthSync]
@[simp] theorem State.keeps_setPc (a v : Nat) : Keeps L s (t.setPc a v) ↔ Keeps L s t := by simp [State.setPc]

section
variable (ha : .agents ∈ L)
include ha

@[simp] theorem State.keeps_goto (a : Nat) (x : Int) : Keeps L s (t.goto a x) ↔ Keeps L s t := by simp [State.goto, ha]
@[simp] theorem State.keeps_adv (a : Nat) (x : Bool) : Keeps L s (t.adv a x) ↔ Keeps L s t := by
  unfold State.adv
  dsimp only
  split <;> simp [ha]
@[simp] theorem State.keeps_stepped (a : Nat) : Keeps L s (t.stepped a) ↔ Keeps L s t := by simp [State.stepped, ha]
@[simp] theorem State.keeps_pW (a i : Nat) (v : Bool) : Keeps L s (t.pW a i v) ↔ Keeps L s t := by simp [State.pW, ha]
@[simp] theorem State.keeps_sW (a i : Nat) (v : Word) : Keeps L s (t.sW a i v) ↔ Keeps L s t := by simp [State.sW, ha]
@[simp] theorem State.keeps_sqFresh (n k : Nat) : Keeps L s (t.sqFresh n k) ↔ Keeps L s t := by simp [State.sqFresh, ha]
@[simp] theorem State.keeps_sqStart (n k entry : Nat) : Keeps L s (t.sqStart n k entry) ↔ Keeps L s t := by
  simp [State.sqStart, ha]
@[simp] theorem State.keeps_dbgStepSq (n k : Nat) : Keeps L s (t.dbgStepSq n k) ↔ Keeps L s t := by
  simp [State.dbgStepSq, ha]

variable (hw : .waitq ∈ L)
include hw

@[simp] theorem State.keeps_abandon (a : Nat) : Keeps L s (t.abandon a) ↔ Keeps L s t := by simp [State.abandon, ha, hw]
@[simp] theorem State.keeps_trapAt (a engine code pc tcode : Nat) :
    Keeps L s (t.trapAt a engine code pc tcode) ↔ Keeps L s t := by simp [State.trapAt, ha, hw]
@[simp] theorem State.keeps_trap (a code : Nat) : Keeps L s (t.trap a code) ↔ Keeps L s t := by simp [State.trap, ha, hw]
@[simp] theorem State.keeps_engFault (a engine code pc : Nat) : Keeps L s (t.engFault a engine code pc) ↔ Keeps L s t := by
  simp [State.engFault, ha, hw]
@[simp] theorem State.keeps_stopNow (a : Nat) : Keeps L s (t.stopNow a) ↔ Keeps L s t := by simp [State.stopNow, ha, hw]
/-- At an instruction boundary an agent may trap, stop or halt (R267, R268, R676). -/
@[simp] theorem State.keeps_boundary (a : Nat) : Keeps L s (t.boundary a) ↔ Keeps L s t := by
  unfold State.boundary
  dsimp only
  split
  · rfl
  · split <;> simp [ha, hw]
@[simp] theorem State.keeps_unhold (a : Nat) (f : Agent → Agent) : Keeps L s (t.unhold a f) ↔ Keeps L s t := by
  simp [State.unhold, ha, hw]
@[simp] theorem State.keeps_waitEnd (a : Nat) : Keeps L s (t.waitEnd a) ↔ Keeps L s t := by simp [State.waitEnd, ha, hw]

/-- Whether an instruction is refused, waits, or does what it is for (R259). -/
@[simp] theorem State.keeps_issue {go : State → State} (hgo : ∀ u, Keeps L s (go u) ↔ Keeps L s u) (a : Nat) (i : Ins)
    (legal : Bool) (regs : List Nat) : Keeps L s (t.issue a i legal regs go) ↔ Keeps L s t := by
  simp [State.issue, ha, hw, hgo]
@[simp] theorem State.keeps_issueAdv {go : State → State} (hgo : ∀ u, Keeps L s (go u) ↔ Keeps L s u) (a : Nat) (i : Ins)
    (legal : Bool) (regs : List Nat) : Keeps L s (t.issueAdv a i legal regs go) ↔ Keeps L s t := by
  simp [State.issueAdv, ha, hw, hgo]
@[simp] theorem State.keeps_seqIssue {go : State → State} (hgo : ∀ u, Keeps L s (go u) ↔ Keeps L s u) (a : Nat) (i : Ins)
    (legal : Bool) (regs : List Nat) (act : Bool) : Keeps L s (t.seqIssue a i legal regs act go) ↔ Keeps L s t := by
  simp [State.seqIssue, ha, hw, hgo]

end

@[simp] theorem State.keeps_csemSig (hs : .sems ∈ L) (n : Nat) (k : Option Nat) :
    Keeps L s (t.csemSig n k) ↔ Keeps L s t := by
  unfold State.csemSig
  split <;> simp [hs]
@[simp] theorem State.keeps_seqDone (ha : .agents ∈ L) (hs : .sems ∈ L) (a : Nat) (i : Ins) (status : Nat) :
    Keeps L s (t.seqDone a i status) ↔ Keeps L s t := by simp [State.seqDone, ha, hs]
@[simp] theorem State.keeps_ldget (ha : .agents ∈ L) (hw : .waitq ∈ L) (hs : .sems ∈ L) (a sel : Nat) (i : Ins) :
    Keeps L s (t.ldget a sel i) ↔ Keeps L s t := by simp [State.ldget, ha, hw, hs]

/-! ### Weights, images and loads (chapters 3, 4 and 15) -/

@[simp] theorem State.keeps_wrMir (n : Nat) (f : Fld) (v : Nat) : Keeps L s (t.wrMir n f v) ↔ Keeps L s t := by
  simp [State.wrMir]
@[simp] theorem State.keeps_enterServe (hf : .fresh ∈ L) : Keeps L s t.enterServe ↔ Keeps L s t := by
  simp [State.enterServe, hf]

section
variable (hm : .mem ∈ L) (hfl : .flips ∈ L)
include hm hfl

@[simp] theorem State.keeps_writeRow (d w n : Nat) (data : List Byte) : Keeps L s (t.writeRow d w n data) ↔ Keeps L s t := by
  simp [State.writeRow, hm, hfl]
@[simp] theorem State.keeps_putPiece (d w p leaf row o : Nat) (data : List Byte) :
    Keeps L s (t.putPiece d w p leaf row o data) ↔ Keeps L s t := by simp [State.putPiece, hm, hfl]
@[simp] theorem State.keeps_putSection (n : Nat) (secs : List (List Nat)) (j k p : Nat) (load : Bool)
    (plain : List Byte) : Keeps L s (t.putSection n secs j k p load plain) ↔ Keeps L s t := by
  simp [State.putSection, hm, hfl]
@[simp] theorem State.keeps_putChunk (n : Nat) (secs : List (List Nat)) (k : Nat) (plain : List Byte) :
    Keeps L s (t.putChunk n secs k plain) ↔ Keeps L s t := by simp [State.putChunk, hm, hfl]
@[simp] theorem State.keeps_zeroRows (secs : List (List Nat)) (d w f p leaf : Nat) :
    Keeps L s (t.zeroRows secs d w f p leaf) ↔ Keeps L s t :=
  Keeps.foldl _ fun u row => by
    split
    · rfl
    · exact State.keeps_writeRow hm hfl ..
@[simp] theorem State.keeps_zeroLeaves (secs : List (List Nat)) : Keeps L s (t.zeroLeaves secs) ↔ Keeps L s t := by
  simp [State.zeroLeaves, hm, hfl]
@[simp] theorem State.keeps_reloadRows (n d w f q : Nat) (secs : List (List Nat)) (chunks : List (Nat × List Byte)) :
    Keeps L s (t.reloadRows n d w f q secs chunks) ↔ Keeps L s t :=
  (Keeps.foldl chunks fun u p => Keeps.foldl _ fun u j => by dsimp only; split <;> simp [hm, hfl]).trans
    (Keeps.foldl _ fun u leaf => State.keeps_zeroRows hm hfl ..)
@[simp] theorem State.keeps_flipAt (k addr c : Nat) : Keeps L s (t.flipAt k addr c) ↔ Keeps L s t := by
  simp [State.flipAt, hm, hfl]
@[simp] theorem State.keeps_flipCell (d w n c : Nat) : Keeps L s (t.flipCell d w n c) ↔ Keeps L s t := by
  simp [State.flipCell, hm, hfl]
@[simp] theorem State.keeps_upsets (d w : Nat) (l : List (Nat × Nat)) : Keeps L s (t.upsets d w l) ↔ Keeps L s t := by
  simp [State.upsets, hm, hfl]
@[simp] theorem State.keeps_pkWrite (n leaf row : Nat) (data : List Byte) :
    Keeps L s (t.pkWrite n leaf row data) ↔ Keeps L s t := by simp [State.pkWrite, hm, hfl]
@[simp] theorem State.keeps_pocketRows (he : .comErr ∈ L) (hf : .fresh ∈ L) (n src leaf row k : Nat) :
    Keeps L s (t.pocketRows n src leaf row k) ↔ Keeps L s t := by
  induction k generalizing t src row with
  | zero => rfl
  | succ k ih =>
    unfold State.pocketRows
    refine (ih _ _).trans ((State.keeps_pkWrite hm hfl ..).trans ?_)
    exact State.keeps_comRead hm he hf ..

variable (hc : .cds ∈ L)
include hc

@[simp] theorem State.keeps_wimgChunk (n : Nat) (l : WLoad) (hostErr : Bool) :
    Keeps L s (t.wimgChunk n l hostErr) ↔ Keeps L s t := by
  unfold State.wimgChunk
  dsimp only
  split
  · simp [hc]
  · split
    · simp [hc]
    · split <;> simp [hm, hfl, hc]
@[simp] theorem State.keeps_wimgGood (hf : .fresh ∈ L) (n k : Nat) (c : List Byte) (secs : List (List Nat)) :
    Keeps L s (t.wimgGood n k c secs) ↔ Keeps L s t := by simp [State.wimgGood, hm, hfl, hc, hf]
@[simp] theorem State.keeps_fbLoad (hf : .fresh ∈ L) (n cs : Nat) : Keeps L s (t.fbLoad n cs) ↔ Keeps L s t := by
  simp [State.fbLoad, hm, hfl, hc, hf]

end

@[simp] theorem State.keeps_pocketSync (n : Nat) : Keeps L s (t.pocketSync n) ↔ Keeps L s t := by simp [State.pocketSync]

/-! ### Folios and scrubbing (chapter 4) -/

@[simp] theorem State.keeps_setDieOn (n k v : Nat) : Keeps L s (t.setDieOn n k v) ↔ Keeps L s t := by
  simp [State.setDieOn]
@[simp] theorem State.keeps_setDie (k v : Nat) : Keeps L s (t.setDie k v) ↔ Keeps L s t := by simp [State.setDie]
@[simp] theorem State.keeps_dieSync (d : Nat) : Keeps L s (t.dieSync d) ↔ Keeps L s t := by simp [State.dieSync]
@[simp] theorem State.keeps_formerSync (d w : Nat) : Keeps L s (t.formerSync d w) ↔ Keeps L s t := by
  simp [State.formerSync]
@[simp] theorem State.keeps_folioEnd (d w : Nat) : Keeps L s (t.folioEnd d w) ↔ Keeps L s t := by simp [State.folioEnd]
@[simp] theorem State.keeps_setFolioPos (d w f p : Nat) : Keeps L s (t.setFolioPos d w f p) ↔ Keeps L s t := by
  simp [State.setFolioPos]
@[simp] theorem State.keeps_accCopy (h : .acc ∈ L) (d w p q : Nat) : Keeps L s (t.accCopy d w p q) ↔ Keeps L s t := by
  simp [State.accCopy, h]
@[simp] theorem State.keeps_setScale (h : .shScale ∈ L) (d w f p a kind shift : Nat) :
    Keeps L s (t.setScale d w f p a kind shift) ↔ Keeps L s t := by simp [State.setScale, h]
@[simp] theorem State.keeps_retire (h : .wings ∈ L) (d w q err : Nat) : Keeps L s (t.retire d w q err) ↔ Keeps L s t := by
  unfold State.retire
  dsimp only
  split <;> simp [h]
@[simp] theorem State.keeps_suspect (d w p : Nat) : Keeps L s (t.suspect d w p) ↔ Keeps L s t := by simp [State.suspect]
@[simp] theorem State.keeps_scrubMove (d : Nat) (x : Nat × Nat × Bool) : Keeps L s (t.scrubMove d x) ↔ Keeps L s t := by
  simp [State.scrubMove]
@[simp] theorem State.keeps_wordCheck (h : .fresh ∈ L) (l : List Nat) (m : Nat) :
    Keeps L s (t.wordCheck l m).1 ↔ Keeps L s t := by
  unfold State.wordCheck
  split <;> simp [h]
@[simp] theorem State.keeps_wordChecks (h : .fresh ∈ L) (l : List Nat) : Keeps L s (t.wordChecks l).1 ↔ Keeps L s t :=
  Keeps.foldl_fst (α := List Finding) _ (fun y m => by exact State.keeps_wordCheck h l m) (t, [])
@[simp] theorem State.keeps_readRow (h : .fresh ∈ L) (d w n : Nat) : Keeps L s (t.readRow d w n).1 ↔ Keeps L s t := by
  simp [State.readRow, h, apply_ite Prod.fst]

section
variable (hsh : .shScale ∈ L) (hwi : .wings ∈ L)
include hsh hwi

@[simp] theorem State.keeps_reloadStop (d w err : Nat) : Keeps L s (t.reloadStop d w err) ↔ Keeps L s t := by
  simp [State.reloadStop, hsh, hwi]
@[simp] theorem State.keeps_shadowFail (d w q : Nat) : Keeps L s (t.shadowFail d w q) ↔ Keeps L s t := by
  simp [State.shadowFail, hsh, hwi]
@[simp] theorem State.keeps_scrubFind (d w n src : Nat) (f : Finding) : Keeps L s (t.scrubFind d w n src f) ↔ Keeps L s t := by
  simp [State.scrubFind, hsh, hwi]
@[simp] theorem State.keeps_wimgAbort (hc : .cds ∈ L) (n : Nat) : Keeps L s (t.wimgAbort n) ↔ Keeps L s t := by
  simp [State.wimgAbort, hsh, hwi, hc]
/-- A reload reads the image's header and sections, and stops where one of them fails (R129). -/
@[simp] theorem State.keeps_reloadRead (hm : .mem ∈ L) (hfl : .flips ∈ L) (n d w f q k : Nat) (get : ImgGet) :
    Keeps L s (t.reloadRead n d w f q k get) ↔ Keeps L s t := by
  unfold State.reloadRead
  dsimp only
  split
  · simp [hsh, hwi]
  iterate 2 (split; · simp [hsh, hwi])
  split <;> simp [hsh, hwi, hm, hfl]

end

/-! ### Links and messages (chapter 7) -/

@[simp] theorem State.keeps_setLinkBit (f : Nat × Fld) (k : Nat) (b : Bool) : Keeps L s (t.setLinkBit f k b) ↔ Keeps L s t := by
  simp [State.setLinkBit]
@[simp] theorem State.keeps_setBoth (f : Fld × Nat) (b : Bool) : Keeps L s (t.setBoth f b) ↔ Keeps L s t := by
  simp [State.setBoth]
@[simp] theorem State.keeps_linkCause (l : Nat) (f : Fld) : Keeps L s (t.linkCause l f) ↔ Keeps L s t := by
  simp [State.linkCause]
@[simp] theorem State.keeps_degradeNode (node : Nat) : Keeps L s (t.degradeNode node) ↔ Keeps L s t := by
  simp [State.degradeNode]
@[simp] theorem State.keeps_trainLinks (l : List Nat) (kind : Nat) : Keeps L s (t.trainLinks l kind) ↔ Keeps L s t := by
  simp [State.trainLinks]
@[simp] theorem State.keeps_trainDone (h : .ports ∈ L) (l : Nat) : Keeps L s (t.trainDone l) ↔ Keeps L s t := by
  simp [State.trainDone, h]
@[simp] theorem State.keeps_linkRise (h : .ports ∈ L) (l : Nat) : Keeps L s (t.linkRise l) ↔ Keeps L s t := by
  simp [State.linkRise, h]
@[simp] theorem State.keeps_discardPort (ha : .agents ∈ L) (hp : .ports ∈ L) (k : Nat) :
    Keeps L s (t.discardPort k) ↔ Keeps L s t := by simp [State.discardPort, ha, hp]
@[simp] theorem State.keeps_woLog (d status : Nat) (m : Msg) : Keeps L s (t.woLog d status m) ↔ Keeps L s t := by
  simp [State.woLog]
@[simp] theorem State.keeps_startQ (h : .wings ∈ L) (d w : Nat) (f : List WorkOrd → List WorkOrd) :
    Keeps L s (t.startQ d w f) ↔ Keeps L s t := by simp [State.startQ, h]

section
variable (ha : .agents ∈ L) (hs : .sems ∈ L) (hp : .ports ∈ L) (hi : .inbox ∈ L)
include ha hs hp hi

@[simp] theorem State.keeps_relayPort (k : Nat) : Keeps L s (t.relayPort k) ↔ Keeps L s t := by
  simp [State.relayPort, ha, hs, hp, hi]
/-- A link that goes down: its packets are discarded or relayed, and new routes are sent (R220, R232). -/
@[simp] theorem State.keeps_linkFail (l : Nat) : Keeps L s (t.linkFail l) ↔ Keeps L s t := by
  unfold State.linkFail
  dsimp only
  split
  · split <;> simp [ha, hs, hp, hi]
  · simp [ha, hs, hp, hi]
@[simp] theorem State.keeps_acceptPacket (k : Nat) (hdr : List Nat) (payload : List Byte) :
    Keeps L s (t.acceptPacket k hdr payload) ↔ Keeps L s t := by simp [State.acceptPacket, ha, hs, hp, hi]
@[simp] theorem State.keeps_resendFrom (k n : Nat) : Keeps L s (t.resendFrom k n) ↔ Keeps L s t := by
  unfold State.resendFrom
  dsimp only
  split <;> simp [ha, hs, hp, hi]
@[simp] theorem State.keeps_sendDone (d unit dst : Nat) (o : WorkOrd) (status fault : Nat) (data : List Byte) :
    Keeps L s (t.sendDone d unit dst o status fault data) ↔ Keeps L s t := by simp [State.sendDone, ha, hs, hp, hi]
@[simp] theorem State.keeps_woRefuse (d status : Nat) (m : Msg) : Keeps L s (t.woRefuse d status m) ↔ Keeps L s t := by
  simp [State.woRefuse, ha, hs, hp, hi]
@[simp] theorem State.keeps_workCheck {go : State → State} (hgo : ∀ u, Keeps L s (go u) ↔ Keeps L s u) (d : Nat)
    (m : Msg) : Keeps L s (t.workCheck d m go) ↔ Keeps L s t := by simp [State.workCheck, ha, hs, hp, hi, hgo]
@[simp] theorem State.keeps_claimLate (hc : .cds ∈ L) (n : Nat) : Keeps L s (t.claimLate n) ↔ Keeps L s t := by
  simp [State.claimLate, ha, hs, hp, hi, hc]

end

theorem State.keeps_hostPut (h : .mem ∈ L) {n addr : Nat} {data : List Byte} {u : State}
    (hu : t.hostPut n addr data = some u) : Keeps L s u ↔ Keeps L s t := by
  obtain ⟨ks, -, rfl⟩ := Option.map_eq_some_iff.1 hu
  simp [h]
@[simp] theorem State.keeps_modJob (h : .cds ∈ L) (n : Nat) (p : SealJob → Bool) (f : SealJob → Option SealJob) :
    Keeps L s (t.modJob n p f) ↔ Keeps L s t := by simp [State.modJob, h]
@[simp] theorem State.keeps_parkLog (n kind d c : Nat) (unpark : Bool) :
    Keeps L s (t.parkLog n kind d c unpark) ↔ Keeps L s t := by simp [State.parkLog]
@[simp] theorem State.keeps_parkFail (h : .agents ∈ L) (n d w c code : Nat) (unpark : Bool) :
    Keeps L s (t.parkFail n d w c code unpark) ↔ Keeps L s t := by simp [State.parkFail, h]

end

end Sys2Proof.Machine
end

section
/-! SUPPORT. The same for the operations behind whole chapters: the seal engine's chunks, the catalogue and its mirror, the
control pair, a die's main islands, keys and the life cycle. -/

namespace Sys2Proof.Machine

section
variable {L : List Part} {s t : State}

/-- A chunk goes to host memory, where an aperture serves (R243). -/
@[simp] theorem State.keeps_sealChunk (h : .mem ∈ L) (n : Nat) (j : SealJob) (hostErr : Bool) :
    Keeps L s (t.sealChunk n j hostErr).1 ↔ Keeps L s t := by
  unfold State.sealChunk
  dsimp only
  split
  · rfl
  split
  case h_2 =>
    split
    · cases hv : t.hostPut n j.addr j.hdr with
      | none => rfl
      | some v => exact State.keeps_hostPut h hv
    · rfl
  case h_1 u hu =>
    obtain ⟨v, hv, hvu⟩ := Option.bind_eq_some_iff.1 hu
    refine (State.keeps_hostPut h hvu).trans ?_
    split at hv
    · exact State.keeps_hostPut h hv
    · cases hv; rfl

/-! ### The catalogue and its mirror (chapters 11 and 12) -/

@[simp] theorem State.keeps_raiseBit (b : Nat) (f : Fld) (i : Nat) : Keeps L s (t.raiseBit b f i) ↔ Keeps L s t := by
  simp [State.raiseBit]
@[simp] theorem State.keeps_raiseMirBit (n : Nat) (f : Fld) (i : Nat) : Keeps L s (t.raiseMirBit n f i) ↔ Keeps L s t := by
  simp [State.raiseMirBit]
@[simp] theorem State.keeps_raiseMir (n : Nat) (f : Fld) : Keeps L s (t.raiseMir n f) ↔ Keeps L s t := by
  simp [State.raiseMir]
@[simp] theorem State.keeps_qfPut (h : .mem ∈ L) (n q k hi lo v : Nat) : Keeps L s (t.qfPut n q k hi lo v) ↔ Keeps L s t := by
  simp [State.qfPut, h]
@[simp] theorem State.keeps_catErr (h : .mem ∈ L) (n kind q : Nat) : Keeps L s (t.catErr n kind q) ↔ Keeps L s t := by
  simp [State.catErr, h]
@[simp] theorem State.keeps_unblockCq (h : .mem ∈ L) (n cq : Nat) : Keeps L s (t.unblockCq n cq) ↔ Keeps L s t := by
  simp [State.unblockCq, h]
@[simp] theorem State.keeps_mirrored (h : .cds ∈ L) (n : Nat) : Keeps L s (t.mirrored n) ↔ Keeps L s t := by
  simp [State.mirrored, State.mirror, h]
@[simp] theorem State.keeps_doorbell (hm : .mem ∈ L) (hc : .cds ∈ L) (n q v : Nat) :
    Keeps L s (t.doorbell n q v) ↔ Keeps L s t := by simp [State.doorbell, hm, hc]
@[simp] theorem State.keeps_setRun (h : .cds ∈ L) (n k : Nat) (x : Option Slip) : Keeps L s (t.setRun n k x) ↔ Keeps L s t := by
  unfold State.setRun
  dsimp only
  split <;> simp [h]
@[simp] theorem State.keeps_carrelRun (n : Nat) (x : Slip) (up : Bool) : Keeps L s (t.carrelRun n x up) ↔ Keeps L s t := by
  unfold State.carrelRun
  split <;> simp
@[simp] theorem State.keeps_slipLoad (hc : .cds ∈ L) (ha : .agents ∈ L) (hw : .waitq ∈ L) (n k : Nat) (x : Slip) :
    Keeps L s (t.slipLoad n k x) ↔ Keeps L s t := by simp [State.slipLoad, hc, ha, hw]

section
variable (hm : .mem ∈ L) (he : .comErr ∈ L) (hf : .fresh ∈ L)
include hm he hf

theorem State.keeps_ringPut {n master a : Nat} {data : List Byte} {u : State} (hu : t.ringPut n master a data = some u) :
    Keeps L s u ↔ Keeps L s t := by
  unfold State.ringPut at hu
  split at hu
  · cases hu
    simp [hm, he, hf]
  · obtain ⟨k, -, rfl⟩ := Option.map_eq_some_iff.1 hu
    simp [hm]

variable (hs : .sems ∈ L)
include hs

/-- A completion record: written to its queue where there is one, then the semaphore and the queue's cause (R401). -/
@[simp] theorem State.keeps_recWrite (n : Nat) (x : Slip) (words : List Nat) (signal : Bool) :
    Keeps L s (t.recWrite n x words signal) ↔ Keeps L s t := by
  unfold State.recWrite
  dsimp only
  cases x.cq with
  | none =>
    dsimp only
    split <;> simp [hs]
  | some cq =>
    dsimp only
    refine Keeps.ite.trans ?_
    rw [State.keeps_raiseMirBit, ite_self]
    split <;> simp only [State.keeps_semSignal hs, State.keeps_qwPut hm, State.keeps_qfPut hm] <;> split
    · exact State.keeps_ringPut hm he hf ‹_›
    · exact State.keeps_catErr hm ..
    · exact State.keeps_ringPut hm he hf ‹_›
    · exact State.keeps_catErr hm ..

variable (hc : .cds ∈ L)
include hc

@[simp] theorem State.keeps_mirGo (n : Nat) (a : MirAct) : Keeps L s (t.mirGo n a) ↔ Keeps L s t := by
  unfold State.mirGo
  split <;> simp [hm, he, hf, hs, hc]
@[simp] theorem State.keeps_mirFlush (n : Nat) : Keeps L s (t.mirFlush n) ↔ Keeps L s t := by
  simp [State.mirFlush, hm, he, hf, hs, hc]
@[simp] theorem State.keeps_mirStop : Keeps L s t.mirStop ↔ Keeps L s t := by
  unfold State.mirStop
  dsimp only
  split <;> simp [hm, he, hf, hs, hc]

end

/-! ### The control pair and the watchdog (chapter 12) -/

@[simp] theorem State.keeps_setPartner (n v : Nat) : Keeps L s (t.setPartner n v) ↔ Keeps L s t := by
  simp [State.setPartner]
@[simp] theorem State.keeps_copyRegs (n m : Nat) (l : List (Nat × Nat)) : Keeps L s (t.copyRegs n m l) ↔ Keeps L s t := by
  simp [State.copyRegs]
@[simp] theorem State.keeps_handLedger (h : .cds ∈ L) (n : Nat) : Keeps L s (t.handLedger n) ↔ Keeps L s t := by
  simp [State.handLedger, h]
@[simp] theorem State.keeps_fullCopy (hm : .mem ∈ L) (hc : .cds ∈ L) (n : Nat) : Keeps L s (t.fullCopy n) ↔ Keeps L s t := by
  unfold State.fullCopy
  refine (State.keeps_modCd hc _ _).trans ((State.keeps_handLedger hc _).trans ((State.keeps_mem hm _).trans ?_))
  simp
@[simp] theorem State.keeps_wdtTrap (h : .agents ∈ L) (n : Nat) : Keeps L s (t.wdtTrap n) ↔ Keeps L s t := by
  unfold State.wdtTrap
  refine (State.keeps_sqStart h _ _ _).trans ?_
  simp
@[simp] theorem State.keeps_wdtKick (ha : .agents ∈ L) (hc : .cds ∈ L) (n v : Nat) :
    Keeps L s (t.wdtKick n v) ↔ Keeps L s t := by simp [State.wdtKick, ha, hc]

/-! ### A die's main islands (chapter 3) -/

@[simp] theorem State.keeps_dropRegs (n : Nat) (l : List (Nat × Nat)) : Keeps L s (t.dropRegs n l) ↔ Keeps L s t := by
  simp [State.dropRegs]
@[simp] theorem State.keeps_lgSync (n : Nat) : Keeps L s (t.lgSync n) ↔ Keeps L s t := by simp [State.lgSync]
@[simp] theorem State.keeps_listenDefaults (n : Nat) : Keeps L s (t.listenDefaults n) ↔ Keeps L s t := by
  simp [State.listenDefaults]

section
variable (hc : .cds ∈ L)
include hc

@[simp] theorem State.keeps_ledgerStart (n : Nat) : Keeps L s (t.ledgerStart n) ↔ Keeps L s t := by
  simp [State.ledgerStart, hc]
@[simp] theorem State.keeps_otpReads (n : Nat) : Keeps L s (t.otpReads n) ↔ Keeps L s t := by simp [State.otpReads, hc]
@[simp] theorem State.keeps_ledgerFind (n : Nat) (addOnly : Bool) : Keeps L s (t.ledgerFind n addOnly) ↔ Keeps L s t := by
  simp [State.ledgerFind, hc]

variable (hm : .mem ∈ L) (ha : .agents ∈ L) (hw : .waitq ∈ L) (he : .comErr ∈ L) (hs : .sems ∈ L) (hp : .ports ∈ L)
  (hi : .inbox ∈ L) (hr : .creds ∈ L)
include hm ha hw he hs hp hi hr

omit hc in
/-- The islands' memories, agents, semaphores, messages and credits begin anew. -/
@[simp] theorem State.keeps_mainMem (n : Nat) (bank7 : Bool) : Keeps L s (t.mainMem n bank7) ↔ Keeps L s t :=
  Keeps.congr_right fun p hp' => by
    cases p
    case mem => exact absurd hm hp'
    case agents => exact absurd ha hp'
    case waitq => exact absurd hw hp'
    case comErr => exact absurd he hp'
    case sems => exact absurd hs hp'
    case ports => exact absurd hp hp'
    case inbox => exact absurd hi hp'
    case creds => exact absurd hr hp'
    all_goals rfl
@[simp] theorem State.keeps_mainsUp (n : Nat) (restart : Bool) : Keeps L s (t.mainsUp n restart) ↔ Keeps L s t := by
  simp [State.mainsUp, hc, hm, ha, hw, he, hs, hp, hi, hr]
@[simp] theorem State.keeps_dieRestart (n : Nat) : Keeps L s (t.dieRestart n) ↔ Keeps L s t := by
  simp [State.dieRestart, hc, hm, ha, hw, he, hs, hp, hi, hr]

end

/-! ### Keys and the life cycle (chapter 16) -/

@[simp] theorem State.keeps_lcRes (n v : Nat) : Keeps L s (t.lcRes n v) ↔ Keeps L s t := by simp [State.lcRes]
@[simp] theorem State.keeps_zeroEnd (h : .cds ∈ L) (n : Nat) : Keeps L s (t.zeroEnd n) ↔ Keeps L s t := by
  simp [State.zeroEnd, h]

section
variable (hc : .cds ∈ L) (ha : .agents ∈ L)
include hc ha

@[simp] theorem State.keeps_slotsClear (n : Nat) : Keeps L s (t.slotsClear n) ↔ Keeps L s t := by
  simp [State.slotsClear, hc, ha]
@[simp] theorem State.keeps_zeroise : Keeps L s t.zeroise ↔ Keeps L s t := by simp [State.zeroise, hc, ha]
@[simp] theorem State.keeps_lcGo (n y : Nat) : Keeps L s (t.lcGo n y) ↔ Keeps L s t := by simp [State.lcGo, hc, ha]
@[simp] theorem State.keeps_lcApply (n key target : Nat) : Keeps L s (t.lcApply n key target) ↔ Keeps L s t := by
  simp [State.lcApply, hc, ha]
@[simp] theorem State.keeps_lcCmd (n key target : Nat) : Keeps L s (t.lcCmd n key target) ↔ Keeps L s t := by
  simp [State.lcCmd, hc, ha]
@[simp] theorem State.keeps_lcRun (n : Nat) (l : List (Nat × Nat)) : Keeps L s (t.lcRun n l) ↔ Keeps L s t := by
  induction l generalizing t with
  | nil => simp [State.lcRun, hc]
  | cons c cs ih => simp [State.lcRun, ih, hc, ha]

end

end

end Sys2Proof.Machine
end

section
/-! SUPPORT. The frame of the commands of the area linked (03 R84, 06 R194, 07 R223). -/

namespace Sys2Proof.Machine

/-! ### Commands that branch on what a record or a message holds -/

theorem execWimgChunkDone_keeps (n : Fin 2) (hostErr : Bool) (s : State) :
    KeepsOut [.mem, .cds, .flips] s (execWimgChunkDone n hostErr s) := by
  unfold execWimgChunkDone
  split <;> simp
theorem execWimgLoadEnd_keeps (n : Fin 2) (s : State) :
    KeepsOut [.mem, .cds, .fresh, .flips] s (execWimgLoadEnd n s) := by
  unfold execWimgLoadEnd
  split <;> simp
/-- A waiter leaves its queue with the count it waited for. -/
@[simp ↓] theorem State.keeps_sems_waitq {L : List Part} {s t : State} (hs : .sems ∈ L) (hw : .waitq ∈ L)
    (x : Store Nat) (y : List (Nat × Nat)) : Keeps L s { t with sems := x, waitq := y } ↔ Keeps L s t :=
  (State.keeps_waitq (t := { t with sems := x }) hw y).trans (State.keeps_sems hs x)
theorem execSemaphoreWaitDone_keeps (k : Fin 32768) (s : State) :
    KeepsOut [.mem, .cds, .agents, .waitq, .sems] s (execSemaphoreWaitDone k s) := by
  unfold execSemaphoreWaitDone
  simp only [keepsOut_done]
  split
  · simp
  split
  · split
    · split
      · split <;> simp
      · simp
    · simp
  · split <;> simp
theorem execWorkStart_keeps (d : Fin 4) (s : State) :
    KeepsOut [.agents, .sems, .ports, .inbox, .wings] s (execWorkStart d s) := by
  unfold execWorkStart
  simp only [keepsOut_done]
  split
  · simp
  next m u hu =>
    refine (State.keeps_workCheck (by simp) (by simp) (by simp) (by simp) (fun u => ?_) d m).trans
      (State.keeps_takeMsg (by simp) hu) |>.2 (Keeps.refl _ s)
    simp
theorem execWorkLoadprog_keeps (d : Fin 4) (s : State) :
    KeepsOut [.mem, .agents, .sems, .ports, .inbox] s (execWorkLoadprog d s) := by
  unfold execWorkLoadprog
  simp only [keepsOut_done]
  split
  · simp
  next m u hu =>
    refine (State.keeps_workCheck (by simp) (by simp) (by simp) (by simp) (fun u => ?_) d m).trans
      (State.keeps_takeMsg (by simp) hu) |>.2 (Keeps.refl _ s)
    simp
theorem execWingProgramStart_keeps (d : Fin 4) (w : Fin 8) (s : State) :
    KeepsOut [.agents, .wings] s (execWingProgramStart d w s) := by
  unfold execWingProgramStart
  dsimp only
  split <;> simp
theorem execRowSweepDone_keeps (d : Fin 4) (w : Fin 8) (upset : List (Nat × Nat)) (s : State) :
    KeepsOut [.mem, .flips, .wings] s (execRowSweepDone d w upset s) := by
  unfold execRowSweepDone
  dsimp only
  simp only [keepsOut_done]
  split
  · simp
  split <;> simp
theorem execScrubRead_keeps (d : Fin 4) (upset : List (Nat × Nat × Nat)) (s : State) :
    KeepsOut [.mem, .fresh, .shScale, .flips, .wings] s (execScrubRead d upset s) := by
  unfold execScrubRead
  dsimp only
  simp only [keepsOut_done]
  split
  · simp
  split
  · simp
  split
  · simp
  split <;> simp
theorem execWriteReceive_keeps (d : Fin 4) (w : Fin 8) (s : State) :
    KeepsOut [.sems, .inbox, .wings] s (execWriteReceive d w s) := by
  unfold execWriteReceive
  simp only [keepsOut_done]
  split
  · simp
  next m u hu => split <;> simp [State.keeps_takeMsg _ hu]
theorem execCreditReqReceive_keeps (d : Fin 4) (w : Fin 8) (s : State) :
    KeepsOut [.sems, .inbox, .wings] s (execCreditReqReceive d w s) := by
  unfold execCreditReqReceive
  simp only [keepsOut_done]
  split
  · simp
  next m u hu => simp [State.keeps_takeMsg _ hu]
theorem execReclaimAckReceive_keeps (d : Fin 4) (w : Fin 8) (s : State) :
    KeepsOut [.inbox, .wings] s (execReclaimAckReceive d w s) := by
  unfold execReclaimAckReceive
  simp only [keepsOut_done]
  split
  · simp
  next m u hu => simp [State.keeps_takeMsg _ hu]
theorem execReplayTimeout_keeps (k : Fin 26) (s : State) :
    KeepsOut [.agents, .sems, .ports, .inbox] s (execReplayTimeout k s) := by
  unfold execReplayTimeout
  split <;> simp
theorem execRouteReceive_keeps (d : Fin 4) (s : State) :
    KeepsOut [.agents, .sems, .ports, .inbox] s (execRouteReceive d s) := by
  unfold execRouteReceive
  simp only [keepsOut_done]
  split
  next m u hu => simp [State.keeps_takeMsg _ hu]
  · simp
theorem execFetchReceive_keeps (n : Fin 2) (hostErr : Bool) (s : State) :
    KeepsOut [.agents, .sems, .ports, .inbox] s (execFetchReceive n hostErr s) := by
  unfold execFetchReceive
  simp only [keepsOut_done]
  split
  · simp
  next m u hu =>
    iterate 2 (split; · simp [State.keeps_takeMsg _ hu])
    split <;> simp [State.keeps_takeMsg _ hu]
theorem execMemwrReceive_keeps (n : Fin 2) (hostErr : Bool) (s : State) :
    KeepsOut [.mem, .comErr, .fresh, .inbox] s (execMemwrReceive n hostErr s) := by
  unfold execMemwrReceive
  simp only [keepsOut_done]
  split
  · simp
  next m u hu =>
    split
    · simp [State.keeps_takeMsg _ hu]
    iterate 2 (split; · simp [State.keeps_takeMsg _ hu])
    cases hv : u.hostPut n (m.m0 + bits m.m1 7 0 * 2 ^ 32) m.data with
    | none => simp [State.keeps_takeMsg _ hu]
    | some v => exact ((State.keeps_hostPut (by simp) hv).trans (State.keeps_takeMsg (by simp) hu)).2 (Keeps.refl _ s)
theorem execKvchkReceive_keeps (d : Fin 4) (w : Fin 8) (s : State) :
    KeepsOut [.agents, .sems, .ports, .inbox] s (execKvchkReceive d w s) := by
  unfold execKvchkReceive
  simp only [keepsOut_done]
  split
  · simp
  next m u hu => simp [State.keeps_takeMsg _ hu]
theorem execParkdataReceive_keeps (n : Fin 2) (hostErr : Bool) (s : State) :
    KeepsOut [.mem, .cds, .agents, .inbox] s (execParkdataReceive n hostErr s) := by
  unfold execParkdataReceive
  simp only [keepsOut_done]
  split
  · simp
  next m u hu =>
    split
    · simp [State.keeps_takeMsg _ hu]
    split
    · simp [State.keeps_takeMsg _ hu]
    · split <;> simp [State.keeps_takeMsg _ hu]
theorem execTelemSend_keeps (d : Fin 4) (temp droop : Nat) (s : State) :
    KeepsOut [.agents, .sems, .ports, .inbox, .sds] s (execTelemSend d temp droop s) := by
  unfold execTelemSend
  split <;> simp
theorem execSlipDispatch_keeps (n : Fin 2) (s : State) :
    KeepsOut [.cds, .agents, .waitq] s (execSlipDispatch n s) := by
  unfold execSlipDispatch
  split <;> simp
theorem execMirrorAckReceive_keeps (n : Fin 2) (s : State) :
    KeepsOut [.mem, .cds, .comErr, .fresh, .sems] s (execMirrorAckReceive n s) := by
  unfold execMirrorAckReceive
  split <;> simp
theorem execPocketLoadDone_keeps (n : Fin 2) (history : List (List Nat)) (s : State) :
    KeepsOut [.mem, .cds, .comErr, .fresh, .flips] s (execPocketLoadDone n history s) := by
  unfold execPocketLoadDone
  dsimp only
  split <;> simp
theorem execNoResponseTimeout_keeps (n : Fin 2) (s : State) :
    KeepsOut [.cds, .agents, .waitq, .rsp] s (execNoResponseTimeout n s) := by
  unfold execNoResponseTimeout
  dsimp only
  simp only [keepsOut_done]
  split
  · simp
  split
  · simp
  split <;> simp

/-! ### Every command of the area -/

/-- A command of the area linked changes no part but those listed for it. -/
theorem linked_keeps (c : Instr) (s : State) (hc : areaOf c = .linked) : KeepsOut (partsOf c) s (exec c s) := by
  cases c
  case fallbackLoadDone n =>
    show KeepsOut [.mem, .cds, .fresh, .flips] s (execFallbackLoadDone n s)
    simp [execFallbackLoadDone]
  case wimgAbort n => show KeepsOut [.cds, .shScale, .wings] s (execWimgAbort n s); simp [execWimgAbort]
  case wimgChunkDone n hostErr => exact execWimgChunkDone_keeps n hostErr s
  case wimgLoadEnd n => exact execWimgLoadEnd_keeps n s
  case semsig a i => show KeepsOut [.agents, .waitq, .sems] s (execSemsig a i s); simp [execSemsig]
  case semaphoreWaitDone k => exact execSemaphoreWaitDone_keeps k s
  case ldgetState a i => show KeepsOut [.agents, .waitq, .sems] s (execLdgetState a i s); simp [execLdgetState]
  case ldgetCurrent a i => show KeepsOut [.agents, .waitq, .sems] s (execLdgetCurrent a i s); simp [execLdgetCurrent]
  case ldgetGrant a i => show KeepsOut [.agents, .waitq, .sems] s (execLdgetGrant a i s); simp [execLdgetGrant]
  case rand a i => show KeepsOut [.agents, .waitq, .fresh, .sems] s (execRand a i s); simp [execRand]
  case workStart d => exact execWorkStart_keeps d s
  case workLoadprog d => exact execWorkLoadprog_keeps d s
  case wingProgramStart d w => exact execWingProgramStart_keeps d w s
  case folioReloadDone d w hostErr =>
    show KeepsOut [.mem, .shScale, .flips, .wings] s (execFolioReloadDone d w hostErr s)
    simp [execFolioReloadDone]
  case rowSweepDone d w upset => exact execRowSweepDone_keeps d w upset s
  case folioCutover d w => show KeepsOut [.acc, .shScale, .wings] s (execFolioCutover d w s); simp [execFolioCutover]
  case shadowSwitch d w => show KeepsOut [.shScale, .wings] s (execShadowSwitch d w s); simp [execShadowSwitch]
  case scrubRead d upset => exact execScrubRead_keeps d upset s
  case writeReceive d w => exact execWriteReceive_keeps d w s
  case creditReqReceive d w => exact execCreditReqReceive_keeps d w s
  case reclaimAckReceive d w => exact execReclaimAckReceive_keeps d w s
  case laneFail l lane =>
    show KeepsOut [.agents, .sems, .ports, .inbox] s (execLaneFail l lane s)
    simp [execLaneFail]
  case shortTrainingDone l ok =>
    show KeepsOut [.agents, .sems, .ports, .inbox] s (execShortTrainingDone l ok s)
    simp [execShortTrainingDone]
  case linkFullTrainingDone l ok =>
    show KeepsOut [.agents, .sems, .ports, .inbox] s (execLinkFullTrainingDone l ok s)
    simp [execLinkFullTrainingDone]
  case packetReceive k hdr payload crc =>
    show KeepsOut [.agents, .sems, .ports, .inbox] s (execPacketReceive k hdr payload crc s)
    simp [execPacketReceive]
  case ackReceive k seq crcOk => show KeepsOut [.ports] s (execAckReceive k seq crcOk s); simp [execAckReceive]
  case nakReceive k seq crcOk =>
    show KeepsOut [.agents, .sems, .ports, .inbox] s (execNakReceive k seq crcOk s)
    simp [execNakReceive]
  case tokenReceive k vc count crcOk =>
    show KeepsOut [.ports] s (execTokenReceive k vc count crcOk s)
    simp [execTokenReceive]
  case ackSendTimer k => show KeepsOut [.ports] s (execAckSendTimer k s); simp [execAckSendTimer]
  case replayTimeout k => exact execReplayTimeout_keeps k s
  case routeReceive d => exact execRouteReceive_keeps d s
  case fetchReceive n hostErr => exact execFetchReceive_keeps n hostErr s
  case memwrReceive n hostErr => exact execMemwrReceive_keeps n hostErr s
  case kvchkReceive d w => exact execKvchkReceive_keeps d w s
  case parkdataReceive n hostErr => exact execParkdataReceive_keeps n hostErr s
  case telemSend d temp droop => exact execTelemSend_keeps d temp droop s
  case doorbellWrite n q v => show KeepsOut [.mem, .cds] s (execDoorbellWrite n q v s); simp [execDoorbellWrite]
  case slipDispatch n => exact execSlipDispatch_keeps n s
  case mirrorAckReceive n => exact execMirrorAckReceive_keeps n s
  case dieRestart n =>
    show KeepsOut [.mem, .cds, .agents, .waitq, .comErr, .sems, .ports, .inbox, .creds] s (execDieRestart n s)
    simp [execDieRestart]
  case fullCopyDone n =>
    show KeepsOut [.mem, .cds, .agents, .sems, .ports, .inbox] s (execFullCopyDone n s)
    simp [execFullCopyDone]
  case wdtKick a v => show KeepsOut [.cds, .agents] s (execWdtKick a v s); simp [execWdtKick]
  case wdtExpiryTrap n => show KeepsOut [.agents] s (execWdtExpiryTrap n s); simp [execWdtExpiryTrap]
  case pocketLoadDone n history => exact execPocketLoadDone_keeps n history s
  case tamperNLow => show KeepsOut [.cds, .agents, .pins] s (execTamperNLow s); simp [execTamperNLow]
  case lcTransition n key target =>
    show KeepsOut [.cds, .agents] s (execLcTransition n key target s)
    simp [execLcTransition]
  case lcBlowPubhash n key => show KeepsOut [.cds, .agents] s (execLcBlowPubhash n key s); simp [execLcBlowPubhash]
  case dbgStep n mask => show KeepsOut [.agents] s (execDbgStep n mask s); simp [execDbgStep]
  case thermalCooled n =>
    show KeepsOut [.mem, .cds, .agents, .waitq, .comErr, .sems, .ports, .inbox, .creds] s (execThermalCooled n s)
    simp [execThermalCooled]
  case heartbeatPathSilence n cross =>
    show KeepsOut [.mem, .cds, .comErr, .fresh, .sems] s (execHeartbeatPathSilence n cross s)
    simp [execHeartbeatPathSilence]
  case noResponseTimeout n => exact execNoResponseTimeout_keeps n s
  case zeroisationDone => show KeepsOut [.cds, .agents] s (execZeroisationDone s); simp [execZeroisationDone]
  all_goals cases hc

/-- Settles O59, by cases on the command. -/
theorem framesOfLinkedCommands : Obligations.FramesOfLinkedCommands :=
  fun c s t hc h => linked_keeps c s hc t h

end Sys2Proof.Machine
end

section
/-! SUPPORT. The register file of an agent (R257): a register reads as it was written, s0 and p0 are hard-wired, and a write
of one register leaves the others and the rest of the agent alone. -/

namespace Sys2Proof.Machine

section
variable {a : Nat} {s : State}

/-! ### Reads -/

theorem State.sR_zero (s : State) (a : Nat) : s.sR a 0 = 0 := rfl
theorem State.pR_zero (s : State) (a : Nat) : s.pR a 0 = true := rfl
theorem State.sR_congr {t : State} (h : t.agents = s.agents) (a r : Nat) : t.sR a r = s.sR a r := by
  simp only [State.sR, State.agent, h]
theorem State.adR_congr {t : State} (h : t.agents = s.agents) (a r : Nat) : t.adR a r = s.adR a r := by
  simp only [State.adR, State.agent, h]

/-! ### Reads after a write -/

theorem State.sW_zero (s : State) (a : Nat) (v : Word) : s.sW a 0 v = s := rfl
theorem State.pW_zero (s : State) (a : Nat) (v : Bool) : s.pW a 0 v = s := rfl
@[simp] theorem State.adR_adW_same (s : State) (a r : Nat) (v : DevAddr) : (s.adW a r v).adR a r = v := by
  simp [State.adR, State.adW]
@[simp] theorem State.adR_sW (s : State) (a r k : Nat) (v : Word) : (s.sW a r v).adR a k = s.adR a k := by
  unfold State.sW State.adR
  split
  · rfl
  · rw [State.agent_modAgent_same]

/-! ### What a write leaves alone -/

section
variable {S A P : Nat → Prop}

theorem State.agentBut_self (s : State) (a : Nat) (S A P : Nat → Prop) : s.agentBut s a S A P :=
  ⟨fun _ _ => rfl, fun _ _ => rfl, fun _ _ => rfl, fun _ _ => rfl, rfl, rfl⟩
theorem State.agentBut_sW (s : State) (a r : Nat) (v : Word) : s.agentBut (s.sW a r v) a (· = r) A P := by
  unfold State.sW
  split
  · exact s.agentBut_self a _ _ _
  refine ⟨fun b hb => State.agent_modAgent_other _ _ _ _ hb, fun k hk => ?_, fun _ _ => ?_, fun _ _ => ?_, ?_, ?_⟩
  · simp [State.sR, Store.get_put_other _ _ _ _ _ _ hk]
  · simp [State.adR]
  · simp [State.pR]
  · simp
  · simp
theorem State.agentBut_adW (s : State) (a r : Nat) (v : DevAddr) : s.agentBut (s.adW a r v) a S (· = r) P := by
  refine ⟨fun b hb => State.agent_modAgent_other _ _ _ _ hb, fun _ _ => ?_, fun k hk => ?_, fun _ _ => ?_, ?_, ?_⟩
  · simp [State.adW, State.sR]
  · simp [State.adW, State.adR, Store.get_put_other _ _ _ _ _ _ hk]
  · simp [State.adW, State.pR]
  · simp [State.adW]
  · simp [State.adW]
theorem State.agentBut_pW (s : State) (a r : Nat) (v : Bool) : s.agentBut (s.pW a r v) a S A (· = r) := by
  unfold State.pW
  split
  · exact s.agentBut_self a _ _ _
  refine ⟨fun b hb => State.agent_modAgent_other _ _ _ _ hb, fun _ _ => ?_, fun _ _ => ?_, fun k hk => ?_, ?_, ?_⟩
  · simp [State.sR]
  · simp [State.adR]
  · simp [State.pR, Store.get_put_other _ _ _ _ _ _ hk]
  · simp
  · simp

end

/-! ### An instruction that completes in its cycle -/

/-- What stands in ad[r] when the instruction itself is done stands there when its agent has gone on. -/
theorem RegsKept.adR {t : State} (h : RegsKept a s t) (r : Nat) : t.adR a r = s.adR a r := by
  obtain ⟨-, -, had, -⟩ := h
  exact had r id
/-- An instruction that nothing keeps from executing does what it is for and goes on (R259). -/
theorem State.issueAdv_of_issues {i : Ins} {regs : List Nat} (h : s.issues a i regs) (go : State → State) :
    s.issueAdv a i true regs go = (((go s).adv a i.x).stepped a).boundary a :=
  State.issue_of_issues h _

end

section
variable {a : Nat} {imm : Bool} {ins : Ins} {s : State}

/-- The result of ADD or SUB on ad registers: ad[B] and the sign-extended second source, modulo 2^40 (R257, R340). -/
def State.adSum (s : State) (a : Nat) (imm : Bool) (i : Ins) (neg : Bool) : DevAddr :=
  if neg then s.adR a i.b - (s.srcC a imm i).signExtend 40 else s.adR a i.b + (s.srcC a imm i).signExtend 40

/-- ADD and SUB on ad registers with legal fields leave their result in ad[A]. -/
theorem State.adR_addSub (hx : ins.x = false) (hsub : ins.sub = 16) (hri : ins.riOk imm = true) (ha : ins.a.val < 16)
    (hb : ins.b.val < 16)
    (h : s.issues a ins ([32 + ins.a.val, 32 + ins.b.val] ++ (if imm then [] else [ins.c.val]))) (neg : Bool) :
    (s.addSub a imm ins neg).settle.adR a ins.a = s.adSum a imm ins neg := by
  have had : bitOf 16 4 = true := rfl
  have hissue : s.addSub a imm ins neg =
      (((s.adW a ins.a (s.adSum a imm ins neg)).adv a ins.x).stepped a).boundary a := by
    rw [← State.issueAdv_of_issues h fun s => s.adW a ins.a (s.adSum a imm ins neg)]
    simp [State.addSub, State.adSum, hx, hsub, had, hri, ha, hb]
  have hkept : RegsKept a (s.adW a ins.a (s.adSum a imm ins neg)) (s.addSub a imm ins neg).settle := by simp [hissue]
  rw [hkept.adR, State.adR_adW_same]

end

/-- Settles O53. -/
theorem hardwiredRegisters : Obligations.HardwiredRegisters := by
  unfold Obligations.HardwiredRegisters
  refine ⟨fun s a v b => ⟨s.sR_zero a, s.pR_zero a, s.sW_zero a v, s.pW_zero a b⟩,
    fun s a r v => ⟨s.adR_adW_same a r v, v.isLt⟩, ?_⟩
  intro a imm ins s hx hsub hri ha hb hiss
  refine ⟨⟨_, rfl, ?_⟩, ⟨_, rfl, ?_⟩⟩
  · rw [State.adR_addSub hx hsub hri ha hb hiss]
    exact BitVec.toNat_add _ _
  · rw [State.adR_addSub hx hsub hri ha hb hiss]
    refine (BitVec.toNat_sub _ _).trans (congrArg (· % 2 ^ 40) ?_)
    omega

end Sys2Proof.Machine
end

section
/-! SUPPORT. The frame of the scalar and control-flow instructions (R257, R339 to R351). -/

namespace Sys2Proof.Machine

section
variable {a : Nat} {S A P : Nat → Prop} {s t : State}

/-! ### Issue and control flow -/

@[simp] theorem State.agentBut_trap (code : Nat) : s.agentBut (t.trap a code) a S A P ↔ s.agentBut t a S A P := by
  simp [State.trap]
@[simp] theorem State.agentBut_jump (disp : Int) : s.agentBut (t.jump a disp) a S A P ↔ s.agentBut t a S A P := by
  unfold State.jump
  dsimp only
  split <;> simp
/-- An instruction is refused, waits, is skipped, or does what it is for (R259): where its fields are legal, it writes the
registers that it is for. -/
theorem State.agentBut_issue {go : State → State} {legal : Bool} (hgo : legal = true → s.agentBut (go s) a S A P) (i : Ins)
    (regs : List Nat) : s.agentBut (s.issue a i legal regs go).settle a S A P := by
  have hself := s.agentBut_self a S A P
  rw [State.agentBut_settle]
  unfold State.issue
  split
  · exact hself
  split
  · simpa using hself
  split
  · simpa using hself
  next hlegal =>
    split
    · exact hself
    split
    · simpa using hself
    · simpa using hgo (by simpa using hlegal)
theorem State.agentBut_issueAdv {go : State → State} {legal : Bool} (hgo : legal = true → s.agentBut (go s) a S A P)
    (i : Ins) (regs : List Nat) : s.agentBut (s.issueAdv a i legal regs go).settle a S A P :=
  State.agentBut_issue (fun h => (State.agentBut_adv i.x).2 (hgo h)) i regs

end

/-! ### Instructions -/

section
variable {a : Nat} {imm neg : Bool} {i : Ins} {s : State} {S A P : Nat → Prop}

theorem State.agentBut_addSub_s (h : bitOf i.sub 4 = false) :
    s.agentBut (s.addSub a imm i neg).settle a (· = i.a.val) A P :=
  State.agentBut_issueAdv (fun _ => by simpa [h] using s.agentBut_sW a i.a _) _ _
theorem State.agentBut_addSub_ad (h : bitOf i.sub 4 = true) :
    s.agentBut (s.addSub a imm i neg).settle a S (· = i.a.val) P :=
  State.agentBut_issueAdv (fun _ => by simpa [h] using s.agentBut_adW a i.a _) _ _
theorem State.agentBut_alu (ok : Bool) (f : Word → Word → Word) :
    s.agentBut (s.alu a imm i ok f).settle a (· = i.a.val) A P :=
  State.agentBut_issueAdv (fun _ => s.agentBut_sW a i.a _) _ _

end

/-- Settles O55, instruction by instruction: each writes its own register, and the issue around it none. -/
theorem scalarInstructionFrames : Obligations.ScalarInstructionFrames := by
  unfold Obligations.ScalarInstructionFrames
  intro a imm ins s
  refine ⟨?add, ?addAd, ?sub, ?subAd, ?mul, ?and, ?or, ?xor, ?shl, ?shr, ?cmp, ?li, ?liAd, ?b, ?bc, ?call, ?ret, ?loop,
    ?trap, ?fence⟩ <;> intro t ht <;> cases ht
  case add => exact State.agentBut_addSub_s
  case addAd => exact State.agentBut_addSub_ad
  case sub => exact State.agentBut_addSub_s
  case subAd => exact State.agentBut_addSub_ad
  case mul | and | or | xor | shl | shr => exact State.agentBut_alu _ _
  case cmp => exact State.agentBut_issueAdv (fun _ => s.agentBut_pW a ins.a _) _ _
  case li =>
    intro hsub
    refine State.agentBut_issueAdv (fun hlegal => ?_) _ _
    simp only [Bool.and_eq_true, decide_eq_true_eq] at hlegal
    obtain ⟨⟨⟨⟨⟨hlt, -⟩, -⟩, -⟩, -⟩, -⟩ := hlegal
    have hzero : ins.sub = 0 := by omega
    have hbit : bitOf ins.sub 0 = false := by rw [hzero]; rfl
    simpa [hbit] using s.agentBut_sW a ins.a _
  case liAd =>
    intro hsub
    have hbit : bitOf ins.sub 0 = true := by rw [hsub]; rfl
    exact State.agentBut_issueAdv (fun _ => by simpa [hbit] using s.agentBut_adW a ins.a _) _ _
  case b => exact State.agentBut_issue (fun _ => by simp) _ _
  case bc => exact State.agentBut_issue (fun _ => by simp) _ _
  case call => exact State.agentBut_issue (fun _ => by simp) _ _
  case ret =>
    refine State.agentBut_issue (fun _ => ?_) _ _
    split <;> simp
  case loop => exact State.agentBut_issue (fun _ => by simp) _ _
  case trap => exact State.agentBut_issue (fun _ => by simp) _ _
  case fence => exact State.agentBut_issue (fun _ => by simp) _ _

end Sys2Proof.Machine
end

section
/-! SUPPORT. The frame of the commands of the area agent (08 R256, 10 R339, 10 R347). -/

namespace Sys2Proof.Machine

section
variable {L : List Part} {s t : State} (ha : .agents ∈ L)
include ha

@[simp] theorem State.keeps_adW (a i : Nat) (v : DevAddr) : Keeps L s (t.adW a i v) ↔ Keeps L s t := by
  simp [State.adW, ha]
@[simp] theorem State.keeps_jump (a : Nat) (disp : Int) : Keeps L s (t.jump a disp) ↔ Keeps L s t := by
  unfold State.jump
  dsimp only
  split <;> simp [ha]

variable (hw : .waitq ∈ L)
include hw

@[simp] theorem State.keeps_addSub (a : Nat) (imm : Bool) (i : Ins) (neg : Bool) :
    Keeps L s (t.addSub a imm i neg) ↔ Keeps L s t := by simp [State.addSub, ha, hw]
@[simp] theorem State.keeps_alu (a : Nat) (imm : Bool) (i : Ins) (ok : Bool) (f : Word → Word → Word) :
    Keeps L s (t.alu a imm i ok f) ↔ Keeps L s t := by simp [State.alu, ha, hw]
@[simp] theorem State.keeps_dbgHaltSq (n k : Nat) : Keeps L s (t.dbgHaltSq n k) ↔ Keeps L s t := by
  simp [State.dbgHaltSq, ha, hw]

end

theorem execRet_keeps (a : Fin 48) (i : Ins) (s : State) : KeepsOut [.agents, .waitq] s (execRet a i s) := by
  have hgo : ∀ u : State, Keeps [.agents, .waitq] s (match (u.agent a).calls with
      | [] => u.trap a 4
      | t :: rest => ((u.modAgent a (fun g => { g with calls := rest })).depthSync a).goto a t) ↔
        Keeps [.agents, .waitq] s u := by
    intro u
    split <;> simp
  exact keepsOut_done.2 ((State.keeps_issue (by simp) (by simp) hgo _ _ _ _).2 (Keeps.refl _ s))
theorem execSemwtTimeout_keeps (a : Fin 48) (s : State) : KeepsOut [.agents, .waitq] s (execSemwtTimeout a s) := by
  unfold execSemwtTimeout
  split <;> simp

/-- A command of the area agent changes no part but the agents and the waits on semaphores. -/
theorem agent_keeps (c : Instr) (s : State) (hc : areaOf c = .agent) : KeepsOut (partsOf c) s (exec c s) := by
  cases c
  case add a imm i => show KeepsOut [.agents, .waitq] s (execAdd a imm i s); simp [execAdd]
  case sub a imm i => show KeepsOut [.agents, .waitq] s (execSub a imm i s); simp [execSub]
  case mul a imm i => show KeepsOut [.agents, .waitq] s (execMul a imm i s); simp [execMul]
  case and a imm i => show KeepsOut [.agents, .waitq] s (execAnd a imm i s); simp [execAnd]
  case or a imm i => show KeepsOut [.agents, .waitq] s (execOr a imm i s); simp [execOr]
  case xor a imm i => show KeepsOut [.agents, .waitq] s (execXor a imm i s); simp [execXor]
  case shl a imm i => show KeepsOut [.agents, .waitq] s (execShl a imm i s); simp [execShl]
  case shr a imm i => show KeepsOut [.agents, .waitq] s (execShr a imm i s); simp [execShr]
  case cmp a imm i => show KeepsOut [.agents, .waitq] s (execCmp a imm i s); simp [execCmp]
  case li a i => show KeepsOut [.agents, .waitq] s (execLi a i s); simp [execLi]
  case b a i => show KeepsOut [.agents, .waitq] s (execB a i s); simp [execB]
  case bc a i => show KeepsOut [.agents, .waitq] s (execBc a i s); simp [execBc]
  case call a i => show KeepsOut [.agents, .waitq] s (execCall a i s); simp [execCall]
  case ret a i => exact execRet_keeps a i s
  case loop a i => show KeepsOut [.agents, .waitq] s (execLoop a i s); simp [execLoop]
  case trap a i => show KeepsOut [.agents, .waitq] s (execTrap a i s); simp [execTrap]
  case semwtTimeout a => exact execSemwtTimeout_keeps a s
  case fence a i => show KeepsOut [.agents, .waitq] s (execFence a i s); simp [execFence]
  case dbgHalt n mask => show KeepsOut [.agents, .waitq] s (execDbgHalt n mask s); simp [execDbgHalt]
  all_goals cases hc

/-- Settles O58, by cases on the command. -/
theorem framesOfAgentInstructions : Obligations.FramesOfAgentInstructions :=
  fun c s t hc h => agent_keeps c s hc t h

end Sys2Proof.Machine
end

section
/-! SUPPORT. Programs that stop (R267, R268, R273): the statements are over every state, and say nothing of an engine with
instructions that wait behind none, nor of a stop that is due. -/

namespace Sys2Proof.Machine

/-! ### A stop point with instructions queued -/

/-- SQ0 of CD0 runs under a stop request, and its link engine runs nothing and holds one instruction that waits. -/
def queuedOnly : State :=
  { State.reset with
    fld := Store.insert (Store.insert State.reset.fld (fkey (cd 0) (R.SQ_STAT_STATE.at 0)) 1)
      (fkey (cd 0) (R.SQ_STAT_STOPREQ.at 0)) 1
    agents := [(0, { prog := true, eng := [(5, { q := [spentCredreq.ins] })] })] }
/-- An instruction word whose format fields are all 0. -/
def plainIns : Ins := ⟨false, 0, 0, 0, 0, 0, 0⟩

/-- YIELD stops the program, which abandons the queued instruction; with that its engines are idle, and the program ends
in the same command (R267). -/
theorem yield_queuedOnly_ends {t : State} (h : exec (.yield 0 plainIns) queuedOnly = .next t) : t.agState 0 = 0 := by
  cases h
  decide +kernel

/-- Refutes O16: YIELD under a stop request is to leave an agent whose engines are not idle in STOPPING, but where they hold
only instructions that have not started, the stop abandons those and the program has ended (`queuedOnly`). -/
theorem not_stopPointsAndTrap : ¬ Obligations.StopPointsAndTrap := by
  unfold Obligations.StopPointsAndTrap
  rintro ⟨-, hyield, -⟩
  obtain ⟨t, ht, hstate, -⟩ :=
    hyield 0 plainIns queuedOnly (by decide) (by decide) (by decide) (by decide) (by decide) (by decide +kernel)
      (by decide +kernel) (by decide +kernel)
  exact absurd ((yield_queuedOnly_ends ht).symm.trans hstate) (by decide)

/-! ### A CALL behind which the program stops -/

/-- SQ0 of the active CD0 runs, the 50 us of a stop request have passed, and it awaits DONE of order 5 from SD1. Of the
links only that of CD0 to SD0 is up. -/
def overdueCaller : State :=
  { State.reset with
    fld := Store.insert (Store.insert (Store.insert (Store.insert State.reset.fld (fkey (cd 0) (R.SQ_STAT_STATE.at 0)) 1)
      (fkey (cd 0) R.PAIR_STAT_ROLE) 1) (fkey (fUp (cdPort 0 0)).1 (fUp (cdPort 0 0)).2) 1)
      (fkey (fUp (sdPort 0 2)).1 (fUp (sdPort 0 2)).2) 1
    agents := [(0, { prog := true, stopDue := true, orders := [⟨1, 0, 5 * 2 ^ 16, 0⟩] })] }
/-- CALL of wing 0 of SD0, without arguments, with the order number to s1. -/
def callWing : Ins := ⟨true, 0, 1, 0, 0, 0, 4 * 2 ^ 60⟩

/-- The CALL adds its order, and the program stops behind it: the order that no link reaches ends NOROUTE (R267, R280). -/
theorem callRemote_overdueCaller_orders {t : State} (h : exec (.callRemote 0 callWing) overdueCaller = .next t) :
    (t.agent 0).orders.length = 1 := by
  have hrun : (match execCallRemote 0 callWing overdueCaller with
    | .next u => (u.agent 0).orders.length
    | _ => 0) = 1 := by decide +kernel
  rw [show execCallRemote 0 callWing overdueCaller = .next t from h] at hrun
  exact hrun

/-- Refutes O20: a CALL is to leave one order more outstanding, but the boundary behind it may stop the program, whose end
takes away the orders that no link reaches (`overdueCaller`). -/
theorem not_ordersOfASequencer : ¬ Obligations.OrdersOfASequencer := by
  unfold Obligations.OrdersOfASequencer
  rintro ⟨hcall, -⟩
  obtain ⟨t, ht, -, -, hcount, -⟩ :=
    hcall 0 callWing overdueCaller (by decide) (by decide) (by decide) (by decide +kernel) (by decide +kernel)
      (by decide +kernel) (by decide +kernel) (by decide +kernel) (by decide) (by decide +kernel) (by decide +kernel)
      (by decide +kernel)
  have hone : (overdueCaller.agent 0).orders.length = 1 := by decide +kernel
  exact absurd ((callRemote_overdueCaller_orders ht).symm.trans (hcount.trans (congrArg (· + 1) hone))) (by decide)

end Sys2Proof.Machine
end

section
/-! SUPPORT. The PC of an agent, sequencer or wing (R281, R349): only a jump and the step to the next word move it. -/

namespace Sys2Proof.Machine

section
variable {a : Nat} {s : State}

/-- An error log leaves every other field alone (R54). -/
theorem State.rd_capture_ne {b c off stride : Nat} {f : Fld} {l : List (Nat × Fld × Nat)}
    (hv : fkey c f ≠ fkey b ⟨off, 31, 31, 0, stride⟩) (ho : fkey c f ≠ fkey b ⟨off, 30, 30, 0, stride⟩)
    (hl : ∀ x ∈ l, fkey c f ≠ fkey x.1 x.2.1) (s : State) : (s.capture b off stride l).rd c f = s.rd c f := by
  unfold State.capture
  split
  · exact s.rd_wr_other _ _ _ _ _ ho
  · rw [State.rd_foldl_wr l hl, State.rd_wr_other _ _ _ _ _ _ ho, State.rd_wr_other _ _ _ _ _ _ hv]

/-! ### What leaves the PC alone -/

@[simp] theorem State.pc_modAgent (s : State) (a b : Nat) (f : Agent → Agent) : (s.modAgent b f).pc a = s.pc a := rfl
@[simp] theorem State.pc_setAgState (s : State) (a v : Nat) : (s.setAgState a v).pc a = s.pc a :=
  State.rd_wr_ne (by unfold fPc fState; split <;> simp [Fld.at]) s _ v
@[simp] theorem State.pc_qfill (s : State) (a : Nat) : (s.qfill a).pc a = s.pc a := by
  unfold State.qfill
  split
  · rfl
  next h => simp [State.pc, fPc, h]
@[simp] theorem State.pc_modEng (s : State) (a e : Nat) (f : Engine → Engine) : (s.modEng a e f).pc a = s.pc a := by
  simp [State.modEng]
@[simp] theorem State.pc_depthSync (s : State) (a : Nat) : (s.depthSync a).pc a = s.pc a := by
  unfold State.depthSync
  split
  next h =>
    simp only [State.pc, fPc, h, if_true]
    rw [State.rd_wr_ne (by simp only [Fld.at]; omega), State.rd_wr_ne (by simp only [Fld.at]; omega)]
  · rfl
@[simp] theorem State.pc_logFault (s : State) (a engine code pc : Nat) : (s.logFault a engine code pc).pc a = s.pc a := by
  unfold State.logFault State.pc fPc
  dsimp only
  split <;> refine State.rd_capture_ne ?_ ?_ ?_ s <;> simp [fkey, Fld.at] <;> omega
@[simp] theorem State.pc_abandon (s : State) (a : Nat) : (s.abandon a).pc a = s.pc a := by
  simp only [State.abandon, State.pc_modAgent]
  exact (rfl : _ = (List.foldl _ s _).pc a).trans (by simp)
@[simp] theorem State.pc_trapAt (s : State) (a engine code pc tcode : Nat) :
    (s.trapAt a engine code pc tcode).pc a = s.pc a := by
  unfold State.trapAt
  dsimp only
  split <;> simp
@[simp] theorem State.pc_stopNow (s : State) (a : Nat) : (s.stopNow a).pc a = s.pc a := by simp [State.stopNow]
@[simp] theorem State.pc_stepped (s : State) (a : Nat) : (s.stepped a).pc a = s.pc a := by
  unfold State.stepped
  split <;> rfl
/-- At an instruction boundary an agent may trap, stop or halt, where it stands (R267, R268, R676). -/
@[simp] theorem State.pc_boundary (s : State) (a : Nat) : (s.boundary a).pc a = s.pc a := by
  unfold State.boundary
  dsimp only
  split
  · rfl
  split
  · simp
  split
  · simp
  split <;> simp
@[simp] theorem State.pc_settle (s : State) (a : Nat) : s.settle.pc a = s.pc a := by
  have hsq : ∀ n < 2, ∀ k < 8, fkey (cd n) (R.SQ_STAT_PC.at k) ∉ settleKeys := by decide
  unfold State.pc agBase fPc
  split
  next h =>
    have hlt : a < 16 := by simpa [isSq] using h
    exact s.settle_rd _ _ (hsq _ (by unfold sqDie; omega) _ (by omega))
  · exact State.rd_settle_wg s _ _ _

/-! ### What moves it -/

/-- A jump within the program memory (R347). -/
theorem State.pc_goto {x : Nat} (hx : x < pmWords a) (s : State) : (s.goto a x).pc a = x := by
  unfold pmWords at hx
  simp only [State.goto, State.pc_modAgent]
  simp only [State.pc, State.setPc, State.rd_wr_same, fPc, wrapTo]
  split at hx <;> simp_all [Fld.at] <;> omega

/-- What leaves the PC and the loops alone, goes on in order and moves the PC no further, has gone on (R281, R349). -/
theorem State.wentOn_of_pc {t v : State} {i : Ins} (hpc : v.pc a = s.pc a) (hloops : (v.agent a).loops = (s.agent a).loops)
    (ht : t.pc a = (v.adv a i.x).pc a) : s.wentOn t a i := by
  intro hnone hlast
  have hadv : v.adv a i.x = v.goto a ((s.pc a + 1 + b2n i.x : Nat) : Int) := by
    rw [← hpc]; simp [State.adv, hloops, hnone]
  rw [ht, hadv, State.pc_goto hlast]

end

end Sys2Proof.Machine
end

section
/-! SUPPORT. Accesses to a die's own Commons (R30, R38, R342, R452): a word without changed bits reads as it stands, and a
write leaves its bytes. -/

namespace Sys2Proof.Machine

section
variable {s t : State} {n o len size : Nat}

/-! ### One word of Commons -/

/-- The words of Commons that an access within one of them touches. -/
theorem words_of_oneWord (hlen : len ≠ 0) (hw : o % 8 + len ≤ 8) :
    (if len = 0 then [] else (List.range ((o + len - 1) / 8 - o / 8 + 1)).map (o / 8 + ·)) = [o / 8] := by
  have hone : (o + len - 1) / 8 - o / 8 = 0 := by omega
  simp [hlen, hone]
theorem State.comCheck_clean {master i : Nat} (h : Store.get [] s.comErr (comWord n i) = []) :
    s.comCheck n master i = (s, false) := by
  simp [State.comCheck, h]
/-- A read within a word without changed bits (R452). -/
theorem State.comRead_clean (hlen : len ≠ 0) (hw : o % 8 + len ≤ 8)
    (h : Store.get [] s.comErr (comWord n (o / 8)) = []) (master : Nat) :
    s.comRead n master o len = (s, s.ldn (comAddr n o) len, false) := by
  simp only [State.comRead, words_of_oneWord hlen hw, List.foldl_cons, List.foldl_nil, State.comCheck_clean h,
    Bool.or_false]
/-- A write within a word without changed bits, or of a whole word, marks the word as clean and stores the bytes (R452). -/
theorem State.comWrite_clean {data : List Byte} (hlen : data.length ≠ 0) (hw : o % 8 + data.length ≤ 8)
    (h : Store.get [] s.comErr (comWord n (o / 8)) = [] ∨ data.length = 8) (master : Nat) :
    s.comWrite n master o data =
      { s with comErr := Store.put [] s.comErr (comWord n (o / 8)) [] }.stn (comAddr n o) data := by
  have hcheck : (if o ≤ 8 * (o / 8) ∧ 8 * (o / 8) + 8 ≤ o + data.length then s else (s.comCheck n master (o / 8)).1) = s := by
    rcases h with h | h
    · rw [State.comCheck_clean h, ite_self]
    · exact if_pos (by omega)
  simp only [State.comWrite, words_of_oneWord hlen hw, List.foldl_cons, List.foldl_nil, hcheck]
theorem State.fld_stn (s : State) (a : Nat) (l : List Byte) : (s.stn a l).fld = s.fld := by
  induction l generalizing s a with
  | nil => rfl
  | cons x xs ih => exact ih _ _

/-! ### The bus -/

/-- The device address `ea` names Commons of die `n` for an initiator on that die, up to its end (R30, R31, R38). -/
def InOwnCommons (n ea size : Nat) : Prop :=
  (ea / 2 ^ 36 = 0 ∨ ea / 2 ^ 36 = cdNode n) ∧ ea / 2 ^ 32 % 16 = 0 ∧ ea % 2 ^ 32 + size ≤ 2 ^ 24

theorem State.busRead_ownCommons {ea : Nat} (h : InOwnCommons n ea size) {x : BusIn} (hx : x.upset = []) (s : State)
    (unit : Nat) : s.busRead n unit ea size x = ((s.comRead n (unitMaster unit) (ea % 2 ^ 32) size).1,
      .ok (fromBytes (s.comRead n (unitMaster unit) (ea % 2 ^ 32) size).2.1)
        (s.comRead n (unitMaster unit) (ea % 2 ^ 32) size).2.2) := by
  obtain ⟨hnode, hregion, hend⟩ := h
  have hups : s.comUpsets n x.upset = s := by rw [hx]; rfl
  simp only [State.busRead, if_pos hnode, State.ownRead, hregion, cdRange, if_pos hend, if_true, hups]
theorem State.busWrite_ownCommons {ea : Nat} (h : InOwnCommons n ea size) {x : BusIn} (hx : x.upset = []) (s : State)
    (unit v : Nat) : s.busWrite n unit ea size v x =
      (s.comWrite n (unitMaster unit) (ea % 2 ^ 32) (toBytes size v), .ok 0 false) := by
  obtain ⟨hnode, hregion, hend⟩ := h
  have hups : s.comUpsets n x.upset = s := by rw [hx]; rfl
  simp only [State.busWrite, if_pos hnode, State.ownWrite, hregion, cdRange, if_pos hend, if_true, hups]
theorem InOwnCommons.not_loadNode {ea : Nat} (hn : n < 2) (h : InOwnCommons n ea size) : loadNode ea = false := by
  obtain ⟨hnode, -, -⟩ := h
  simp only [cdNode] at hnode
  simp only [loadNode, Bool.or_eq_false_iff, beq_eq_false_iff_ne]
  omega

end

/-! ### LD and ST of a sequencer -/

section
variable {a : Nat} {i : Ins} {x : BusIn} {s : State}

/-- LD and ST of an s register are of 1, 2 or 4 bytes (R342). -/
theorem memBytes_of_memReg (hl : memLegal i = true) (hr : memReg i < 32) :
    memReg i = i.a.val ∧ (memBytes (i.f 36 34) = 1 ∨ memBytes (i.f 36 34) = 2 ∨ memBytes (i.f 36 34) = 4) := by
  have hlt : i.f 36 34 < 4 := by
    simp only [memLegal, Bool.and_eq_true, decide_eq_true_eq] at hl
    obtain ⟨⟨⟨⟨-, hlt⟩, -⟩, -⟩, -⟩ := hl
    exact hlt
  have hne : i.f 36 34 ≠ 3 := by
    intro h
    rw [memReg, if_pos h] at hr
    omega
  refine ⟨if_neg hne, ?_⟩
  generalize i.f 36 34 = k at hlt hne
  interval_cases k <;> simp_all [memBytes]

/-- An aligned access of 1, 2 or 4 bytes stays within a word of Commons (R342, R452). -/
theorem oneWord_of_aligned {ea size : Nat} (hsize : size = 1 ∨ size = 2 ∨ size = 4) (hal : ea % size = 0) :
    size ≠ 0 ∧ ea % 2 ^ 32 % 8 + size ≤ 8 := by
  obtain rfl | rfl | rfl := hsize <;> omega

/-- The state in which an access of a sequencer reaches the bus: POST has been carried out and the PC moved on. -/
def State.memIssued (s : State) (a : Nat) (i : Ins) : State := (s.postAddr a i).adv a i.x
/-- An aligned LD or ST that nothing keeps from executing reaches the bus (R342). -/
theorem State.seqMem_issued (hl : memLegal i = true) (hr : memReg i < 32)
    (h : s.issues a i [memReg i, 32 + i.b.val, i.c.val]) (hal : (s.effAddr a i).toNat % memBytes (i.f 36 34) = 0)
    (st : Bool) : s.seqMem a i st x =
      (((if st then (s.memIssued a i).seqStore a (s.effAddr a i).toNat (memBytes (i.f 36 34)) (s.sR a i.a).toNat (s.pc a) x
        else (s.memIssued a i).seqLoad a i.a (s.effAddr a i).toNat (memBytes (i.f 36 34)) (s.pc a) x).stepped a).boundary a) := by
  obtain ⟨hreg, -⟩ := memBytes_of_memReg hl hr
  rw [State.seqMem, hl, State.issue_of_issues h]
  rw [hreg] at hr
  simp only [hal, hreg, hr, ne_eq, not_true_eq_false, if_false, if_true, State.memIssued]

theorem State.keeps_memIssued (s : State) (a : Nat) (i : Ins) : Keeps [.agents] s (s.memIssued a i) := by
  simp [State.memIssued, State.postAddr]
/-- POST changes ad[B] before the access (R342). -/
theorem State.adR_memIssued (h : bitOf i.low.toNat 33 = true) :
    (s.memIssued a i).adR a i.b = s.adR a i.b + i.imm.signExtend 40 := by
  have hadv : RegsKept a (s.postAddr a i) (s.memIssued a i) := by simp [State.memIssued]
  rw [hadv.adR, State.postAddr, if_pos h, State.adR_adW_same]
/-- An access that leaves the PC alone has gone on (R281, R349). -/
theorem State.wentOn_memIssued {t : State} (ht : t.pc a = (s.memIssued a i).pc a) : s.wentOn t a i := by
  refine State.wentOn_of_pc (v := s.postAddr a i) ?_ ?_ ht
  · unfold State.postAddr
    split <;> rfl
  · unfold State.postAddr
    split
    · rw [State.adW, State.agent_modAgent_same]
    · rfl

section
variable (hcom : InOwnCommons (sqDie a) (s.effAddr a i).toNat (memBytes (i.f 36 34))) (hx : x.upset = [])
  (hclean : Store.get [] s.comErr (comWord (sqDie a) ((s.effAddr a i).toNat % 2 ^ 32 / 8)) = [])
  (hl : memLegal i = true) (hr : memReg i < 32) (hal : (s.effAddr a i).toNat % memBytes (i.f 36 34) = 0)
include hcom hx hclean hl hr hal

/-- LD from a word of the own Commons without changed bits writes its value to s[A] and nothing else (R342, R345). -/
theorem State.seqLoad_ownCommons (pc : Nat) :
    (s.memIssued a i).seqLoad a i.a (s.effAddr a i).toNat (memBytes (i.f 36 34)) pc x = (s.memIssued a i).sW a i.a
      (BitVec.ofNat 32 (s.ldw (comAddr (sqDie a) ((s.effAddr a i).toNat % 2 ^ 32)) (memBytes (i.f 36 34)))) := by
  obtain ⟨-, hsize⟩ := memBytes_of_memReg hl hr
  have hkeep := s.keeps_memIssued a i
  have herr : (s.memIssued a i).comErr = s.comErr := hkeep .comErr (by decide)
  have hmem : (s.memIssued a i).mem = s.mem := hkeep .mem (by decide)
  have hldn : ∀ b n, (s.memIssued a i).ldn b n = s.ldn b n := fun b n =>
    State.ldn_congr n b fun _ _ _ => by rw [State.ldb, hmem, State.ldb]
  obtain ⟨hsome, hword⟩ := oneWord_of_aligned hsize hal
  have hread := State.comRead_clean hsome hword (by rw [herr]; exact hclean : Store.get [] (s.memIssued a i).comErr
    (comWord (sqDie a) ((s.effAddr a i).toNat % 2 ^ 32 / 8)) = []) (unitMaster (a % 8))
  have hcut : ∀ v, BitVec.ofNat 32 (v % 2 ^ 40) = BitVec.ofNat 32 v := fun v => BitVec.eq_of_toNat_eq (by simp)
  simp only [State.seqLoad, State.busRead_ownCommons hcom hx, hread, hldn, State.regW, i.a.isLt, if_true, hcut, State.ldw,
    Bool.false_eq_true, if_false]
/-- ST to a word of the own Commons without changed bits stores its bytes (R343, R345). -/
theorem State.seqStore_ownCommons (ha : a < 16) (v pc : Nat) :
    let u := (s.memIssued a i).seqStore a (s.effAddr a i).toNat (memBytes (i.f 36 34)) v pc x
    u.mem = (s.stn (comAddr (sqDie a) ((s.effAddr a i).toNat % 2 ^ 32)) (toBytes (memBytes (i.f 36 34)) v)).mem ∧
      Keeps [.mem, .comErr] (s.memIssued a i) u ∧ u.fld = (s.memIssued a i).fld := by
  obtain ⟨-, hsize⟩ := memBytes_of_memReg hl hr
  have hkeep := s.keeps_memIssued a i
  have herr : (s.memIssued a i).comErr = s.comErr := hkeep .comErr (by decide)
  have hmem : (s.memIssued a i).mem = s.mem := hkeep .mem (by decide)
  have hfar := hcom.not_loadNode (by unfold sqDie; omega)
  have hclean' : Store.get [] (s.memIssued a i).comErr (comWord (sqDie a) ((s.effAddr a i).toNat % 2 ^ 32 / 8)) = [] := by
    rw [herr]; exact hclean
  obtain ⟨hsome, hword⟩ := oneWord_of_aligned hsize hal
  have hwrite := State.comWrite_clean (data := toBytes (memBytes (i.f 36 34)) v) (by rwa [toBytes_length])
    (by rwa [toBytes_length]) (.inl hclean') (unitMaster (a % 8))
  simp only [State.seqStore, State.busWrite_ownCommons hcom hx, hfar, Bool.false_eq_true, if_false, hwrite]
  refine ⟨?_, by simp, ?_⟩
  · refine State.mem_stn_congr ?_ _ _
    exact hmem
  · exact State.fld_stn _ _ _

end

end

end Sys2Proof.Machine
end

section
/-! SUPPORT. Accesses of sequencers, of the host and of debug, and an access without an answer (R9, R38, R46, R49, R256,
R342 to R345). -/

namespace Sys2Proof.Machine

/-! ### LD and ST -/

section
variable {a : Fin 48} {ins : Ins} {x : BusIn} {s : State} (ha : a.val < 16) (hl : memLegal ins = true)
  (hr : memReg ins < 32) (hiss : s.issues a ins [memReg ins, 32 + ins.b.val, ins.c.val])
  (hal : (s.effAddr a ins).toNat % memBytes (ins.f 36 34) = 0)
  (hcom : InOwnCommons (sqDie a) (s.effAddr a ins).toNat (memBytes (ins.f 36 34))) (hx : x.upset = [])
  (hclean : Store.get [] s.comErr (comWord (sqDie a) ((s.effAddr a ins).toNat % 2 ^ 32 / 8)) = [])
include ha hl hr hiss hal hcom hx hclean

theorem ld_ownCommons_shows (h0 : ins.a ≠ 0) : ∃ t, exec (.ld a ins x) s = .next t ∧
    t.sR a ins.a = BitVec.ofNat 32 (s.ldw (comAddr (sqDie a) ((s.effAddr a ins).toNat % 2 ^ 32))
      (memBytes (ins.f 36 34))) ∧ t.mem = s.mem ∧
    (bitOf ins.low.toNat 33 = true → t.adR a ins.b = s.adR a ins.b + ins.imm.signExtend 40) ∧ s.wentOn t a ins := by
  have hsq : isSq a = true := decide_eq_true ha
  set w := BitVec.ofNat 32 (s.ldw (comAddr (sqDie a) ((s.effAddr a ins).toNat % 2 ^ 32)) (memBytes (ins.f 36 34))) with hw
  set v := (s.memIssued a ins).sW a ins.a w with hv
  have hexec : exec (.ld a ins x) s = .next ((v.stepped a).boundary a).settle := by
    show execLd a ins x s = _
    simp only [execLd, done, hsq, if_true, State.seqMem_issued hl hr hiss hal, Bool.false_eq_true, if_false,
      State.seqLoad_ownCommons hcom hx hclean hl hr hal, hv, hw]
  have hregs : RegsKept a v ((v.stepped a).boundary a).settle := by simp
  have hkeep : Keeps [.agents, .waitq] s ((v.stepped a).boundary a).settle := by
    simpa [hv] using (s.keeps_memIssued a ins).weaken (by simp)
  refine ⟨_, hexec, ?_, hkeep .mem (by decide), fun hpost => ?_, State.wentOn_memIssued ?_⟩
  · rw [hregs.sR, hv, State.sR_sW_same fun h => h0 (Fin.ext h)]
  · rw [hregs.adR, hv, State.adR_sW, State.adR_memIssued hpost]
  · simp [hv, State.pc_sW]

theorem st_ownCommons_shows : ∃ t, exec (.st a ins x) s = .next t ∧
    t.mem = (s.stn (comAddr (sqDie a) ((s.effAddr a ins).toNat % 2 ^ 32)) (toBytes (memBytes (ins.f 36 34))
      (s.sR a ins.a).toNat)).mem ∧
    (bitOf ins.low.toNat 33 = true → t.adR a ins.b = s.adR a ins.b + ins.imm.signExtend 40) ∧ s.wentOn t a ins := by
  have hsq : isSq a = true := decide_eq_true ha
  obtain ⟨hmem, hkept, hfld⟩ := State.seqStore_ownCommons hcom hx hclean hl hr hal ha (s.sR a ins.a).toNat (s.pc a)
  set v := (s.memIssued a ins).seqStore a (s.effAddr a ins).toNat (memBytes (ins.f 36 34)) (s.sR a ins.a).toNat (s.pc a) x
  have hexec : exec (.st a ins x) s = .next ((v.stepped a).boundary a).settle := by
    show execSt a ins x s = _
    simp only [execSt, done, hsq, if_true, State.seqMem_issued hl hr hiss hal, v]
  have hregs : RegsKept a v ((v.stepped a).boundary a).settle := by simp
  have hkeep : Keeps [.agents, .waitq] v ((v.stepped a).boundary a).settle := by simp
  refine ⟨_, hexec, (hkeep .mem (by decide)).trans hmem, fun hpost => ?_, State.wentOn_memIssued ?_⟩
  · rw [hregs.adR, State.adR_congr (hkept .agents (by decide)), State.adR_memIssued hpost]
  · simp only [State.pc_settle, State.pc_boundary, State.pc_stepped]
    exact State.rd_congr hfld _ _

end

/-! ### A host write of INT_EN (R9, R46) -/

theorem Store.get_foldl_insert_other {ν : Type} (d : ν) (g : Nat → Nat) (l m : Store ν) (k : Nat)
    (h : ∀ e ∈ l, k ≠ g e.1) : Store.get d (l.foldl (fun a e => Store.insert a (g e.1) e.2) m) k = Store.get d m k := by
  induction l generalizing m with
  | nil => rfl
  | cons e l ih =>
    rw [List.foldl_cons, ih _ fun e he => h e (List.mem_cons_of_mem _ he),
      Store.get_insert_other _ _ _ _ _ (h e (by simp))]

/-- A copy of a range leaves every key outside its target alone. -/
theorem Store.get_copyTo_other {ν : Type} (d : ν) (m : Store ν) (lo hi p k : Nat) (h : k < p ∨ p + (hi - lo) ≤ k) :
    Store.get d (Store.copyTo m lo hi p) k = Store.get d m k := by
  unfold Store.copyTo
  rw [Store.get_foldl_insert_other d (fun k => p + (k - lo)), Store.get_clear_other d m _ _ _ h]
  intro e he
  have hin := (List.mem_filter.1 he).2
  simp only [Bool.and_eq_true, decide_eq_true_eq] at hin
  omega

/-- The mirror copies a register to the other die (R430). -/
theorem State.rd_mirWrite {n : Nat} (hn : n < 2) {f : Fld} (hf : f.off < 2 ^ 32 ∧ f.lo < 32) {o : Nat} (ho : o < 2 ^ 32)
    (s : State) : (s.mirWrite n o).rd (cd n) f = s.rd (cd n) f := by
  unfold State.mirWrite
  split
  · refine Store.get_copyTo_other _ _ _ _ _ _ ?_
    simp only [fkey, cd]
    omega
  · rfl

/-- A write of INT_EN by the registers' access codes (R9). -/
theorem State.rd_cdPlain_intEn (s : State) (n v : Nat) :
    (s.cdPlain n 0x1004 v 0).rd (cd n) R.INT_EN_EN = v % 2 ^ 16 := by
  have hreg : findReg cdRegs 0x1004 = some (⟨0x1004, 0, 1, [(R.INT_EN_EN, .rw)]⟩, 0) := by decide +kernel
  simp [State.cdPlain, State.plainWrite, State.sameSet, State.regStore, hreg, State.fieldWrite, Fld.at, bits]

/-- An INT_EN write of the host to the active die (R9, R46). -/
theorem intEnWrite_shows (n : Fin 2) (v : Nat) (x : BusIn) {s : State} (hact : s.isActive n = true)
    (hup : (s.cdx n).hostUp = true) (hmain : (s.cdx n).mainUp = true) (hx : x.same = 0) :
    ∃ t, exec (.registerWrite n true 0x300001004 4 v x) s = .next t ∧ t.rsp = .ok 0 ∧
      t.rd (cd n) R.INT_EN_EN = v % 2 ^ 16 := by
  have hkey : ∀ n : Fin 2, fkey (cd n) R.INT_EN_EN ∉ settleKeys := by decide
  have hrange : cdRange 3 0x1004 4 = none := by decide
  have hreg : s.cdWrite n (unitCode n 0xB) 0x1004 (v % 2 ^ 32) x.same x.hostErr x.moved x.hist =
      (s.cdPlain n 0x1004 (v % 2 ^ 32) 0).mirWrite n 0x1004 := by simp [State.cdWrite, hmain, State.sysWrite, hx]
  have hown : s.ownWrite n 0xB 3 0x1004 4 v x = ((s.cdPlain n 0x1004 (v % 2 ^ 32) 0).mirWrite n 0x1004, .ok 0 false) := by
    simp only [State.ownWrite, hrange, hreg]
    rfl
  have hend : s.hostWrite n 3 0x1004 4 v x =
      { (s.cdPlain n 0x1004 (v % 2 ^ 32) 0).mirWrite n 0x1004 with rsp := .ok 0 } := by
    simp [State.hostWrite, hup, hact, State.bar0Write, hown, State.busEnd]
  have hexec : exec (.registerWrite n true 0x300001004 4 v x) s = .next (s.hostWrite n 3 0x1004 4 v x).settle := rfl
  refine ⟨_, hexec, by rw [State.settle_rsp, hend], ?_⟩
  rw [State.settle_rd _ _ _ (hkey n), hend]
  exact (State.rd_mirWrite n.isLt (by decide) (by decide) _).trans
    ((State.rd_cdPlain_intEn _ _ _).trans (Nat.mod_mod_of_dvd _ (by decide)))

/-! ### A debug write to Commons (R49) -/

theorem debugWrite_commons_shows (n : Fin 2) (o : Fin (2 ^ 21)) (v : Nat) (x : BusIn) {s : State}
    (hopen : s.dbgOpen n = true) (hmain : (s.cdx n).mainUp = true) (hx : x.upset = []) :
    ∃ t, exec (.registerWrite n false (BitVec.ofNat 40 (comAddr n (8 * o))) 8 v x) s = .next t ∧ t.rsp = .ok 0 ∧
      t.mem = (s.stn (comAddr n (8 * o)) (toBytes 8 v)).mem := by
  have haddr : (BitVec.ofNat 40 (comAddr n (8 * o))).toNat = comAddr n (8 * o) := by
    simp only [comAddr, BitVec.toNat_ofNat]
    omega
  have hlow : comAddr n (8 * o) % 2 ^ 32 = 8 * o := by simp only [comAddr]; omega
  have hcom : InOwnCommons n (comAddr n (8 * o)) 8 := by
    simp only [InOwnCommons, comAddr, cdNode]
    omega
  have hword := State.comWrite_clean (s := s) (n := n) (o := 8 * o) (data := toBytes 8 v) (by rw [toBytes_length]; decide)
    (by rw [toBytes_length]; omega) (.inr (toBytes_length 8 v)) (unitMaster 0xA)
  have hexec : exec (.registerWrite n false (BitVec.ofNat 40 (comAddr n (8 * o))) 8 v x) s =
      .next (s.debugWrite n (comAddr n (8 * o)) 8 v x).settle := by
    simp only [exec, execRegisterWrite, haddr, done, Bool.false_eq_true, if_false]
    rfl
  have hwrite : s.debugWrite n (comAddr n (8 * o)) 8 v x =
      { s.comWrite n (unitMaster 0xA) (8 * o) (toBytes 8 v) with rsp := .ok 0 } := by
    rw [State.debugWrite, hopen, hmain, State.busWrite_ownCommons hcom hx, hlow]
    rfl
  refine ⟨_, hexec, by rw [State.settle_rsp, hwrite], ?_⟩
  rw [State.settle_mem, hwrite]
  show (s.comWrite n (unitMaster 0xA) (8 * o) (toBytes 8 v)).mem = _
  rw [hword]
  exact State.mem_stn_congr rfl _ _

/-! ### An access without an answer (R46) -/

/-- The first error of ADDR_ERR is captured with its kind (R54, R56). -/
theorem State.addrErr_shows (s : State) (n kind init : Nat) (write : Bool) (addr : Nat) :
    (s.addrErr n kind init write addr).flag (cd n) R.ADDR_ERR_HI_VALID = true ∧
      (s.flag (cd n) R.ADDR_ERR_HI_VALID = false →
        (s.addrErr n kind init write addr).rd (cd n) R.ADDR_ERR_HI_KIND = kind % 8) := by
  have hvalid := State.flag_capture (b := cd n) (off := R.ADDR_ERR_HI_VALID.off) (stride := 0)
    (l := [(cd n, R.ADDR_ERR_HI_KIND, kind), (cd n, R.ADDR_ERR_HI_INIT, init), (cd n, R.ADDR_ERR_HI_WRITE, b2n write),
    (cd n, R.ADDR_ERR_HI_ADDR_HI, addr / 2 ^ 32), (cd n, R.ADDR_ERR_LO_ADDR_LO, addr % 2 ^ 32)])
    (by simp [fkey]; omega) s
  refine ⟨?_, fun hfirst => ?_⟩
  · unfold State.addrErr
    dsimp only
    split
    · exact hvalid
    · rw [State.flag, State.sysEvent, State.rd_raise_ne (by simp) (by simp)]
      exact hvalid
  · simp only [State.addrErr, hfirst, Bool.false_eq_true, if_false, State.sysEvent, State.capture,
      List.foldl_cons, List.foldl_nil]
    simp

theorem noResponse_shows (n : Fin 2) {u addr : Nat} {write : Bool} {rest : List (Nat × Bool × Nat)} {s : State}
    (hwait : (s.cdx n).waitAcc = (u, write, addr) :: rest) (hu : 8 ≤ u) :
    ∃ t, exec (.noResponseTimeout n) s = .next t ∧ t.rsp = .error 5 ∧ (t.cdx n).waitAcc = rest ∧
      t.flag (cd n) R.ADDR_ERR_HI_VALID = true ∧
      (s.flag (cd n) R.ADDR_ERR_HI_VALID = false → t.rd (cd n) R.ADDR_ERR_HI_KIND = 5) := by
  have hkey : ∀ n : Fin 2, fkey (cd n) R.ADDR_ERR_HI_VALID ∉ settleKeys ∧ fkey (cd n) R.ADDR_ERR_HI_KIND ∉ settleKeys := by
    decide
  set u' := (s.modCd n fun c => { c with waitAcc := rest }).addrErr n 5 (unitCode n u) write addr with hu'
  obtain ⟨hvalid, hkind⟩ := (s.modCd n fun c => { c with waitAcc := rest }).addrErr_shows n 5 (unitCode n u) write addr
  have hkeep : Keeps [] (s.modCd n fun c => { c with waitAcc := rest }) u' := by simp [hu', State.addrErr]
  have hexec : exec (.noResponseTimeout n) s = .next ({ u' with rsp := .error 5 } : State).settle := by
    show execNoResponseTimeout n s = _
    simp only [execNoResponseTimeout, done, hwait, if_pos hu, hu']
  refine ⟨_, hexec, State.settle_rsp _, ?_, ?_, fun hfirst => ?_⟩
  · rw [State.cdx, State.settle_cds]
    show (Store.get _ u'.cds _).waitAcc = rest
    rw [show u'.cds = _ from hkeep .cds (by decide)]
    simp [State.modCd]
  · rw [State.flag, State.settle_rd _ _ _ (hkey n).1]
    exact hvalid
  · rw [State.settle_rd _ _ _ (hkey n).2]
    exact hkind hfirst

/-- Settles O33: an access of one word to the own Commons reads or stores its bytes, and each other access ends by the
registers' codes, by the debug port's path or by the log of addresses. -/
theorem accessesOnTheBus : Obligations.AccessesOnTheBus := by
  unfold Obligations.AccessesOnTheBus
  refine ⟨fun a ins x s h0 ha hl hr hiss hal hnode hregion hend hx hclean => ?_,
    fun a ins x s ha hl hr hiss hal hnode hregion hend hx hclean => ?_, fun n v x s => ?_,
    fun n o v x s => debugWrite_commons_shows n o v x, fun n u addr write rest s => noResponse_shows n⟩
  · exact ld_ownCommons_shows ha hl hr hiss hal ⟨hnode, hregion, hend⟩ hx hclean h0
  · exact st_ownCommons_shows ha hl hr hiss hal ⟨hnode, hregion, hend⟩ hx hclean
  · exact intEnWrite_shows n v x

end Sys2Proof.Machine
end

section
/-! SUPPORT. Work orders at a Stack die (R258, R275 to R277): the checks an order passes, the queue of a wing, and the answers,
which change no register. -/

namespace Sys2Proof.Machine

section
variable {d w : Nat} {m : Msg} {s t : State}

/-! ### Taking a WORK message -/

theorem State.takeWork_head {p : Nat → Bool} (hm : s.inbox.head? = some m) (hty : m.ty = 0x01) (hdn : m.dn = sdNode d)
    (hp : p (bits m.m0 15 12) = true) : s.takeWork d p = some (m, s.taken) :=
  State.takeMsg_head hm (by simp [hty, hdn, hp])

/-- An order that passes the checks of R275 is carried out. -/
theorem State.workCheck_passed (hsn : m.sn = 1 ∨ m.sn = 2) (hgood : workBad m = false)
    (hep : bits m.m0 31 16 = s.rd (sd d) R.SD_EPOCH_EPOCH) (hnode : m.sn = s.rd (sd d) R.SD_EPOCH_NODE)
    (go : State → State) : s.workCheck d m go = go s := by
  rw [State.workCheck, if_neg (by omega), if_neg (by simp [hgood]), if_neg (not_or.2 ⟨not_not.2 hep, not_not.2 hnode⟩),
    ite_self]
/-- A CLAIM is not held to the accepted epoch (R275). -/
theorem State.workCheck_claim (hsn : m.sn = 1 ∨ m.sn = 2) (hgood : workBad m = false) (hkind : bits m.m0 15 12 = 4)
    (go : State → State) : s.workCheck d m go = go s := by
  rw [State.workCheck, if_neg (by omega), if_neg (by simp [hgood]), if_pos hkind]

/-- An order for a wing names one of eight (R275 check 2). -/
theorem du_lt_of_workBad (hgood : workBad m = false) (hkind : bits m.m0 15 12 = 1 ∨ bits m.m0 15 12 = 2 ∨ bits m.m0 15 12 = 3) :
    m.du < 8 := by
  simp only [workBad, Bool.or_eq_false_iff] at hgood
  obtain ⟨-, hgood⟩ := hgood
  obtain h | h | h := hkind <;> simp only [h, Bool.or_eq_false_iff, decide_eq_false_iff_not] at hgood
  · obtain ⟨⟨⟨⟨hdu, -⟩, -⟩, -⟩, -⟩ := hgood
    omega
  · obtain ⟨⟨⟨⟨⟨hdu, -⟩, -⟩, -⟩, -⟩, -⟩ := hgood
    omega
  · obtain ⟨⟨⟨hdu, -⟩, -⟩, -⟩ := hgood
    omega

/-! ### A wing's registers and its queue -/

theorem wcDie_wcix (hw : w < 8) : wcDie (wcix d w) = d := by
  simp only [wcDie, wcix, wix]
  omega
theorem wcWing_wcix (hw : w < 8) : wcWing (wcix d w) = w := by
  simp only [wcWing, wcix, wix]
  omega
theorem agBase_wcix (hw : w < 8) : agBase (wcix d w) = wg d w := by
  rw [agBase_wing (isSq_wcix d w), wcDie_wcix hw, wcWing_wcix hw]

theorem State.wingx_modWing_other {i j : Nat} (h : j ≠ i) (f : WingX → WingX) : (s.modWing i f).wingx j = s.wingx j := by
  simp [State.wingx, State.modWing, Store.get_put_other _ _ _ _ _ _ h]
theorem State.starts_startQ (s : State) (d w i : Nat) (f : List WorkOrd → List WorkOrd) :
    ((s.startQ d w f).wingx i).starts = if i = wix d w then f (s.wingx i).starts else (s.wingx i).starts := by
  rw [State.startQ, State.wingx_wr]
  split
  next h => rw [h, State.wingx_modWing_same]
  next h => rw [State.wingx_modWing_other h]
/-- WC_STAT.QDEPTH counts the queue (R276). -/
theorem State.qdepth_startQ (s : State) (d w : Nat) (f : List WorkOrd → List WorkOrd) :
    (s.startQ d w f).rd (wg d w) R.WC_STAT_QDEPTH = (f (s.wingx (wix d w)).starts).length % 8 := by
  rw [State.startQ, State.rd_wr_same, State.wingx_modWing_same]
  rfl

/-! ### Answers (R278) -/

theorem State.fld_linkPump (s : State) (k : Nat) : (s.linkPump k).fld = s.fld := by
  unfold State.linkPump
  split <;> rfl
theorem State.fld_opFault (s : State) (m : Msg) (code : Nat) : (s.opFault m code).fld = s.fld := by
  unfold State.opFault
  split <;> rfl
/-- A message that waits for its unit changes no register on its way. -/
theorem State.fld_send (hty : m.ty ≠ 0x02 ∧ m.ty ≠ 0x04) (s : State) : (s.send m).fld = s.fld := by
  obtain ⟨hsem, herr⟩ := hty
  unfold State.send State.forward
  split
  · rw [State.deliver, if_neg hsem, if_neg herr]
    split <;> rfl
  · split
    · exact State.fld_linkPump _ _
    · exact State.fld_opFault _ _ _
theorem State.fld_sendDone (s : State) (d unit dst : Nat) (o : WorkOrd) (status fault : Nat) (data : List Byte) :
    (s.sendDone d unit dst o status fault data).fld = s.fld := State.fld_send ⟨by simp, by simp⟩ s
theorem State.keeps_answered (s : State) (d unit dst : Nat) (o : WorkOrd) (status fault : Nat) (data : List Byte) :
    Keeps [.agents, .sems, .ports, .inbox] s (s.sendDone d unit dst o status fault data) := by simp
theorem State.wingx_sendDone (s : State) (d unit dst : Nat) (o : WorkOrd) (status fault : Nat) (data : List Byte) (i : Nat) :
    (s.sendDone d unit dst o status fault data).wingx i = s.wingx i := by
  have hwings := s.keeps_answered d unit dst o status fault data .wings (by decide)
  simp only [State.same] at hwings
  rw [State.wingx, hwings, State.wingx]

end

/-! ### What leaves the queues and the accepted epoch alone -/

/-- From `s` to `t` no queue of orders and no epoch that a Stack die accepts has changed. -/
def OrdersKept (s t : State) : Prop :=
  (∀ i, (t.wingx i).starts = (s.wingx i).starts) ∧
    ∀ d, t.rd (sd d) R.SD_EPOCH_EPOCH = s.rd (sd d) R.SD_EPOCH_EPOCH ∧ t.rd (sd d) R.SD_EPOCH_NODE = s.rd (sd d) R.SD_EPOCH_NODE

section
variable {a : Nat} {s t u : State}

@[simp] theorem OrdersKept.refl (s : State) : OrdersKept s s := ⟨fun _ => rfl, fun _ => ⟨rfl, rfl⟩⟩
theorem OrdersKept.congr_right (h : OrdersKept t u) : OrdersKept s u ↔ OrdersKept s t := by
  obtain ⟨hstarts, hepoch⟩ := h
  constructor <;> rintro ⟨hs, he⟩ <;> refine ⟨fun i => ?_, fun d => ?_⟩
  · rw [← hstarts, hs]
  · rw [← (hepoch d).1, ← (hepoch d).2]
    exact he d
  · rw [hstarts, hs]
  · rw [(hepoch d).1, (hepoch d).2]
    exact he d
theorem OrdersKept.of_eq (hf : u.fld = t.fld) (hw : u.wings = t.wings) : OrdersKept s u ↔ OrdersKept s t :=
  OrdersKept.congr_right ⟨fun i => by rw [State.wingx, hw, State.wingx], fun d =>
    ⟨State.rd_congr hf _ _, State.rd_congr hf _ _⟩⟩
@[simp ↓] theorem OrdersKept.ite {c : Prop} [Decidable c] :
    OrdersKept s (if c then t else u) ↔ if c then OrdersKept s t else OrdersKept s u := by split <;> rfl
@[simp] theorem OrdersKept.foldl {β : Type} {g : State → β → State} (l : List β)
    (h : ∀ u x, OrdersKept s (g u x) ↔ OrdersKept s u) : OrdersKept s (l.foldl g t) ↔ OrdersKept s t := by
  induction l generalizing t with
  | nil => rfl
  | cons x xs ih => exact ih.trans (h t x)

@[simp] theorem State.ordersKept_modAgent (b : Nat) (f : Agent → Agent) : OrdersKept s (t.modAgent b f) ↔ OrdersKept s t :=
  OrdersKept.of_eq rfl rfl
@[simp] theorem State.ordersKept_modSd (d : Nat) (f : SdX → SdX) : OrdersKept s (t.modSd d f) ↔ OrdersKept s t :=
  OrdersKept.of_eq rfl rfl
@[simp] theorem State.ordersKept_modWing {f : WingX → WingX} (hf : ∀ x, (f x).starts = x.starts) (i : Nat) :
    OrdersKept s (t.modWing i f) ↔ OrdersKept s t := by
  refine OrdersKept.congr_right ⟨fun j => ?_, fun _ => ⟨rfl, rfl⟩⟩
  by_cases h : j = i
  · rw [h, State.wingx_modWing_same, hf]
  · rw [State.wingx_modWing_other h]
@[simp] theorem State.ordersKept_sendDone (d unit dst : Nat) (o : WorkOrd) (status fault : Nat) (data : List Byte) :
    OrdersKept s (t.sendDone d unit dst o status fault data) ↔ OrdersKept s t :=
  OrdersKept.of_eq (t.fld_sendDone ..) (t.keeps_answered d unit dst o status fault data .wings (by decide))
@[simp] theorem State.ordersKept_claimCheck (d : Nat) : OrdersKept s (t.claimCheck d) ↔ OrdersKept s t := by
  simp [State.claimCheck]

/-! ### The end of a wing's program -/

/-- A step of a wing's control changes no register of the die (R37). -/
theorem Aside.ordersKept (h : Aside reportBits a t u) : OrdersKept s u ↔ OrdersKept s t := by
  have hkey : ∀ d, ∀ f ∈ [R.SD_EPOCH_EPOCH, R.SD_EPOCH_NODE], ¬ wingKey reportBits (wcDie a) (wcWing a) (fkey (sd d) f) ∧
      fkey (sd d) f ∉ settleKeys := by
    intro d f hf
    have hoff : 0x500 * 32 ≤ fkey 0 f ∧ fkey 0 f < 0x501 * 32 :=
      (by decide : ∀ f ∈ [R.SD_EPOCH_EPOCH, R.SD_EPOCH_NODE], 0x500 * 32 ≤ fkey 0 f ∧ fkey 0 f < 0x501 * 32) f hf
    have hsettle : ∀ k ∈ settleKeys, k < 4 * 2 ^ 36 * 32 := by decide
    refine ⟨?_, fun hin => ?_⟩
    · rintro ⟨hle, hq⟩
      simp only [reportBits, Bool.and_eq_true, decide_eq_true_eq] at hq
      simp only [fkey, wg, sd, wcWing] at hoff hle hq
      omega
    · have := hsettle _ hin
      simp only [fkey, sd] at this
      omega
  have hwings : u.wings = t.wings := h.same (p := .wings) (by decide)
  exact OrdersKept.congr_right ⟨fun i => by rw [State.wingx, hwings, State.wingx], fun d =>
    ⟨h.2 _ (hkey d _ (by simp)).1 (hkey d _ (by simp)).2 _, h.2 _ (hkey d _ (by simp)).1 (hkey d _ (by simp)).2 _⟩⟩

section
variable (ha : isSq a = false)
include ha

@[simp] theorem State.ordersKept_stopNow : OrdersKept s (t.stopNow a) ↔ OrdersKept s t :=
  Aside.ordersKept ((State.aside_stopNow ha reports_reportBits).2 (InWing.refl ..))
/-- The end of a wing's program is answered and may answer CLAIMs (R266, R277). -/
@[simp] theorem State.ordersKept_progEnd (e : Ending) : OrdersKept s (t.progEnd a e) ↔ OrdersKept s t := by
  have hstate : ∀ v, OrdersKept s (t.setAgState a v) ↔ OrdersKept s t := fun v =>
    Aside.ordersKept ((State.aside_setAgState ha reports_reportBits v).2 (InWing.refl ..))
  have hreq : ∀ (u : State) v, OrdersKept s (u.wr (agBase a) (fStopReq a) v) ↔ OrdersKept s u := fun u v => by
    refine Aside.ordersKept (a := a) ?_
    rw [agBase_wing ha, fStopReq, if_neg (by simp [ha])]
    exact (State.inWing_wr (by decide) v).2 (InWing.refl ..)
  unfold State.progEnd
  simp only [ha, Bool.false_eq_true, if_false]
  split <;> simp [hstate, hreq]
@[simp] theorem State.ordersKept_progCheck : OrdersKept s (t.progCheck a) ↔ OrdersKept s t := by
  unfold State.progCheck
  split
  · rfl
  · split <;> simp [ha]

end

/-! ### CLAIM (R277) -/

/-- A CLAIM empties a wing's queue and leaves the accepted epoch alone. -/
theorem State.claimWing_shows (s : State) (d w node : Nat) :
    (∀ i, ((s.claimWing d w node).wingx i).starts = if i = wix d w then [] else (s.wingx i).starts) ∧
      ∀ e, (s.claimWing d w node).rd (sd e) R.SD_EPOCH_EPOCH = (s.startQ d w fun _ => []).rd (sd e) R.SD_EPOCH_EPOCH ∧
        (s.claimWing d w node).rd (sd e) R.SD_EPOCH_NODE = (s.startQ d w fun _ => []).rd (sd e) R.SD_EPOCH_NODE := by
  have hkept : OrdersKept (s.startQ d w fun _ => []) (s.claimWing d w node) := by
    simp [State.claimWing, isSq_wcix]
  obtain ⟨hstarts, hepoch⟩ := hkept
  refine ⟨fun i => ?_, hepoch⟩
  rw [hstarts, State.starts_startQ]

end

/-- After a CLAIM no wing it has reached has a queued order, and the accepted epoch is as before (R277). -/
theorem State.claimWings_shows (s : State) (d node : Nat) (l : List Nat) :
    (∀ w, (w ∈ l ∨ (s.wingx (wix d w)).starts = []) →
      ((l.foldl (fun s w => s.claimWing d w node) s).wingx (wix d w)).starts = []) ∧
    ((∀ w ∈ l, w < 8) → ∀ e,
      (l.foldl (fun s w => s.claimWing d w node) s).rd (sd e) R.SD_EPOCH_EPOCH = s.rd (sd e) R.SD_EPOCH_EPOCH ∧
      (l.foldl (fun s w => s.claimWing d w node) s).rd (sd e) R.SD_EPOCH_NODE = s.rd (sd e) R.SD_EPOCH_NODE) := by
  induction l generalizing s with
  | nil => exact ⟨fun w h => h.resolve_left (by simp), fun _ _ => ⟨rfl, rfl⟩⟩
  | cons v l ih =>
    obtain ⟨hstarts, hepoch⟩ := s.claimWing_shows d v node
    obtain ⟨hempty, hkept⟩ := ih (s.claimWing d v node)
    refine ⟨fun w hw => hempty w ?_, fun hl e => ?_⟩
    · rw [hstarts]
      split
      · exact .inr rfl
      next hne => exact hw.imp (fun h => (List.mem_cons.1 h).resolve_left fun he => hne (by rw [he])) id
    · have hv := hl v (by simp)
      obtain ⟨hepo, hnod⟩ := hkept (fun w hw => hl w (by simp [hw])) e
      obtain ⟨hepo', hnod'⟩ := hepoch e
      have hq : ∀ f ∈ [R.SD_EPOCH_EPOCH, R.SD_EPOCH_NODE], (s.startQ d v fun _ => []).rd (sd e) f = s.rd (sd e) f := by
        intro f hf
        have hoff : f.off < 2 ^ 32 ∧ f.lo < 32 :=
          (by decide : ∀ f ∈ [R.SD_EPOCH_EPOCH, R.SD_EPOCH_NODE], f.off < 2 ^ 32 ∧ f.lo < 32) f hf
        exact State.rd_wr_other _ _ _ _ _ _ (fkey_sd_ne_wg hoff (by decide) _ _ _ hv)
      exact ⟨by rw [List.foldl_cons, hepo, hepo', hq _ (by simp)], by rw [List.foldl_cons, hnod, hnod', hq _ (by simp)]⟩

/-! ### Orders that pass (R275, R276) -/

section
variable (d : Fin 4) {m : Msg} {s : State} (hm : s.inbox.head? = some m) (hty : m.ty = 0x01) (hdn : m.dn = sdNode d)
  (hsn : m.sn = 1 ∨ m.sn = 2) (hgood : workBad m = false)
include hm hty hdn hsn hgood

section
variable (hep : bits m.m0 31 16 = s.rd (sd d) R.SD_EPOCH_EPOCH) (hnode : m.sn = s.rd (sd d) R.SD_EPOCH_NODE)
include hep hnode

theorem workStart_shows (hkind : bits m.m0 15 12 = 1) (hroom : (s.wingx (wix d m.du)).starts.length < 4) :
    ∃ t, exec (.workStart d) s = .next t ∧
      (t.wingx (wix d m.du)).starts = (s.wingx (wix d m.du)).starts ++ [{ orderOf m with
        entry := bits (m.word 0) 11 0, args := (List.range (bits (m.word 0) 19 16)).map (fun i => m.word (1 + i)) }] ∧
      t.rd (wg d m.du) R.WC_STAT_QDEPTH = (s.wingx (wix d m.du)).starts.length + 1 ∧ t.inbox = s.inbox.tail := by
  have hroom' : ¬ 4 ≤ (s.taken.wingx (wix d m.du)).starts.length := Nat.not_le.2 hroom
  have hexec : exec (.workStart d) s = .next (s.taken.startQ d m.du (· ++ [{ orderOf m with
      entry := bits (m.word 0) 11 0, args := (List.range (bits (m.word 0) 19 16)).map (fun i => m.word (1 + i)) }])).settle := by
    show execWorkStart d s = _
    rw [execWorkStart, State.takeWork_head hm hty hdn (by simp [hkind])]
    simp only [State.workCheck_passed (s := s.taken) hsn hgood hep hnode, if_neg hroom', done]
  refine ⟨_, hexec, ?_, ?_, State.settle_inbox _⟩
  · rw [State.wingx_settle, State.starts_startQ, if_pos rfl]
    rfl
  · rw [State.rd_settle_wg, State.qdepth_startQ]
    show ((s.wingx (wix d m.du)).starts ++ _).length % 8 = _
    rw [List.length_append, List.length_singleton]
    omega

theorem workLoadprog_shows (hkind : bits m.m0 15 12 = 2) (hidle : s.agState (wcix d m.du) = 0)
    (hnone : (s.wingx (wix d m.du)).starts = []) : ∃ t, exec (.workLoadprog d) s = .next t ∧
      t.mem = (s.stn (wpsKey d m.du (bits (m.word 0) 11 0)) (m.data.drop 16)).mem := by
  have hfree : ¬ (s.taken.agState (wcix d m.du) ≠ 0 ∨ (s.taken.wingx (wix d m.du)).starts ≠ []) :=
    not_or.2 ⟨not_not.2 hidle, not_not.2 hnone⟩
  have hexec : exec (.workLoadprog d) s = .next ((s.taken.stn (wpsKey d m.du (bits (m.word 0) 11 0))
      (m.data.drop 16)).sendDone d m.du m.sn (orderOf m) 0 0 []).settle := by
    show execWorkLoadprog d s = _
    rw [execWorkLoadprog, State.takeWork_head hm hty hdn (by simp [hkind])]
    simp only [State.workCheck_passed (s := s.taken) hsn hgood hep hnode, if_neg hfree, done]
  refine ⟨_, hexec, ?_⟩
  rw [State.settle_mem]
  exact (State.keeps_answered _ _ _ _ _ _ _ _ .mem (by decide)).trans (State.mem_stn_congr (s := s) (t := s.taken) rfl _ _)

theorem workStop_queued_shows {o : WorkOrd} (hkind : bits m.m0 15 12 = 3)
    (hfind : (s.wingx (wix d m.du)).starts.find? (fun o => o.msg1 / 65536 == bits (m.word 0) 15 0 && o.node == m.sn &&
      o.unit == m.su) = some o) : ∃ t, exec (.workStop d) s = .next t ∧
      (t.wingx (wix d m.du)).starts = (s.wingx (wix d m.du)).starts.erase o := by
  have hexec : exec (.workStop d) s = .next (((s.taken.startQ d m.du (·.erase o)).sendDone d m.du o.node o 3 0 []).sendDone
      d m.du m.sn (orderOf m) 0 0 []).settle := by
    have hfind' := hfind
    show execWorkStop d s = _
    rw [execWorkStop, State.takeWork_head hm hty hdn (by simp [hkind])]
    rw [show s.wingx (wix d m.du) = s.taken.wingx (wix d m.du) from rfl] at hfind'
    simp only [State.workCheck_passed (s := s.taken) hsn hgood hep hnode, hfind', done]
  refine ⟨_, hexec, ?_⟩
  rw [State.wingx_settle, State.wingx_sendDone, State.wingx_sendDone, State.starts_startQ, if_pos rfl]
  rfl

/-- A STOP of the running order sets the stop request, which ends at the next stop point (R267, R276). -/
theorem workStop_running_shows {o : WorkOrd} (hkind : bits m.m0 15 12 = 3) (hnone : (s.wingx (wix d m.du)).starts = [])
    (hcur : (s.wingx (wix d m.du)).cur = some o) (hnum : o.msg1 / 65536 = bits (m.word 0) 15 0) (hon : o.node = m.sn)
    (hou : o.unit = m.su) (hrun : s.agState (wcix d m.du) = 1) (hgo : (s.agent (wcix d m.du)).stalled = false) :
    ∃ t, exec (.workStop d) s = .next t ∧ t.flag (wg d m.du) R.WC_STAT_STOPREQ = true ∧
      (t.wingx (wix d m.du)).stopped = (s.wingx (wix d m.du)).stopped ++ [orderOf m] := by
  have hdu := du_lt_of_workBad hgood (.inr (.inr hkind))
  set u := s.taken.modWing (wix d m.du) (fun y => { y with stopped := y.stopped ++ [orderOf m] }) with hu
  have hpoint : ¬ ((u.agent (wcix d m.du)).wait.isSome ∨ (u.agent (wcix d m.du)).callWait = true ∨
      (u.agent (wcix d m.du)).halt.isSome) := by
    simp only [Agent.stalled, Bool.or_eq_false_iff] at hgo
    obtain ⟨⟨⟨-, hhalt⟩, hcall⟩, hwait⟩ := hgo
    rintro (h | h | h)
    · exact absurd h (Bool.eq_false_iff.1 hwait)
    · exact absurd h (Bool.eq_false_iff.1 hcall)
    · exact absurd h (Bool.eq_false_iff.1 hhalt)
  have hstop : u.stopReq (wcix d m.du) = u.wr (wg d m.du) R.WC_STAT_STOPREQ 1 := by
    have hrun' : u.agState (wcix d m.du) = 1 := hrun
    rw [State.stopReq, hrun', if_neg (by decide), if_neg fun h => hpoint h.2, agBase_wcix hdu, fStopReq,
      if_neg (by simp [isSq_wcix])]
  have hexec : exec (.workStop d) s = .next (u.wr (wg d m.du) R.WC_STAT_STOPREQ 1).settle := by
    show execWorkStop d s = _
    rw [execWorkStop, State.takeWork_head hm hty hdn (by simp [hkind])]
    have hnone' : (s.taken.wingx (wix d m.du)).starts = [] := hnone
    have hcur' : (s.taken.wingx (wix d m.du)).cur = some o := hcur
    simp [State.workCheck_passed (s := s.taken) hsn hgood hep hnode, hnone', hcur', hnum, hon, hou, done, ← hu, hstop]
  refine ⟨_, hexec, ?_, ?_⟩
  · rw [State.flag_settle_wg, State.flag, State.rd_wr_same]
    rfl
  · rw [State.wingx_settle, State.wingx_wr, hu, State.wingx_modWing_same]
    rfl

end

theorem workClaim_shows (hkind : bits m.m0 15 12 = 4) (hnewer : s.rd (sd d) R.SD_EPOCH_EPOCH < bits m.m0 31 16) :
    ∃ t, exec (.workClaim d) s = .next t ∧ t.rd (sd d) R.SD_EPOCH_EPOCH = bits m.m0 31 16 ∧
      t.rd (sd d) R.SD_EPOCH_NODE = m.sn ∧ ∀ w : Fin 8, (t.wingx (wix d w)).starts = [] := by
  set u := ((s.taken.wr (sd d) R.SD_EPOCH_EPOCH (bits m.m0 31 16)).wr (sd d) R.SD_EPOCH_NODE m.sn).modSd d
    (fun x => { x with claims := x.claims ++ [orderOf m] }) with hu
  set v := (List.range 8).foldl (fun s w => s.claimWing d w m.sn) u with hv
  have hexec : exec (.workClaim d) s = .next (v.claimCheck d).settle := by
    show execWorkClaim d s = _
    rw [execWorkClaim, State.takeWork_head hm hty hdn (by simp [hkind])]
    have hnewer' : s.taken.rd (sd d) R.SD_EPOCH_EPOCH < bits m.m0 31 16 := hnewer
    simp only [State.workCheck_claim (s := s.taken) hsn hgood hkind, if_pos hnewer', done, ← hu, ← hv]
  obtain ⟨hempty, hepoch⟩ := u.claimWings_shows d m.sn (List.range 8)
  obtain ⟨hepo, hnod⟩ := hepoch (by simp) d
  have hend : OrdersKept v (v.claimCheck d) := by simp
  obtain ⟨hstarts, hkept⟩ := hend
  obtain ⟨hepo', hnod'⟩ := hkept d
  have hkey : ∀ d : Fin 4, fkey (sd d) R.SD_EPOCH_EPOCH ∉ settleKeys ∧ fkey (sd d) R.SD_EPOCH_NODE ∉ settleKeys := by
    decide
  refine ⟨_, hexec, ?_, ?_, fun w => ?_⟩
  · rw [State.settle_rd _ _ _ (hkey d).1, hepo', hepo, hu]
    simp [bits]
  · rw [State.settle_rd _ _ _ (hkey d).2, hnod', hnod, hu]
    have hnode : m.sn < 16 := by omega
    simp [Nat.mod_eq_of_lt hnode]
  · rw [State.wingx_settle, hstarts]
    exact hempty w (.inl (by simp))

end

/-! ### The start of a wing's program (R258, R276) -/

/-- Arguments go to the s registers from `k + 1` upward, and no other register changes. -/
theorem State.sR_args (a : Nat) (args : List Nat) (k : Nat) (s : State) (i : Nat) :
    ((args.zipIdx k).foldl (fun s p => s.sW a (p.2 + 1) (BitVec.ofNat 32 p.1)) s).sR a i =
      if k < i ∧ i ≤ k + args.length then BitVec.ofNat 32 (args.getD (i - k - 1) 0) else s.sR a i := by
  induction args generalizing k s with
  | nil =>
    rw [if_neg (by rw [List.length_nil]; omega)]
    rfl
  | cons x xs ih =>
    rw [List.zipIdx_cons, List.foldl_cons, ih]
    by_cases hk : i = k + 1
    · subst hk
      rw [if_neg (by omega), if_pos (by simp), State.sR_sW_same (by omega)]
      simp
    · have hother : (s.sW a (k + 1) (BitVec.ofNat 32 x)).sR a i = s.sR a i := by
        simp [State.sW, State.sR, Store.get_put_other _ _ _ _ _ _ hk]
      by_cases hin : k < i ∧ i ≤ k + (x :: xs).length
      · rw [if_pos hin, if_pos (by simp at hin; omega)]
        obtain ⟨j, rfl⟩ : ∃ j, i = k + 1 + 1 + j := ⟨i - k - 2, by omega⟩
        rw [show k + 1 + 1 + j - (k + 1) - 1 = j by omega, show k + 1 + 1 + j - k - 1 = j + 1 by omega]
        rfl
      · rw [if_neg hin, if_neg (by simp at hin; omega), hother]
theorem State.fld_wings_args (a : Nat) (l : List (Nat × Nat)) (s : State) :
    (l.foldl (fun s p => s.sW a (p.2 + 1) (BitVec.ofNat 32 p.1)) s).fld = s.fld ∧
      (l.foldl (fun s p => s.sW a (p.2 + 1) (BitVec.ofNat 32 p.1)) s).wings = s.wings := by
  induction l generalizing s with
  | nil => exact ⟨rfl, rfl⟩
  | cons x xs ih => exact ih _

/-- The wing with its program, before the arguments are in place. -/
def State.wingStarted (s : State) (d w : Nat) (o : WorkOrd) : State :=
  ((((((s.startQ d w (·.drop 1)).modWing (wix d w) (fun x => { x with cur := some o })).modAgent (wcix d w)
    (fun _ => { prog := true })).wr (wg d w) R.WC_ORDER_ORDER (o.msg1 / 65536)).wr (wg d w) R.WC_ORDER_EPOCH o.epoch).wr
    (wg d w) R.WC_ESTAT_ESTAT 0).wr (wg d w) R.WC_STAT_STOPREQ 0

theorem State.wingx_wingStarted (s : State) (d w : Nat) (o : WorkOrd) : ((s.wingStarted d w o).wingx (wix d w)) =
    { (s.startQ d w (·.drop 1)).wingx (wix d w) with cur := some o } :=
  State.wingx_modWing_same (s.startQ d w (·.drop 1)) (wix d w) (fun x => { x with cur := some o })
theorem State.agent_wingStarted (s : State) (d w : Nat) (o : WorkOrd) :
    (s.wingStarted d w o).agent (wcix d w) = { prog := true } :=
  State.agent_modAgent_same ((s.startQ d w (·.drop 1)).modWing (wix d w) (fun x => { x with cur := some o })) (wcix d w)
    (fun _ => { prog := true })

theorem wingProgramStart_shows (d : Fin 4) (w : Fin 8) {o : WorkOrd} {rest : List WorkOrd} {s : State}
    (hq : (s.wingx (wix d w)).starts = o :: rest) (hidle : s.agState (wcix d w) = 0) (hentry : o.entry < 4096)
    (hepoch : o.epoch < 65536) (hmsg : o.msg1 < 2 ^ 32) :
    ∃ t, exec (.wingProgramStart d w) s = .next t ∧ t.agState (wcix d w) = 1 ∧ t.pc (wcix d w) = o.entry ∧
      (t.wingx (wix d w)).starts = rest ∧ (t.wingx (wix d w)).cur = some o ∧
      t.rd (wg d w) R.WC_ORDER_ORDER = o.msg1 / 65536 ∧ t.rd (wg d w) R.WC_ORDER_EPOCH = o.epoch ∧
      t.rd (wg d w) R.WC_ESTAT_ESTAT = 0 ∧
      (∀ i : Fin 15, i.val < o.args.length → t.sR (wcix d w) (i.val + 1) = BitVec.ofNat 32 (o.args.getD i 0)) ∧
      ∀ i : Fin 32, o.args.length < i.val → t.sR (wcix d w) i = 0 := by
  set v := o.args.zipIdx.foldl (fun s p => s.sW (wcix d w) (p.2 + 1) (BitVec.ofNat 32 p.1)) (s.wingStarted d w o) with hv
  obtain ⟨hfld, hwings⟩ := State.fld_wings_args (wcix d w) o.args.zipIdx (s.wingStarted d w o)
  have hbase := agBase_wcix (d := d.val) w.isLt
  have hstate := fState_wing (isSq_wcix d w)
  have hpc : fPc (wcix d w) = R.WC_STAT_PC := by simp [fPc, isSq_wcix]
  have hexec : exec (.wingProgramStart d w) s =
      .next ((v.wr (wg d w) R.WC_STAT_PC o.entry).wr (wg d w) R.WC_STAT_STATE 1).settle := by
    show execWingProgramStart d w s = _
    simp only [execWingProgramStart, hq, hidle, State.setPc, State.setAgState, hbase, hstate, hpc, hv]
    rfl
  have hrd : ∀ f, v.rd (wg d w) f = (s.wingStarted d w o).rd (wg d w) f := fun f => State.rd_congr hfld _ _
  have hregs : RegsKept (wcix d w) v ((v.wr (wg d w) R.WC_STAT_PC o.entry).wr (wg d w) R.WC_STAT_STATE 1).settle := by
    simp
  have hwing : ((v.wr (wg d w) R.WC_STAT_PC o.entry).wr (wg d w) R.WC_STAT_STATE 1).settle.wingx (wix d w) =
      (s.wingStarted d w o).wingx (wix d w) := by
    rw [State.wingx_settle, State.wingx_wr, State.wingx_wr, State.wingx, hwings, State.wingx]
  have hclear : ∀ i, (s.wingStarted d w o).sR (wcix d w) i = 0 := by
    intro i
    rw [State.sR, State.agent_wingStarted]
    exact ite_self _
  refine ⟨_, hexec, ?_, ?_, ?_, ?_, ?_, ?_, ?_, fun i hi => ?_, fun i hi => ?_⟩
  · rw [State.agState, hbase, hstate, State.rd_settle_wg, State.rd_wr_same]
    rfl
  · rw [State.pc, hbase, hpc, State.rd_settle_wg, State.rd_wr_ne (by decide), State.rd_wr_same]
    exact Nat.mod_eq_of_lt hentry
  · rw [hwing, State.wingx_wingStarted]
    show ((s.startQ d w (·.drop 1)).wingx (wix d w)).starts = rest
    rw [State.starts_startQ, if_pos rfl, hq]
    rfl
  · rw [hwing, State.wingx_wingStarted]
  · rw [State.rd_settle_wg, State.rd_wr_ne (by decide), State.rd_wr_ne (by decide), hrd]
    simp [State.wingStarted]
    omega
  · rw [State.rd_settle_wg, State.rd_wr_ne (by decide), State.rd_wr_ne (by decide), hrd]
    simp [State.wingStarted]
    omega
  · rw [State.rd_settle_wg, State.rd_wr_ne (by decide), State.rd_wr_ne (by decide), hrd]
    simp [State.wingStarted]
  · rw [hregs.sR, hv, State.sR_args, if_pos (by omega)]
    simp
  · rw [hregs.sR, hv, State.sR_args, if_neg (by omega), hclear]

/-- Settles O19: each order that passes the checks of R275 does its one thing, and its answers change no register, queue or
memory. -/
theorem workOrdersAtAStackDie : Obligations.WorkOrdersAtAStackDie := by
  unfold Obligations.WorkOrdersAtAStackDie
  refine ⟨fun d m s hm hty hdn hkind hsn hgood hep hnode hroom => ?_,
    fun d m s hm hty hdn hkind hsn hgood hep hnode hidle hnone => ?_,
    fun d m o s hm hty hdn hkind hsn hgood hep hnode hfind => ?_,
    fun d m o s hm hty hdn hkind hsn hgood hep hnode hnone hcur hnum hon hou hrun hgo => ?_,
    fun d m s hm hty hdn hkind hsn hgood hnewer => ?_,
    fun d w o rest s hq hidle hentry hepoch hmsg _ => ?_⟩
  · exact workStart_shows d hm hty hdn hsn hgood hep hnode hkind hroom
  · exact workLoadprog_shows d hm hty hdn hsn hgood hep hnode hkind hidle hnone
  · exact workStop_queued_shows d hm hty hdn hsn hgood hep hnode hkind hfind
  · exact workStop_running_shows d hm hty hdn hsn hgood hep hnode hkind hnone hcur hnum hon hou hrun hgo
  · exact workClaim_shows d hm hty hdn hsn hgood hkind hnewer
  · exact wingProgramStart_shows d w hq hidle hentry hepoch hmsg

end Sys2Proof.Machine
end

section
/-! SUPPORT. FENCE, and the windows of a wing (R192, R196, R262, R355, R357, R358): an instruction does its one thing, and then
only the control of its agent changes. -/

namespace Sys2Proof.Machine

section
variable {a : Nat} {s t : State}

/-! ### FENCE (R262, R355) -/

/-- Going on in order changes the loops and the mark of a bad PC alone. -/
theorem State.agent_adv (s : State) (a : Nat) (x : Bool) :
    ∃ l b, (s.adv a x).agent a = { s.agent a with loops := l, pcBad := b } := by
  have hgo : ∀ (u : State) n, ∃ b, (u.goto a n).agent a = { u.agent a with pcBad := b } := fun u n =>
    ⟨_, State.agent_modAgent_same _ _ _⟩
  have hmod : ∀ l, ((s.modAgent a fun g => { g with loops := l }).agent a) = { s.agent a with loops := l } := fun l =>
    State.agent_modAgent_same _ _ _
  have hdepth : ∀ u : State, (u.depthSync a).agent a = u.agent a := by
    intro u
    unfold State.depthSync
    split <;> rfl
  unfold State.adv
  dsimp only
  split
  next st last k rest hl =>
    split
    · split
      · obtain ⟨b, hb⟩ := hgo ((s.modAgent a fun g => { g with loops := rest }).depthSync a) (s.pc a + 1 + b2n x : Nat)
        exact ⟨rest, b, by rw [hb, hdepth, hmod]⟩
      · obtain ⟨b, hb⟩ := hgo (s.modAgent a fun g => { g with loops := (st, last, k - 1) :: rest }) st
        exact ⟨_, b, by rw [hb, hmod]⟩
    · obtain ⟨b, hb⟩ := hgo s (s.pc a + 1 + b2n x : Nat)
      exact ⟨_, b, hb⟩
  · obtain ⟨b, hb⟩ := hgo s (s.pc a + 1 + b2n x : Nat)
    exact ⟨_, b, hb⟩
theorem State.fenceBusy_adv (s : State) (a : Nat) (x : Bool) (mask : Nat) :
    (s.adv a x).fenceBusy a mask = s.fenceBusy a mask := by
  obtain ⟨l, b, h⟩ := s.agent_adv a x
  simp only [State.fenceBusy, State.engine, h]
/-- An agent that can issue waits at no FENCE (R259). -/
theorem State.fence_of_ready (h : s.ready a = true) : (s.agent a).fence = none := by
  simp only [State.ready, Agent.stalled, Bool.and_eq_true, Bool.not_eq_true', Bool.or_eq_false_iff] at h
  obtain ⟨⟨⟨-, ⟨⟨⟨⟨-, hfence⟩, -⟩, -⟩, -⟩⟩, -⟩, -⟩ := h
  exact Option.not_isSome_iff_eq_none.1 (by simp [hfence])
theorem State.fence_stepped (s : State) (a : Nat) : ((s.stepped a).agent a).fence = (s.agent a).fence := by
  unfold State.stepped
  split
  · rw [State.agent_modAgent_same]
  · rfl
/-- An agent that waits at a FENCE comes to no instruction boundary; no other comes to wait there (R262, R268). -/
theorem State.fence_boundary (s : State) (a : Nat) : ((s.boundary a).agent a).fence = (s.agent a).fence := by
  have hlog : ∀ engine code pc, (s.logFault a engine code pc).agent a = s.agent a := fun engine code pc => by
    rw [State.agent, (State.keeps_logFault (L := []) a engine code pc).2 (Keeps.refl _ s) .agents (by decide), State.agent]
  have hstop : ∀ (u : State) v (f : Agent → Agent), (∀ g, (f g).fence = g.fence) →
      ((((u.abandon a).setAgState a v).modAgent a f).agent a).fence = none := by
    intro u v f hf
    rw [State.agent_modAgent_same, hf]
    show ((u.abandon a).agent a).fence = none
    rw [State.abandon, State.agent_modAgent_same]
  unfold State.boundary
  dsimp only
  split
  · rfl
  next hrun =>
    have hnone : (s.agent a).fence = none := by
      simp only [Agent.stalled, not_or, Bool.or_eq_true, Bool.not_eq_true, Option.isSome_eq_false_iff,
        Option.isNone_iff_eq_none] at hrun
      obtain ⟨-, ⟨⟨⟨⟨-, hfence⟩, -⟩, -⟩, -⟩⟩ := hrun
      exact hfence
    rw [hnone]
    split
    · unfold State.trapAt
      dsimp only
      split
      · rw [hlog, hnone]
      · exact hstop _ _ _ fun _ => rfl
    split
    · exact hstop _ _ _ fun _ => rfl
    split
    · rw [State.agent_modAgent_same]
      exact hnone
    · exact hnone

end

theorem fence_shows (a : Fin 48) {ins : Ins} {s : State} (hx : ins.x = false) (h0 : ins.noRegs = true)
    (hlow : ins.low.toNat < 64) (heven : ins.low.toNat % 2 = 0) (hiss : s.issues a ins []) :
    ∃ t, exec (.fence a ins) s = .next t ∧
      (t.agent a).fence = (if s.fenceBusy a ins.low.toNat then some ins.low.toNat else none) ∧ s.wentOn t a ins := by
  set v := (if s.fenceBusy a ins.low.toNat then (s.adv a false).modAgent a (fun g => { g with fence := some ins.low.toNat })
    else s.adv a false) with hv
  have hexec : exec (.fence a ins) s = .next ((v.stepped a).boundary a).settle := by
    show execFence a ins s = _
    have hlegal : (!ins.x && ins.noRegs && decide (ins.low.toNat < 64) && ins.low.toNat % 2 == 0) = true := by
      simp [hx, h0, hlow, heven]
    simp only [execFence, hlegal, State.issue_of_issues hiss, State.fenceBusy_adv, done, hv]
  have hfence : (v.agent a).fence = if s.fenceBusy a ins.low.toNat then some ins.low.toNat else none := by
    obtain ⟨l, b, hadv⟩ := s.agent_adv a false
    rw [hv]
    split
    · rw [State.agent_modAgent_same]
    · rw [hadv]
      exact State.fence_of_ready hiss.1
  refine ⟨_, hexec, ?_, State.wentOn_of_pc (v := s) rfl rfl ?_⟩
  · rw [State.agent, State.settle_agents, ← State.agent, State.fence_boundary, State.fence_stepped, hfence]
  · rw [State.pc_settle, State.pc_boundary, State.pc_stepped, hx, hv]
    split <;> rfl

/-! ### Messages of a wing's windows (R192, R196) -/

section
variable {s : State} {m : Msg}

/-- A message of no engine that waits for its unit changes only ports and waiting messages on its way. -/
theorem State.keeps_waitMsg (hty : m.ty ≠ 0x02 ∧ m.ty ≠ 0x04) (horg : m.org = 0) (s : State) :
    Keeps [.ports, .inbox] s (s.send m) := by
  obtain ⟨hsem, herr⟩ := hty
  unfold State.send State.forward
  split
  · rw [State.deliver, if_neg hsem, if_neg herr]
    split
    · exact Keeps.refl _ s
    · exact (State.keeps_inbox (by decide) _).2 (Keeps.refl _ s)
  · split
    · simp
    · rw [State.opFault, if_neg fun h => h.2 horg]
      exact Keeps.refl _ s
/-- A Control or Stack die that a route of a Stack die leads to is sent what is for it; so is the own die (R223, R231). -/
theorem State.carries_grant (hsn : 4 ≤ m.sn ∧ m.sn < 8) (hty : m.ty = 0x11) (hdn : m.dn < 8 ∧ m.dn ≠ 0 ∧ m.dn ≠ 3)
    (hroute : (s.routePort m.sn m.dn).isSome = true ∨ m.dn = m.sn) : (s.send m).carries m = true := by
  by_cases hown : m.dn = m.sn
  · rw [State.send, State.forward, if_pos hown, State.deliver, if_neg (by simp [hty]), if_neg (by simp [hty]),
      if_neg (by simp [hty])]
    exact State.carries_iff.2 (.inl (by simp))
  · have hr := hroute.resolve_right hown
    by_cases hstack : 4 ≤ m.dn
    · exact State.carries_send (.inr hsn) ⟨hstack, hdn.1⟩ hown hr
    · obtain ⟨k, hk⟩ := Option.isSome_iff_exists.1 hr
      have hlt : k < 26 := by
        rw [State.routePort, if_pos hsn] at hk
        simp only [if_neg (show ¬ (4 ≤ m.dn ∧ m.dn < 8) by omega)] at hk
        split at hk <;> cases hk <;> simp only [sdPort] <;> omega
      rw [State.send_routed hown hk]
      refine (Onward.linkPump _ k).1 m (State.carries_iff.2 (.inr ⟨k, hlt, ?_⟩))
      rw [State.port_modLink_same]
      exact .inl (by simp)

end

/-! ### The end of an instruction of a wing -/

section
variable {a : Nat} {s v : State}

/-- The registers of window `c` of a wing (R191). -/
def windowFlds (c : Nat) : List Fld :=
  [R.CW_SRC_STATE.at c, R.CW_SRC_SRC_NODE.at c, R.CW_SRC_SRC_UNIT.at c, R.CW_SRC_EPOCH.at c, R.CW_SRC_SEM.at c,
    R.CW_BASE_BASE.at c, R.CW_LEN_LEN.at c, R.CW_CRED_CRED.at c]

/-- What an instruction of a wing leaves behind once the agent has gone on. -/
def State.closed (s : State) (a : Nat) : State := (((s.adv a false).stepped a).boundary a).settle

theorem State.aside_closed (ha : isSq a = false) (s : State) : Aside controlBits a s (s.closed a) := by
  simp [State.closed, ha, reports_controlBits, State.aside_adv]
theorem State.rd_window_closed (ha : isSq a = false) (s : State) {c : Nat} {f : Fld} (hf : f ∈ windowFlds c) :
    (s.closed a).rd (wg (wcDie a) (wcWing a)) f = s.rd (wg (wcDie a) (wcWing a)) f := by
  refine (State.aside_closed ha s).rd ?_
  have hoff : 0x200 ≤ f.off := by
    simp only [windowFlds, List.mem_cons, List.not_mem_nil, or_false] at hf
    rcases hf with rfl | rfl | rfl | rfl | rfl | rfl | rfl | rfl <;> simp only [Fld.at] <;> omega
  have hbeyond : ¬ fkey 0 f < 0x1A4 * 32 := by simp only [fkey]; omega
  rw [controlBits, decide_eq_false hbeyond, Bool.and_false]
/-- An instruction that leaves the PC and the loops alone goes on (R281). -/
theorem State.wentOn_closed {i : Ins} (hx : i.x = false) (hfld : v.pc a = s.pc a) (hag : v.agents = s.agents) :
    s.wentOn (v.closed a) a i :=
  State.wentOn_of_pc hfld (by rw [State.agent, hag, State.agent]) (by
    rw [State.closed, State.pc_settle, State.pc_boundary, State.pc_stepped, hx])

end

/-! ### CREDGRANT (R192, R357) -/

section
variable {s : State} {d w c node unit base len cred sem : Nat}

/-- The registers of a window that has just been granted. -/
def State.windowOpen (s : State) (d w c node unit base len cred sem : Nat) : State :=
  ((((((s.wr (wg d w) (R.CW_SRC_STATE.at c) 1).wr (wg d w) (R.CW_SRC_SRC_NODE.at c) node).wr (wg d w)
    (R.CW_SRC_SRC_UNIT.at c) unit).wr (wg d w) (R.CW_SRC_SEM.at c) sem).wr (wg d w) (R.CW_BASE_BASE.at c) base).wr (wg d w)
    (R.CW_LEN_LEN.at c) len).wr (wg d w) (R.CW_CRED_CRED.at c) cred

/-- A grant of a FREE window whose lines lie in the banks, each with a slot for INBOUND (R192). -/
theorem State.cwGrant_free (hfree : s.rd (wg d w) (R.CW_SRC_STATE.at c) = 0) (hend : base + len ≤ 131072)
    (hbase : base < 131072)
    (hslots : ∀ b : Fin 4, 32768 * b.val < base + len → base < 32768 * (b.val + 1) → inboundIn (s.slotCur d w) b = true)
    (hcred : cred < 2 ^ 18) :
    s.cwGrant d w c node unit base len cred sem = ((s.windowOpen d w c node unit base len cred sem).send
      ((s.windowOpen d w c node unit base len cred sem).grantMsg d w c cred), none) := by
  have hbanks : ¬ (if len = 0 then [] else (List.range 4).filter (fun k =>
      decide (base / 32768 ≤ k ∧ k ≤ (base + len - 1) / 32768))).any (fun k => !inboundIn (s.slotCur d w) k) = true := by
    split
    · simp
    next hlen =>
      simp only [List.any_eq_true, List.mem_filter, List.mem_range, decide_eq_true_eq, Bool.not_eq_true', not_exists, not_and,
        Bool.not_eq_false]
      rintro k ⟨hk, hlo, hhi⟩
      exact hslots ⟨k, hk⟩ (by show 32768 * k < _; omega) (by show _ < 32768 * (k + 1); omega)
  rw [State.cwGrant]
  simp only [hfree]
  rw [if_neg (by simp), if_neg (by omega), if_neg hbanks, if_neg (by simp; omega), if_neg (by simp)]
  simp [State.windowOpen]

/-- The window's registers after a grant (R192). -/
theorem State.windowOpen_shows (hnode : node < 16) (hunit : unit < 16) (hbase : base < 131072) (hlen : len ≤ 131072)
    (hsem : sem < 512) (hcred : cred < 2 ^ 18) :
    let u := s.windowOpen d w c node unit base len cred sem
    u.rd (wg d w) (R.CW_SRC_STATE.at c) = 1 ∧ u.rd (wg d w) (R.CW_SRC_SRC_NODE.at c) = node ∧
      u.rd (wg d w) (R.CW_SRC_SRC_UNIT.at c) = unit ∧ u.rd (wg d w) (R.CW_BASE_BASE.at c) = base ∧
      u.rd (wg d w) (R.CW_LEN_LEN.at c) = len ∧ u.rd (wg d w) (R.CW_SRC_SEM.at c) = sem ∧
      u.rd (wg d w) (R.CW_CRED_CRED.at c) = cred := by
  intro u
  simp (disch := simp only [Fld.at]; omega) only [u, State.windowOpen, State.rd_wr_ne, State.rd_wr_same]
  exact ⟨rfl, Nat.mod_eq_of_lt hnode, Nat.mod_eq_of_lt hunit, Nat.mod_eq_of_lt hbase,
    Nat.mod_eq_of_lt (Nat.lt_of_le_of_lt hlen (show 131072 < 2 ^ 18 by decide)), Nat.mod_eq_of_lt hsem, Nat.mod_eq_of_lt hcred⟩

theorem State.windowOpen_keeps (s : State) (d w c node unit base len cred sem : Nat) :
    Keeps [] s (s.windowOpen d w c node unit base len cred sem) := by simp [State.windowOpen]
/-- The message of a grant shows the window's registers alone (R192). -/
theorem State.grantMsg_congr {t : State} (h : ∀ f ∈ windowFlds c, t.rd (wg d w) f = s.rd (wg d w) f) (added : Nat) :
    t.grantMsg d w c added = s.grantMsg d w c added := by
  simp only [State.grantMsg, h _ (show R.CW_SRC_SRC_NODE.at c ∈ windowFlds c by simp [windowFlds]),
    h _ (show R.CW_SRC_SRC_UNIT.at c ∈ windowFlds c by simp [windowFlds]),
    h _ (show R.CW_SRC_EPOCH.at c ∈ windowFlds c by simp [windowFlds]),
    h _ (show R.CW_BASE_BASE.at c ∈ windowFlds c by simp [windowFlds]),
    h _ (show R.CW_LEN_LEN.at c ∈ windowFlds c by simp [windowFlds])]
/-- A grant leaves the routes of a Stack die alone. -/
theorem State.routePort_windowOpen {b : Nat} (hd : d < 4) (hw : w < 8) (hc : c < 16) (hb : b < 8 ∧ b ≠ 0 ∧ b ≠ 3)
    (h : (s.routePort (d + 4) b).isSome = true) :
    ((s.windowOpen d w c node unit base len cred sem).routePort (d + 4) b).isSome = true := by
  by_cases hstack : 4 ≤ b
  · have hwr : ∀ (u : State) (f : Fld) v, f.off < 0x800 ∧ f.lo < 32 →
        (u.wr (wg d w) f v).rd (sd (d + 4 - 4)) R.ROUTE_SD = u.rd (sd (d + 4 - 4)) R.ROUTE_SD := fun u f v hf =>
      State.rd_wr_other _ _ _ _ _ _ (fkey_sd_ne_wg (by decide) hf _ _ _ hw)
    rw [State.isSome_routePort_congr (s := s) ⟨hstack, hb.1⟩, h]
    simp (disch := simp only [Fld.at]; omega) only [State.windowOpen, hwr]
  · exact State.routePort_controlDie (by omega) (by omega)

end

theorem State.sems_semSignal (s : State) (k v : Nat) :
    (s.semSignal k v).sems = Store.put 0 s.sems k (min (Store.get 0 s.sems k + v) 65535) := by
  unfold State.semSignal
  dsimp only
  split
  · exact (State.keeps_raise (L := []) _ _).2 ((State.keeps_wr _ _ _).2 (Keeps.refl _ _)) .sems (by decide)
  · rfl

section
variable {a : Fin 48} (ha : 16 ≤ a.val)
include ha

theorem wing_bounds : isSq a = false ∧ wcDie a < 4 ∧ wcWing a < 8 := by
  refine ⟨isSq_eq_false ha, ?_, ?_⟩
  · unfold wcDie
    omega
  · exact Nat.mod_lt _ (by decide)

theorem credgrant_shows {ins : Ins} {s : State} (hx : ins.x = false) (hsem : Ins.sem ins < 512) (hhi : ins.f 19 16 = 0)
    (hlo : ins.f 7 0 = 0) (hiss : s.issues a ins [ins.a.val, ins.b.val, ins.c.val])
    (hfree : s.rd (wg (wcDie a) (wcWing a)) (R.CW_SRC_STATE.at (ins.f 23 20)) = 0)
    (hend : (s.sR a ins.a).toNat + (s.sR a ins.b).toNat ≤ 131072) (hbase : (s.sR a ins.a).toNat < 131072)
    (hslots : ∀ b : Fin 4, 32768 * b.val < (s.sR a ins.a).toNat + (s.sR a ins.b).toNat →
      (s.sR a ins.a).toNat < 32768 * (b.val + 1) → inboundIn (s.slotCur (wcDie a) (wcWing a)) b = true)
    (hcred : (s.sR a ins.c).toNat < 2 ^ 18)
    (hroute : (s.routePort (sdNode (wcDie a)) (ins.f 15 12)).isSome = true ∨ ins.f 15 12 = sdNode (wcDie a))
    (hnode : ins.f 15 12 < 8 ∧ ins.f 15 12 ≠ 0 ∧ ins.f 15 12 ≠ 3) :
    ∃ t, exec (.credgrant a ins) s = .next t ∧
      t.rd (wg (wcDie a) (wcWing a)) (R.CW_SRC_STATE.at (ins.f 23 20)) = 1 ∧
      t.rd (wg (wcDie a) (wcWing a)) (R.CW_SRC_SRC_NODE.at (ins.f 23 20)) = ins.f 15 12 ∧
      t.rd (wg (wcDie a) (wcWing a)) (R.CW_SRC_SRC_UNIT.at (ins.f 23 20)) = ins.f 11 8 ∧
      t.rd (wg (wcDie a) (wcWing a)) (R.CW_BASE_BASE.at (ins.f 23 20)) = (s.sR a ins.a).toNat ∧
      t.rd (wg (wcDie a) (wcWing a)) (R.CW_LEN_LEN.at (ins.f 23 20)) = (s.sR a ins.b).toNat ∧
      t.rd (wg (wcDie a) (wcWing a)) (R.CW_SRC_SEM.at (ins.f 23 20)) = Ins.sem ins ∧
      t.rd (wg (wcDie a) (wcWing a)) (R.CW_CRED_CRED.at (ins.f 23 20)) = (s.sR a ins.c).toNat ∧
      t.carries (t.grantMsg (wcDie a) (wcWing a) (ins.f 23 20) (s.sR a ins.c).toNat) = true ∧ s.wentOn t a ins := by
  obtain ⟨hsq, hd, hw⟩ := wing_bounds ha
  set u := s.windowOpen (wcDie a) (wcWing a) (ins.f 23 20) (ins.f 15 12) (ins.f 11 8) (s.sR a ins.a).toNat
    (s.sR a ins.b).toNat (s.sR a ins.c).toNat (Ins.sem ins) with hu
  set m := u.grantMsg (wcDie a) (wcWing a) (ins.f 23 20) (s.sR a ins.c).toNat with hm
  obtain ⟨hst, hnd, hun, hba, hle, hse, hcr⟩ := State.windowOpen_shows (s := s) (d := wcDie a) (w := wcWing a)
    (c := ins.f 23 20) (node := ins.f 15 12) (unit := ins.f 11 8) (base := (s.sR a ins.a).toNat)
    (len := (s.sR a ins.b).toNat) (cred := (s.sR a ins.c).toNat) (sem := Ins.sem ins) (Nat.mod_lt _ (by decide))
    (Nat.mod_lt _ (by decide)) hbase (by omega) hsem hcred
  have hmnode : m.dn = ins.f 15 12 := hnd
  have hmfld : (u.send m).fld = u.fld := State.fld_send ⟨by simp [hm, State.grantMsg], by simp [hm, State.grantMsg]⟩ u
  have hexec : exec (.credgrant a ins) s = .next ((u.send m).closed a) := by
    have hlegal : (!isSq a && !ins.x && decide (Ins.sem ins < 512) && ins.f 19 16 == 0 && ins.f 7 0 == 0) = true := by
      simp [hsq, hx, hsem, hhi, hlo]
    show execCredgrant a ins s = _
    simp only [execCredgrant, hlegal, State.issue_of_issues hiss, if_neg (Nat.not_le.2 hcred),
      State.cwGrant_free hfree hend hbase hslots hcred, done]
    rfl
  have hrd : ∀ f ∈ windowFlds (ins.f 23 20), ((u.send m).closed a).rd (wg (wcDie a) (wcWing a)) f =
      u.rd (wg (wcDie a) (wcWing a)) f := fun f hf =>
    (State.rd_window_closed hsq _ hf).trans (State.rd_congr hmfld _ _)
  have hcarries : ((u.send m).closed a).carries m = true := by
    have hkeep : Keeps [.agents, .waitq] (u.send m) ((u.send m).closed a) := (State.aside_closed hsq _).1
    refine (Onward.of_keeps hkeep (by decide) (by decide) (by decide)).1 m (State.carries_grant ?_ rfl ?_ ?_)
    · show 4 ≤ wcDie a + 4 ∧ wcDie a + 4 < 8
      omega
    · rwa [hmnode]
    · rw [hmnode]
      exact hroute.imp (State.routePort_windowOpen hd hw (Nat.mod_lt _ (by decide)) hnode) id
  have hpc : (u.send m).pc a = s.pc a := by
    rw [State.pc_wing hsq, State.pc_wing hsq, State.rd_congr hmfld, hu, State.windowOpen]
    simp (disch := simp only [Fld.at]; omega) only [State.rd_wr_ne]
  have hag : (u.send m).agents = s.agents :=
    (State.keeps_waitMsg ⟨by simp [hm, State.grantMsg], by simp [hm, State.grantMsg]⟩ rfl u .agents (by decide)).trans
      (s.windowOpen_keeps _ _ _ _ _ _ _ _ _ .agents (by decide))
  refine ⟨_, hexec, ?_, ?_, ?_, ?_, ?_, ?_, ?_, ?_, State.wentOn_closed hx hpc hag⟩
  · rw [hrd _ (by simp [windowFlds]), hst]
  · rw [hrd _ (by simp [windowFlds]), hnd]
  · rw [hrd _ (by simp [windowFlds]), hun]
  · rw [hrd _ (by simp [windowFlds]), hba]
  · rw [hrd _ (by simp [windowFlds]), hle]
  · rw [hrd _ (by simp [windowFlds]), hse]
  · rw [hrd _ (by simp [windowFlds]), hcr]
  · rw [State.grantMsg_congr hrd, ← hm]
    exact hcarries

/-! ### CREDRECL (R196, R358) -/

/-- A semaphore's signal moves no PC: its registers are not WC_STAT (R55, R199). -/
theorem State.pc_semSignal (k v : Nat) (s : State) : (s.semSignal k v).pc a = s.pc a := by
  obtain ⟨hsq, -, hw⟩ := wing_bounds ha
  have hwr : ∀ (u : State) (f : Fld) x, f.off < 0x190 ∧ f.lo < 32 →
      (u.wr (wg (k / 4096) (k / 512 % 8)) f x).rd (wg (wcDie a) (wcWing a)) R.WC_STAT_PC =
        u.rd (wg (wcDie a) (wcWing a)) R.WC_STAT_PC := fun u f x hf =>
    State.rd_wr_other _ _ _ _ _ _ (by simp only [fkey, wg]; omega)
  rw [State.pc_wing hsq, State.pc_wing hsq]
  unfold State.semSignal
  dsimp only
  split
  · simp only [State.raise, State.raiseIn, List.foldl_cons, List.foldl_nil]
    split
    · rw [State.inc, hwr _ _ _ (by decide), hwr _ _ _ (by decide), hwr _ _ _ (by decide)]
      rfl
    · rw [hwr _ _ _ (by decide), hwr _ _ _ (by decide)]
      rfl
  · rfl

section
variable {ins : Ins} {s : State} (hx : ins.x = false) (h0 : ins.noRegs = true) (hsem : Ins.sem ins < 512)
  (hlow : ins.f 19 0 = 0) (hiss : s.issues a ins [])
include hx h0 hsem hlow hiss

/-- A CREDRECL of a window that is not RECLAIMING (R358). -/
theorem credrecl_closed (hst : s.rd (wg (wcDie a) (wcWing a)) (R.CW_SRC_STATE.at (ins.f 23 20)) ≠ 2) :
    exec (.credrecl a ins) s =
      .next ((s.cwReclaim (wcDie a) (wcWing a) (ins.f 23 20) (Ins.sem ins)).closed a) := by
  have hlegal : (!isSq a && !ins.x && ins.noRegs && decide (Ins.sem ins < 512) && ins.f 19 0 == 0) = true := by
    simp [isSq_eq_false ha, hx, h0, hsem, hlow]
  show execCredrecl a ins s = _
  simp only [execCredrecl, hlegal, State.issue_of_issues hiss, if_neg hst, done]
  rfl

theorem credrecl_open_shows (hopen : s.rd (wg (wcDie a) (wcWing a)) (R.CW_SRC_STATE.at (ins.f 23 20)) = 1) :
    ∃ t, exec (.credrecl a ins) s = .next t ∧
      t.rd (wg (wcDie a) (wcWing a)) (R.CW_SRC_STATE.at (ins.f 23 20)) = 2 ∧
      Store.get none (t.wingx (wix (wcDie a) (wcWing a))).recl (ins.f 23 20) = some { sem := Ins.sem ins } ∧
      s.wentOn t a ins := by
  obtain ⟨hsq, -, -⟩ := wing_bounds ha
  have hexec := credrecl_closed ha hx h0 hsem hlow hiss (by rw [hopen]; decide)
  set u := (s.wr (wg (wcDie a) (wcWing a)) (R.CW_SRC_STATE.at (ins.f 23 20)) 2).modWing (wix (wcDie a) (wcWing a))
    (fun x => { x with recl := Store.put none x.recl (ins.f 23 20) (some { sem := Ins.sem ins }) }) with hu
  obtain ⟨m, hty, horg, hsend⟩ : ∃ m : Msg, m.ty = 0x13 ∧ m.org = 0 ∧
      s.cwReclaim (wcDie a) (wcWing a) (ins.f 23 20) (Ins.sem ins) = u.send m := by
    rw [State.cwReclaim]
    simp only [hopen, if_true, ← hu]
    exact ⟨_, rfl, rfl, rfl⟩
  have hwait : m.ty ≠ 0x02 ∧ m.ty ≠ 0x04 := by rw [hty]; decide
  have hfld := State.fld_send hwait u
  have hkeep := State.keeps_waitMsg hwait horg u
  have hwings : ((u.send m).closed a).wings = u.wings :=
    ((State.aside_closed hsq (u.send m)).1 .wings (by decide)).trans (hkeep .wings (by decide))
  rw [hsend] at hexec
  refine ⟨_, hexec, ?_, ?_, State.wentOn_closed hx ?_ (hkeep .agents (by decide))⟩
  · rw [State.rd_window_closed hsq _ (show _ ∈ windowFlds (ins.f 23 20) by simp [windowFlds]), State.rd_congr hfld, hu,
      State.rd_modWing, State.rd_wr_same]
    rfl
  · rw [State.wingx, hwings, ← State.wingx, hu, State.wingx_modWing_same]
    simp only [Store.get_put_same]
  · rw [State.pc_wing hsq, State.pc_wing hsq, State.rd_congr hfld, hu, State.rd_modWing,
      State.rd_wr_ne (by simp only [Fld.at]; omega)]

theorem credrecl_free_shows (hfree : s.rd (wg (wcDie a) (wcWing a)) (R.CW_SRC_STATE.at (ins.f 23 20)) = 0) :
    ∃ t, exec (.credrecl a ins) s = .next t ∧
      Store.get 0 t.sems (wsem (wcDie a) (wcWing a) (Ins.sem ins)) =
        min (Store.get 0 s.sems (wsem (wcDie a) (wcWing a) (Ins.sem ins)) + 1) 65535 ∧ s.wentOn t a ins := by
  obtain ⟨hsq, -, -⟩ := wing_bounds ha
  have hexec := credrecl_closed ha hx h0 hsem hlow hiss (by rw [hfree]; decide)
  rw [State.cwReclaim, if_pos hfree] at hexec
  set k := wsem (wcDie a) (wcWing a) (Ins.sem ins)
  have hsems : ((s.semSignal k 1).closed a).sems = (s.semSignal k 1).sems :=
    (State.aside_closed hsq (s.semSignal k 1)).1 .sems (by decide)
  have hag : (s.semSignal k 1).agents = s.agents :=
    (State.keeps_semSignal (L := [.sems]) (by decide) k 1).2 (Keeps.refl _ s) .agents (by decide)
  refine ⟨_, hexec, ?_, State.wentOn_closed hx (State.pc_semSignal ha k 1 s) hag⟩
  rw [hsems, State.sems_semSignal, Store.get_put_same]

end

end

/-- Settles O18: each instruction does its one thing, and then only the control of its agent changes. -/
theorem fenceAndCreditInstructions : Obligations.FenceAndCreditInstructions := by
  unfold Obligations.FenceAndCreditInstructions
  refine ⟨fun a ins s hx h0 hlow heven hiss => fence_shows a hx h0 hlow heven hiss,
    fun a ins s ha hx hsem hhi hlo hiss hfree hend hbase hslots hcred hroute hnode => ?_,
    fun a ins s ha hx h0 hsem hlow hiss hopen => credrecl_open_shows ha hx h0 hsem hlow hiss hopen,
    fun a ins s ha hx h0 hsem hlow hiss hfree => credrecl_free_shows ha hx h0 hsem hlow hiss hfree⟩
  exact credgrant_shows ha hx hsem hhi hlo hiss hfree hend hbase hslots hcred hroute hnode

end Sys2Proof.Machine
end

section
/-! SUPPORT. An instruction that starts on the idle CIM or vector engine of a wing (R260, R261): the unit runs at once, the
control that follows writes no register and no memory, and the engine keeps the instruction until it completes. -/

namespace Sys2Proof.Machine

section
variable {a e : Nat} {s t : State}

/-! ### The engine keeps what it runs -/

theorem State.engine_congr (h : (t.agent a).eng = (s.agent a).eng) (e : Nat) : t.engine a e = s.engine a e := by
  rw [State.engine, h, State.engine]
theorem State.engine_of_agents (h : t.agents = s.agents) (a e : Nat) : t.engine a e = s.engine a e :=
  State.engine_congr (by rw [State.agent, h, State.agent]) e
theorem State.engine_modAgent {f : Agent → Agent} (hf : ∀ g, (f g).eng = g.eng) (s : State) (a e : Nat) :
    (s.modAgent a f).engine a e = s.engine a e :=
  State.engine_congr (by rw [State.agent_modAgent_same, hf]) e
theorem State.engine_modEng_other {e' : Nat} (h : e ≠ e') (s : State) (a : Nat) (f : Engine → Engine) :
    (s.modEng a e' f).engine a e = s.engine a e := by
  have hq : (s.modEng a e' f).agents =
      (s.modAgent a fun x => { x with eng := Store.put {} x.eng e' (f (Store.get {} x.eng e')) }).agents :=
    (State.keeps_qfill (L := []) a).2 (Keeps.refl _ _) .agents (by decide)
  rw [State.engine_of_agents hq]
  simp [State.engine, Store.get_put_other _ _ _ _ _ _ h]
theorem State.isSome_run_modEng {f : Engine → Engine} (hf : ∀ q, (f q).run.isSome = q.run.isSome) (s : State)
    (a e e' : Nat) : ((s.modEng a e' f).engine a e).run.isSome = (s.engine a e).run.isSome := by
  by_cases h : e = e'
  · rw [h, State.engine_modEng_same, hf]
  · rw [State.engine_modEng_other h]
/-- What has started runs on when the queue behind it is abandoned (R267, R268). -/
theorem State.isSome_run_abandon (s : State) (a e : Nat) :
    ((s.abandon a).engine a e).run.isSome = (s.engine a e).run.isSome := by
  have hfold : ∀ (l : List Nat) (f : Engine → Engine), (∀ q, (f q).run.isSome = q.run.isSome) → ∀ u : State,
      ((l.foldl (fun s e' => s.modEng a e' f) u).engine a e).run.isSome = (u.engine a e).run.isSome := by
    intro l f hf
    induction l with
    | nil => exact fun _ => rfl
    | cons x xs ih => exact fun u => (ih _).trans (State.isSome_run_modEng hf u a e x)
  rw [State.abandon, State.engine_modAgent]
  · exact hfold [1, 2, 3, 4, 5] _ (fun q => by simp) s
  · exact fun _ => rfl
theorem State.engine_adv (s : State) (a : Nat) (x : Bool) (e : Nat) : (s.adv a x).engine a e = s.engine a e := by
  obtain ⟨l, b, h⟩ := s.agent_adv a x
  exact State.engine_congr (by rw [h]) e
theorem State.engine_stepped (s : State) (a e : Nat) : (s.stepped a).engine a e = s.engine a e := by
  unfold State.stepped
  split
  · exact State.engine_modAgent (fun _ => by rfl) s a e
  · rfl
/-- At a boundary the agent may trap or stop, and what its engines run stays theirs (R267, R268). -/
theorem State.isSome_run_boundary (s : State) (a e : Nat) :
    ((s.boundary a).engine a e).run.isSome = (s.engine a e).run.isSome := by
  have hlog : ∀ engine code pc, (s.logFault a engine code pc).engine a e = s.engine a e := fun engine code pc =>
    State.engine_of_agents ((State.keeps_logFault (L := []) a engine code pc).2 (Keeps.refl _ s) .agents (by decide)) a e
  have hend : ∀ (u : State) v (f : Agent → Agent), (∀ g, (f g).eng = g.eng) →
      ((((u.abandon a).setAgState a v).modAgent a f).engine a e).run.isSome = (u.engine a e).run.isSome := by
    intro u v f hf
    rw [State.engine_modAgent hf]
    exact u.isSome_run_abandon a e
  unfold State.boundary
  dsimp only
  split
  · rfl
  split
  · unfold State.trapAt
    dsimp only
    split
    · rw [hlog]
    · exact (hend _ _ _ fun _ => by rfl).trans (by rw [hlog])
  split
  · exact hend _ _ _ fun _ => by rfl
  split
  · rw [State.engine_modAgent]
    · rfl
    · exact fun _ => rfl
  · rfl

/-! ### The unit runs, and the control goes on -/

/-- What an instruction `en` that starts on engine `e` of wing controller `a` leaves: the unit runs it on a state `u`
in which only the control of `a` has changed and no register, and after that only the control changes, and no register;
the engine keeps the instruction. Where the unit leaves the PC and the loops alone, the PC goes on past `i`. -/
def State.Started (s : State) (a e : Nat) (en : EngIns) (i : Ins) (t : State) : Prop :=
  ∃ u, Aside controlBits a s u ∧ RegsKept a s u ∧ RegsKept a (u.unitStart a en).1 t ∧
    Keeps [.agents, .waitq] (u.unitStart a en).1 t ∧ (t.engine a e).run.isSome = true ∧
    ((u.unitStart a en).1.pc a = u.pc a → ((u.unitStart a en).1.agent a).loops = (u.agent a).loops → s.wentOn t a i)

theorem State.engStart_started (ha : isSq a = false) (he : e ≤ 3) (en : EngIns) (i : Ins) :
    s.Started a e en i ((((s.engStart a e en).adv a i.x).stepped a).boundary a).settle := by
  set u := s.modEng a e (fun q => { q with run := some { ins := en } }) with hu
  set r := u.unitStart a en with hr
  have hstart : s.engStart a e en = r.1.modEng a e (fun q => { q with run := some r.2 }) := by
    rw [State.engStart, if_pos he]
  rw [hstart]
  refine ⟨u, by simp [hu, ha, reports_controlBits], by simp [hu], by simp [← hr], by simp [← hr], ?_, fun hpc hloops => ?_⟩
  · rw [State.engine_of_agents (State.settle_agents _), State.isSome_run_boundary, State.engine_stepped, State.engine_adv,
      State.engine_modEng_same]
    rfl
  · refine State.wentOn_adv ha ?_ ?_ i
    · rw [State.pc_modEng, hpc, hu, State.pc_modEng]
    · rw [State.loops_modEng, hloops, hu, State.loops_modEng]
/-- An instruction for an idle engine that nothing keeps from executing starts in its command (R260). -/
theorem State.engIssue_started (ha : isSq a = false) (he : e ≤ 3) {i : Ins} {regs : List Nat} (mk : State → EngIns)
    (h : s.issues a i regs) (hc : csemOk a i = true) (hrun : (s.engine a e).run = none) (hq : (s.engine a e).q = []) :
    s.Started a e (mk s) i (s.engIssue a e i true regs mk).settle := by
  rw [State.engIssue_idle mk h hc hrun hq]
  exact State.engStart_started ha he (mk s) i

end

end Sys2Proof.Machine
end

section
/-! SUPPORT. The vector unit of a wing (chapter 9): which lanes an instruction writes, and with what. -/

namespace Sys2Proof.Machine

section
variable {a : Nat} {s t u v r : State}

/-! ### v registers -/

theorem State.vR_congr (h : (t.agent a).v = (s.agent a).v) (i : Nat) : t.vR a i = s.vR a i := by rw [State.vR, h, State.vR]
theorem State.vP_congr (h : (t.agent a).vp = (s.agent a).vp) (i : Nat) : t.vP a i = s.vP a i := by rw [State.vP, h, State.vP]
theorem RegsKept.vR (h : RegsKept a s t) (i : Nat) : t.vR a i = s.vR a i := by
  obtain ⟨-, -, -, -, hv, -⟩ := h
  exact State.vR_congr hv i
theorem RegsKept.vP (h : RegsKept a s t) (i : Nat) : t.vP a i = s.vP a i := by
  obtain ⟨-, -, -, -, -, hvp⟩ := h
  exact State.vP_congr hvp i

/-- A lane reads as it was put; a register of zeros needs no entry (R257). -/
theorem State.getD_vR_vPut {l : List Nat} (hl : l.length = 64) (s : State) (a i p k : Nat) :
    ((s.vPut a i l p).vR a i).getD k 0 = l.getD k 0 := by
  have hget : Store.get [] ((s.vPut a i l p).agent a).v i = if l.all (· == 0) then [] else l := by
    rw [State.vPut, State.agent_modAgent_same, Store.get_put_same]
  rw [State.vR, hget]
  by_cases hz : l.all (· == 0) = true
  · have hzero : l.getD k 0 = 0 := by
      rw [List.getD_eq_getElem?_getD]
      cases hk : l[k]? with
      | none => rfl
      | some x => exact eq_of_beq (List.all_eq_true.1 hz x (List.mem_of_getElem? hk))
    simp only [hz, if_true, hzero]
    simp only [List.getD_eq_getElem?_getD, List.getElem?_replicate]
    split <;> rfl
  · rw [if_neg hz]
    cases l with
    | nil => cases hl
    | cons x xs => rfl
theorem State.vP_vPut (s : State) (a i : Nat) (l : List Nat) (p : Nat) : (s.vPut a i l p).vP a i = p % 4 := by
  rw [State.vP, State.vPut, State.agent_modAgent_same, Store.get_put_same]
theorem State.loops_vPut (s : State) (a i : Nat) (l : List Nat) (p : Nat) :
    ((s.vPut a i l p).agent a).loops = (s.agent a).loops := by rw [State.vPut, State.agent_modAgent_same]
theorem getD_map_range {α : Type} (f : Nat → α) (d : α) {n k : Nat} (hk : k < n) :
    ((List.range n).map f).getD k d = f k := by
  simp [List.getD_eq_getElem?_getD, hk]

/-! ### What an instruction on v registers writes -/

/-- From `u` to `r` the unit of wing controller `a` writes `val k` in lanes `lo ≤ k < lo + n` of v register `i`, cut to 16
bits, leaves its other lanes, and leaves the PC and the loops alone. -/
def WritesLanes (a i lo n : Nat) (val : Nat → Nat) (u r : State) : Prop :=
  (∀ k < 64, (r.vR a i).getD k 0 = (if lo ≤ k ∧ k < lo + n then val k else (u.vR a i).getD k 0) % 65536) ∧
    r.pc a = u.pc a ∧ (r.agent a).loops = (u.agent a).loops

theorem WritesLanes.congr {i lo n : Nat} {val val' : Nat → Nat} (h : WritesLanes a i lo n val u r)
    (hval : ∀ k < 64, lo ≤ k → k < lo + n → val k % 65536 = val' k % 65536) : WritesLanes a i lo n val' u r := by
  obtain ⟨hlanes, hrest⟩ := h
  refine ⟨fun k hk => (hlanes k hk).trans ?_, hrest⟩
  split
  next hin => exact hval k hk hin.1 hin.2
  · rfl
/-- The lanes that `State.vWrite` is given, and the count of results that are not finite, are all that an instruction
leaves. -/
theorem State.vecEnd_vWrite_writes (ha : isSq a = false) (hag : v.agents = u.agents) (hfld : v.fld = u.fld)
    {i lo n : Nat} {f : Nat → Option Nat} {val : Nat → Nat}
    (hf : ∀ k < 64, f k = if lo ≤ k ∧ k < lo + n then some (val k) else none) (src : Bool) (en : EngIns) (nf : Bool) :
    WritesLanes a i lo n val u ((v.vWrite a i f src).vecEnd (wcDie a) (wcWing a) en nf).1 := by
  have hagent : v.agent a = u.agent a := by rw [State.agent, hag, State.agent]
  have hend : ((v.vWrite a i f src).vecEnd (wcDie a) (wcWing a) en nf).1.agents = (v.vWrite a i f src).agents := by
    unfold State.vecEnd
    cases nf <;> rfl
  have hsame : ((v.vWrite a i f src).vecEnd (wcDie a) (wcWing a) en nf).1.agent a = (v.vWrite a i f src).agent a := by
    rw [State.agent, hend, State.agent]
  refine ⟨fun k hk => ?_, ?_, ?_⟩
  · rw [State.vR_congr (congrArg Agent.v hsame), State.vWrite, State.getD_vR_vPut (by simp), getD_map_range _ _ hk,
      hf k hk, State.vR_congr (congrArg Agent.v hagent)]
    split <;> rfl
  · have hpc : (v.vWrite a i f src).pc a = u.pc a := State.rd_congr hfld _ _
    rw [← hpc, State.pc_wing ha, State.pc_wing ha]
    unfold State.vecEnd
    cases nf
    · rfl
    · exact State.rd_inc_ne (by decide) _ _
  · rw [hsame, State.vWrite, State.loops_vPut, hagent]
/-- The results of the first `n` lanes, as the unit lists them. -/
theorem getD_range_some {val : Nat → Nat} {n k : Nat} (hk : k < 64) :
    ((List.range 64).map fun l => if l < n then some (val l) else none).getD k none =
      if 0 ≤ k ∧ k < 0 + n then some (val k) else none := by
  simp [List.getD_eq_getElem?_getD, hk]

/-! ### Arithmetic (R312) -/

theorem State.arithStart_writes (ha : isSq a = false) {i : EngIns} (hsb : bitOf i.ef 14 = false) :
    WritesLanes a i.a 0 (bits i.ef 22 16) (fun k =>
      if bitOf i.ef 15 then
        i16Lane i.op (bits i.ef 13 10) ((u.vR a i.b).getD k 0) ((u.vR a i.c).getD k 0) ((u.vR a i.a).getD k 0)
      else bfLane i.op ((u.vR a i.b).getD k 0) ((u.vR a i.c).getD k 0) ((u.vR a i.a).getD k 0)
        ((Config.freeBits (u.fresh + k)).toNat % 2 == 1)) u (u.arithStart (wcDie a) (wcWing a) a i).1 := by
  unfold State.arithStart
  simp only [hsb, Bool.false_eq_true, if_false]
  refine State.vecEnd_vWrite_writes ha ?_ ?_ (fun k hk => getD_range_some hk) _ _ _
  · split <;> rfl
  · split <;> rfl

/-! ### Reductions (R313) -/

/-- A number that fits 32 bits comes back from them. -/
theorem sext_wrapTo_of_abs_lt {x : Int} (h : |x| < 2 ^ 31) : sext 32 (wrapTo 32 x) = x := by
  rw [abs_lt] at h
  simp only [sext, wrapTo]
  push_cast
  split_ifs <;> omega
/-- Lanes from `n` on count as 0 in a sum. -/
theorem foldl_lanes_eq_sum (v : List Nat) {n : Nat} (hn : n ≤ 64) :
    ((List.range 64).map fun l => if l < n then v.getD l 0 else 0).foldl (fun t x => t + i16 x) 0 =
      ((List.range n).map fun k => sext 16 (v.getD k 0)).sum := by
  obtain ⟨m, hm⟩ : ∃ m, 64 = n + m := ⟨64 - n, by omega⟩
  have hhigh : ∀ l ∈ (List.range m).map (n + ·), i16 (if l < n then v.getD l 0 else 0) = 0 := by
    intro l hl
    obtain ⟨j, -, rfl⟩ := List.mem_map.1 hl
    rw [if_neg (by omega)]
    rfl
  have hlow : ∀ l ∈ List.range n, i16 (if l < n then v.getD l 0 else 0) = sext 16 (v.getD l 0) := fun l hl => by
    rw [if_pos (List.mem_range.1 hl), i16]
  rw [← List.foldl_map (f := i16) (g := fun t x => t + x), List.map_map, ← List.sum_eq_foldl, hm, List.range_add,
    List.map_append, List.sum_append]
  simp only [Function.comp_def, List.map_congr_left hhigh, List.map_congr_left hlow]
  simp [Function.comp_def]
/-- A sum of I16 lanes fits the 32 bits that hold it. -/
theorem abs_sum_lanes_lt (v : List Nat) {n : Nat} (hn : n ≤ 64) :
    |((List.range n).map fun k => sext 16 (v.getD k 0)).sum| < 2 ^ 31 := by
  rw [← foldl_lanes_eq_sum v hn]
  refine (abs_foldl_add_le i16 (2 ^ 16) _ (fun x _ => abs_sext_le 16 x) 0).trans_lt ?_
  rw [List.length_map, List.length_range]
  norm_num
theorem State.vsumStart_i16_writes (ha : isSq a = false) {i : EngIns} (hty : bitOf i.ef 15 = true)
    (hwide : bitOf i.ef 14 = false) (hn : bits i.ef 22 16 ≤ 64) :
    WritesLanes a i.a 0 1 (fun _ => toI16 ((List.range (bits i.ef 22 16)).map fun k => sext 16 ((u.vR a i.b).getD k 0)).sum)
      u (u.vsumStart (wcDie a) (wcWing a) a i).1 := by
  unfold State.vsumStart
  simp only [hty, hwide, if_true, Bool.false_eq_true, if_false, foldl_lanes_eq_sum _ hn,
    sext_wrapTo_of_abs_lt (abs_sum_lanes_lt _ hn)]
  refine State.vecEnd_vWrite_writes ha rfl rfl (fun k _ => ?_) _ _ _
  by_cases hk : k = 0
  · simp [hk]
  · rw [if_neg hk, if_neg (by omega)]

/-! ### Functions and conversions (R314, R315) -/

theorem State.funcStart_writes (ha : isSq a = false) (i : EngIns) :
    WritesLanes a i.a 0 (bits i.ef 22 16) (fun k => ((if i.op = 0x67 then fExp else if i.op = 0x68 then fRsq else fRcp)
      (bf ((u.vR a i.b).getD k 0))).toBf) u (u.funcStart (wcDie a) (wcWing a) a i).1 :=
  State.vecEnd_vWrite_writes ha rfl rfl (fun _ hk => getD_range_some hk) _ _ _

/-- VCVT from BF16 to I16. -/
theorem State.vcvtStart_toI16_writes (ha : isSq a = false) {i : EngIns} (hop : bits i.ef 15 14 = 0) :
    WritesLanes a i.a 0 (bits i.ef 22 16) (fun k => (bfToI16 ((u.vR a i.b).getD k 0) (sext 5 (bits i.ef 13 9))).1) u
      (u.vcvtStart (wcDie a) (wcWing a) a i).1 := by
  unfold State.vcvtStart
  simp only [hop, OfNat.zero_ne_ofNat, if_false, if_true]
  refine State.vecEnd_vWrite_writes ha rfl rfl (fun k _ => ?_) _ _ _
  simp only [Nat.zero_le, true_and, Nat.zero_add]
  split
  next hk => rw [getD_map_range _ _ hk]
  · rfl
/-- VCVT from I16 to BF16. -/
theorem State.vcvtStart_i16_writes (ha : isSq a = false) {i : EngIns} (hop : bits i.ef 15 14 = 1) :
    WritesLanes a i.a 0 (bits i.ef 22 16) (fun k =>
      ((dyadic (sext 16 ((u.vR a i.b).getD k 0)) 0 false).scale (sext 5 (bits i.ef 13 9))).toBf) u
      (u.vcvtStart (wcDie a) (wcWing a) a i).1 := by
  unfold State.vcvtStart
  simp only [hop, OfNat.one_ne_ofNat, one_ne_zero, if_false, if_true]
  refine State.vecEnd_vWrite_writes ha rfl rfl (fun k _ => ?_) _ _ _
  simp only [Nat.zero_le, true_and, Nat.zero_add]
  split
  next hk => rw [getD_map_range _ _ hk, i16]
  · rfl
/-- VCVT from FP32 to BF16 writes the half that H names. -/
theorem State.vcvtStart_fp32_writes (ha : isSq a = false) {i : EngIns} (hop : bits i.ef 15 14 = 2) :
    WritesLanes a i.a (32 * bits i.ef 8 8) (bits i.ef 22 16) (fun k =>
      ((f32z ((u.vR a i.b).getD (2 * (k - 32 * bits i.ef 8 8)) 0 +
        65536 * (u.vR a i.b).getD (2 * (k - 32 * bits i.ef 8 8) + 1) 0)).scale (sext 5 (bits i.ef 13 9))).toBf) u
      (u.vcvtStart (wcDie a) (wcWing a) a i).1 := by
  unfold State.vcvtStart
  simp only [hop, OfNat.ofNat_ne_zero, OfNat.ofNat_ne_one, if_false, if_true]
  refine State.vecEnd_vWrite_writes ha rfl rfl (fun k _ => ?_) _ _ _
  split
  next hk => rw [getD_map_range _ _ (by omega)]
  · rfl
/-- The FP32 that VCVT makes of the lane behind lane `k` of its result. -/
def fp32Of (v : List Nat) (i : EngIns) (k : Nat) : Nat :=
  ((bf (v.getD (32 * bits i.ef 8 8 + k / 2) 0)).scale (sext 5 (bits i.ef 13 9))).encode 24 true
/-- VCVT from BF16 to FP32 reads the half that H names, and writes two lanes for each of its lanes. -/
theorem State.vcvtStart_toFp32_writes (ha : isSq a = false) {i : EngIns} (hop : bits i.ef 15 14 = 3) :
    WritesLanes a i.a 0 (2 * bits i.ef 22 16) (fun k =>
      let x := ((bf ((u.vR a i.b).getD (32 * bits i.ef 8 8 + k / 2) 0)).scale (sext 5 (bits i.ef 13 9))).encode 24 true
      if k % 2 = 0 then x else x / 65536) u (u.vcvtStart (wcDie a) (wcWing a) a i).1 := by
  refine WritesLanes.congr (val := fun k => if k % 2 = 0 then fp32Of (u.vR a i.b) i k % 65536
    else fp32Of (u.vR a i.b) i k / 65536) ?_ fun k _ _ _ => ?cut
  case cut =>
    dsimp only
    split
    · rw [Nat.mod_mod]; rfl
    · rfl
  unfold State.vcvtStart
  simp only [hop, OfNat.ofNat_ne_zero, OfNat.ofNat_ne_one, Nat.reduceEqDiff, if_false, if_true]
  refine State.vecEnd_vWrite_writes ha rfl rfl (fun k _ => ?_) _ _ _
  simp only [Nat.zero_le, true_and, Nat.zero_add]
  split
  next hk =>
    rw [getD_map_range _ _ (by omega)]
    rfl
  · rfl

/-! ### Quantisation and look-up (R316, R317) -/

/-- VQNT with a scale per lane writes two bytes to a lane, and 0 for a byte past the last. -/
theorem State.vqntStart_writes (ha : isSq a = false) {i : EngIns} (hsb : bitOf i.ef 14 = false) :
    WritesLanes a i.a (32 * bits i.ef 8 8) ((bits i.ef 22 16 + 1) / 2) (fun k =>
      let q := fun j => if j < bits i.ef 22 16 then (qntByte ((u.vR a i.b).getD j 0) ((u.vR a i.c).getD j 0)).1 else 0
      q (2 * (k - 32 * bits i.ef 8 8)) + 256 * q (2 * (k - 32 * bits i.ef 8 8) + 1)) u
      (u.vqntStart (wcDie a) (wcWing a) a i).1 := by
  unfold State.vqntStart
  simp only [hsb, Bool.false_eq_true, if_false]
  refine State.vecEnd_vWrite_writes ha rfl rfl (fun k _ => ?_) _ _ _
  split
  next hk =>
    have hlow : 2 * (k - 32 * bits i.ef 8 8) < bits i.ef 22 16 := by omega
    rw [getD_map_range _ _ hlow, if_pos hlow]
    split
    next hhigh => rw [getD_map_range _ _ hhigh]
    · rfl
  · rfl
/-- VTBL on a table of 128 lanes, which lies in two registers of 64. -/
theorem State.vtblStart_writes (ha : isSq a = false) {i : EngIns} (ht2 : bitOf i.ef 15 = true)
    (hlen : (u.vR a i.c).length = 64) :
    WritesLanes a i.a 0 (bits i.ef 22 16) (fun k =>
      if 64 ≤ (u.vR a i.b).getD k 0 % 128 then (u.vR a (i.c + 1)).getD ((u.vR a i.b).getD k 0 % 64) 0
      else (u.vR a i.c).getD ((u.vR a i.b).getD k 0 % 64) 0) u (u.vtblStart (wcDie a) (wcWing a) a i).1 := by
  unfold State.vtblStart
  simp only [ht2, if_true]
  refine State.vecEnd_vWrite_writes ha rfl rfl (fun k _ => ?_) _ _ _
  simp only [Nat.zero_le, true_and, Nat.zero_add]
  split
  · congr 1
    generalize (u.vR a i.b).getD k 0 = x
    split
    next hhi => rw [List.getD_append_right _ _ _ _ (by omega), hlen, show x % 128 - 64 = x % 64 by omega]
    next hlo => rw [List.getD_append _ _ _ _ (by omega), show x % 128 = x % 64 by omega]
  · rfl

end

end Sys2Proof.Machine
end

section
/-! SUPPORT. Instructions on v registers, issued to the idle vector unit of a wing (R308, R312 to R317). -/

namespace Sys2Proof.Machine

section
variable {a : Nat} {u : State} {i : EngIns}

/-! ### Which part of the unit runs -/

theorem State.unitStart_vec (h : 0x60 ≤ i.op) : u.unitStart a i = u.vecStart (wcDie a) (wcWing a) a i := by
  rw [State.unitStart, if_neg (by omega), if_neg (by omega), if_neg (by omega), if_neg (by omega), if_neg (by omega),
    if_neg (by omega)]
theorem State.unitStart_arith (h : 0x62 ≤ i.op ∧ i.op ≤ 0x65) :
    u.unitStart a i = u.arithStart (wcDie a) (wcWing a) a i := by
  rw [State.unitStart_vec (by omega), State.vecStart, if_neg (by omega), if_neg (by omega), if_pos (by omega)]
theorem State.unitStart_func (h : 0x67 ≤ i.op ∧ i.op ≤ 0x69) :
    u.unitStart a i = u.funcStart (wcDie a) (wcWing a) a i := by
  rw [State.unitStart_vec (by omega), State.vecStart, if_neg (by omega), if_neg (by omega), if_neg (by omega),
    if_neg (by omega), if_pos (by omega)]

theorem State.bitOf_mkIns (s : State) (a op : Nat) (i : Ins) (va vb vc : Nat) (dst : Option Nat) (k : Nat) :
    bitOf (s.mkIns a op i va vb vc dst).ef k = (i.ef k k == 1) := by simp [bitOf, bits, State.mkIns, Ins.ef]

end

/-! ### What the command leaves -/

/-- Command `c` of wing controller `a` on instruction `i` leaves `val l` in lanes `lo ≤ l < lo + n` of v[A], cut to 16 bits,
and the other lanes as they were; the vector unit keeps the instruction, and the PC goes on. -/
def State.ShowsLanes (s : State) (a : Nat) (i : Ins) (c : Instr) (lo n : Nat) (val : Nat → Nat) : Prop :=
  ∃ t, exec c s = .next t ∧
    (∀ l : Fin 64, lo ≤ l.val → l.val < lo + n → (t.vR a i.a).getD l 0 = val l % 65536) ∧
    (∀ l : Fin 64, l.val < lo ∨ lo + n ≤ l.val → (t.vR a i.a).getD l 0 = (s.vR a i.a).getD l 0 % 65536) ∧
    ((t.engine a 3).run).isSome = true ∧ s.wentOn t a i

section
variable {a : Fin 48} {ins : Ins} {s : State} {c : Instr} (ha : 16 ≤ a.val) (hx : ins.x = false)
  (hc : csemOk a ins = true) (hrun : (s.engine a 3).run = none) (hq : (s.engine a 3).q = []) (h : s.issues a ins [])

section
include ha hc hrun hq h
/-- The lanes that the unit writes when the instruction starts are the lanes that the command leaves. -/
theorem showsLanes_of_writes {mk : State → EngIns} {lo n : Nat} {val : Nat → Nat}
    (hexec : exec c s = .next (s.engIssue a 3 ins true [] mk).settle)
    (hunit : ∀ u : State, (∀ k, u.vR a k = s.vR a k) → WritesLanes a ins.a lo n val u (u.unitStart a (mk s)).1) :
    s.ShowsLanes a ins c lo n val := by
  obtain ⟨u, -, hregs, hkept, -, hruns, hgo⟩ := State.engIssue_started (isSq_eq_false ha) (e := 3) (by decide) mk h hc hrun hq
  obtain ⟨hlanes, hpc, hloops⟩ := hunit u hregs.vR
  refine ⟨_, hexec, fun l hlo hhi => ?_, fun l hout => ?_, hruns, hgo hpc hloops⟩
  · rw [hkept.vR, hlanes l l.isLt, if_pos ⟨hlo, hhi⟩]
  · rw [hkept.vR, hlanes l l.isLt, if_neg (by omega), hregs.vR]
end

section
include ha hx hc hrun hq h
/-- VADD, VMUL, VFMA and VMAX without SB: each lane is a function of the lanes of v[B], v[C] and v[A] (R312). -/
theorem arith_showsLanes {op : Nat} (hop : 0x62 ≤ op ∧ op ≤ 0x65) (hexec : exec c s = done (s.arithIssue a op ins))
    (hn : ins.ef 22 16 ≤ 64) (h9 : ins.ef 9 0 = 0) (hsb : ins.ef 14 14 = 0)
    (hsh : ins.ef 13 10 = 0 ∨ ins.ef 15 15 = 1 ∧ (op = 0x63 ∨ op = 0x64)) {lane : Nat → Nat → Nat → Nat}
    (hlane : ∀ x y z free,
      (if ins.ef 15 15 = 1 then i16Lane op (ins.ef 13 10) x y z else bfLane op x y z free) = lane x y z) :
    s.ShowsLanes a ins c 0 (ins.ef 22 16) fun k =>
      lane ((s.vR a ins.b).getD k 0) ((s.vR a ins.c).getD k 0) ((s.vR a ins.a).getD k 0) := by
  have hsq := isSq_eq_false ha
  have hlegal : (decide (ins.ef 22 16 ≤ 64) && (ins.ef 13 10 == 0 || (ins.ef 15 15 == 1 && (op == 0x63 || op == 0x64))) &&
      ins.ef 9 0 == 0) = true := by simpa [hn, h9] using hsh
  refine showsLanes_of_writes ha hc hrun hq h (mk := fun s => s.mkIns a op ins 0 0 (s.sR a ins.c).toNat none) ?_
    fun u hu => ?_
  · rw [hexec, State.arithIssue]
    simp only [State.vecIssue, hlegal, hsq, hx, hsb]
    rfl
  · have hwrites := State.arithStart_writes (u := u) hsq (i := s.mkIns a op ins 0 0 (s.sR a ins.c).toNat none)
      (by rw [State.bitOf_mkIns, hsb]; rfl)
    rw [State.unitStart_arith hop]
    refine hwrites.congr fun k _ _ _ => congrArg (· % 65536) ?_
    rw [← hu, ← hu, ← hu, ← hlane, State.bitOf_mkIns]
    simp only [beq_iff_eq]
    rfl

/-- VEXP, VRSQ and VRCP round their function of each lane (R314). -/
theorem func_showsLanes {op : Nat} (hop : 0x67 ≤ op ∧ op ≤ 0x69) (hexec : exec c s = done (s.funcIssue a op ins))
    (h0 : ins.c = 0) (hn : ins.ef 22 16 ≤ 64) (h15 : ins.ef 15 0 = 0) {g : Fv → Fv}
    (hg : (if op = 0x67 then fExp else if op = 0x68 then fRsq else fRcp) = g) :
    s.ShowsLanes a ins c 0 (ins.ef 22 16) fun k => (g (bf ((s.vR a ins.b).getD k 0))).toBf := by
  have hsq := isSq_eq_false ha
  refine showsLanes_of_writes ha hc hrun hq h (mk := fun s => s.mkIns a op ins 0 0 (s.sR a ins.c).toNat none) ?_
    fun u hu => ?_
  · rw [hexec, State.funcIssue]
    simp [State.vecIssue, hsq, hx, h0, hn, h15, done]
  · rw [State.unitStart_func hop, ← hg, ← hu]
    exact State.funcStart_writes hsq _

/-- VSUM of I16 lanes leaves their saturated sum in lane 0 (R313). -/
theorem vsum_showsLanes (h0 : ins.c = 0) (hn : ins.ef 22 16 ≤ 64) (h13 : ins.ef 13 0 = 0) (hty : ins.ef 15 15 = 1)
    (hwide : ins.ef 14 14 = 0) :
    s.ShowsLanes a ins (.vsum a ins) 0 1 fun _ =>
      toI16 ((List.range (ins.ef 22 16)).map fun k => sext 16 ((s.vR a ins.b).getD k 0)).sum := by
  have hsq := isSq_eq_false ha
  refine showsLanes_of_writes ha hc hrun hq h (mk := fun s => s.mkIns a 0x66 ins 0 0 (s.sR a ins.c).toNat none) ?_
    fun u hu => ?_
  · show execVsum a ins s = _
    simp [execVsum, State.vecIssue, hsq, hx, h0, hn, h13, done]
  · rw [State.unitStart_vec (by decide : 0x60 ≤ 0x66), ← hu]
    exact State.vsumStart_i16_writes hsq (by rw [State.bitOf_mkIns, hty]; rfl) (by rw [State.bitOf_mkIns, hwide]; rfl) hn

/-- VQNT without SB writes two quantised bytes to a lane of the half that H names (R316). -/
theorem vqnt_showsLanes (hn : ins.ef 22 16 ≤ 64) (h15 : ins.ef 15 15 = 0) (hsb : ins.ef 14 14 = 0)
    (h13 : ins.ef 13 9 = 0) (h7 : ins.ef 7 0 = 0) :
    s.ShowsLanes a ins (.vqnt a ins) (32 * ins.ef 8 8) ((ins.ef 22 16 + 1) / 2) fun k =>
      let q := fun j => if j < ins.ef 22 16 then (qntByte ((s.vR a ins.b).getD j 0) ((s.vR a ins.c).getD j 0)).1 else 0
      q (2 * (k - 32 * ins.ef 8 8)) + 256 * q (2 * (k - 32 * ins.ef 8 8) + 1) := by
  have hsq := isSq_eq_false ha
  refine showsLanes_of_writes ha hc hrun hq h (mk := fun s => s.mkIns a 0x6B ins 0 0 (s.sR a ins.c).toNat none) ?_
    fun u hu => ?_
  · show execVqnt a ins s = _
    simp [execVqnt, State.vecIssue, hsq, hx, hn, h15, hsb, h13, h7, done]
  · rw [State.unitStart_vec (by decide : 0x60 ≤ 0x6B), ← hu, ← hu]
    exact State.vqntStart_writes hsq (by rw [State.bitOf_mkIns, hsb]; rfl)

/-- VTBL with T2 looks its lanes up in the 128 lanes of v[C] and the register after it (R317). -/
theorem vtbl_showsLanes (hn : ins.ef 22 16 ≤ 64) (h14 : ins.ef 14 0 = 0) (ht2 : ins.ef 15 15 = 1) (h31 : ins.c ≠ 31)
    (hlen : (s.vR a ins.c).length = 64) :
    s.ShowsLanes a ins (.vtbl a ins) 0 (ins.ef 22 16) fun k =>
      if ins.ef 15 15 = 1 ∧ 64 ≤ (s.vR a ins.b).getD k 0 % 128 then
        (s.vR a (ins.c.val + 1)).getD ((s.vR a ins.b).getD k 0 % 64) 0
      else (s.vR a ins.c).getD ((s.vR a ins.b).getD k 0 % 64) 0 := by
  have hsq := isSq_eq_false ha
  have h31' : (ins.c.val == 31) = false := beq_false_of_ne fun he => h31 (Fin.ext he)
  refine showsLanes_of_writes ha hc hrun hq h (mk := fun s => s.mkIns a 0x6C ins 0 0 (s.sR a ins.c).toNat none) ?_
    fun u hu => ?_
  · show execVtbl a ins s = _
    simp [execVtbl, State.vecIssue, hsq, hx, hn, h14, h31', done]
  · simp only [ht2, true_and]
    rw [State.unitStart_vec (by decide : 0x60 ≤ 0x6C), ← hu, ← hu, ← hu]
    exact State.vtblStart_writes hsq (by rw [State.bitOf_mkIns, ht2]; rfl) (by rw [hu]; exact hlen)

end

/-! ### VCVT (R315) -/

/-- A VCVT with its conversion in bits 15:14. -/
def cvtIns (i : Ins) (op : Nat) : Ins := { i with low := BitVec.ofNat 37 (putBits i.low.toNat 15 14 op) }
/-- The conversion changes no other field of the instruction. -/
theorem cvtIns_fields (i : Ins) {op : Nat} (hop : op < 4) :
    (cvtIns i op).ef 22 16 = i.ef 22 16 ∧ (cvtIns i op).ef 15 14 = op ∧ (cvtIns i op).ef 13 9 = i.ef 13 9 ∧
      (cvtIns i op).ef 8 8 = i.ef 8 8 ∧ (cvtIns i op).ef 7 0 = i.ef 7 0 ∧ (cvtIns i op).csem = i.csem := by
  have hlow := i.low.isLt
  simp only [cvtIns, Ins.ef, Ins.csem, Ins.f, bits, putBits, BitVec.toNat_ofNat]
  omega

section
include ha hx hc hrun hq h
/-- A VCVT leaves the lanes that its conversion writes. -/
theorem cvt_showsLanes {op : Nat} (hop : op < 4) (hexec : exec c s = done (s.cvtIssue a op ins)) (h0 : ins.c = 0)
    (hn : ins.ef 22 16 ≤ if 2 ≤ op then 32 else 64) (h8 : 2 ≤ op ∨ ins.ef 8 8 = 0) (h7 : ins.ef 7 0 = 0) {lo n : Nat}
    {val : Nat → Nat} (hunit : ∀ u : State, (∀ k, u.vR a k = s.vR a k) → WritesLanes a ins.a lo n val u
      (u.vcvtStart (wcDie a) (wcWing a) a (s.mkIns a 0x6A (cvtIns ins op) 0 0 (s.sR a ins.c).toNat none)).1) :
    s.ShowsLanes a ins c lo n val := by
  have hsq := isSq_eq_false ha
  obtain ⟨hn', -, -, h8', h7', hsem⟩ := cvtIns_fields ins hop
  have hc' : csemOk a (cvtIns ins op) = true := by rw [csemOk, hsem]; exact hc
  have hlegal : (ins.c.val == 0 && decide ((cvtIns ins op).ef 22 16 ≤ if 2 ≤ op then 32 else 64) &&
      (decide (2 ≤ op) || (cvtIns ins op).ef 8 8 == 0) && (cvtIns ins op).ef 7 0 == 0) = true := by
    simpa [hn', h8', h7', h0, hn, h7] using h8
  refine showsLanes_of_writes (ins := cvtIns ins op) ha hc' hrun hq h
    (mk := fun s => s.mkIns a 0x6A (cvtIns ins op) 0 0 (s.sR a ins.c).toNat none) ?_ fun u hu => ?_
  · have hissue : s.cvtIssue a op ins = s.vecIssue a 0x6A (cvtIns ins op) (ins.c.val == 0 &&
        decide ((cvtIns ins op).ef 22 16 ≤ if 2 ≤ op then 32 else 64) &&
        (decide (2 ≤ op) || (cvtIns ins op).ef 8 8 == 0) && (cvtIns ins op).ef 7 0 == 0) false := rfl
    have hx' : (cvtIns ins op).x = false := hx
    rw [hexec, hissue, hlegal, State.vecIssue, hsq, hx']
    rfl
  · rw [State.unitStart_vec (by decide : 0x60 ≤ 0x6A)]
    exact hunit u hu
theorem vcvtBf16ToI16_showsLanes (h0 : ins.c = 0) (hn : ins.ef 22 16 ≤ 64) (h7 : ins.ef 7 0 = 0) (h8 : ins.ef 8 8 = 0) :
    s.ShowsLanes a ins (.vcvtBf16ToI16 a ins) 0 (ins.ef 22 16) fun k =>
      (bfToI16 ((s.vR a ins.b).getD k 0) (sext 5 (ins.ef 13 9))).1 := by
  obtain ⟨hn', hop, hsh, -⟩ := cvtIns_fields ins (op := 0) (by decide)
  refine cvt_showsLanes ha hx hc hrun hq h (op := 0) (by decide) rfl h0 hn (.inr h8) h7 fun u hu => ?_
  rw [← hn', ← hsh, ← hu]
  exact State.vcvtStart_toI16_writes (isSq_eq_false ha) hop
theorem vcvtI16ToBf16_showsLanes (h0 : ins.c = 0) (hn : ins.ef 22 16 ≤ 64) (h7 : ins.ef 7 0 = 0) (h8 : ins.ef 8 8 = 0) :
    s.ShowsLanes a ins (.vcvtI16ToBf16 a ins) 0 (ins.ef 22 16) fun k =>
      ((dyadic (sext 16 ((s.vR a ins.b).getD k 0)) 0 false).scale (sext 5 (ins.ef 13 9))).toBf := by
  obtain ⟨hn', hop, hsh, -⟩ := cvtIns_fields ins (op := 1) (by decide)
  refine cvt_showsLanes ha hx hc hrun hq h (op := 1) (by decide) rfl h0 hn (.inr h8) h7 fun u hu => ?_
  rw [← hn', ← hsh, ← hu]
  exact State.vcvtStart_i16_writes (isSq_eq_false ha) hop
theorem vcvtFp32ToBf16_showsLanes (h0 : ins.c = 0) (hn : ins.ef 22 16 ≤ 32) (h7 : ins.ef 7 0 = 0) :
    s.ShowsLanes a ins (.vcvtFp32ToBf16 a ins) (32 * ins.ef 8 8) (ins.ef 22 16) fun k =>
      ((f32z ((s.vR a ins.b).getD (2 * (k - 32 * ins.ef 8 8)) 0 +
        65536 * (s.vR a ins.b).getD (2 * (k - 32 * ins.ef 8 8) + 1) 0)).scale (sext 5 (ins.ef 13 9))).toBf := by
  obtain ⟨hn', hop, hsh, h8', -⟩ := cvtIns_fields ins (op := 2) (by decide)
  refine cvt_showsLanes ha hx hc hrun hq h (op := 2) (by decide) rfl h0 hn (.inl (by decide)) h7 fun u hu => ?_
  rw [← hn', ← hsh, ← h8', ← hu]
  exact State.vcvtStart_fp32_writes (isSq_eq_false ha) hop
theorem vcvtBf16ToFp32_showsLanes (h0 : ins.c = 0) (hn : ins.ef 22 16 ≤ 32) (h7 : ins.ef 7 0 = 0) :
    s.ShowsLanes a ins (.vcvtBf16ToFp32 a ins) 0 (2 * ins.ef 22 16) fun k =>
      let x := ((bf ((s.vR a ins.b).getD (32 * ins.ef 8 8 + k / 2) 0)).scale (sext 5 (ins.ef 13 9))).encode 24 true
      if k % 2 = 0 then x else x / 65536 := by
  obtain ⟨hn', hop, hsh, h8', -⟩ := cvtIns_fields ins (op := 3) (by decide)
  refine cvt_showsLanes ha hx hc hrun hq h (op := 3) (by decide) rfl h0 hn (.inl (by decide)) h7 fun u hu => ?_
  rw [← hn', ← hsh, ← h8', ← hu]
  exact State.vcvtStart_toFp32_writes (isSq_eq_false ha) hop

end

end

/-- The largest of two I16 lanes needs no saturation. -/
theorem clampS_max_sext (x y : Nat) : clampS 16 (max (sext 16 x) (sext 16 y)) = max (sext 16 x) (sext 16 y) := by
  have hrange : ∀ z, -2 ^ 15 ≤ sext 16 z ∧ sext 16 z < 2 ^ 15 := fun z => by
    simp only [sext]
    split <;> omega
  have hx := hrange x
  have hy := hrange y
  simp only [clampS]
  omega

/-- Settles O24: each instruction starts in its command (`State.engIssue_started`), and what stands in v[A] is what the
unit's start writes (`State.arithStart_writes`, `State.vsumStart_i16_writes`), lane by lane. -/
theorem vectorArithmeticResults : Obligations.VectorArithmeticResults := by
  unfold Obligations.VectorArithmeticResults
  refine ⟨?vadd, ?vmul, ?vfma, ?vmax, ?vmulBf, ?vmaxBf, ?vsum⟩
  case vadd =>
    intro a ins s ha hx hc hn h9 hsb hty hsh hrun hq h
    exact arith_showsLanes ha hx hc hrun hq h (op := 0x62) (by decide) rfl hn h9 hsb (.inl hsh)
      (lane := fun x y _ => toI16 (i16 x + i16 y)) fun x y z free => if_pos hty
  case vmul =>
    intro a ins s ha hx hc hn h9 hsb hty hrun hq h
    exact arith_showsLanes ha hx hc hrun hq h (op := 0x63) (by decide) rfl hn h9 hsb (.inr ⟨hty, .inl rfl⟩)
      (lane := fun x y _ => toI16 (rsh (i16 x * i16 y) (ins.ef 13 10))) fun x y z free => if_pos hty
  case vfma =>
    intro a ins s ha hx hc hn h9 hsb hty hrun hq h
    exact arith_showsLanes ha hx hc hrun hq h (op := 0x64) (by decide) rfl hn h9 hsb (.inr ⟨hty, .inr rfl⟩)
      (lane := fun x y z => toI16 (i16 z + rsh (i16 x * i16 y) (ins.ef 13 10))) fun x y z free => if_pos hty
  case vmax =>
    intro a ins s ha hx hc hn h9 hsb hty hsh hrun hq h
    exact arith_showsLanes ha hx hc hrun hq h (op := 0x65) (by decide) rfl hn h9 hsb (.inl hsh)
      (lane := fun x y _ => wrapTo 16 (max (sext 16 x) (sext 16 y)))
      fun x y z free => (if_pos hty).trans (congrArg (wrapTo 16) (clampS_max_sext x y))
  case vmulBf =>
    intro a ins s ha hx hc hn h9 hsb hsh hty hrun hq h
    exact arith_showsLanes ha hx hc hrun hq h (op := 0x63) (by decide) rfl hn h9 hsb (.inl hsh)
      (lane := fun x y _ => ((bf x).mul (bf y)).toBf) fun x y z free => if_neg (by omega)
  case vmaxBf =>
    intro a ins s ha hx hc hn h9 hsb hsh hty hrun hq h
    exact arith_showsLanes ha hx hc hrun hq h (op := 0x65) (by decide) rfl hn h9 hsb (.inl hsh)
      (lane := fun x y _ => (fmaxBf (bf x) (bf y)).toBf) fun x y z free => if_neg (by omega)
  case vsum =>
    intro a ins s ha hx hc h0 hn h13 hty hwide hrun hq h
    exact vsum_showsLanes ha hx hc hrun hq h h0 hn h13 hty hwide

/-- Settles O25, as O24: what the start of each function, conversion or look-up writes (`State.funcStart_writes` and its
neighbours). -/
theorem vectorFunctionsAndConversions : Obligations.VectorFunctionsAndConversions := by
  unfold Obligations.VectorFunctionsAndConversions
  refine ⟨?vexp, ?vrsq, ?vrcp, ?toI16, ?ofI16, ?ofFp32, ?toFp32, ?vqnt, ?vtbl⟩
  case vexp =>
    intro a ins s ha hx hc h0 hn h15 hrun hq h
    exact func_showsLanes ha hx hc hrun hq h (op := 0x67) (by decide) rfl h0 hn h15 rfl
  case vrsq =>
    intro a ins s ha hx hc h0 hn h15 hrun hq h
    exact func_showsLanes ha hx hc hrun hq h (op := 0x68) (by decide) rfl h0 hn h15 rfl
  case vrcp =>
    intro a ins s ha hx hc h0 hn h15 hrun hq h
    exact func_showsLanes ha hx hc hrun hq h (op := 0x69) (by decide) rfl h0 hn h15 rfl
  case toI16 =>
    intro a ins s ha hx hc h0 hn h7 h8 hrun hq h
    exact vcvtBf16ToI16_showsLanes ha hx hc hrun hq h h0 hn h7 h8
  case ofI16 =>
    intro a ins s ha hx hc h0 hn h7 h8 hrun hq h
    exact vcvtI16ToBf16_showsLanes ha hx hc hrun hq h h0 hn h7 h8
  case ofFp32 =>
    intro a ins s ha hx hc h0 hn h7 hrun hq h
    exact vcvtFp32ToBf16_showsLanes ha hx hc hrun hq h h0 hn h7
  case toFp32 =>
    intro a ins s ha hx hc h0 hn h7 hrun hq h
    exact vcvtBf16ToFp32_showsLanes ha hx hc hrun hq h h0 hn h7
  case vqnt =>
    intro a ins s ha hx hc hn h15 hsb h13 h7 hrun hq h
    exact vqnt_showsLanes ha hx hc hrun hq h hn h15 hsb h13 h7
  case vtbl =>
    intro a ins s ha hx hc hn h14 ht2 h31 hlen hrun hq h
    exact vtbl_showsLanes ha hx hc hrun hq h hn h14 ht2 h31 hlen

end Sys2Proof.Machine
end

section
/-! SUPPORT. VLD of a wing on its own banks (R187, R188, R310). -/

namespace Sys2Proof.Machine

section
variable {L : List Part} {Q : Nat → Bool} {a d w : Nat} {s t u : State} {i : EngIns} {ea : Nat}

/-! ### Bytes and lines of the banks -/

theorem State.ldb_of_mem (h : t.mem = s.mem) (b : Nat) : t.ldb b = s.ldb b := by rw [State.ldb, h, State.ldb]
theorem State.ldw_of_mem (h : t.mem = s.mem) (b n : Nat) : t.ldw b n = s.ldw b n :=
  congrArg fromBytes (State.ldn_congr n b fun _ _ _ => State.ldb_of_mem h _)
theorem State.lineMarked_congr (hpoison : t.poison = s.poison) (hparity : t.parity = s.parity) (n : Nat) :
    t.lineMarked d w n = s.lineMarked d w n := by
  simp only [State.lineMarked, State.poisoned, State.badWords, hpoison, hparity]
theorem State.getD_ldn (s : State) (b : Nat) {n k : Nat} (hk : k < n) : (s.ldn b n).getD k 0 = s.ldb (b + k) := by
  induction n generalizing b k with
  | zero => omega
  | succ n ih =>
    cases k with
    | zero => rfl
    | succ k =>
      have hnext : b + (k + 1) = b + 1 + k := by omega
      rw [State.ldn, List.getD_cons_succ, ih (b + 1) (by omega), hnext]
/-- Lane `k` of a v register that is loaded from address `b` on. -/
def State.laneAt (s : State) (b k : Nat) : Nat := (s.ldb (b + 2 * k)).toNat + 256 * (s.ldb (b + 2 * k + 1)).toNat
theorem State.laneAt_of_mem (h : t.mem = s.mem) (b : Nat) : t.laneAt b = s.laneAt b := by
  funext k
  rw [State.laneAt, State.ldb_of_mem h, State.ldb_of_mem h, State.laneAt]
theorem State.bfElems_ldn (s : State) (b n : Nat) : bfElems (s.ldn b (2 * n)) = (List.range n).map (s.laneAt b) := by
  induction n generalizing b with
  | zero => rfl
  | succ n ih =>
    have hnext : ∀ k, s.laneAt (b + 1 + 1) k = s.laneAt b (k + 1) := fun k => by
      rw [State.laneAt, State.laneAt, show b + 1 + 1 + 2 * k = b + 2 * (k + 1) by omega]
    rw [Nat.mul_succ, State.ldn, State.ldn, bfElems, ih, List.range_succ_eq_map, List.map_cons, List.map_map]
    exact congrArg _ (List.map_congr_left fun k _ => hnext k)
theorem State.stn_append (s : State) (b : Nat) (l m : List Byte) : s.stn b (l ++ m) = (s.stn b l).stn (b + l.length) m := by
  induction l generalizing s b with
  | nil => rfl
  | cons x l ih =>
    rw [List.cons_append, State.stn, State.stn, ih, List.length_cons, show b + 1 + l.length = b + (l.length + 1) by omega]

/-- The lines of consecutive addresses from `base` on are consecutive. -/
theorem lines_consecutive {base n : Nat} (h : base ≤ ea) :
    some (((List.range n).map fun j => ea + 64 * j * 1).map fun x => (x - base) / 64) =
      some ((List.range n).map fun j => (ea - base) / 64 + j) := by
  rw [List.map_map]
  refine congrArg some (List.map_congr_left fun j _ => ?_)
  simp only [Function.comp_apply]
  omega
/-- The lines of a VLD or VST of `n` consecutive lines in the wing's banks (R310). -/
theorem vlines_consecutive (hmode : bits i.ef 22 21 ≠ 1) {n : Nat} (hn : bits i.ef 20 19 = n)
    (hea : (i.vb + i.vc) % 2 ^ 40 = ea) (hal : ea % 64 = 0) (hown : ownBytes d w ea (64 * n) = true) {l : Nat}
    (hl : (ea - rrAddr d w 0) / 64 = l) : vlines d w i = some ((List.range n).map (l + ·)) := by
  rw [ownBytes_iff] at hown
  have hpass : ¬ (ea % 64 ≠ 0 ∨ 2 ^ 20 < 1 ∨
      ((List.range n).map fun j => ea + 64 * j * 1).any (fun x => !ownBytes d w x 64) = true) := by
    simp only [hal, ne_eq, not_true_eq_false, false_or, not_or, List.any_eq_true, List.mem_map, List.mem_range,
      Bool.not_eq_true', not_exists, not_and]
    refine ⟨by norm_num, fun x ⟨j, hj, hx⟩ hout => ?_⟩
    have hline : ownBytes d w x 64 = true := ownBytes_iff.2 (by omega)
    rw [hline] at hout
    cases hout
  unfold vlines
  rw [hea, hn, if_neg hmode]
  dsimp only
  rw [if_neg hpass, ← hl]
  exact lines_consecutive hown.1
/-- A line of the banks lies at its address. -/
theorem rrAddr_line (hal : ea % 64 = 0) (hown : rrAddr d w 0 ≤ ea) {l : Nat} (hl : (ea - rrAddr d w 0) / 64 = l) (j : Nat) :
    rrAddr d w (64 * (l + j)) = ea + 64 * j := by
  simp only [rrAddr] at *
  omega
theorem State.lineData_at (hal : ea % 64 = 0) (hown : rrAddr d w 0 ≤ ea) {l : Nat} (hl : (ea - rrAddr d w 0) / 64 = l)
    (j : Nat) : s.lineData d w (l + j) = s.ldn (ea + 64 * j) 64 := by
  rw [State.lineData, rrAddr_line hal hown hl]

/-! ### What the unit leaves beside its result -/

theorem InWing.pc {L : List Part} (ha : isSq a = false)
    (h : InWing L (fun x => !controlBits x) (wcDie a) (wcWing a) s t) : t.pc a = s.pc a := by
  rw [State.pc_wing ha, State.pc_wing ha]
  exact h.rd (by decide)
theorem covers_not_controlBits : Covers (fun x => !controlBits x) 0x110 0x134 := fun x _ hx => by
  simp [controlBits]; omega
/-- The checks that a load makes of its lines (R188). -/
def State.linesChecked (s : State) (d w : Nat) (ls : List Nat) : State := ls.foldl (fun s l => s.lineCheck d w l 3) s
theorem State.inWing_linesChecked (hQ : Covers Q 0x110 0x134) (ls : List Nat) :
    InWing L Q d w s (t.linesChecked d w ls) ↔ InWing L Q d w s t :=
  InWing.foldl ls fun _ _ _ => State.inWing_lineCheck hQ _ _

/-! ### VLD (R310) -/

theorem State.unitStart_vld (h : i.op = 0x60) : s.unitStart a i = s.vldStart (wcDie a) (wcWing a) a i := by
  rw [State.unitStart_vec (by omega), State.vecStart, if_pos h]
theorem State.unitStart_vst (h : i.op = 0x61) : s.unitStart a i = s.vstStart (wcDie a) (wcWing a) a i := by
  rw [State.unitStart_vec (by omega), State.vecStart, if_neg (by omega), if_pos h]

/-- A load into a v register changes the register, and the logs of the lines it finds bad. -/
theorem State.vPut_linesChecked (ha : isSq a = false) (s : State) (ls l : List Nat) (r p : Nat) :
    let t := (s.linesChecked (wcDie a) (wcWing a) ls).vPut a r l p
    t.mem = s.mem ∧ t.pc a = s.pc a ∧ (t.agent a).loops = (s.agent a).loops := by
  have hcheck : InWing [] (fun x => !controlBits x) (wcDie a) (wcWing a) s (s.linesChecked (wcDie a) (wcWing a) ls) :=
    (State.inWing_linesChecked covers_not_controlBits ls).2 (InWing.refl _ _ _ _ _)
  have hput : InWing [.agents] (fun x => !controlBits x) (wcDie a) (wcWing a) s
      ((s.linesChecked (wcDie a) (wcWing a) ls).vPut a r l p) :=
    (State.inWing_modAgent (by decide) _ _).2 (hcheck.mono (by simp) fun _ h => h)
  have hagents : (s.linesChecked (wcDie a) (wcWing a) ls).agents = s.agents := hcheck.same (p := .agents) (by decide)
  refine ⟨hput.same (p := .mem) (by decide), hput.pc ha, ?_⟩
  rw [State.loops_vPut, State.agent, hagents, State.agent]

/-- The lanes of a line at address `b`. -/
theorem State.lineLanes_ldn (s : State) (b : Nat) : lineLanes (s.ldn b 64) = (List.range 32).map (s.laneAt b) :=
  s.bfElems_ldn b 32
/-- Two lines of 32 lanes are the 64 lanes from the first line on. -/
theorem State.lanes_append (s : State) (b : Nat) :
    (List.range 32).map (s.laneAt b) ++ (List.range 32).map (s.laneAt (b + 64)) = (List.range 64).map (s.laneAt b) := by
  have hsecond : ∀ k, s.laneAt (b + 64) k = s.laneAt b (32 + k) := fun k => by
    rw [State.laneAt, State.laneAt, show b + 64 + 2 * k = b + 2 * (32 + k) by omega]
  rw [show List.range 64 = List.range 32 ++ (List.range 32).map (32 + ·) from @List.range_add 32 32, List.map_append,
    List.map_map]
  exact congrArg _ (List.map_congr_left fun k _ => hsecond k)

/-- A VLD of two lines that pass their checks loads their 64 lanes. -/
theorem State.vldStart_two {l m : Nat} (hlines : vlines d w i = some [l, m]) (hmode : bits i.ef 22 21 ≠ 2)
    (hl : s.lineData d w l = s.ldn ea 64) (hm : s.lineData d w m = s.ldn (ea + 64) 64) :
    (s.vldStart d w a i).1 = (s.linesChecked d w [l, m]).vPut a i.a ((List.range 64).map (s.laneAt ea))
      (b2n (s.lineMarked d w l) + 2 * b2n (s.lineMarked d w m)) := by
  have hlanes : ∀ old : List Nat, (List.range 64).map (fun k => ((List.range 64).map (s.laneAt ea)).getD k (old.getD k 0)) =
      (List.range 64).map (s.laneAt ea) := fun old =>
    List.map_congr_left fun k hk => getD_map_range _ _ (List.mem_range.1 hk)
  rw [State.vldStart, hlines]
  simp only [reduceCtorEq, if_false, hmode, List.flatMap_map, List.flatMap_cons, List.flatMap_nil, List.append_nil, hl, hm,
    State.lineLanes_ldn, State.lanes_append, hlanes]
  rfl

/-- Lane `k` of a v register that is loaded from the bytes at address `b` on, widened. -/
def State.wideAt (s : State) (b k : Nat) : Nat := wrapTo 16 (sext 8 (s.ldb (b + k)).toNat)
theorem State.wideAt_of_mem (h : t.mem = s.mem) (b : Nat) : t.wideAt b = s.wideAt b := by
  funext k
  rw [State.wideAt, State.ldb_of_mem h, State.wideAt]
/-- A VLD with MODE widen of one line that passes its checks loads its 64 bytes. -/
theorem State.vldStart_widen {l : Nat} (hlines : vlines d w i = some [l]) (hmode : bits i.ef 22 21 = 2)
    (hl : s.lineData d w l = s.ldn ea 64) :
    (s.vldStart d w a i).1 =
      (s.linesChecked d w [l]).vPut a i.a ((List.range 64).map (s.wideAt ea)) (3 * b2n (s.lineMarked d w l)) := by
  have hlanes : (List.range 64).map (fun k => wrapTo 16 (sext 8 ((s.ldn ea 64).getD k 0).toNat)) =
      (List.range 64).map (s.wideAt ea) :=
    List.map_congr_left fun k hk => by rw [State.getD_ldn _ _ (List.mem_range.1 hk), State.wideAt]
  rw [State.vldStart, hlines]
  simp only [reduceCtorEq, if_false, hmode, if_true, List.map_cons, List.headD_cons, hl, hlanes]
  rfl

section
variable {a : Fin 48} {ins : Ins} {s : State}

/-- A legal vector load or store starts on the idle vector unit. -/
theorem State.vmemIssue_started {op : Nat} (ha : 16 ≤ a.val) (hx : ins.x = false) (hc : csemOk a ins = true)
    (hmode : ins.ef 22 21 = 0 ∨ ins.ef 22 21 = 2 ∧ op = 0x60 ∧ ins.ef 20 19 ≠ 2) (hn : ins.ef 20 19 ≠ 3) (hb : ins.b < 16)
    (h18 : ins.ef 18 0 = 0) (h21 : ins.e 63 21 = 0) (hrun : (s.engine a 3).run = none) (hq : (s.engine a 3).q = [])
    (h : s.issues a ins [32 + ins.b.val, ins.c.val]) :
    s.Started a 3 (s.eaIns a op ins 0 none) ins (s.vmemIssue a op ins).settle := by
  have hsq := isSq_eq_false ha
  have hissue : s.vmemIssue a op ins =
      s.engIssue a 3 ins true [32 + ins.b.val, ins.c.val] (fun s => s.eaIns a op ins 0 none) := by
    have hb' : ins.b.val < 16 := hb
    have hn' : (ins.ef 20 19 != 3) = true := bne_iff_ne.2 hn
    unfold State.vmemIssue
    obtain hm | ⟨hm, hop, hn2⟩ := hmode
    · simp [hsq, hx, hm, hn', hb', h18, h21]
    · have hn2' : (ins.ef 20 19 != 2) = true := bne_iff_ne.2 hn2
      simp [hsq, hx, hm, hn', hb', h18, h21, hop, hn2']
  rw [hissue]
  exact State.engIssue_started hsq (by decide) (fun s => s.eaIns a op ins 0 none) h hc hrun hq

/-- What a VLD leaves whose unit loads `lanes` and poison bits `p`, after checks of lines `ls`. -/
theorem State.Started.vld {en : EngIns} {t : State} {i : Ins} {ls lanes : List Nat} {r p : Nat} (ha : 16 ≤ a.val)
    (h : s.Started a 3 en i t) (hlanes : lanes.length = 64)
    (hunit : ∀ u : State, u.mem = s.mem → u.poison = s.poison → u.parity = s.parity →
      (u.unitStart a en).1 = (u.linesChecked (wcDie a) (wcWing a) ls).vPut a r lanes p) :
    (∀ l : Fin 64, (t.vR a r).getD l 0 = lanes.getD l 0) ∧ t.vP a r = p % 4 ∧ t.mem = s.mem ∧
      ((t.engine a 3).run).isSome = true ∧ s.wentOn t a i := by
  obtain ⟨u, hside, -, hregs, hkeeps, hruns, hgo⟩ := h
  have hu := hunit u (hside.same (p := .mem) (by decide)) (hside.same (p := .poison) (by decide))
    (hside.same (p := .parity) (by decide))
  obtain ⟨hmem, hpc, hloops⟩ := u.vPut_linesChecked (isSq_eq_false ha) ls lanes r p
  rw [hu] at hregs hkeeps hgo
  refine ⟨fun l => ?_, ?_, ?_, hruns, hgo hpc hloops⟩
  · rw [hregs.vR, State.getD_vR_vPut hlanes]
  · rw [hregs.vP, State.vP_vPut]
  · exact (hkeeps .mem (by decide)).trans (hmem.trans (hside.same (p := .mem) (by decide)))

theorem State.bits_eaIns (s : State) (a op : Nat) (i : Ins) (va : Nat) (dst : Option Nat) (hi lo : Nat) :
    bits (s.eaIns a op i va dst).ef hi lo = i.ef hi lo := rfl

section
variable {l : Nat} (ha : 16 ≤ a.val) (hx : ins.x = false) (hb : ins.b < 16) (h21 : ins.e 63 21 = 0)
  (hrun : (s.engine a 3).run = none) (hq : (s.engine a 3).q = []) (h : s.issues a ins [32 + ins.b.val, ins.c.val])
  (hea : ((s.adR a ins.b).toNat + (s.sR a ins.c).toNat) % 2 ^ 40 = ea) (hal : ea % 64 = 0)
  (hl : (ea - rrAddr (wcDie a) (wcWing a) 0) / 64 = l)
include ha hx hb h21 hrun hq h hea hal hl

/-- VLD of two lines in the wing's banks (R310). -/
theorem vld_two_shows (hc : csemOk a ins = true) (hmode : ins.ef 22 21 = 0) (hn : ins.ef 20 19 = 2)
    (h18 : ins.ef 18 0 = 0) (hown : ownBytes (wcDie a) (wcWing a) ea 128 = true) :
    ∃ t, exec (.vld a ins) s = .next t ∧ (∀ l : Fin 64, (t.vR a ins.a).getD l 0 = s.laneAt ea l) ∧
      t.vP a ins.a = b2n (s.lineMarked (wcDie a) (wcWing a) l) + 2 * b2n (s.lineMarked (wcDie a) (wcWing a) (l + 1)) ∧
      t.mem = s.mem ∧ ((t.engine a 3).run).isSome = true ∧ s.wentOn t a ins := by
  have hstart := State.vmemIssue_started (op := 0x60) ha hx hc (.inl hmode) (by omega) hb h18 h21 hrun hq h
  have hlines : vlines (wcDie a) (wcWing a) (s.eaIns a 0x60 ins 0 none) = some [l, l + 1] :=
    vlines_consecutive (i := s.eaIns a 0x60 ins 0 none) (n := 2) (by rw [State.bits_eaIns]; omega) hn hea hal hown hl
  have hbase := (ownBytes_iff.1 hown).1
  obtain ⟨hlanes, hpoison, hmem, hruns, hgo⟩ := hstart.vld (ls := [l, l + 1]) (r := ins.a)
    (lanes := (List.range 64).map (s.laneAt ea))
    (p := b2n (s.lineMarked (wcDie a) (wcWing a) l) + 2 * b2n (s.lineMarked (wcDie a) (wcWing a) (l + 1))) ha (by simp)
    fun u hmem hpoison hparity => by
      rw [State.unitStart_vld rfl, State.vldStart_two hlines
        (by rw [State.bits_eaIns]; omega) (State.lineData_at hal hbase hl 0) (State.lineData_at hal hbase hl 1),
        State.laneAt_of_mem hmem, State.lineMarked_congr hpoison hparity, State.lineMarked_congr hpoison hparity]
      rfl
  refine ⟨_, rfl, fun l => ?_, ?_, hmem, hruns, hgo⟩
  · rw [hlanes, getD_map_range _ _ l.isLt]
  · rw [hpoison]
    cases s.lineMarked (wcDie a) (wcWing a) l <;> cases s.lineMarked (wcDie a) (wcWing a) (l + 1) <;> rfl

/-- A vector load whose fields `low` say MODE widen and one line loads the 64 bytes of the line. -/
theorem vmemIssue_widen_shows {low : BitVec 37} (hc : csemOk a { ins with low := low } = true)
    (hmode : Ins.ef { ins with low := low } 22 21 = 2) (hn : Ins.ef { ins with low := low } 20 19 = 1)
    (h18 : Ins.ef { ins with low := low } 18 0 = 0) (hown : ownBytes (wcDie a) (wcWing a) ea 64 = true) :
    let t := (s.vmemIssue a 0x60 { ins with low := low }).settle
    (∀ l : Fin 64, (t.vR a ins.a).getD l 0 = s.wideAt ea l) ∧
      t.vP a ins.a = 3 * b2n (s.lineMarked (wcDie a) (wcWing a) l) ∧
      t.mem = s.mem ∧ ((t.engine a 3).run).isSome = true ∧ s.wentOn t a ins := by
  have hstart := State.vmemIssue_started (op := 0x60) (ins := { ins with low := low }) ha hx hc
    (.inr ⟨hmode, rfl, by omega⟩) (by omega) hb h18 h21 hrun hq h
  set en := s.eaIns a 0x60 { ins with low := low } 0 none
  have hlines : vlines (wcDie a) (wcWing a) en = some [l] :=
    vlines_consecutive (i := en) (n := 1) (ne_of_eq_of_ne hmode (by decide)) hn hea hal hown hl
  have hbase := (ownBytes_iff.1 hown).1
  obtain ⟨hlanes, hpoison, hrest⟩ := hstart.vld (ls := [l]) (r := ins.a)
    (lanes := (List.range 64).map (s.wideAt ea)) (p := 3 * b2n (s.lineMarked (wcDie a) (wcWing a) l)) ha (by simp)
    fun u hmem hpoison hparity => by
      rw [State.unitStart_vld rfl, State.vldStart_widen hlines hmode (State.lineData_at hal hbase hl 0),
        State.wideAt_of_mem hmem, State.lineMarked_congr hpoison hparity]
      rfl
  refine ⟨fun l => ?_, ?_, hrest⟩
  · rw [hlanes, getD_map_range _ _ l.isLt]
  · rw [hpoison]
    cases s.lineMarked (wcDie a) (wcWing a) l <;> rfl

end

/-- MODE widen changes no other field of the instruction. -/
theorem ef_widen (i : Ins) {low : BitVec 37} (hlow : low = BitVec.ofNat 37 (putBits i.low.toNat 22 21 2)) :
    Ins.ef { i with low := low } 22 21 = 2 ∧ Ins.ef { i with low := low } 20 19 = i.ef 20 19 ∧
      Ins.ef { i with low := low } 18 0 = i.ef 18 0 := by
  have h37 := i.low.isLt
  simp only [hlow, Ins.ef, bits, putBits, BitVec.toNat_ofNat]
  omega

end

end

end Sys2Proof.Machine
end

section
/-! SUPPORT. VST of a wing on its own banks (R310). -/

namespace Sys2Proof.Machine

section
variable {L : List Part} {Q : Nat → Bool} {a d w r l m ea : Nat} {s t u : State} {i : EngIns}

/-! ### A write of a whole line (R187) -/

theorem State.inWing_lineWrite (hm : .mem ∈ L) (hp : .poison ∈ L) (hq : .parity ∈ L) (n o : Nat) (data : List Byte)
    (flag : Bool) : InWing L Q d w s (t.lineWrite d w n o data flag) ↔ InWing L Q d w s t := by
  simp [State.lineWrite, hm, hp, hq]
theorem State.poisoned_congr (h : t.poison = s.poison) (k : Nat) : t.poisoned k = s.poisoned k := by
  rw [State.poisoned, h, State.poisoned]
theorem State.poisoned_setPoison_other {k k' : Nat} (h : k' ≠ k) (s : State) (b : Bool) :
    (s.setPoison k b).poisoned k' = s.poisoned k' := Store.get_put_other _ _ _ _ _ _ h
/-- A write of a full line gives the line the flag as its poison bit. -/
theorem State.poisoned_lineWrite_full {data : List Byte} (hdata : data.length = 64) (s : State) (n : Nat) (flag : Bool) :
    (s.lineWrite d w n 0 data flag).poisoned (rrLine d w n) = flag := by
  simp only [State.lineWrite, hdata]
  exact State.poisoned_setPoison _ _ _
/-- A write into a line leaves the poison bits of the others. -/
theorem State.poisoned_lineWrite_other {k : Nat} (h : k ≠ rrLine d w m) (s : State) (o : Nat) (data : List Byte)
    (flag : Bool) : (s.lineWrite d w m o data flag).poisoned k = s.poisoned k := by
  have hstn : (s.stn (rrAddr d w (64 * m + o)) data).poison = s.poison :=
    (State.keeps_stn (L := [.mem]) (by decide) _ _).2 (Keeps.refl _ s) .poison (by decide)
  unfold State.lineWrite
  dsimp only
  split
  · rw [State.poisoned_setPoison_other h]
    exact State.poisoned_congr hstn k
  split
  · rw [State.poisoned_setPoison_other h]
    exact State.poisoned_congr hstn k
  · exact State.poisoned_congr hstn k

/-! ### VST -/

/-- The bytes of half `h` of a v register's lanes. -/
def halfBytes (v : List Nat) (h : Nat) : List Byte := ((v.drop (32 * h)).take 32).flatMap (toBytes 2)
theorem length_flatMap_toBytes (v : List Nat) (n : Nat) : (v.flatMap (toBytes n)).length = n * v.length := by
  induction v with
  | nil => rfl
  | cons x xs ih => rw [List.flatMap_cons, List.length_append, toBytes_length, ih, List.length_cons, Nat.mul_succ, Nat.add_comm]
theorem length_halfBytes {v : List Nat} (hv : v.length = 64) {h : Nat} (hh : h < 2) : (halfBytes v h).length = 64 := by
  rw [halfBytes, length_flatMap_toBytes, List.length_take, List.length_drop, hv]
  omega
theorem halfBytes_append {v : List Nat} (hv : v.length = 64) :
    halfBytes v 0 ++ halfBytes v 1 = v.flatMap (toBytes 2) := by
  have hrest : (v.drop (32 * 1)).take 32 = v.drop 32 := List.take_of_length_le (by simp [hv])
  rw [halfBytes, halfBytes, hrest, ← List.flatMap_append]
  exact congrArg _ (List.take_append_drop 32 v)

/-- What a VST does with half `h` of v register `r`: it writes line `l`, and counts a poisoned one. -/
def State.vstLine (s : State) (d w a r l h : Nat) : State :=
  let t := s.lineWrite d w l 0 (halfBytes (s.vR a r) h) (bitOf (s.vP a r) h)
  if bitOf (s.vP a r) h then t.inc (wg d w) R.VEC_CNT_POISONED else t
theorem State.vstStart_two (hlines : vlines d w i = some [l, m]) :
    (s.vstStart d w a i).1 = (s.vstLine d w a i.a l 0).vstLine d w a i.a m 1 := by
  rw [State.vstStart, hlines]
  rfl
theorem State.inWing_vstLine (r l h : Nat) :
    InWing [.mem, .poison, .parity] (fun x => !controlBits x) d w s (s.vstLine d w a r l h) := by
  unfold State.vstLine
  dsimp only
  split
  · exact (State.inWing_inc (by decide)).2 ((State.inWing_lineWrite (by decide) (by decide) (by decide) _ _ _ _).2
      (InWing.refl _ _ _ _ _))
  · exact (State.inWing_lineWrite (by decide) (by decide) (by decide) _ _ _ _).2 (InWing.refl _ _ _ _ _)
theorem State.agents_vstLine (r l h : Nat) : (s.vstLine d w a r l h).agents = s.agents :=
  (State.inWing_vstLine r l h).same (p := .agents) (by decide)
theorem State.mem_vstLine (r l h : Nat) :
    (s.vstLine d w a r l h).mem = (s.stn (rrAddr d w (64 * l)) (halfBytes (s.vR a r) h)).mem := by
  have hline := State.mem_lineWrite (s := s) (d := d) (w := w) l 0 (halfBytes (s.vR a r) h) (bitOf (s.vP a r) h)
  unfold State.vstLine
  dsimp only
  split
  · exact hline
  · exact hline
theorem State.poison_vstLine (r l h : Nat) : (s.vstLine d w a r l h).poison =
    (s.lineWrite d w l 0 (halfBytes (s.vR a r) h) (bitOf (s.vP a r) h)).poison := by
  unfold State.vstLine
  dsimp only
  split <;> rfl

/-- Both halves of a v register, stored in consecutive lines, lie in memory in order. -/
theorem State.mem_vstLine_two (hv : (s.vR a r).length = 64) (hl : rrAddr d w (64 * l) = ea)
    (hm : rrAddr d w (64 * m) = ea + 64) :
    ((s.vstLine d w a r l 0).vstLine d w a r m 1).mem = (s.stn ea ((s.vR a r).flatMap (toBytes 2))).mem := by
  have hregs : (s.vstLine d w a r l 0).vR a r = s.vR a r :=
    State.vR_congr (by rw [State.agent, State.agents_vstLine, State.agent]) r
  rw [State.mem_vstLine, hregs, hm, State.mem_stn_congr (State.mem_vstLine r l 0), hl, ← halfBytes_append hv,
    State.stn_append, length_halfBytes hv (by decide)]
theorem State.poisoned_vstLine_two (hv : (s.vR a r).length = 64) (hlm : l ≠ m) :
    ((s.vstLine d w a r l 0).vstLine d w a r m 1).poisoned (rrLine d w l) = bitOf (s.vP a r) 0 := by
  have hkey : rrLine d w l ≠ rrLine d w m := fun he => hlm (Nat.add_left_cancel he)
  rw [State.poisoned_congr (State.poison_vstLine r m 1), State.poisoned_lineWrite_other hkey,
    State.poisoned_congr (State.poison_vstLine r l 0), State.poisoned_lineWrite_full (length_halfBytes hv (by decide))]
/-- The PC and the loops stay as they are. -/
theorem State.control_vstLine_two (ha : isSq a = false) (s : State) (r l m : Nat) :
    let t := (s.vstLine (wcDie a) (wcWing a) a r l 0).vstLine (wcDie a) (wcWing a) a r m 1
    t.pc a = s.pc a ∧ (t.agent a).loops = (s.agent a).loops := by
  refine ⟨?_, ?_⟩
  · rw [(State.inWing_vstLine r m 1).pc ha, (State.inWing_vstLine r l 0).pc ha]
  · rw [State.agent, State.agents_vstLine, State.agents_vstLine, State.agent]

end

section
variable {a : Fin 48} {ins : Ins} {s : State} {ea l : Nat}

/-- VST of two lines in the wing's banks (R310). -/
theorem vst_two_shows (ha : 16 ≤ a.val) (hx : ins.x = false) (hb : ins.b < 16) (h21 : ins.e 63 21 = 0)
    (hrun : (s.engine a 3).run = none) (hq : (s.engine a 3).q = []) (h : s.issues a ins [32 + ins.b.val, ins.c.val])
    (hea : ((s.adR a ins.b).toNat + (s.sR a ins.c).toNat) % 2 ^ 40 = ea) (hal : ea % 64 = 0)
    (hl : (ea - rrAddr (wcDie a) (wcWing a) 0) / 64 = l) (hc : csemOk a ins = true) (hmode : ins.ef 22 21 = 0)
    (hn : ins.ef 20 19 = 2) (h18 : ins.ef 18 0 = 0) (hown : ownBytes (wcDie a) (wcWing a) ea 128 = true)
    (hv : (s.vR a ins.a).length = 64) :
    ∃ t, exec (.vst a ins) s = .next t ∧ t.mem = (s.stn ea ((s.vR a ins.a).flatMap (toBytes 2))).mem ∧
      t.poisoned (rrLine (wcDie a) (wcWing a) l) = bitOf (s.vP a ins.a) 0 ∧
      ((t.engine a 3).run).isSome = true ∧ s.wentOn t a ins := by
  obtain ⟨u, hside, hregs, -, hkeeps, hruns, hgo⟩ :=
    State.vmemIssue_started (op := 0x61) ha hx hc (.inl hmode) (by omega) hb h18 h21 hrun hq h
  have hlines : vlines (wcDie a) (wcWing a) (s.eaIns a 0x61 ins 0 none) = some [l, l + 1] :=
    vlines_consecutive (i := s.eaIns a 0x61 ins 0 none) (n := 2) (by rw [State.bits_eaIns]; omega) hn hea hal hown hl
  have hbase := (ownBytes_iff.1 hown).1
  have hunit : (u.unitStart a (s.eaIns a 0x61 ins 0 none)).1 =
      (u.vstLine (wcDie a) (wcWing a) a ins.a l 0).vstLine (wcDie a) (wcWing a) a ins.a (l + 1) 1 := by
    rw [State.unitStart_vst rfl, State.vstStart_two hlines]
    rfl
  have hvu : (u.vR a ins.a).length = 64 := by rw [hregs.vR]; exact hv
  obtain ⟨hpc, hloops⟩ := u.control_vstLine_two (isSq_eq_false ha) ins.a l (l + 1)
  rw [hunit] at hkeeps hgo
  refine ⟨_, rfl, ?_, ?_, hruns, hgo hpc hloops⟩
  · rw [hkeeps .mem (by decide), State.mem_vstLine_two (l := l) hvu (rrAddr_line hal hbase hl 0) (rrAddr_line hal hbase hl 1),
      hregs.vR]
    exact State.mem_stn_congr (hside.same (p := .mem) (by decide)) _ _
  · rw [State.poisoned_congr (hkeeps .poison (by decide)), State.poisoned_vstLine_two hvu (by omega), hregs.vP]

end

end Sys2Proof.Machine
end

section
/-! SUPPORT. LD and ST of a wing on its own banks (R187, R256, R342, R344). -/

namespace Sys2Proof.Machine

section
variable {L : List Part} {Q : Nat → Bool} {a d w : Nat} {s t u : State} {i : EngIns}

/-! ### Where the access goes -/

/-- Bytes of a wing's own banks lie in region 0 of its Stack die. -/
theorem region_of_own {base addr size : Nat} (hw : w < 8) (hbase : base = sdNode d * 2 ^ 36 + w * 2 ^ 23 + 0)
    (h : base ≤ addr ∧ addr + size ≤ base + 2 ^ 23) (hsize : 1 ≤ size) :
    addr / 2 ^ 36 = sdNode d ∧ addr / 2 ^ 32 % 16 = 0 ∧ addr % 2 ^ 32 + size ≤ 2 ^ 26 := by
  unfold sdNode at *
  omega
/-- A wing reaches its own banks, for reads and for writes (R256). -/
theorem wingKind_own {addr size : Nat} (hd : d < 4) (hw : w < 8) (hown : ownBytes d w addr size = true) (hsize : 1 ≤ size)
    (write : Bool) : wingKind d w addr size write = none := by
  obtain ⟨hnode, hreg, hin⟩ := region_of_own hw rfl (ownBytes_iff.1 hown) hsize
  have hlo : 4 ≤ sdNode d := Nat.le_add_left 4 d
  have hhi : sdNode d < 10 := Nat.add_lt_add_right hd 4 |>.trans (by decide)
  unfold wingKind
  dsimp only
  rw [hnode, hreg, if_neg (by omega), if_neg (fun hne => hne rfl), if_neg (by decide), if_pos rfl, if_neg (by omega), hown]
  rfl

/-! ### What the unit does -/

theorem State.unitStart_wld (h : i.op = 0x0A) : s.unitStart a i = s.wldStart (wcDie a) (wcWing a) a i := by
  rw [State.unitStart, if_pos h]
theorem State.unitStart_wst (h : i.op = 0x0B) : s.unitStart a i = s.wstStart (wcDie a) (wcWing a) i := by
  rw [State.unitStart, if_neg (by omega), if_pos h]
/-- A load that passes its checks puts the bytes in its register. -/
theorem State.wldStart_own {r : Nat} (hal : i.vb % i.va = 0) (hkind : wingKind d w i.vb i.va false = none)
    (hreg : i.vb / 2 ^ 32 % 16 = 0) (hdst : i.dst = some r) (hr : r < 32) :
    (s.wldStart d w a i).1 = (s.linesChecked d w [(i.vb - rrAddr d w 0) / 64]).sW a r
      (BitVec.ofNat 32 ((s.linesChecked d w [(i.vb - rrAddr d w 0) / 64]).ldw i.vb i.va)) := by
  rw [State.wldStart]
  simp only [hal, ne_eq, not_true_eq_false, if_false, hkind, hreg, if_true, hdst, Option.getD_some, State.regW, hr]
  rfl
/-- A store that passes its checks writes its bytes. -/
theorem State.wstStart_own (hal : i.vb % i.va = 0) (hkind : wingKind d w i.vb i.va true = none)
    (hreg : i.vb / 2 ^ 32 % 16 = 0) :
    (s.wstStart d w i).1 = s.rrStore d w (i.vb - rrAddr d w 0) (toBytes i.va i.vc) false := by
  rw [State.wstStart]
  simp only [hal, ne_eq, not_true_eq_false, if_false, hkind, hreg, if_true]
theorem State.inWing_rrWrite (flag : Bool) (fuel o : Nat) (data : List Byte) :
    InWing [.mem, .poison, .parity] Q d w s (t.rrWrite d w flag fuel o data) ↔ InWing [.mem, .poison, .parity] Q d w s t := by
  induction fuel generalizing t o data with
  | zero => rfl
  | succ fuel ih =>
    cases data with
    | nil => rfl
    | cons x xs => exact (ih _ _).trans (State.inWing_lineWrite (by decide) (by decide) (by decide) _ _ _ _)

end

/-! ### The command -/

section
variable {a : Fin 48} {ins : Ins} {s : State}

/-- The instruction that a wing's LD or ST queues. -/
def State.memIns (s : State) (a : Nat) (i : Ins) (st : Bool) : EngIns where
  op := if st then 0x0B else 0x0A
  pc := s.pc a
  csen := false
  csem := 0
  ef := 0
  ext := 0
  dst := if st ∨ memReg i = 0 then none else some (memReg i)
  a := i.a
  b := i.b
  c := i.c
  va := memBytes (i.f 36 34)
  vb := (s.effAddr a i).toNat
  vc := if memReg i < 32 then (s.sR a (memReg i)).toNat else (s.adR a (memReg i - 32)).toNat

theorem State.agent_postAddr (s : State) (a : Nat) (i : Ins) :
    ∃ ad, (s.postAddr a i).agent a = { s.agent a with ad := ad } := by
  unfold State.postAddr
  split
  · exact ⟨_, State.agent_modAgent_same _ _ _⟩
  · exact ⟨_, rfl⟩
theorem State.engine_postAddr (s : State) (a : Nat) (i : Ins) (e : Nat) : (s.postAddr a i).engine a e = s.engine a e := by
  obtain ⟨ad, h⟩ := s.agent_postAddr a i
  exact State.engine_congr (by rw [h]) e
theorem State.loops_postAddr (s : State) (a : Nat) (i : Ins) : ((s.postAddr a i).agent a).loops = (s.agent a).loops := by
  obtain ⟨ad, h⟩ := s.agent_postAddr a i
  rw [h]
theorem State.pc_postAddr (s : State) (a : Nat) (i : Ins) : (s.postAddr a i).pc a = s.pc a := by
  unfold State.postAddr
  split <;> rfl
/-- The update of the address leaves the control alone. -/
theorem State.wentOn_of_postAddr {t : State} {i : Ins} (h : (s.postAddr a i).wentOn t a i) : s.wentOn t a i := by
  rw [State.wentOn, State.loops_postAddr, State.pc_postAddr] at h
  exact h
theorem State.keeps_postAddr (s : State) (a : Nat) (i : Ins) : Keeps [.agents] s (s.postAddr a i) := by
  unfold State.postAddr State.adW
  split
  · simp
  · exact Keeps.refl _ s

section
variable (ha : 16 ≤ a.val) (hlegal : memLegal ins = true) (hr : memReg ins < 32) (hrun : (s.engine a 3).run = none)
  (hq : (s.engine a 3).q = []) (h : s.issues a ins [memReg ins, 32 + ins.b.val, ins.c.val])
  (hal : (s.effAddr a ins).toNat % memBytes (ins.f 36 34) = 0)
  (hown : ownBytes (wcDie a) (wcWing a) (s.effAddr a ins).toNat (memBytes (ins.f 36 34)) = true)

section
include ha hlegal hrun hq h
/-- A legal LD or ST of a wing starts on the idle vector unit, after the update of its address (R344). -/
theorem State.wingMem_started (st : Bool) :
    (s.postAddr a ins).Started a 3 (s.memIns a ins st) ins (s.wingMem a ins st).settle := by
  have hidle : s.wingMem a ins st =
      (((((s.postAddr a ins).engStart a 3 (s.memIns a ins st))).adv a ins.x).stepped a).boundary a := by
    have hfull : s.engFull a 3 = false := by simp [State.engFull, hq]
    unfold State.wingMem
    dsimp only
    rw [hlegal, hfull]
    simp only [Bool.and_false, Bool.false_and, Bool.false_eq_true, if_false]
    rw [State.issueAdv_of_issues h, State.engPush, State.engine_postAddr, hrun, hq]
    rfl
  rw [hidle]
  exact State.engStart_started (isSq_eq_false ha) (by decide) _ _
end

include ha hlegal hr hrun hq h hal hown

/-- LD of a wing from its own banks loads its bytes (R342, R344). -/
theorem ld_own_shows {x : BusIn} (h0 : ins.a ≠ 0) (hx : x.upset = []) :
    ∃ t, exec (.ld a ins x) s = .next t ∧
      t.sR a ins.a = BitVec.ofNat 32 (s.ldw (s.effAddr a ins).toNat (memBytes (ins.f 36 34))) ∧ t.mem = s.mem ∧
      (bitOf ins.low.toNat 33 = true → t.adR a ins.b = s.adR a ins.b + ins.imm.signExtend 40) ∧
      ((t.engine a 3).run).isSome = true ∧ s.wentOn t a ins := by
  obtain ⟨hsq, hd, hw⟩ := wing_bounds ha
  obtain ⟨hreg, hsize⟩ := memBytes_of_memReg hlegal hr
  have hne : ins.a.val ≠ 0 := fun he => h0 (Fin.ext he)
  have hexec : exec (.ld a ins x) s = .next (s.wingMem a ins false).settle := by
    show done (if isSq a then s.seqMem a ins false x else (s.lineUpsets a ins x.upset).wingMem a ins false) = _
    have hsame : s.lineUpsets a ins [] = s := ite_self _
    rw [hsq, hx, hsame]
    rfl
  set en := s.memIns a ins false with hen
  set l := (en.vb - rrAddr (wcDie a) (wcWing a) 0) / 64 with hl
  have hdst : en.dst = some ins.a.val := by
    rw [← hreg] at hne ⊢
    simp [hen, State.memIns, hne]
  obtain ⟨u, hside, hregs, hkept, hkeeps, hruns, hgo⟩ := State.wingMem_started ha hlegal hrun hq h false
  have hunit : (u.unitStart a en).1 = (u.linesChecked (wcDie a) (wcWing a) [l]).sW a ins.a
      (BitVec.ofNat 32 ((u.linesChecked (wcDie a) (wcWing a) [l]).ldw en.vb en.va)) := by
    rw [State.unitStart_wld rfl]
    exact State.wldStart_own hal (wingKind_own hd hw hown (by omega) false)
      (region_of_own hw rfl (ownBytes_iff.1 hown) (by omega)).2.1 hdst (by omega)
  have hcheck : InWing [] (fun x => !controlBits x) (wcDie a) (wcWing a) u (u.linesChecked (wcDie a) (wcWing a) [l]) :=
    (State.inWing_linesChecked covers_not_controlBits _).2 (InWing.refl _ _ _ _ _)
  have hmem : (u.linesChecked (wcDie a) (wcWing a) [l]).mem = s.mem :=
    (hcheck.same (p := .mem) (by decide)).trans
      ((hside.same (p := .mem) (by decide)).trans (s.keeps_postAddr a ins .mem (by decide)))
  have hagents : (u.linesChecked (wcDie a) (wcWing a) [l]).agents = u.agents := hcheck.same (p := .agents) (by decide)
  rw [hunit] at hkept hkeeps hgo
  refine ⟨_, hexec, ?_, ?_, fun hpost => ?_, hruns, ?_⟩
  · rw [hkept.sR, State.sR_sW_same hne, State.ldw_of_mem hmem]
    rfl
  · exact (hkeeps .mem (by decide)).trans
      (((State.keeps_sW (L := [.agents]) (by decide) _ _ _).2 (Keeps.refl _ _) .mem (by decide)).trans hmem)
  · rw [hkept.adR, State.adR_sW, State.adR_congr hagents, hregs.adR, State.postAddr, if_pos hpost, State.adR_adW_same]
  · refine State.wentOn_of_postAddr (hgo ?_ ?_)
    · rw [State.pc_sW, hcheck.pc hsq]
    · rw [State.loops_sW, State.agent, hagents, State.agent]

/-- ST of a wing to its own banks writes its bytes (R342, R344). -/
theorem st_own_shows {x : BusIn} :
    ∃ t, exec (.st a ins x) s = .next t ∧
      t.mem = (s.rrStore (wcDie a) (wcWing a) ((s.effAddr a ins).toNat - rrAddr (wcDie a) (wcWing a) 0)
        (toBytes (memBytes (ins.f 36 34)) (s.sR a ins.a).toNat) false).mem ∧
      ((t.engine a 3).run).isSome = true ∧ s.wentOn t a ins := by
  obtain ⟨hsq, hd, hw⟩ := wing_bounds ha
  obtain ⟨hreg, hsize⟩ := memBytes_of_memReg hlegal hr
  have hexec : exec (.st a ins x) s = .next (s.wingMem a ins true).settle := by
    show done (if isSq a then s.seqMem a ins true x else s.wingMem a ins true) = _
    rw [hsq]
    rfl
  set en := s.memIns a ins true
  have hdata : en.vc = (s.sR a ins.a).toNat := (if_pos hr).trans (by rw [hreg])
  obtain ⟨u, hside, -, -, hkeeps, hruns, hgo⟩ := State.wingMem_started ha hlegal hrun hq h true
  have hunit : (u.unitStart a en).1 = u.rrStore (wcDie a) (wcWing a)
      ((s.effAddr a ins).toNat - rrAddr (wcDie a) (wcWing a) 0)
      (toBytes (memBytes (ins.f 36 34)) (s.sR a ins.a).toNat) false := by
    rw [State.unitStart_wst rfl, ← hdata]
    exact State.wstStart_own hal (wingKind_own hd hw hown (by omega) true)
      (region_of_own hw rfl (ownBytes_iff.1 hown) (by omega)).2.1
  rw [hunit] at hkeeps hgo
  have hstore : ∀ o data, InWing [.mem, .poison, .parity] (fun x => !controlBits x) (wcDie a) (wcWing a) u
      (u.rrStore (wcDie a) (wcWing a) o data false) := fun o data =>
    (State.inWing_rrWrite false _ o data).2 (InWing.refl _ _ _ _ _)
  refine ⟨_, hexec, ?_, hruns, State.wentOn_of_postAddr (hgo ((hstore _ _).pc hsq) ?_)⟩
  · exact (hkeeps .mem (by decide)).trans (State.mem_rrStore_congr
      ((hside.same (p := .mem) (by decide)).trans (s.keeps_postAddr a ins .mem (by decide))) _ _ _ _ _)
  · rw [State.agent, (hstore _ _).same (p := .agents) (by decide), State.agent]

end

end

/-- Settles O26: each access passes its checks, so its unit moves the lines or bytes of the wing's banks in the command
that issues it. -/
theorem loadsAndStoresOfAWing : Obligations.LoadsAndStoresOfAWing := by
  unfold Obligations.LoadsAndStoresOfAWing
  refine ⟨?_, ?_, ?_, ?_, ?_⟩
  case refine_1 =>
    intro a ins s ha hx hc hmode hn hb h18 h21 hrun hq h ⟨hal, hown⟩
    exact vld_two_shows ha hx hb h21 hrun hq h rfl hal rfl hc hmode hn h18 hown
  case refine_2 =>
    intro a ins s ha hx hc hn hb h18 h21 hrun hq h ⟨hal, hown⟩
    obtain ⟨low, hlow⟩ : ∃ low, low = BitVec.ofNat 37 (putBits ins.low.toNat 22 21 2) := ⟨_, rfl⟩
    obtain ⟨hmode', hn', h18'⟩ := ef_widen ins hlow
    rw [← hlow] at hc
    refine ⟨(s.vmemIssue a 0x60 { ins with low := low }).settle, ?_, vmemIssue_widen_shows ha hx hb h21 hrun hq h rfl hal rfl
      hc hmode' (hn'.trans hn) (h18'.trans h18) hown⟩
    rw [hlow]
    rfl
  case refine_3 =>
    intro a ins s ha hx hc hmode hn hb h18 h21 hrun hq h ⟨hal, hown⟩ hv
    exact vst_two_shows ha hx hb h21 hrun hq h rfl hal rfl hc hmode hn h18 hown hv
  case refine_4 =>
    intro a ins x s ha hlegal hr h0 hx hrun hq h hal hown
    exact ld_own_shows ha hlegal hr hrun hq h hal hown h0 hx
  case refine_5 =>
    intro a ins x s ha hlegal hr hrun hq h hal hown
    exact st_own_shows ha hlegal hr hrun hq h hal hown

end Sys2Proof.Machine
end

section
/-! SUPPORT. A PARK with a key slot that no register can name (R243, R609). The statements are over every state, and say
nothing of a slot number wider than PARK_CFG.SLOT, whose attributes would lie beyond the slots' registers. -/

namespace Sys2Proof.Machine

/-- The slot number at which SLOT_ATTR of CD0 would lie where WC_STAT of wing 0 of SD0 does. -/
def strayedSlot : Nat := (wg 0 0 + R.WC_STAT_PC.off - (cd 0 + R.SLOT_ATTR_USES.off)) / R.SLOT_ATTR_USES.stride
/-- USES of that slot is the PC of the wing. -/
theorem fkey_uses_strayedSlot : fkey (cd 0) (R.SLOT_ATTR_USES.at strayedSlot) = fkey (wg 0 0) R.WC_STAT_PC := by decide

/-- Wing 0 of SD0 runs at word 5 with s2 = 1 and an aperture in ad0, and carrel 0 reserves one of its blocks; the link to
CD0 is up. PARK_CFG holds `strayedSlot`, which reads as a slot with a key for PARK and a count of uses. -/
def strayedParker : State :=
  { State.reset with
    fld := [(fkey (wg 0 0) R.WC_STAT_STATE, 1), (fkey (wg 0 0) R.WC_STAT_PC, 5),
      (fkey (sd 0) (R.KV_TAB_VALID.at 0), 1), (fkey (sd 0) (R.KV_TAB_COUNT.at 0), 1),
      (fkey (sd 0) (R.LNK_STAT_UP.at 2), 1), (fkey (cd 0) (R.CD_LNK_STAT_UP.at 0), 1),
      (fkey (cd 0) R.PARK_CFG_SLOT, strayedSlot), (fkey (cd 0) (R.SLOT_ATTR_VALID.at strayedSlot), 1),
      (fkey (cd 0) (R.SLOT_ATTR_PURPOSE.at strayedSlot), 2)].foldl (fun m x => Store.insert m x.1 x.2) State.reset.fld
    agents := [(16, { prog := true, s := [(2, 1)], ad := [(0, BitVec.ofNat 40 (4 * 2 ^ 32))] })] }
/-- PARK of carrel 0, with the address in ad0 and the block count in s2. -/
def parkOne : Ins := ⟨false, 0, 0, 0, 2, 0, 0⟩

/-- The charge of the slot takes the PC back by one, so that the wing goes on at the PARK itself. -/
theorem park_strayedParker_stays {t : State} (h : exec (.park 16 parkOne) strayedParker = .next t) : t.pc 16 = 5 := by
  have hrun : (match execPark 16 parkOne strayedParker with
    | .next u => u.pc 16
    | _ => 0) = 5 := by decide +kernel
  rwa [show execPark 16 parkOne strayedParker = .next t from h] at hrun

/-- Refutes O29: a PARK is to go on to the next word, but it charges the slot that PARK_CFG names, and the state may hold
there a number at which the slot's USES is the wing's PC (`strayedParker`). -/
theorem not_moveEngineInstructions : ¬ Obligations.MoveEngineInstructions := by
  unfold Obligations.MoveEngineInstructions
  rintro ⟨-, -, -, hpark, -⟩
  obtain ⟨t, ht, -, -, -, hgo⟩ :=
    hpark 0 1 16 parkOne strayedParker (by decide) (by decide) (by decide) (by decide) (by decide) (by decide +kernel)
      (by decide +kernel) (by decide +kernel) (by decide +kernel) (by decide +kernel) (by decide +kernel)
      (by decide +kernel) (by decide +kernel) (by decide +kernel) (by decide +kernel)
  have hnext : t.pc 16 = 6 := (hgo (by decide +kernel) (by decide +kernel)).trans (by decide +kernel)
  exact absurd ((park_strayedParker_stays ht).symm.trans hnext) (by decide)

end Sys2Proof.Machine
end

section
/-! SUPPORT. A scalar instruction that nothing keeps from executing (R257, R259, R339 to R341): the register it is for reads
its result, and its agent goes on. -/

namespace Sys2Proof.Machine

section
variable {a : Nat} {s t : State}

/-! ### A register reads as it was written -/

theorem State.sR_sW (s : State) (a : Nat) (r : Fin 32) (v : Word) :
    (s.sW a r v).sR a r = if r = 0 then 0 else v := by
  by_cases hr : r = 0
  · subst hr
    rfl
  · rw [if_neg hr, State.sR_sW_same (Fin.val_ne_of_ne hr)]
theorem State.pR_pW (s : State) (a : Nat) (r : Fin 32) (v : Bool) :
    (s.pW a r v).pR a r = if r = 0 then true else v := by
  by_cases hr : r = 0
  · subst hr
    rfl
  · simp [State.pR, State.pW, hr]
theorem RegsKept.pR (h : RegsKept a s t) (r : Nat) : t.pR a r = s.pR a r := by
  obtain ⟨-, -, -, hp, -⟩ := h
  exact hp r id

/-! ### A register write moves no control -/

/-- From `s` to `t` the PC and the loops of agent `a` stay as they are (R281, R349). -/
def State.SameFlow (s t : State) (a : Nat) : Prop := t.pc a = s.pc a ∧ (t.agent a).loops = (s.agent a).loops

theorem State.sameFlow_sW (s : State) (a r : Nat) (v : Word) : s.SameFlow (s.sW a r v) a :=
  ⟨State.pc_sW r v, State.loops_sW r v⟩
theorem State.sameFlow_adW (s : State) (a r : Nat) (v : DevAddr) : s.SameFlow (s.adW a r v) a :=
  ⟨rfl, by rw [State.adW, State.agent_modAgent_same]⟩
theorem State.sameFlow_pW (s : State) (a r : Nat) (v : Bool) : s.SameFlow (s.pW a r v) a := by
  unfold State.pW
  split
  · exact ⟨rfl, rfl⟩
  · exact ⟨rfl, by rw [State.agent_modAgent_same]⟩

end

/-! ### An instruction that writes one register -/

section
variable {a : Nat} {i : Ins} {regs : List Nat} {legal : Bool} {s : State} (h : s.issues a i regs) (hlegal : legal = true)
include h hlegal

/-- The registers read as the instruction itself left them, and its agent has gone on. -/
theorem State.issueAdv_shows {go : State → State} (hgo : s.SameFlow (go s) a) :
    RegsKept a (go s) (s.issueAdv a i legal regs go).settle ∧ s.wentOn (s.issueAdv a i legal regs go).settle a i := by
  obtain ⟨hpc, hloops⟩ := hgo
  rw [hlegal, State.issueAdv_of_issues h]
  exact ⟨by simp, State.wentOn_of_pc hpc hloops (by simp)⟩

theorem State.issueAdv_sW {go : State → State} {r : Fin 32} {v : Word} (hgo : go s = s.sW a r v) :
    ∃ t, done (s.issueAdv a i legal regs go) = .next t ∧ t.sR a r = (if r = 0 then 0 else v) ∧ s.wentOn t a i := by
  obtain ⟨hkept, hwent⟩ := State.issueAdv_shows h hlegal (hgo ▸ s.sameFlow_sW a r v)
  exact ⟨_, rfl, by rw [hkept.sR, hgo, State.sR_sW], hwent⟩
theorem State.issueAdv_adW {go : State → State} {r : Nat} {v : DevAddr} (hgo : go s = s.adW a r v) :
    ∃ t, done (s.issueAdv a i legal regs go) = .next t ∧ t.adR a r = v ∧ s.wentOn t a i := by
  obtain ⟨hkept, hwent⟩ := State.issueAdv_shows h hlegal (hgo ▸ s.sameFlow_adW a r v)
  exact ⟨_, rfl, by rw [hkept.adR, hgo, State.adR_adW_same], hwent⟩
theorem State.issueAdv_pW {go : State → State} {r : Fin 32} {v : Bool} (hgo : go s = s.pW a r v) :
    ∃ t, done (s.issueAdv a i legal regs go) = .next t ∧ t.pR a r = (if r = 0 then true else v) ∧ s.wentOn t a i := by
  obtain ⟨hkept, hwent⟩ := State.issueAdv_shows h hlegal (hgo ▸ s.sameFlow_pW a r v)
  exact ⟨_, rfl, by rw [hkept.pR, hgo, State.pR_pW], hwent⟩

end

/-! ### ADD to CMP -/

section
variable {a : Nat} {imm : Bool} {ins : Ins} {s : State} (hx : ins.x = false) (hri : ins.riOk imm = true)
include hx hri

/-- AND, OR, XOR, SHL, SHR and MUL leave their result in s[A]. -/
theorem State.alu_shows (h : s.issues a ins ([ins.a.val, ins.b.val] ++ (if imm then [] else [ins.c.val]))) {ok : Bool}
    (hok : ok = true) {f : Word → Word → Word} {v : Word} (hv : f (s.sR a ins.b) (s.srcC a imm ins) = v) :
    ∃ t, done (s.alu a imm ins ok f) = .next t ∧ t.sR a ins.a = (if ins.a = 0 then 0 else v) ∧ s.wentOn t a ins :=
  State.issueAdv_sW h (by simp [hx, hok, hri]) (by rw [hv])
/-- ADD and SUB leave their result in s[A]. -/
theorem State.addSub_shows (h : s.issues a ins ([ins.a.val, ins.b.val] ++ (if imm then [] else [ins.c.val])))
    (hsub : ins.sub = 0) (neg : Bool) :
    ∃ t, done (s.addSub a imm ins neg) = .next t ∧ t.sR a ins.a = (if ins.a = 0 then 0 else
      if neg then s.sR a ins.b - s.srcC a imm ins else s.sR a ins.b + s.srcC a imm ins) ∧ s.wentOn t a ins := by
  have hs : bitOf ins.sub 4 = false := by rw [hsub]; rfl
  unfold State.addSub
  simp only [hs]
  exact State.issueAdv_sW h (by simp [hx, hri, hsub]) rfl
/-- ADD and SUB on ad registers leave their result in ad[A]. -/
theorem State.addSub_ad_shows
    (h : s.issues a ins ([32 + ins.a.val, 32 + ins.b.val] ++ (if imm then [] else [ins.c.val]))) (hsub : ins.sub = 16)
    (ha : ins.a.val < 16) (hb : ins.b.val < 16) (neg : Bool) :
    ∃ t, done (s.addSub a imm ins neg) = .next t ∧ t.adR a ins.a = s.adSum a imm ins neg ∧ s.wentOn t a ins := by
  have had : bitOf ins.sub 4 = true := by rw [hsub]; rfl
  unfold State.addSub
  simp only [had]
  exact State.issueAdv_adW h (by simp [hx, hri, hsub, ha, hb]) rfl

end

section
variable {a : Fin 48} {ins : Ins} {s : State} (hx : ins.x = false) (ha : ins.a.val < 8)
include hx ha

/-- CMP of s registers leaves its condition in p[A]. -/
theorem State.cmp_shows {imm : Bool} (hri : ins.riOk imm = true)
    (h : s.issues a ins (ins.b.val :: (if imm then [] else [ins.c.val]))) (hsub : ins.sub < 6) :
    ∃ t, exec (.cmp a imm ins) s = .next t ∧
      t.pR a ins.a = (if ins.a = 0 then true else cond ins.sub (s.sR a ins.b) (s.srcC a imm ins)) ∧ s.wentOn t a ins := by
  have hbits : bitOf ins.sub 4 = false ∧ bitOf ins.sub 3 = false ∧ ins.sub % 8 = ins.sub := by
    interval_cases ins.sub <;> decide
  show ∃ t, execCmp a imm ins s = .next t ∧ _
  unfold execCmp
  simp only [hbits]
  exact State.issueAdv_pW h (by simp [hx, hri, hsub, ha]) rfl
/-- CMP of ad registers leaves its condition in p[A]. -/
theorem State.cmp_ad_shows (hri : ins.riOk false = true) (h : s.issues a ins [32 + ins.b.val, 32 + ins.c.val])
    (hsub : 16 ≤ ins.sub ∧ ins.sub < 22) (hb : ins.b.val < 16) (hc : ins.c.val < 16) :
    ∃ t, exec (.cmp a false ins) s = .next t ∧
      t.pR a ins.a = (if ins.a = 0 then true else cond (ins.sub - 16) (s.adR a ins.b) (s.adR a ins.c)) ∧
      s.wentOn t a ins := by
  obtain ⟨hlo, hhi⟩ := hsub
  have hcond : ins.sub - 16 < 6 := by omega
  have hbits : bitOf ins.sub 4 = true ∧ bitOf ins.sub 3 = false ∧ ins.sub % 8 = ins.sub - 16 := by
    interval_cases ins.sub <;> decide
  show ∃ t, execCmp a false ins s = .next t ∧ _
  unfold execCmp
  simp only [hbits]
  exact State.issueAdv_pW h (by simp [hx, hri, ha, hb, hc, hcond]) rfl

end

/-- Settles O13: each instruction has legal fields, so it writes its one register (`State.issueAdv_shows`). -/
theorem scalarArithmeticResults : Obligations.ScalarArithmeticResults := by
  unfold Obligations.ScalarArithmeticResults
  refine ⟨?add, ?addAd, ?sub, ?subAd, ?mul, ?mulh, ?mulhu, ?and, ?or, ?xor, ?shl, ?shr, ?sar, ?cmp, ?cmpAd⟩
  case add => intro a imm ins s hx hsub hri h; exact State.addSub_shows hx hri h hsub false
  case addAd => intro a imm ins s hx hsub hri ha hb h; exact State.addSub_ad_shows hx hri h hsub ha hb false
  case sub => intro a imm ins s hx hsub hri h; exact State.addSub_shows hx hri h hsub true
  case subAd => intro a imm ins s hx hsub hri ha hb h; exact State.addSub_ad_shows hx hri h hsub ha hb true
  case mul | mulh | mulhu | shr | sar =>
    intro a imm ins s hx hsub hri h
    exact State.alu_shows hx hri h (by rw [hsub]; rfl) (by rw [hsub]; rfl)
  case and | or | xor | shl =>
    intro a imm ins s hx hsub hri h
    exact State.alu_shows hx hri h (by rw [hsub]; rfl) rfl
  case cmp => intro a imm ins s hx hsub hri ha h; exact State.cmp_shows hx ha hri h hsub
  case cmpAd =>
    intro a ins s hx hsub himm ha hb hc h
    exact State.cmp_ad_shows hx ha (by simp [Ins.riOk, himm]) h hsub hb hc

/-! ### LI -/

section
variable {a : Fin 48} {ins : Ins} {s : State} (hb : ins.b = 0) (hc : ins.c = 0)
include hb hc

/-- LI leaves its immediate in s[A]. -/
theorem State.li_shows (hx : ins.x = false) (hsub : ins.sub = 0) (h : s.issues a ins [ins.a.val]) :
    ∃ t, exec (.li a ins) s = .next t ∧ t.sR a ins.a = (if ins.a = 0 then 0 else ins.imm) ∧ s.wentOn t a ins := by
  have had : bitOf ins.sub 0 = false := by rw [hsub]; rfl
  show ∃ t, execLi a ins s = .next t ∧ _
  unfold execLi
  simp only [had]
  exact State.issueAdv_sW h (by simp [hx, hsub, hb, hc, Ins.xw]) rfl
/-- LI with AD set leaves in ad[A] its immediate below the 8 bits that the extension word may give. -/
theorem State.li_ad_shows (hsub : ins.sub = 1) (ha : ins.a.val < 16) (hxw : ins.xw < 256)
    (h : s.issues a ins [32 + ins.a.val]) :
    ∃ t, exec (.li a ins) s = .next t ∧ t.adR a ins.a = BitVec.ofNat 40 (ins.imm.toNat + ins.xw * 2 ^ 32) ∧
      s.wentOn t a ins := by
  have had : bitOf ins.sub 0 = true := by rw [hsub]; rfl
  show ∃ t, execLi a ins s = .next t ∧ _
  unfold execLi
  simp only [had, Nat.mod_eq_of_lt hxw]
  exact State.issueAdv_adW h (by simp [hsub, hb, hc, ha, hxw]) rfl

end

/-- Settles O14; without an extension word the upper bits are 0. -/
theorem loadImmediate : Obligations.LoadImmediate := by
  unfold Obligations.LoadImmediate
  refine ⟨?s, ?adWide, ?ad⟩
  case s => intro a ins s hx hsub hb hc h; exact State.li_shows hb hc hx hsub h
  case adWide => intro a ins s hsub hb hc ha hxw h; exact State.li_ad_shows hb hc hsub ha hxw h
  case ad =>
    intro a ins s hx hsub hb hc ha h
    have hxw : ins.xw = 0 := by simp [Ins.xw, hx]
    simpa [hxw] using State.li_ad_shows hb hc hsub ha (by omega) h

end Sys2Proof.Machine
end

section
/-! SUPPORT. A BASE of CARREL_ARG that the register cannot show (R202, R412). As above, the field store of a state may hold a
value wider than its field, and the statements over every state say nothing of that. -/

namespace Sys2Proof.Machine

/-- The active CD0 reports the four Stack dies in service, and the pool of wing 0 of SD0 has 2048 blocks. 2048 is held as
the BASE that CARREL_ARG gives for SD0, one more than its 11 bits can show; every COUNT is 0. -/
def wideCarrelArg : State :=
  { State.reset with
    fld := [(fkey (cd 0) R.PAIR_STAT_ROLE, 1), (fkey (cd 0) R.DIES_SD0, 2), (fkey (cd 0) R.DIES_SD1, 2),
      (fkey (cd 0) R.DIES_SD2, 2), (fkey (cd 0) R.DIES_SD3, 2), (fkey (wg 0 0) R.KV_POOL_COUNT, 2048),
      (fkey (cd 0) (R.CARREL_ARG_BASE.at 0), 2048)].foldl (fun m x => Store.insert m x.1 x.2) State.reset.fld }

/-- A CREATE of carrel 0 is accepted at that state, and reserves from the block that the 11 bits of KV_ARG.BASE give. -/
theorem carrelCreate_cuts_base {t : State} (h : exec (.carrelCreate 0 0 0) wideCarrelArg = .next t) :
    t.kvEntry 0 0 = some (0, 0, 0) := by
  have hrun : (match execCarrelCreate 0 0 0 wideCarrelArg with
    | .next u => u.kvEntry 0 0
    | _ => none) = some (0, 0, 0) := by decide +kernel
  rwa [show execCarrelCreate 0 0 0 wideCarrelArg = .next t from h] at hrun

/-- Refutes O36: an accepted CREATE is to leave each die's reservation at the BASE that CARREL_ARG holds, but the BASE of a
reservation has 11 bits, and the state may hold 2048 there (`wideCarrelArg`). -/
theorem not_catalogueInstructionsAndCarrels : ¬ Obligations.CatalogueInstructionsAndCarrels := by
  unfold Obligations.CatalogueInstructionsAndCarrels
  rintro ⟨-, -, -, -, hcreate, -⟩
  obtain ⟨t, ht, -, -, -, -, hentry⟩ :=
    hcreate 0 0 0 wideCarrelArg (by decide +kernel) (by decide +kernel) (by decide +kernel) (by decide +kernel)
      (by decide +kernel) (by decide +kernel)
  have hcut := (hentry 0).symm.trans (carrelCreate_cuts_base ht)
  simp only [Option.some.injEq, Prod.mk.injEq] at hcut
  obtain ⟨-, hbase, -⟩ := hcut
  exact absurd hbase (by decide +kernel)

end Sys2Proof.Machine
end

section
/-! SUPPORT. Records of queues as the statements read them (R393): the words of a record after a write of one of them, and
what the operations around a command of the catalogue leave alone. -/

namespace Sys2Proof.Machine

section
variable {s t : State} {n q j k m : Nat}

/-! ### Words of memory -/

theorem State.ldw_stw_other {a b v : Nat} (h : b + m ≤ a ∨ a + k ≤ b) : (s.stw a k v).ldw b m = s.ldw b m :=
  congrArg fromBytes <| State.ldn_congr m b fun c _ _ =>
    State.ldb_stn_other _ _ _ _ (by rw [toBytes_length]; omega)
theorem fromBytes_lt (l : List Byte) : fromBytes l < 256 ^ l.length := by
  induction l with
  | nil => simp [fromBytes]
  | cons x xs ih =>
    have hx := x.isLt
    simp only [fromBytes, List.length_cons, Nat.pow_succ]
    omega
theorem State.length_ldn (s : State) (b m : Nat) : (s.ldn b m).length = m := by
  induction m generalizing b with
  | zero => rfl
  | succ m ih => simp [State.ldn, ih]

/-! ### Words of a record -/

theorem State.qw_of_mem (h : t.mem = s.mem) (n q k : Nat) : t.qw n q k = s.qw n q k := State.ldw_of_mem h _ _
theorem State.qw_lt (s : State) (n q k : Nat) : s.qw n q k < 2 ^ 32 := by
  have h := fromBytes_lt (s.ldn (qAddr n q k) 4)
  rwa [State.length_ldn] at h

@[simp] theorem State.fld_qwPut (s : State) (n q k v : Nat) : (s.qwPut n q k v).fld = s.fld := by
  unfold State.qwPut
  dsimp only
  split <;> simp only [State.stw, State.fld_stn]
@[simp] theorem State.rd_qwPut (s : State) (n q k v b : Nat) (f : Fld) : (s.qwPut n q k v).rd b f = s.rd b f :=
  State.rd_congr (s.fld_qwPut n q k v) b f
@[simp] theorem State.mirOn_qwPut (s : State) (n q k v m : Nat) : (s.qwPut n q k v).mirOn m = s.mirOn m := by
  simp [State.mirOn, State.flag]
@[simp] theorem State.cds_qwPut (s : State) (n q k v : Nat) : (s.qwPut n q k v).cds = s.cds :=
  (State.keeps_qwPut (L := [.mem]) (by decide) n q k v).2 (Keeps.refl _ s) .cds (by decide)
/-- A word of a record reads as it was written, and the others as before, with or without a mirror. -/
theorem State.qw_qwPut (hj : j < 8) (hk : k < 8) (v : Nat) :
    (s.qwPut n q k v).qw n q j = if j = k then v % 2 ^ 32 else s.qw n q j := by
  have hown : (s.stw (qAddr n q k) 4 v).qw n q j = if j = k then v % 2 ^ 32 else s.qw n q j := by
    split
    next h =>
      subst h
      exact s.ldw_stw_same _ 4 v
    · exact State.ldw_stw_other (by simp only [qAddr]; omega)
  unfold State.qwPut
  dsimp only
  split
  · exact (State.ldw_stw_other (by simp only [qAddr]; omega)).trans hown
  · exact hown

/-! ### The end of a command of the catalogue -/

@[simp] theorem State.mem_catSync (s : State) (n : Nat) : (s.catSync n).mem = s.mem := rfl
@[simp] theorem State.cds_catSync (s : State) (n : Nat) : (s.catSync n).cds = s.cds := rfl
@[simp] theorem State.agents_catSync (s : State) (n : Nat) : (s.catSync n).agents = s.agents := rfl
@[simp] theorem State.cdx_catSync (s : State) (n m : Nat) : (s.catSync n).cdx m = s.cdx m := rfl
/-- A register of another word than CAT_STAT and MIRROR_STAT. -/
theorem State.rd_catSync {f : Fld} (hlo : f.lo < 32) (hcat : f.off ≠ 0x10004) (hmir : f.off ≠ 0x101A0) (s : State)
    (n : Nat) : (s.catSync n).rd (cd n) f = s.rd (cd n) f := by
  have h : ∀ g : Fld, g.off = 0x10004 ∨ g.off = 0x101A0 → g.lo < 32 → f.off * 32 + f.lo ≠ g.off * 32 + g.lo := by
    intro g hg hglo
    omega
  unfold State.catSync
  dsimp only
  rw [State.rd_wr_ne (h _ (by simp) (by decide)), State.rd_wr_ne (h _ (by simp) (by decide)),
    State.rd_wr_ne (h _ (by simp) (by decide)), State.rd_wr_ne (h _ (by simp) (by decide))]

end

end Sys2Proof.Machine
end

section
/-! SUPPORT. Doorbells, Q_CMD, the selection of a queue and the acknowledgement of a mirrored change (R395, R401, R403,
R420). -/

namespace Sys2Proof.Machine

section
variable {s : State} {n q : Nat}

/-! ### Registers at the end of a command -/

/-- The outputs that the end of a command settles are fields of four words of a Control die. -/
theorem fkey_cd_not_settled (n : Fin 2) {f : Fld} (hlo : f.lo < 32) (hoff : f.off < 2 ^ 32)
    (h : f.off ∉ [0x320, 0x100C, 0x101C, 0x2008]) : fkey (cd n) f ∉ settleKeys := by
  have hword : ∀ k ∈ settleKeys, k / 32 ∈ [0x320, 0x100C, 0x101C, 0x2008].map (cd 0 + ·) ++
      [0x320, 0x100C, 0x101C, 0x2008].map (cd 1 + ·) := by decide
  intro hk
  have hin := hword _ hk
  rw [fkey_div _ f hlo] at hin
  simp only [List.map_cons, List.map_nil, List.cons_append, List.nil_append, List.mem_cons, List.not_mem_nil, or_false,
    not_or, cd] at hin h
  omega
/-- A register of the catalogue, other than CAT_STAT and MIRROR_STAT, reads as the command left it. -/
theorem State.rd_catSync_settle {f : Fld} (hlo : f.lo < 32)
    (h : f.off < 2 ^ 32 ∧ f.off ∉ [0x320, 0x100C, 0x101C, 0x2008, 0x10004, 0x101A0]) (s : State) (n : Fin 2) :
    (s.catSync n).settle.rd (cd n) f = s.rd (cd n) f := by
  obtain ⟨hoff, h⟩ := h
  simp only [List.mem_cons, List.not_mem_nil, or_false, not_or] at h
  obtain ⟨hpad, hint, hcnt, hwdt, hcat, hmir⟩ := h
  rw [State.settle_rd _ _ _ (fkey_cd_not_settled n hlo hoff (by simp [hpad, hint, hcnt, hwdt])),
    State.rd_catSync hlo hcat hmir]
theorem State.qw_catSync_settle (s : State) (n m q k : Nat) : (s.catSync m).settle.qw n q k = s.qw n q k :=
  State.qw_of_mem (by rw [State.settle_mem, State.mem_catSync]) n q k

/-! ### Doorbells -/

/-- A doorbell that R401 accepts writes PROD, and the mirror is told. -/
theorem State.doorbell_takes (v : Nat) (hact : s.isActive n = true) (hdev : s.qIsDev n q = false)
    (hcq : s.qIsCq n q = false) (hsize : s.qSize n q ≠ 0) (hcons : sub32 v (s.qCons n q) ≤ s.qSize n q)
    (hprod : sub32 v (s.qProd n q) ≤ s.qSize n q) : s.doorbell n q v = (s.qwPut n q 2 v).mirrored n := by
  simp [State.doorbell, hact, hdev, hcq, hsize, hcons, hprod]
@[simp] theorem State.mem_mirrored (s : State) (n : Nat) : (s.mirrored n).mem = s.mem :=
  (State.keeps_mirrored (L := [.cds]) (by decide) n).2 (Keeps.refl _ s) .mem (by decide)

/-- A doorbell in range becomes PROD, and the rest of the record stays (R401). -/
theorem doorbellWrite_shows (n : Fin 2) (q : Fin 131072) (v : Word) (s : State) (hact : s.isActive n = true)
    (hdev : s.qIsDev n q = false) (hcq : s.qIsCq n q = false) (hsize : s.qSize n q ≠ 0)
    (hcons : sub32 v.toNat (s.qCons n q) ≤ s.qSize n q) (hprod : sub32 v.toNat (s.qProd n q) ≤ s.qSize n q) :
    ∃ t, exec (.doorbellWrite n q v) s = .next t ∧ t.qProd n q = v.toNat ∧ t.qCons n q = s.qCons n q ∧
      t.qBase n q = s.qBase n q := by
  have hexec : exec (.doorbellWrite n q v) s = done (((s.qwPut n q 2 v.toNat).mirrored n).catSync n) :=
    congrArg (fun u : State => done (u.catSync n)) (State.doorbell_takes v.toNat hact hdev hcq hsize hcons hprod)
  have hword : ∀ j < 8, (((s.qwPut n q 2 v.toNat).mirrored n).catSync n).settle.qw n q j =
      if j = 2 then v.toNat else s.qw n q j := by
    intro j hj
    rw [State.qw_catSync_settle, State.qw_of_mem (State.mem_mirrored _ _), State.qw_qwPut hj (by decide),
      Nat.mod_eq_of_lt v.isLt]
  refine ⟨_, hexec, ?_, ?_, ?_⟩
  · exact hword 2 (by decide)
  · exact hword 3 (by decide)
  · simp only [State.qBase, State.qf, hword 0 (by decide), hword 1 (by decide)]
    rfl

/-! ### Q_CMD READ -/

/-- The first `m` words of a record, shown in Q_DATA. -/
def State.qShow (s : State) (n q m : Nat) : State :=
  (List.range m).foldl (fun s k => s.wr (cd n) (R.Q_DATA_WORD.at k) (s.qw n q k)) s
theorem State.qShow_succ (s : State) (n q m : Nat) :
    s.qShow n q (m + 1) = (s.qShow n q m).wr (cd n) (R.Q_DATA_WORD.at m) ((s.qShow n q m).qw n q m) := by
  simp only [State.qShow, List.range_succ, List.foldl_append, List.foldl_cons, List.foldl_nil]
theorem State.qRead_eq (hbusy : s.flag (cd n) R.Q_RES_BUSY = false) :
    s.qRead n = (s.qShow n (s.rd (cd n) R.Q_SEL_QUEUE) 8).wr (cd n) R.Q_RES_RESULT 1 := by
  simp only [State.qRead, hbusy]
  rfl
@[simp] theorem State.mem_qShow (s : State) (n q m : Nat) : (s.qShow n q m).mem = s.mem := by
  induction m with
  | zero => rfl
  | succ m ih => rw [State.qShow_succ, State.wr_mem, ih]
theorem State.rd_qShow {m k : Nat} (hk : k < m) :
    (s.qShow n q m).rd (cd n) (R.Q_DATA_WORD.at k) = s.qw n q k := by
  induction m with
  | zero => omega
  | succ m ih =>
    rw [State.qShow_succ, State.qw_of_mem (s.mem_qShow n q m)]
    obtain rfl | hlt := Nat.eq_or_lt_of_le (Nat.le_of_lt_succ hk)
    · rw [State.rd_wr_same]
      exact Nat.mod_eq_of_lt (s.qw_lt n q k)
    · rw [State.rd_wr_ne (by simp only [Fld.at]; omega), ih hlt]

/-- READ shows the eight words of the record (R395). -/
theorem qCmdRead_shows (n : Fin 2) (s : State) (hbusy : s.flag (cd n) R.Q_RES_BUSY = false) :
    ∃ t, exec (.qCmdRead n) s = .next t ∧
      (∀ k : Fin 8, t.rd (cd n) (R.Q_DATA_WORD.at k) = s.qw n (s.rd (cd n) R.Q_SEL_QUEUE) k) ∧
      t.rd (cd n) R.Q_RES_RESULT = 1 ∧ t.mem = s.mem := by
  have hexec : exec (.qCmdRead n) s =
      done ((s.qShow n (s.rd (cd n) R.Q_SEL_QUEUE) 8).wr (cd n) R.Q_RES_RESULT 1) :=
    congrArg done (State.qRead_eq hbusy)
  refine ⟨_, hexec, fun k => ?_, ?_, by simp⟩
  · have hk : fkey (cd n) (R.Q_DATA_WORD.at k) ∉ settleKeys :=
      fkey_cd_not_settled n (by simp [Fld.at]) (by simp [Fld.at]; omega) (by simp [Fld.at]; omega)
    rw [State.settle_rd _ _ _ hk, State.rd_wr_ne (by simp only [Fld.at]; omega), State.rd_qShow k.isLt]
  · rw [State.settle_rd _ _ _ (fkey_cd_not_settled n (by decide) (by decide) (by decide)), State.rd_wr_same]
    rfl

/-! ### Q_CMD WRITE -/

/-- The first `m` words of a record, stored from a list. -/
def State.qStore (s : State) (n q : Nat) (w : List Nat) (m : Nat) : State :=
  (List.range m).foldl (fun s k => s.qwPut n q k (w.getD k 0)) s
theorem State.qStore_succ (s : State) (n q : Nat) (w : List Nat) (m : Nat) :
    s.qStore n q w (m + 1) = (s.qStore n q w m).qwPut n q m (w.getD m 0) := by
  simp only [State.qStore, List.range_succ, List.foldl_append, List.foldl_cons, List.foldl_nil]
theorem State.mirOn_qStore (s : State) (n q : Nat) (w : List Nat) (m : Nat) : (s.qStore n q w m).mirOn n = s.mirOn n := by
  induction m with
  | zero => rfl
  | succ m ih => rw [State.qStore_succ, State.mirOn_qwPut, ih]
theorem State.qw_qStore {w : List Nat} {m j : Nat} (hm : m ≤ 8) (hj : j < m) :
    (s.qStore n q w m).qw n q j = w.getD j 0 % 2 ^ 32 := by
  induction m with
  | zero => omega
  | succ m ih =>
    rw [State.qStore_succ, State.qw_qwPut (by omega) (by omega)]
    split
    next h => rw [h]
    · exact ih (by omega) (by omega)

/-- The record that a WRITE of `w` leaves: its six words, and SERVED and the status word cleared (R395). -/
def State.qRecord (s : State) (n q : Nat) (w : List Nat) : State := ((s.qStore n q w 6).qwPut n q 6 0).qwPut n q 7 0
theorem State.mirOn_qRecord (s : State) (n q : Nat) (w : List Nat) : (s.qRecord n q w).mirOn n = s.mirOn n := by
  simp [State.qRecord, State.mirOn_qStore]
theorem State.qw_qRecord (w : List Nat) {j : Nat} (hj : j < 8) :
    (s.qRecord n q w).qw n q j = if j < 6 then w.getD j 0 % 2 ^ 32 else 0 := by
  rw [State.qRecord, State.qw_qwPut hj (by decide), State.qw_qwPut hj (by decide)]
  split
  · rw [if_neg (by omega)]
    rfl
  split
  · rw [if_neg (by omega)]
    rfl
  · rw [if_pos (by omega), State.qw_qStore (by decide) (by omega)]

/-- A queue that a WRITE has disabled loses its head and what waited for it (R396). -/
def State.qOff (s : State) (n q : Nat) : State :=
  if s.qSize n q = 0 then
    (s.dropHead n q).modCd n (fun x => { x with
      sels := x.sels.filter (· != q), cancels := x.cancels.filter (fun c => c.1 != q) })
  else s
theorem State.mem_qOff (s : State) (n q : Nat) : (s.qOff n q).mem = s.mem := by
  unfold State.qOff
  split <;> rfl
theorem State.mirOn_qOff (s : State) (n q : Nat) : (s.qOff n q).mirOn n = s.mirOn n := by
  unfold State.qOff
  split <;> rfl

/-- The words that a WRITE takes from Q_DATA. -/
def State.qData (s : State) (n : Nat) : List Nat := (List.range 6).map (fun k => s.rd (cd n) (R.Q_DATA_WORD.at k))
theorem State.getD_qData (s : State) (n : Nat) {k : Nat} (hk : k < 6) :
    (s.qData n).getD k 0 = s.rd (cd n) (R.Q_DATA_WORD.at k) := by
  rw [State.qData, List.getD_eq_getElem _ _ (by simpa using hk), List.getElem_map, List.getElem_range]

/-- WRITE by its checks, and by the mirror that it may wait for (R395, R420). -/
theorem State.qWrite_cases (s : State) (n : Nat) :
    let q := s.rd (cd n) R.Q_SEL_QUEUE
    let u := (s.qRecord n q (s.qData n)).qOff n q
    s.qWrite n = if s.flag (cd n) R.Q_RES_BUSY then s
      else if qInvalid (s.qData n) then s.wr (cd n) R.Q_RES_RESULT 0x10
      else if s.qLive n q (s.qData n) then s.wr (cd n) R.Q_RES_RESULT 0x11
      else if u.mirOn n then (u.wr (cd n) R.Q_RES_BUSY 1).mirror n (.qcmd 1) id
      else u.wr (cd n) R.Q_RES_RESULT 1 := rfl
/-- Without a mirror a valid WRITE to a queue that is not live reports OK. -/
theorem State.qWrite_eq (hq : s.rd (cd n) R.Q_SEL_QUEUE = q) (hbusy : s.flag (cd n) R.Q_RES_BUSY = false)
    (hmir : s.mirOn n = false) (hvalid : qInvalid (s.qData n) = false) (hlive : s.qLive n q (s.qData n) = false) :
    s.qWrite n = ((s.qRecord n q (s.qData n)).qOff n q).wr (cd n) R.Q_RES_RESULT 1 := by
  subst hq
  have hoff : ((s.qRecord n (s.rd (cd n) R.Q_SEL_QUEUE) (s.qData n)).qOff n (s.rd (cd n) R.Q_SEL_QUEUE)).mirOn n = false :=
    (State.mirOn_qOff _ n _).trans ((s.mirOn_qRecord n _ _).trans hmir)
  simp only [State.qWrite_cases, hbusy, hvalid, hlive, hoff, Bool.false_eq_true, if_false]

/-- WRITE stores six words, clears SERVED and the status word, and reports OK (R395). -/
theorem qCmdWrite_shows (n : Fin 2) (s : State) (hbusy : s.flag (cd n) R.Q_RES_BUSY = false) (hmir : s.mirOn n = false)
    (hvalid : qInvalid (s.qData n) = false) (hlive : s.qLive n (s.rd (cd n) R.Q_SEL_QUEUE) (s.qData n) = false) :
    ∃ t, exec (.qCmdWrite n) s = .next t ∧
      (∀ k : Fin 6, t.qw n (s.rd (cd n) R.Q_SEL_QUEUE) k = s.rd (cd n) (R.Q_DATA_WORD.at k) % 2 ^ 32) ∧
      t.qw n (s.rd (cd n) R.Q_SEL_QUEUE) 6 = 0 ∧ t.qw n (s.rd (cd n) R.Q_SEL_QUEUE) 7 = 0 ∧
      t.rd (cd n) R.Q_RES_RESULT = 1 := by
  generalize hq : s.rd (cd n) R.Q_SEL_QUEUE = q at hlive ⊢
  have hexec : exec (.qCmdWrite n) s =
      done ((((s.qRecord n q (s.qData n)).qOff n q).wr (cd n) R.Q_RES_RESULT 1).catSync n) :=
    congrArg (fun u : State => done (u.catSync n)) (State.qWrite_eq hq hbusy hmir hvalid hlive)
  have hword : ∀ j < 8,
      ((((s.qRecord n q (s.qData n)).qOff n q).wr (cd n) R.Q_RES_RESULT 1).catSync n).settle.qw n q j =
        if j < 6 then (s.qData n).getD j 0 % 2 ^ 32 else 0 := by
    intro j hj
    rw [State.qw_catSync_settle, State.qw_of_mem ((State.wr_mem _ _ _ _).trans (State.mem_qOff _ n q)),
      State.qw_qRecord _ hj]
  refine ⟨_, hexec, fun k => ?_, ?_, ?_, ?_⟩
  · rw [hword k (by omega), if_pos k.isLt, State.getD_qData s n k.isLt]
  · exact hword 6 (by decide)
  · exact hword 7 (by decide)
  · rw [State.rd_catSync_settle (by decide) (by decide), State.rd_wr_same]
    rfl

/-! ### Selection -/

/-- The arbiter takes the queue that R403 selects. -/
theorem queueSelect_shows (n : Fin 2) {c : Nat} (hon : s.dispatchOn n = true) (hidle : (s.idleSq n).isSome = true)
    (hpick : s.qPick n = some (c, q)) :
    ∃ t, exec (.queueSelect n) s = .next t ∧ (t.cdx n).sels = (s.cdx n).sels ++ [q] ∧ t.mem = s.mem := by
  show ∃ t, execQueueSelect n s = .next t ∧ _
  simp only [execQueueSelect, hon, hidle, hpick, Bool.and_self, if_true]
  exact ⟨_, rfl, by simp, by rw [State.settle_mem]; rfl⟩

/-! ### Acknowledgements -/

/-- The oldest of the changes that wait goes on (R420). -/
theorem State.mirrorAckReceive_eq (n : Fin 2) {a : MirAct} {rest : List MirAct} (h : (s.cdx n).mirQ = a :: rest) :
    exec (.mirrorAckReceive n) s =
      done (((s.modCd n (fun x => { x with mirQ := rest })).mirGo n a).catSync n) := by
  show execMirrorAckReceive n s = _
  simp only [execMirrorAckReceive, h]
theorem mirrorAckReceive_dispatch_shows (n : Fin 2) {x : Slip} {rest : List MirAct}
    (h : (s.cdx n).mirQ = .dispatch x :: rest) :
    ∃ t, exec (.mirrorAckReceive n) s = .next t ∧ (t.cdx n).disp = (s.cdx n).disp ++ [x] ∧ (t.cdx n).mirQ = rest :=
  ⟨_, State.mirrorAckReceive_eq n h, by simp [State.mirGo], by simp [State.mirGo]⟩
theorem mirrorAckReceive_qcmd_shows (n : Fin 2) {r : Fin 256} {rest : List MirAct}
    (h : (s.cdx n).mirQ = .qcmd r :: rest) :
    ∃ t, exec (.mirrorAckReceive n) s = .next t ∧ t.rd (cd n) R.Q_RES_RESULT = r ∧
      t.flag (cd n) R.Q_RES_BUSY = false ∧ (t.cdx n).mirQ = rest := by
  refine ⟨_, State.mirrorAckReceive_eq n h, ?_, ?_, by simp [State.mirGo]⟩
  · rw [State.rd_catSync_settle (by decide) (by decide), State.mirGo, State.rd_wr_same]
    exact Nat.mod_eq_of_lt r.isLt
  · rw [State.flag, State.rd_catSync_settle (by decide) (by decide), State.mirGo, State.rd_wr_ne (by decide),
      State.rd_wr_same]
    rfl

end

end Sys2Proof.Machine
end

section
/-! SUPPORT. The head slip of a ring in Commons that passes the checks, and its start on a sequencer (R404, R405). -/

namespace Sys2Proof.Machine

section
variable {s : State} {n q : Nat}

/-! ### A ring in Commons -/

/-- A read of Commons none of whose words has changed by itself (R452). -/
theorem State.comRead_of_comErr_nil (h : s.comErr = []) (n master o len : Nat) :
    s.comRead n master o len = (s, s.ldn (comAddr n o) len, false) := by
  have hword : ∀ l : List Nat, l.foldl (fun (x : State × Bool) i =>
      ((x.1.comCheck n master i).1, x.2 || (x.1.comCheck n master i).2)) (s, false) = (s, false) := by
    intro l
    induction l with
    | nil => rfl
    | cons i l ih =>
      rw [List.foldl_cons, State.comCheck_clean (by rw [h]; rfl)]
      exact ih
  simp only [State.comRead, hword]
theorem State.ringGet_commons (h : s.comErr = []) {a : Nat} (ha : a < 2 ^ 32) (n master len : Nat) :
    s.ringGet n master a len = some (s, s.ldn (comAddr n (a % 2 ^ 24)) len) := by
  rw [State.ringGet, if_pos (Nat.div_eq_of_lt ha), State.comRead_of_comErr_nil h]

/-- Position of the head of a ring, and its address. -/
def State.headPos (s : State) (n q : Nat) : Nat := s.qCons n q % max (s.qSize n q) 1
def State.headAddr (s : State) (n q : Nat) : Nat := s.qBase n q + 64 * s.headPos n q
theorem State.headPos_of_mem {t : State} (h : t.mem = s.mem) (n q : Nat) : t.headPos n q = s.headPos n q := by
  unfold State.headPos State.qCons State.qSize State.qf
  rw [State.qw_of_mem h, State.qw_of_mem h]
theorem State.headAddr_of_mem {t : State} (h : t.mem = s.mem) (n q : Nat) : t.headAddr n q = s.headAddr n q := by
  simp only [State.headAddr, State.headPos_of_mem h, State.qBase, State.qf, State.qw_of_mem h]
theorem State.headAddr_lt (hend : s.qBase n q + 64 * s.qSize n q ≤ 2 ^ 24) :
    s.headAddr n q < 2 ^ 32 := by
  have hpos : s.headPos n q < max (s.qSize n q) 1 := Nat.mod_lt _ (by omega)
  unfold State.headAddr
  omega

/-! ### A head that runs -/

/-- A head with NOCQ that passes the checks and waits for no semaphore is taken at once (steps 1 to 4 of R404). -/
theorem State.headStep_takes {w : List Nat} (hout : s.slipOutcome n q w = 0) (hsem : bitOf (w.getD 3 0) 31 = false)
    (hnocq : bitOf (w.getD 2 0) 31 = true) (taken : Bool) : s.headStep n q w taken = s.headTake n q w 0 none := by
  simp only [State.headStep, State.headPlace, hout, hsem, hnocq, Bool.false_eq_true, false_and, and_false, if_false, if_true]
/-- Without a mirror nothing waits for an acknowledgement (R416). -/
theorem State.mirror_of_mirOn_false (h : s.mirOn n = false) (a : MirAct) (go : State → State) :
    s.mirror n a go = go s := by
  rw [State.mirror, h]
  rfl
/-- The record of a ring whose head is taken: CONS and SERVED have advanced. -/
def State.qAdvance (s : State) (n q : Nat) : State :=
  (s.qwPut n q 3 ((s.qCons n q + 1) % 2 ^ 32)).qwPut n q 6 ((s.qw n q 6 + 1) % 2 ^ 32)
theorem State.qCons_qAdvance (s : State) (n q : Nat) : (s.qAdvance n q).qCons n q = (s.qCons n q + 1) % 2 ^ 32 := by
  rw [State.qCons, State.qAdvance, State.qw_qwPut (by decide) (by decide), State.qw_qwPut (by decide) (by decide),
    if_neg (by decide), if_pos rfl, Nat.mod_mod]
theorem State.qProd_qAdvance (s : State) (n q : Nat) : (s.qAdvance n q).qProd n q = s.qProd n q := by
  rw [State.qProd, State.qAdvance, State.qw_qwPut (by decide) (by decide), State.qw_qwPut (by decide) (by decide),
    if_neg (by decide), if_neg (by decide), State.qProd]
theorem State.cdx_qAdvance (s : State) (n q m : Nat) : (s.qAdvance n q).cdx m = s.cdx m := by
  simp only [State.cdx, State.qAdvance, State.cds_qwPut]
theorem State.mirOn_qAdvance (s : State) (n q m : Nat) : (s.qAdvance n q).mirOn m = s.mirOn m := by
  simp only [State.qAdvance, State.mirOn_qwPut]
theorem State.mem_dropHead (s : State) (n q : Nat) : (s.dropHead n q).mem = s.mem := rfl
theorem State.mirOn_dropHead (s : State) (n q m : Nat) : (s.dropHead n q).mirOn m = s.mirOn m := rfl
theorem State.mirOn_modCd (s : State) (n : Nat) (f : CdX → CdX) (m : Nat) : (s.modCd n f).mirOn m = s.mirOn m := rfl

/-- Without a mirror a slip that is taken waits for a sequencer; the head, a cancel for it and the count of its class are
no part of what waits (step 4 of R404). -/
theorem State.headTake_eq (hmir : s.mirOn n = false) (w : List Nat) (cq : Option Nat) :
    ∃ f : CdX → CdX, (∀ x, (f x).disp = x.disp ∧ (f x).sels = x.sels) ∧
      s.headTake n q w 0 cq = (((s.qAdvance n q).dropHead n q).modCd n f).modCd n
        (fun y => { y with disp := y.disp ++ [slipOf q (s.headPos n q) w cq] }) := by
  have hoff : ∀ f, (((s.qAdvance n q).dropHead n q).modCd n f).mirOn n = false := fun f => by
    rw [State.mirOn_modCd, State.mirOn_dropHead, State.mirOn_qAdvance, hmir]
  unfold State.headTake
  dsimp only
  rw [if_pos rfl, ← State.qAdvance, ← State.headPos, State.mirror_of_mirOn_false (hoff _)]
  refine ⟨_, ?_, rfl⟩
  exact fun _ => ⟨rfl, rfl⟩
/-- So its record advances, and it joins the slips that wait. -/
theorem State.headTake_runs (hmir : s.mirOn n = false) (w : List Nat) (cq : Option Nat) :
    (s.headTake n q w 0 cq).mem = (s.qAdvance n q).mem ∧
      ((s.headTake n q w 0 cq).cdx n).disp = (s.cdx n).disp ++ [slipOf q (s.headPos n q) w cq] ∧
      ((s.headTake n q w 0 cq).cdx n).sels = (s.cdx n).sels := by
  obtain ⟨f, hf, htake⟩ := State.headTake_eq (q := q) hmir w cq
  have hcdx : (((s.qAdvance n q).dropHead n q).modCd n f).cdx n =
      f { s.cdx n with heads := (s.cdx n).heads.filter (fun h => h.q != q) } := by
    rw [State.cdx_modCd_same, State.dropHead, State.cdx_modCd_same, ← s.cdx_qAdvance n q n]
    rfl
  rw [htake]
  refine ⟨?_, ?_, ?_⟩
  · rw [State.modCd_mem, State.modCd_mem, State.mem_dropHead]
  · rw [State.cdx_modCd_same, hcdx, (hf _).1]
  · rw [State.cdx_modCd_same, hcdx, (hf _).2]

/-- The queue selected first is taken from the list of those whose heads are read. -/
def State.selTaken (s : State) (n : Nat) (rest : List Nat) : State := s.modCd n (fun x => { x with sels := rest })
theorem State.selTaken_def (s : State) (n : Nat) (rest : List Nat) :
    s.modCd n (fun x => { x with sels := rest }) = s.selTaken n rest := rfl
theorem State.mem_selTaken (s : State) (n : Nat) (rest : List Nat) : (s.selTaken n rest).mem = s.mem := rfl
theorem State.cdx_selTaken (s : State) (n : Nat) (rest : List Nat) :
    (s.selTaken n rest).cdx n = { s.cdx n with sels := rest } := s.cdx_modCd_same n _
theorem State.slipOutcome_selTaken (s : State) (n q : Nat) (rest w : List Nat) :
    (s.selTaken n rest).slipOutcome n q w = s.slipOutcome n q w := by
  have hflag : ∀ b f, (s.selTaken n rest).flag b f = s.flag b f := fun _ _ => rfl
  unfold State.slipOutcome State.qf
  dsimp only
  rw [State.qw_of_mem (s.mem_selTaken n rest), hflag]

/-- A head that is on no chip, is not cancelled and lies in the device is read, and the steps of R404 act on its words. -/
theorem State.headSlipArrive_of_read (n : Fin 2) {rest : List Nat} {l : List Byte} (hsels : (s.cdx n).sels = q :: rest)
    (hnone : (s.selTaken n rest).headOf n q = none)
    (hcancel : ((s.selTaken n rest).cdx n).cancels.contains (q, (s.selTaken n rest).headPos n q) = false)
    (haddr : (s.selTaken n rest).headAddr n q < 2 ^ 32)
    (hread : (s.selTaken n rest).ringGet n 1 ((s.selTaken n rest).headAddr n q) 64 = some (s.selTaken n rest, l)) :
    exec (.headSlipArrive n false []) s =
      done (((s.selTaken n rest).headStep n q (slipWords l) false).catSync n) := by
  have hhost : decide ((s.selTaken n rest).headAddr n q / 2 ^ 32 ≠ 0) = false :=
    decide_eq_false (not_not.2 (Nat.div_eq_of_lt haddr))
  show execHeadSlipArrive n false [] s = _
  unfold execHeadSlipArrive
  split
  next h => simp [h] at hsels
  next q' rest' h =>
    obtain ⟨rfl, rfl⟩ : q = q' ∧ rest = rest' := by simpa [hsels] using h
    extract_lets u pos cancel mark base host
    have hu : s.selTaken n rest = u := rfl
    have hn : u.headOf n q = none := hnone
    have hc : cancel = false := hcancel
    have hmark : ∀ w, mark w = if cancel then putBit (w.headD 0) 31 true :: w.drop 1 else w := fun _ => rfl
    have hh : host = false := hhost
    have hr : u.ringGet n 1 base 64 = some (u, l) := hread
    -- What is read is made opaque: the kernel would compute with the address of the head to see whether it is a host's.
    clear_value host mark base cancel pos u
    generalize u.ringGet n 1 base 64 = o at hr ⊢
    subst hc hh hr
    simp only [hu, hn, hmark, Bool.false_and, Bool.false_eq_true, if_false]
/-- A ring in Commons none of whose words has changed by itself gives the bytes of its head. -/
theorem State.headSlipArrive_commons (n : Fin 2) {rest : List Nat} (hsels : (s.cdx n).sels = q :: rest)
    (hhead : s.headOf n q = none) (hcancel : (s.cdx n).cancels.contains (q, s.headPos n q) = false)
    (haddr : s.headAddr n q < 2 ^ 32) (hclean : s.comErr = []) :
    exec (.headSlipArrive n false []) s = done (((s.selTaken n rest).headStep n q
      (slipWords (s.ldn (comAddr n (s.headAddr n q % 2 ^ 24)) 64)) false).catSync n) := by
  have hmem := s.mem_selTaken n rest
  have hcdx := s.cdx_selTaken n rest
  refine State.headSlipArrive_of_read n hsels ?_ ?_ ?_ ?_
  · rw [State.headOf, hcdx]
    exact hhead
  · rw [State.headPos_of_mem hmem, hcdx]
    exact hcancel
  · rwa [State.headAddr_of_mem hmem]
  · rw [State.headAddr_of_mem hmem, State.ringGet_commons (s := s.selTaken n rest) hclean haddr]
    exact congrArg (fun l => some (_, l)) (State.ldn_congr 64 _ fun _ _ _ => State.ldb_of_mem hmem _)

/-- The head slip of a ring in Commons that passes the checks, with NOCQ and without WAIT_SEM, is taken (R404). -/
theorem headSlipArrive_shows (n : Fin 2) {rest : List Nat} {w : List Nat} (hsels : (s.cdx n).sels = q :: rest)
    (hhead : s.headOf n q = none) (hcancel : (s.cdx n).cancels.contains (q, s.headPos n q) = false)
    (hend : s.qBase n q + 64 * s.qSize n q ≤ 2 ^ 24) (hmir : s.mirOn n = false) (hclean : s.comErr = [])
    (hw : slipWords (s.ldn (comAddr n (s.headAddr n q % 2 ^ 24)) 64) = w) (hout : s.slipOutcome n q w = 0)
    (hsem : bitOf (w.getD 3 0) 31 = false) (hnocq : bitOf (w.getD 2 0) 31 = true) :
    ∃ t, exec (.headSlipArrive n false []) s = .next t ∧
      (t.cdx n).disp = (s.cdx n).disp ++ [slipOf q (s.headPos n q) w none] ∧ (t.cdx n).sels = rest ∧
      t.qCons n q = (s.qCons n q + 1) % 2 ^ 32 ∧ t.qProd n q = s.qProd n q := by
  have hexec := State.headSlipArrive_commons n hsels hhead hcancel (State.headAddr_lt hend) hclean
  set u := s.selTaken n rest with hu
  have hmem : u.mem = s.mem := s.mem_selTaken n rest
  have hcdx : u.cdx n = { s.cdx n with sels := rest } := s.cdx_selTaken n rest
  have hpass : u.slipOutcome n q w = 0 := (s.slipOutcome_selTaken n q rest w).trans hout
  obtain ⟨htaken, hdisp, hrest⟩ := State.headTake_runs (s := u) (n := n) (q := q) hmir w none
  rw [hw, State.headStep_takes hpass hsem hnocq] at hexec
  have hword : ∀ k, ((u.headTake n q w 0 none).catSync n).settle.qw n q k = (u.qAdvance n q).qw n q k := fun k =>
    (State.qw_catSync_settle _ _ _ _ _).trans (State.qw_of_mem htaken _ _ _)
  refine ⟨_, hexec, ?_, ?_, ?_, ?_⟩
  · rw [State.cdx_settle, State.cdx_catSync, hdisp, hcdx, State.headPos_of_mem hmem]
  · rw [State.cdx_settle, State.cdx_catSync, hrest, hcdx]
  · rw [State.qCons, hword, ← State.qCons, State.qCons_qAdvance, State.qCons, State.qw_of_mem hmem, State.qCons]
  · rw [State.qProd, hword, ← State.qProd, State.qProd_qAdvance, State.qProd, State.qw_of_mem hmem, State.qProd]

/-! ### The start on a sequencer -/

theorem State.sR_sW_other {a r i : Nat} (h : i ≠ r) (s : State) (v : Word) : (s.sW a r v).sR a i = s.sR a i := by
  obtain ⟨-, hs, -⟩ := s.agentBut_sW (A := fun _ => False) (P := fun _ => False) a r v
  exact hs i h
/-- The registers with which the program of a slip of no carrel starts (R405). -/
def State.slipRegs (s : State) (a : Nat) (x : Slip) : State :=
  ((((x.args.zipIdx.foldl (fun s p => s.sW a (p.2 + 1) (BitVec.ofNat 32 p.1)) s).sW a 28 (BitVec.ofNat 32 x.tag)).sW a 30
    (BitVec.ofNat 32 x.q)).sW a 31 (BitVec.ofNat 32 x.pos)).sW a 29 (BitVec.ofNat 32 (2 ^ 31))
theorem State.keeps_slipRegs (s : State) (a : Nat) (x : Slip) : Keeps [.agents] s (s.slipRegs a x) := by
  simp [State.slipRegs]
theorem State.cdx_slipRegs (s : State) (a : Nat) (x : Slip) (n : Nat) : (s.slipRegs a x).cdx n = s.cdx n := by
  have hcds : (s.slipRegs a x).cds = s.cds := s.keeps_slipRegs a x .cds (by decide)
  rw [State.cdx, hcds, State.cdx]
theorem State.rd_sW (s : State) (a r : Nat) (v : Word) (b : Nat) (f : Fld) : (s.sW a r v).rd b f = s.rd b f := by
  unfold State.sW
  split <;> rfl
theorem State.rd_slipRegs (s : State) (a : Nat) (x : Slip) (b : Nat) (f : Fld) : (s.slipRegs a x).rd b f = s.rd b f := by
  rw [State.slipRegs, State.rd_sW, State.rd_sW, State.rd_sW, State.rd_sW]
  exact State.rd_congr (State.fld_wings_args a x.args.zipIdx s).1 b f
/-- s1 upward hold the arguments, s28 to s31 what the slip is. -/
theorem State.sR_slipRegs (s : State) (a : Nat) {x : Slip} (hargs : x.args.length ≤ 11) :
    (∀ i < x.args.length, (s.slipRegs a x).sR a (i + 1) = BitVec.ofNat 32 (x.args.getD i 0)) ∧
      (s.slipRegs a x).sR a 28 = BitVec.ofNat 32 x.tag ∧ (s.slipRegs a x).sR a 29 = BitVec.ofNat 32 (2 ^ 31) ∧
      (s.slipRegs a x).sR a 30 = BitVec.ofNat 32 x.q ∧ (s.slipRegs a x).sR a 31 = BitVec.ofNat 32 x.pos := by
  unfold State.slipRegs
  refine ⟨fun i hi => ?_, ?_, ?_, ?_, ?_⟩
  · rw [State.sR_sW_other (by omega), State.sR_sW_other (by omega), State.sR_sW_other (by omega),
      State.sR_sW_other (by omega), State.sR_args, if_pos (by omega)]
    simp
  · rw [State.sR_sW_other (by decide), State.sR_sW_other (by decide), State.sR_sW_other (by decide),
      State.sR_sW_same (by decide)]
  · rw [State.sR_sW_same (by decide)]
  · rw [State.sR_sW_other (by decide), State.sR_sW_other (by decide), State.sR_sW_same (by decide)]
  · rw [State.sR_sW_other (by decide), State.sR_sW_same (by decide)]

theorem State.cdx_sqFresh (s : State) (n k m : Nat) : (s.sqFresh n k).cdx m = s.cdx m := rfl
theorem State.cdx_setRun (s : State) (n k : Nat) (x : Slip) :
    (s.setRun n k (some x)).cdx n = { s.cdx n with runs := Store.put none (s.cdx n).runs k (some x) } := by
  unfold State.setRun
  dsimp only
  simp only [State.cdx_wr]
  split
  · rw [State.cdx_modCd_other _ _ _ _ (by omega), State.cdx_modCd_same]
  · rw [State.cdx_modCd_same]
theorem State.flag_setRun (s : State) (n k : Nat) (x : Slip) :
    (s.setRun n k (some x)).flag (cd n) (R.SQ_RUNQ_VALID.at k) = true := by
  unfold State.setRun State.flag
  dsimp only
  rw [State.rd_wr_ne (by simp only [Fld.at]; omega), State.rd_wr_ne (by simp only [Fld.at]; omega),
    State.rd_wr_ne (by simp only [Fld.at]; omega), State.rd_wr_same]
  rfl

/-- What a sequencer starts a slip of no carrel with, where the directory has its program. -/
theorem State.slipLoad_eq {k : Nat} {x : Slip} (hprog : bitOf (s.ldw (sqMem n k x.prog) 4) 31 = true)
    (hcarrel : x.carrel = none) :
    s.slipLoad n k x = ((((s.sqFresh n k).setRun n k (some x)).slipRegs (sqix n k) x).setPc (sqix n k)
      (bits (s.ldw (sqMem n k x.prog) 4) 12 0)).setAgState (sqix n k) 1 := by
  simp only [State.slipLoad, State.carrelRun, hcarrel, hprog, if_true, State.slipRegs]
theorem sqix_fields {k : Nat} (hn : n < 2) (hk : k < 8) : agBase (sqix n k) = cd n ∧
    fState (sqix n k) = R.SQ_STAT_STATE.at k ∧ fPc (sqix n k) = R.SQ_STAT_PC.at k := by
  have hsq : isSq (sqix n k) = true := decide_eq_true (by simp only [sqix]; omega)
  have hdie : sqDie (sqix n k) = n := by simp only [sqDie, sqix]; omega
  have hseq : sqix n k % 8 = k := by simp only [sqix]; omega
  simp only [agBase, fState, fPc, hsq, hdie, hseq, if_true, and_self]

/-- The sequencer runs the slip from its entry, with its arguments and what it is in the registers (R405). -/
theorem State.slipLoad_shows (s : State) (n : Fin 2) (k : Fin 8) {x : Slip}
    (hprog : bitOf (s.ldw (sqMem n k x.prog) 4) 31 = true) (hcarrel : x.carrel = none) :
    (s.slipLoad n k x).rd (cd n) (R.SQ_STAT_STATE.at k) = 1 ∧
      (s.slipLoad n k x).rd (cd n) (R.SQ_STAT_PC.at k) = bits (s.ldw (sqMem n k x.prog) 4) 12 0 ∧
      (s.slipLoad n k x).flag (cd n) (R.SQ_RUNQ_VALID.at k) = true ∧
      (s.slipLoad n k x).cdx n = { s.cdx n with runs := Store.put none (s.cdx n).runs k (some x) } ∧
      ∀ i, (s.slipLoad n k x).sR (sqix n k) i =
        (((s.sqFresh n k).setRun n k (some x)).slipRegs (sqix n k) x).sR (sqix n k) i := by
  obtain ⟨hbase, hstate, hpc⟩ := sqix_fields n.isLt k.isLt
  rw [State.slipLoad_eq hprog hcarrel, State.setAgState, State.setPc, hbase, hstate, hpc]
  refine ⟨?_, ?_, ?_, ?_, fun i => State.sR_congr rfl _ i⟩
  · rw [State.rd_wr_same]
    rfl
  · rw [State.rd_wr_ne (by simp only [Fld.at]; omega), State.rd_wr_same]
    exact Nat.mod_mod _ _
  · rw [State.flag, State.rd_wr_ne (by simp only [Fld.at]; omega), State.rd_wr_ne (by simp only [Fld.at]; omega),
      State.rd_slipRegs]
    exact State.flag_setRun _ n k x
  · rw [State.cdx_wr, State.cdx_wr, State.cdx_slipRegs, State.cdx_setRun, State.cdx_sqFresh]

/-- The first waiting slip starts on the lowest idle sequencer (R405). -/
theorem slipDispatch_shows (n : Fin 2) (k : Fin 8) {x : Slip} {rest : List Slip} (hdisp : (s.cdx n).disp = x :: rest)
    (hidle : s.idleSq n = some k.val) (hon : s.dispatchOn n = true)
    (hprog : bitOf (s.ldw (sqMem n k x.prog) 4) 31 = true) (hargs : x.args.length ≤ 11) (hcarrel : x.carrel = none) :
    ∃ t, exec (.slipDispatch n) s = .next t ∧
      (t.cdx n).disp = rest ∧
      t.agState (sqix n k) = 1 ∧
      t.pc (sqix n k) = bits (s.ldw (sqMem n k x.prog) 4) 12 0 ∧
      t.runSlip n k = some x ∧
      t.flag (cd n) (R.SQ_RUNQ_VALID.at k) = true ∧
      (∀ i : Fin 11, i.val < x.args.length → t.sR (sqix n k) (i.val + 1) = BitVec.ofNat 32 (x.args.getD i 0)) ∧
      t.sR (sqix n k) 28 = BitVec.ofNat 32 x.tag ∧
      t.sR (sqix n k) 29 = BitVec.ofNat 32 (2 ^ 31) ∧
      t.sR (sqix n k) 30 = BitVec.ofNat 32 x.q ∧
      t.sR (sqix n k) 31 = BitVec.ofNat 32 x.pos := by
  set u := s.modCd n (fun y => { y with disp := rest }) with hu
  have hmem : u.mem = s.mem := s.modCd_mem n _
  have hexec : exec (.slipDispatch n) s = done ((u.slipLoad n k x).catSync n) := by
    show execSlipDispatch n s = _
    simp only [execSlipDispatch, hdisp, hidle, hon, if_true, ← hu]
  rw [← State.ldw_of_mem hmem] at hprog ⊢
  obtain ⟨hstate, hpc, hvalid, hcdx, hregs⟩ := u.slipLoad_shows n k hprog hcarrel
  obtain ⟨hargsIn, htag, hcarrelIn, hqueue, hpos⟩ :=
    ((u.sqFresh n k).setRun n k (some x)).sR_slipRegs (sqix n k) hargs
  obtain ⟨hbase, hstatef, hpcf⟩ := sqix_fields n.isLt k.isLt
  have hrd : ∀ f ∈ [R.SQ_STAT_STATE.at k, R.SQ_STAT_PC.at k, R.SQ_RUNQ_VALID.at k],
      ((u.slipLoad n k x).catSync n).settle.rd (cd n) f = (u.slipLoad n k x).rd (cd n) f := by
    intro f hf
    have hk := k.isLt
    have hoff : f.lo < 32 ∧ (0x200 ≤ f.off ∧ f.off < 0x220 ∨ 0x10100 ≤ f.off ∧ f.off < 0x10140) := by
      simp only [List.mem_cons, List.not_mem_nil, or_false] at hf
      rcases hf with rfl | rfl | rfl <;> simp only [Fld.at] <;> omega
    exact State.rd_catSync_settle hoff.1 (by simp only [List.mem_cons, List.not_mem_nil, or_false]; omega) _ n
  have hsR : ∀ i, ((u.slipLoad n k x).catSync n).settle.sR (sqix n k) i =
      (((u.sqFresh n k).setRun n k (some x)).slipRegs (sqix n k) x).sR (sqix n k) i := fun i =>
    (State.sR_congr ((State.settle_agents _).trans (State.agents_catSync _ n)) _ i).trans (hregs i)
  have hdie : ((u.slipLoad n k x).catSync n).settle.cdx n =
      { u.cdx n with runs := Store.put none (u.cdx n).runs k (some x) } := by
    rw [State.cdx_settle, State.cdx_catSync, hcdx]
  refine ⟨_, hexec, ?_, ?_, ?_, ?_, ?_, fun i hi => ?_, ?_, ?_, ?_, ?_⟩
  · rw [hdie, hu, State.cdx_modCd_same]
  · rw [State.agState, hbase, hstatef, hrd _ (by simp), hstate]
  · rw [State.pc, hbase, hpcf, hrd _ (by simp), hpc]
  · rw [State.runSlip, hdie, Store.get_put_same]
  · rw [State.flag, hrd _ (by simp), ← State.flag, hvalid]
  · rw [hsR, hargsIn i hi]
  · rw [hsR, htag]
  · rw [hsR, hcarrelIn]
  · rw [hsR, hqueue]
  · rw [hsR, hpos]

end

end Sys2Proof.Machine
end

section
/-! SUPPORT. The catalogue's queues and slips, command by command (chapter 11). -/

namespace Sys2Proof.Machine

/-- Settles O35, command by command: what a doorbell, Q_CMD, the selection of a queue, a head slip, its dispatch and an
acknowledgement leave (the lemmas above). -/
theorem queuesAndSlips : Obligations.QueuesAndSlips := by
  unfold Obligations.QueuesAndSlips
  refine ⟨?doorbell, ?read, ?write, ?select, ?head, ?dispatch, ?ackSlip, ?ackCmd⟩
  case doorbell =>
    intro n q v s hact hdev hcq hsize hcons hprod
    exact doorbellWrite_shows n q v s hact hdev hcq hsize hcons hprod
  case read => intro n s hbusy; exact qCmdRead_shows n s hbusy
  case write => intro n s hbusy hmir hvalid hlive; exact qCmdWrite_shows n s hbusy hmir hvalid hlive
  case select => intro n c q s hon hidle hpick; exact queueSelect_shows n hon hidle hpick
  case head =>
    intro n q rest s hsels hhead hcancel _ hend _ hmir hclean hout hsem hnocq
    exact headSlipArrive_shows n hsels hhead hcancel hend hmir hclean rfl hout hsem hnocq
  case dispatch =>
    intro n k x rest s hdisp hidle hon hprog hargs hcarrel
    exact slipDispatch_shows n k hdisp hidle hon hprog hargs hcarrel
  case ackSlip => intro n x rest s h; exact mirrorAckReceive_dispatch_shows n h
  case ackCmd => intro n r rest s h; exact mirrorAckReceive_qcmd_shows n h

end Sys2Proof.Machine
end

section
/-! SUPPORT. The epoch of a standby that takes over from a seized partner (R433, R437, R438). As above, the field store of a
state may hold a value wider than its field, and the statements over every state say nothing of that. -/

namespace Sys2Proof.Machine

/-- CD0 is the standby of CD1, both awake, and has sent SEIZE. Its epoch is held as 2^16, one more than PAIR_STAT.EPOCH can
show; at the last value that EPOCH can show, 0xFFFF, no takeover could follow (R434). -/
def seizingWideEpoch : State :=
  { State.reset with
    fld := [(fkey (cd 0) R.PAIR_STAT_EPOCH, 2 ^ 16), (fkey (cd 0) R.PAIR_STAT_PARTNER, 3), (fkey (cd 1) R.PAIR_STAT_ROLE, 1),
      (fkey (cd 1) R.PAIR_STAT_PARTNER, 2), (fkey (cd 0) R.PWR_STATE_CUR, 4), (fkey (cd 1) R.PWR_STATE_CUR, 4)].foldl
      (fun m x => Store.insert m x.1 x.2) State.reset.fld
    cds := [(0, { bootUp := true, bootClk := true, mainUp := true, locked := true, seizing := true }),
      (1, { bootUp := true, bootClk := true, mainUp := true, locked := true })]
    pins := { vaon := true } }

/-- Without a confirmation CD0 takes over all the same, and its epoch is raised and cut to the 16 bits of EPOCH. -/
theorem seizeConfirmTimeout_cuts_epoch {t : State} (h : exec (.seizeConfirmTimeout 0) seizingWideEpoch = .next t) :
    t.epoch 0 = 1 := by
  have hrun : (match execSeizeConfirmTimeout 0 seizingWideEpoch with
    | .next u => u.epoch 0
    | _ => 0) = 1 := by decide +kernel
  rwa [show execSeizeConfirmTimeout 0 seizingWideEpoch = .next t from h] at hrun

/-- Refutes O46: a takeover after SEIZE_CONFIRM_TIMEOUT is to leave `s.epoch n + 1`, but EPOCH has 16 bits, and the state
may hold 2^16 there (`seizingWideEpoch`). -/
theorem not_pairHeartbeatsAndSeizure : ¬ Obligations.PairHeartbeatsAndSeizure := by
  unfold Obligations.PairHeartbeatsAndSeizure
  rintro ⟨-, -, -, -, -, -, -, htimeout, -⟩
  obtain ⟨t, ht, -, -, hawake⟩ := htimeout 0 seizingWideEpoch (by decide +kernel)
  obtain ⟨-, htakes⟩ := hawake (by decide +kernel)
  obtain ⟨-, -, hepoch, -⟩ := htakes (by decide +kernel) (by decide +kernel)
  have hwide : seizingWideEpoch.epoch 0 + 1 = 65537 := by decide +kernel
  exact absurd ((seizeConfirmTimeout_cuts_epoch ht).symm.trans (hepoch.trans hwide)) (by decide)

end Sys2Proof.Machine
end
